-- ==== Sys2Proof/Word.lean ====
section
/-! DEFINITION. The words of the machine: 32-bit registers, bytes, the place of a bit field. -/

namespace Sys2Proof

/-- A block register (R33, R34: registers are 32 bits wide, little-endian). -/
abbrev Word := BitVec 32

/-- The smallest addressable unit of a memory (R34). -/
abbrev Byte := BitVec 8

namespace Machine

/-- A bit field of a register: the register's address, its lowest bit, its width. -/
structure Field where
  addr : Nat
  lo : Nat
  width : Nat
  deriving DecidableEq, Repr

end Machine

end Sys2Proof
end

