-- ==== Sys2Proof/Machine/Bits.lean ====
section
/-! DEFINITION. Bit fields, signed readings, saturation and byte order. -/

namespace Sys2Proof.Machine

/-- Bits `lo + width - 1 .. lo` of a register, as a number. -/
def getBits (w : Word) (lo width : Nat) : Nat :=
  (w.toNat >>> lo) % 2 ^ width

/-- The register with bits `lo + width - 1 .. lo` replaced by the low bits of `v`. -/
def setBits (w : Word) (lo width v : Nat) : Word :=
  let m : Word := BitVec.ofNat 32 ((2 ^ width - 1) <<< lo)
  (w &&& ~~~ m) ||| (BitVec.ofNat 32 (v <<< lo) &&& m)

/-- Bit `i` of a number. -/
def bit (n i : Nat) : Bool := n.testBit i

/-- 1 for true, 0 for false. -/
def b2n (b : Bool) : Nat := if b then 1 else 0

/-- A number with bit `i` set or cleared. -/
def setBitN (n i : Nat) (b : Bool) : Nat :=
  if b then n ||| 2 ^ i else if n.testBit i then n - 2 ^ i else n

/-- The mask of the numbers below `n` for which `f` holds. -/
def maskOf (n : Nat) (f : Nat → Bool) : Nat :=
  (List.range n).foldl (fun a i => a + b2n (f i) * 2 ^ i) 0

/-- The low `w` bits of `n` read as a two's complement number. -/
def signed (w n : Nat) : Int :=
  let x := n % 2 ^ w
  if x < 2 ^ (w - 1) then (x : Int) else (x : Int) - 2 ^ w

/-- An integer as a 32-bit two's complement number. -/
def toU32 (i : Int) : Nat := (i % 4294967296).toNat

/-- Saturation to a signed 32-bit word. -/
def sat32 (i : Int) : Int :=
  if i > 2147483647 then 2147483647 else if i < -2147483648 then -2147483648 else i

/-- Saturation of a count at the top of a field of `w` bits. -/
def satN (w n : Nat) : Nat := min n (2 ^ w - 1)

/-- Saturation to a signed word of `w` bits. -/
def satS (w : Nat) (i : Int) : Int :=
  if i > 2 ^ (w - 1) - 1 then 2 ^ (w - 1) - 1 else if i < -(2 ^ (w - 1)) then -(2 ^ (w - 1)) else i

/-- Division rounded to nearest, ties toward plus infinity (R25). -/
def roundDiv (n d : Int) : Int := if d = 0 then 0 else (2 * n + d) / (2 * d)

/-- An exact quotient; the denominator is positive. -/
structure Frac where
  num : Int
  den : Int
  deriving DecidableEq, Repr

def Frac.ofInt (i : Int) : Frac := ⟨i, 1⟩
def Frac.add (a b : Frac) : Frac := ⟨a.num * b.den + b.num * a.den, a.den * b.den⟩
def Frac.sub (a b : Frac) : Frac := ⟨a.num * b.den - b.num * a.den, a.den * b.den⟩
def Frac.mul (a b : Frac) : Frac := ⟨a.num * b.num, a.den * b.den⟩

/-- The quotient; 0 for a divisor of 0. -/
def Frac.div (a b : Frac) : Frac :=
  if b.num = 0 then ⟨0, 1⟩ else if 0 < b.num then ⟨a.num * b.den, a.den * b.num⟩ else ⟨-(a.num * b.den), a.den * -b.num⟩

/-- Rounding toward minus infinity. -/
def Frac.floor (a : Frac) : Int := a.num / a.den

/-- Rounding to nearest, ties toward plus infinity. -/
def Frac.round (a : Frac) : Int := (2 * a.num + a.den) / (2 * a.den)

def Frac.le (a b : Frac) : Bool := decide (a.num * b.den ≤ b.num * a.den)

/-- The difference of two 32-bit counts, as a signed number. -/
def diff32 (a b : Nat) : Int := signed 32 (a + 4294967296 - b % 4294967296)

/-- The little-endian bytes of a number, lowest first. -/
def leBytes : Nat → Nat → List Byte
  | 0, _ => []
  | k + 1, n => BitVec.ofNat 8 n :: leBytes k (n / 256)

/-- The number that little-endian bytes spell. -/
def ofLE : List Byte → Nat
  | [] => 0
  | b :: bs => b.toNat + 256 * ofLE bs

end Sys2Proof.Machine
end

