-- ==== Sys2Proof/Machine/Seed.lean ====
section
/-! DEFINITION. The fixed hardware state that a snapshot of R363 carries, as plain data: what PRF, DOR, STQ and the brake
sequencer hold beside their registers. -/

namespace Sys2Proof.Machine

/-- What an axis does (R179): idle, a move that waits for the brake sequencer (R284), a move, a stop, geared. -/
inductive AxMode where
  | idle
  | wait
  | move
  | stop
  | geared
  deriving DecidableEq, Repr

/-- A command written for the next T0 (R180): opcode, target, SEQ, requester (16 for DOR). -/
structure PrfCmd where
  op : Nat
  tgt : Nat
  seq : Nat
  who : Nat
  deriving DecidableEq, Repr

/-- A blend of gear ratios (R195): direction of the crossing, master travel since GR_AT, slave position at GR_AT. -/
structure Blend where
  sgn : Int
  s : Int
  base : Frac
  deriving DecidableEq, Repr

/-- Gearing of an axis (R194): engaged at this T0, so that the master's position is taken for the first time; master
position at the last T0, exact slave position, its increments of the last two cycles, the blend. -/
structure Gear where
  fresh : Bool
  mast : Nat
  pos : Frac
  d1 : Frac
  d2 : Frac
  blend : Option Blend
  deriving DecidableEq, Repr

/-- An axis beside its registers (R176): the planned state exactly, in units of JMAX LSB and TMR cycles (position in
sixths, speed in halves), the jerk of the present cycle. -/
structure Axis where
  p : Int
  v : Int
  a : Int
  j : Int
  mode : AxMode
  /-- The planned stop: ATGT, or the landing of R190. -/
  tgt : Nat
  /-- The stop in progress came from ABORT (R181), or from UNGEAR (R194). -/
  abort : Bool
  leave : Bool
  /-- R185: an accepted target stands. -/
  has : Bool
  cmd : Option PrfCmd
  gear : Option Gear
  /-- R192: cycles of LANG above STALL_ANG. -/
  stallCnt : Nat
  /-- R196: held disabled. -/
  held : Bool
  deriving DecidableEq, Repr

/-- A step generator (R193): a step is pending; it counts down; held disabled; the level of its DIR ball. -/
structure StepGen where
  armed : Bool
  down : Bool
  held : Bool
  dir : Bool
  deriving DecidableEq, Repr

def StepGen.init : StepGen := ⟨false, false, false, false⟩

/-- The profile block beside its page. -/
structure PrfState where
  ax : List Axis
  stp : List StepGen
  /-- R208: what the set-point registers still read, until 3,000 ns after the T0 (address, word). -/
  spOld : List (Nat × Word)
  /-- R187: the mode whose cap PRF holds. -/
  mode : Nat
  /-- R190: POS_LOOP_STAT.STATE was ALTERNATE at the last T0. -/
  alt : Bool
  /-- R192: axes that STALL_ACT OFF has put into standstill mode OFF. -/
  coilsOff : Nat
  deriving DecidableEq, Repr

def Axis.init : Axis := ⟨0, 0, 0, 0, .idle, 0, false, false, false, none, none, 0, false⟩

def PrfState.init : PrfState :=
  { ax := List.replicate 4 Axis.init, stp := List.replicate 2 StepGen.init, spOld := [], mode := 0, alt := false,
    coilsOff := 0 }

/-- A door command for the next T0 (R293). -/
structure DoorCmd where
  op : Nat
  seq : Nat
  who : Nat
  deriving DecidableEq, Repr

/-- A door beside its registers (R296 to R304). -/
structure Door where
  cmd : Option DoorCmd
  /-- The Ward's grant at the last T0. -/
  granted : Bool
  /-- R293: the dwell is suspended. -/
  hold : Bool
  /-- R296: stalls since OPEN was accepted; a retry is due; lock retries. -/
  stalls : Nat
  retry : Bool
  lockTries : Nat
  /-- A MOVE that DOR issues at a later T0: target, and whether it waits for the axis to be idle (R304). -/
  later : Option (Nat × Bool)
  /-- R304: target landing, zone entered, ratio change armed. -/
  advL : Nat
  advIn : Bool
  advArmed : Bool
  /-- R300: consecutive current cycles above FCUT and with over at g = 0; CLAMP since the last T0; the reversal move of a
  cut has been issued. -/
  fcut : Nat
  gcut : Nat
  clampSeen : Bool
  cutMove : Bool
  /-- R302: consecutive cycles of FOBS above its threshold. -/
  fobs : Nat
  /-- R316: held by an invalid configuration. -/
  held : Bool
  /-- R294: FFBTN was active at the last T0. -/
  button : Bool
  deriving DecidableEq, Repr

def Door.init : Door :=
  { cmd := none, granted := false, hold := false, stalls := 0, retry := false, lockTries := 0, later := none, advL := 0,
    advIn := false, advArmed := false, fcut := 0, gcut := 0, clampSeen := false, cutMove := false, fobs := 0,
    held := false, button := false }

/-- Doors beside the page (R291 to R308). -/
structure DorState where
  door : List Door
  /-- R296: UNLOCK requests, bit = door. -/
  unlock : Nat
  /-- R295: the mode of the last T0. -/
  mode : Nat
  /-- R296: stalls of the PRF axes since the last T0. -/
  stallEv : Nat
  /-- R306: consecutive cycles of disagreement of the zone sensor. -/
  dzCnt : Nat
  deriving DecidableEq, Repr

def DorState.init : DorState := ⟨List.replicate 2 Door.init, 0, 0, 0, 0⟩

/-- The stop queue beside its page (R490 to R496): requests written since the last T0 (CAR, UP, DN), who wrote them as
masks of requesters, the mode and the
door states of the last T0, the margin in force. -/
structure StqState where
  set : List Nat
  clr : List Nat
  who : List Nat
  mode : Nat
  door : List Nat
  margin : Nat
  deriving DecidableEq, Repr

def StqState.init : StqState := ⟨[0, 0, 0], [0, 0, 0], [0, 0, 0], 0, [0, 0], 200⟩

/-- The brake sequencer beside PST_BRK_STAT (R283 to R285): coil duty (0 off, 1 PICK_D, 2 HOLD_D), the DRIVE and LIFT
requests, a start request kept, every contact shown applied in CLOSING, AX0 to be treated as stopped. -/
structure BrkSeed where
  bmod : Nat
  drive : Bool
  lift : Bool
  keepStart : Bool
  settled : Bool
  axStop : Bool
  deriving DecidableEq, Repr

end Sys2Proof.Machine
end

