-- ==== Sys2Proof/Syntax.lean ====
section
/-! DEFINITION. The commands of the block: one constructor per row of spec/opcode_table.json, those with operands first,
then those without, each in the table's order: the compiled runtime numbers constructors with operands up to 244. A
command that is a write or a read of a register carries who makes it and what is written; an event of the surroundings
carries what the surroundings determine (a level, a stamp, how a frame ended). -/

namespace Sys2Proof

/-- Who makes an access: an agent 0 to 7 (R36) or the keyway. -/
inductive Who where
  | agent (a : Fin 8)
  | keyway
  deriving DecidableEq, Repr

/-- The number of a requester: agents 0 to 7, the keyway 8 (R37, R45). -/
def Who.num : Who → Nat
  | .agent a => a.val
  | .keyway => 8

/-- A serial frame as it came in (R130): when Start arrived after the first clock edge, in 10 ns, if it did; the data
bits; the parity bit; nE and nW as received; the CRC field. -/
structure SerialRx where
  start : Option Nat
  data : BitVec 40
  parity : Bool
  nE : Bool
  nW : Bool
  crc : BitVec 16
  deriving DecidableEq, Repr

/-- What the boot ROM meets that the device's own state does not fix (R461, R478): OTP reads good; the MRAM answers;
the opcodes, the read latency, the size and the 8D-8D-8D mode of the flash's SFDP; the manifest addresses of the TCE
programs; the DONE burn of a resumed transition verifies. -/
structure BootFacts where
  otpOk : Bool
  mramOk : Bool
  opcodes : Word
  latency : BitVec 5
  mib : BitVec 10
  octal : Bool
  tceManifest : List Word
  doneOk : Bool
  deriving DecidableEq, Repr

/-- A valid frame on a CAN bus (R381, R382): identifier, flags, DLC, data bytes, PST_TB_CNT[31:0] at the sample point of
its SOF. -/
structure CanFrame where
  xtd : Bool
  id : BitVec 29
  rtr : Bool
  fdf : Bool
  brs : Bool
  esi : Bool
  dlc : Fin 16
  data : List (BitVec 8)
  stamp : BitVec 32
  deriving DecidableEq, Repr

/-- What an error does to the error counters under ISO 11898-1 (R389). -/
inductive CanCount where
  | receiver1
  | receiver8
  | transmitter8
  | none
  deriving DecidableEq, Repr

/-- An Ethernet frame at a port (R403): destination, source, FCS, EtherType and payload after any 802.1Q tag, the
802.1AS stamp at its start of frame delimiter. -/
structure EthFrame where
  dst : BitVec 48
  src : BitVec 48
  fcsOk : Bool
  etype : BitVec 16
  payload : List (BitVec 8)
  stamp : BitVec 64
  deriving DecidableEq, Repr

/-- A SkoveSafe frame as received (R411): header fields, payload, CRC; whether its tag verifies with the counter that
R415 infers. -/
structure SkoveFrame where
  subset : Bool
  cid : BitVec 16
  seq : BitVec 32
  tstamp : BitVec 32
  payload : List (BitVec 8)
  crc : BitVec 32
  tagOk : Bool
  deriving DecidableEq, Repr

/-- How far an LC order gets (R471, R472): a burn of INTENT that does not verify; the work that follows is cut short; a
burn of DONE that does not verify; the whole. -/
inductive LcBurn where
  | intentFails
  | cutShort
  | doneFails
  | complete
  deriving DecidableEq, Repr

/-- How the flash ends a command (R481). -/
inductive FlashEnd where
  | ready
  | timeout
  | error
  deriving DecidableEq, Repr

/-- The header of a pair-link frame or second-path heartbeat (R358), with the sender's whole 64-bit counter; whether its
tag verifies. -/
structure PairHead where
  tagOk : Bool
  unitB : Bool
  key : Bool
  release : Bool
  healthy : Bool
  t0idx : BitVec 32
  counter : BitVec 64
  mode : BitVec 4
  deriving DecidableEq, Repr

/-- A record of an input or output frame (R359): register words by RTYPE and INST, and the records that are not words of
registers (capture entries, car sample, SkoveSafe and CAN frames, commands of PRF, DOR and STQ; the requesters of STQ's
bits as a mask). -/
inductive PairRecord where
  | regs (rtype inst : BitVec 8) (words : List (BitVec 32))
  | captures (l : List (BitVec 8 × Bool × BitVec 32 × BitVec 32))
  | car (pos spd : BitVec 32) (stamp : BitVec 64) (valid : Bool)
  | skove (conn : Fin 64) (seq : BitVec 32) (payload : List (BitVec 8)) (stamp : BitVec 32)
  | can (ctrl : Fin 4) (filter : Fin 64) (frame : CanFrame)
  | prf (axis : Fin 4) (op seq who : BitVec 8) (tgt : BitVec 32)
  | door (door : Fin 2) (op seq who : BitVec 8)
  | calls (map : Fin 3) (set clr : BitVec 256) (who : BitVec 32)
  deriving DecidableEq, Repr

/-- The body of a pairing frame (R354 to R356): HELLO with strap, role, PAIRCOMPAT and frame formats; the AUTH nonce; the
AUTH proof, verified or not; AGREE with the partner's best offer, the modes at which both lanes locked in training, and its
key; a request for the snapshot. -/
inductive PairingBody where
  | hello (unitB : Bool) (role : Fin 4) (compat : BitVec 16) (formats : BitVec 8)
  | nonce (bytes : List (BitVec 8))
  | auth (proofOk : Bool)
  | agree (offer : Fin 4) (locks : BitVec 4) (key : Bool)
  | request
  deriving DecidableEq, Repr

/-- A pairing frame: TYPE 0x05 of R358. -/
structure PairingFrame where
  head : PairHead
  body : PairingBody
  deriving DecidableEq, Repr

/-- A snapshot (R363): bytes of the exchange-RAM regions by offset; the fixed hardware state of PRF, DOR, STQ and the
brake sequencer, whose layout the spec does not give, as what these hold and as registers of those pages. -/
structure PairSnapshot where
  ram : List (BitVec 18 × List (BitVec 8))
  prf : Machine.PrfState
  dor : Machine.DorState
  stq : Machine.StqState
  brk : Machine.BrkSeed
  regs : List (BitVec 32 × BitVec 32)
  deriving DecidableEq, Repr

/-- What an ECC check found on a read (R216). -/
inductive EccSeen where
  | clean
  | corrected
  | uncorrectable
  deriving DecidableEq, Repr

/-- The ECC checks of an instruction's fetch and of its accesses through AGU0 and AGU1. -/
structure CoreEcc where
  fetch : EccSeen
  m0 : EccSeen
  m1 : EccSeen
  deriving DecidableEq, Repr

/-- The commands. -/
inductive Instr where
  /-- SUPPLY_MONITOR_TRIP, R81: the monitor, numbered as CPR_SUPMON numbers them (R97). -/
  | supplyMonitorTrip (monitor : Fin 7)
  /-- NRESET_RELEASE, R73: how long nRESET was low, in ms. -/
  | nresetRelease (heldMs : Nat)
  /-- RESET_RELEASE, R79: the levels of the strap balls ROLE[1:0] and UNIT_AB; whether the read-back of the SIS TCM
  passed (R77, R78). -/
  | resetRelease (role : Fin 4) (unitB : Bool) (tcmOk : Bool)
  /-- WARM_RESET_REQUEST, R87: a write of CPR_RST_REQ. -/
  | warmResetRequest (who : Who) (w : Word)
  /-- WIPE_COMPLETE, R77, R78: the memories whose read-back failed, as CPR_WIPE_STAT numbers them. -/
  | wipeComplete (failed : BitVec 5)
  /-- BOOT_COMPLETE, R461: what the boot ROM found. -/
  | bootComplete (found : BootFacts)
  /-- CLOCK_MONITOR_TRIP, R60: the domain, numbered as CPR_CLK_EN numbers them (R91). -/
  | clockMonitorTrip (domain : Fin 9)
  /-- APP_DIVIDER_CHANGE, R61: a write of CPR_CLK_DIV. -/
  | appDividerChange (who : Who) (w : Word)
  /-- CLOCK_DOMAIN_ENABLE, R91: a write of CPR_CLK_EN. -/
  | clockDomainEnable (who : Who) (w : Word)
  /-- OPTIME_WRITE, R63: the completing write of CPR_OPTIME_HI. -/
  | optimeWrite (who : Who) (hi : Word)
  /-- AGENT_RESET_WRITE, R80: a write of CPR_AGT_RST. -/
  | agentResetWrite (who : Who) (w : Word)
  /-- PARK_REQUEST, R64: a write of CPR_PARK. -/
  | parkRequest (who : Who) (w : Word)
  /-- WAKE_RECOGNISED, R68: the sources recognised in one tick, numbered as R68 numbers them; the CAN controllers whose
  RX shows the wake pattern. -/
  | wakeRecognised (sources : BitVec 9) (rx : BitVec 2)
  /-- PARKED_WATCH_MOVE, R70: whether the door-zone input has shown its level in three samples. -/
  | parkedWatchMove (dz : Bool)
  /-- HINGE_GROUP_FIRE, R97: a write of CPR_HINGE_FIRE. -/
  | hingeGroupFire (who : Who) (w : Word)
  /-- PLIC_CLAIM, R98: a read of PLIC_CLAIM of a context. -/
  | plicClaim (who : Who) (ctx : Fin 8)
  /-- PLIC_COMPLETE, R98: a write of PLIC_CLAIM of a context. -/
  | plicComplete (who : Who) (ctx : Fin 8) (w : Word)
  /-- BLK_ENABLE, R55: BLK_CTL.EN = 1 in a page. -/
  | blkEnable (who : Who) (page : Fin 41)
  /-- BLK_DISABLE, R55: BLK_CTL.EN = 0. -/
  | blkDisable (who : Who) (page : Fin 41)
  /-- BLK_QUIESCE_REQUEST, R55: BLK_CTL.QREQ = 1. -/
  | blkQuiesceRequest (who : Who) (page : Fin 41)
  /-- BLK_QUIESCE_RELEASE, R55: BLK_CTL.QREQ = 0. -/
  | blkQuiesceRelease (who : Who) (page : Fin 41)
  /-- BLK_QUIET, R55: the quiesce of the page completes. -/
  | blkQuiet (page : Fin 41)
  /-- BLK_BOLT, R55: BLK_CTL.BOLT = 1. -/
  | blkBolt (who : Who) (page : Fin 41)
  /-- BLK_UNBOLT, R55: BLK_CTL.BOLT = 0. -/
  | blkUnbolt (who : Who) (page : Fin 41)
  /-- BLK_SOFT_RESET, R56: BLK_CTL.SRST = 1. -/
  | blkSoftReset (who : Who) (page : Fin 41)
  /-- HINGE_SWAP_REQUEST, R46: a write of BLK_HINGE. -/
  | hingeSwapRequest (who : Who) (page : Fin 41) (w : Word)
  /-- HINGE_CANCEL, R53: a write of BLK_HINGE with CANCEL = 1. -/
  | hingeCancel (who : Who) (page : Fin 41) (w : Word)
  /-- HINGE_SWAP, R51: the swap point of a pending IMMEDIATE or delayed request of the page comes. -/
  | hingeSwap (page : Fin 41)
  /-- HINGE_SYNC_DONE, R52: the SYNC copy of the page ends. -/
  | hingeSyncDone (page : Fin 41)
  /-- BLK_LOCK_WRITE, R48: a write of BLK_LOCK. -/
  | blkLockWrite (who : Who) (page : Fin 41) (w : Word)
  /-- BIST_START, R50: a write of BLK_TEST. -/
  | bistStart (who : Who) (page : Fin 41) (w : Word)
  /-- BIST_DONE, R501: the run of the page ends; whether it passed, or failed by an ECC check; its duration in µs. -/
  | bistDone (page : Fin 41) (pass ecc : Bool) (us : Nat)
  /-- BIST_TIMEOUT, R501. -/
  | bistTimeout (page : Fin 41)
  /-- PAIR_LO_READ, R37: a read of an _LO register. -/
  | pairLoRead (who : Who) (addr : BitVec 32)
  /-- PAIR_HI_WRITE, R37: a write of an _HI register. -/
  | pairHiWrite (who : Who) (addr : BitVec 32) (w : Word)
  /-- RC_READ, R35, R34: a read of 2^size bytes of a register or memory. -/
  | rcRead (who : Who) (addr : BitVec 64) (size : Fin 4)
  /-- REGISTER_WRITE, R35, R34: a write of 2^size bytes to a register or memory. -/
  | registerWrite (who : Who) (addr : BitVec 64) (size : Fin 4) (data : BitVec 64)
  /-- POSITION_CYCLE_T0, R23: whether the reads of the cell pair of R151 met an uncorrectable error (R159); the facts of
  R104 and R106 that no register holds: an authenticated test order, a car load below the empty threshold, an
  authenticated overspeed test. -/
  | positionCycleT0 (eccLo eccHi proofOrder carEmpty overspeed : Bool)
  /-- SINC3_RESULT, R274: the window sum S of each input, SDI0 first. -/
  | sinc3Result (sums : List Nat)
  /-- QUAD_COUNT, R121: the last five samples of A and of B of a channel, the newest in bit 0; the stamp of the newest
  (R120, R128). -/
  | quadCount (ch : Fin 6) (a b : BitVec 5) (stamp : BitVec 64)
  /-- ILLEGAL_WINDOW_END, R121: a 1 ms window of a channel ends. -/
  | illegalWindowEnd (ch : Fin 6)
  /-- INDEX_EVENT, R125: the filtered index takes a level; how many filtered samples after the last reversing count
  (R126), and whether the sample is an illegal transition (R127). -/
  | indexEvent (ch : Fin 6) (level : Bool) (samplesSince : Nat) (illegal : Bool)
  /-- COUNT_PRESET, R127: a write of POS_Qn_PRESET. -/
  | countPreset (who : Who) (ch : Fin 6) (w : Word)
  /-- SERIAL_FRAME_END, R133: the frame as it came in. -/
  | serialFrameEnd (ch : Fin 4) (rx : SerialRx)
  /-- SERIAL_NEGOTIATION_DONE, R132: the CLKSEL codes at which 8 consecutive frames pass the CRC; the measured line
  delay in 2.5 ns. -/
  | serialNegotiationDone (ch : Fin 4) (passes : BitVec 8) (ldly : Nat)
  /-- SERIAL_LOST_CLEAR, R133: a W1C write of POS_Sn_STAT. -/
  | serialLostClear (who : Who) (ch : Fin 4) (w : Word)
  /-- DIN_EDGE, R135: the level of a ball; its stamp; in how many consecutive samples it has been seen. -/
  | dinEdge (input : Fin 32) (level : Bool) (stamp : BitVec 32) (seen : Nat)
  /-- DCAP_POP, R136: a read of POS_DCAP_W0. -/
  | dcapPop (who : Who)
  /-- EMU_STEP, R137. -/
  | emuStep (out : Fin 2)
  /-- TUMBLER_ALIGN, R141: a write of POS_TUM_CTL. -/
  | tumblerAlign (who : Who) (w : Word)
  /-- SOURCE_FROZEN, R142: the source code of R147. -/
  | sourceFrozen (src : Fin 13)
  /-- LOOP_RETURN, R143: a write of POS_LOOP_STAT. -/
  | loopReturn (who : Who) (w : Word)
  /-- MAP_RELOAD_START, R157: a write of MAP_RELOAD. -/
  | mapReloadStart (who : Who) (w : Word)
  /-- MAP_PAGE_RELOAD, R159: a write of MAP_DIRn with RELOAD. -/
  | mapPageReload (who : Who) (page : Fin 1024) (w : Word)
  /-- MAP_REBUILD_START, R168: a write of MAP_REB_CTL with START. -/
  | mapRebuildStart (who : Who) (w : Word)
  /-- MAP_REBUILD_CANCEL, R168: a write of MAP_REB_CTL with CANCEL. -/
  | mapRebuildCancel (who : Who) (w : Word)
  /-- MAP_IMPORT, R170: a write of MAP_DIRn with IMPORT. -/
  | mapImport (who : Who) (page : Fin 1024) (w : Word)
  /-- PRF_MOVE, R181: a write of PRF_AXn_CMD with OP = 0x1. -/
  | prfMove (who : Who) (axis : Fin 4) (seq : BitVec 8)
  /-- PRF_STOP, R185: OP = 0x2. -/
  | prfStop (who : Who) (axis : Fin 4) (seq : BitVec 8)
  /-- PRF_RESUME, R186: OP = 0x3. -/
  | prfResume (who : Who) (axis : Fin 4) (seq : BitVec 8)
  /-- PRF_ABORT, R181: OP = 0x4. -/
  | prfAbort (who : Who) (axis : Fin 4) (seq : BitVec 8)
  /-- PRF_GEAR, R194: OP = 0x5. -/
  | prfGear (who : Who) (axis : Fin 4) (seq : BitVec 8)
  /-- PRF_UNGEAR, R194: OP = 0x6. -/
  | prfUngear (who : Who) (axis : Fin 4) (seq : BitVec 8)
  /-- PRF_PRESET, R181: OP = 0x7. -/
  | prfPreset (who : Who) (axis : Fin 4) (seq : BitVec 8)
  /-- PRF_GRARM, R195: OP = 0x8. -/
  | prfGrarm (who : Who) (axis : Fin 4) (seq : BitVec 8)
  /-- PRF_ILLOP, R182: any write of PRF_AXn_CMD, of which an unknown OP is refused. -/
  | prfIllop (who : Who) (axis : Fin 4) (w : Word)
  /-- AXIS_STANDSTILL, R191: an axis has been idle for STILL_T. -/
  | axisStandstill (axis : Fin 4)
  /-- AXIS_STALL, R192: LANG has stood above STALL_ANG for STALL_N cycles. -/
  | axisStall (axis : Fin 4)
  /-- STEP_ISSUE, R193: the interval timer of a generator expires; TMR cycles since the latest set-point's T0. -/
  | stepIssue (gen : Fin 2) (tau : Nat)
  /-- WARD_CAP_WRITE, R187: a write of PRF_WCAP. -/
  | wardCapWrite (who : Who) (w : Word)
  /-- TCE_GO, R202: a write of TCE_CTL with GO = 1. -/
  | tceGo (who : Who) (core : Fin 2) (w : Word)
  /-- TCE_HALT, R202: a write of TCE_CTL with GO = 0. -/
  | tceHalt (who : Who) (core : Fin 2) (w : Word)
  /-- TCE_SOLO, R212: a write of TCE_CTL that changes SOLO. -/
  | tceSolo (who : Who) (core : Fin 2) (w : Word)
  /-- TCE_SOFTWARE_TRIGGER, R203: a write of TCE_TRIG. -/
  | tceSoftwareTrigger (who : Who) (core : Fin 2) (w : Word)
  /-- TCE_AUTH_START, R215: a write of TCE_PCAUTH. -/
  | tceAuthStart (who : Who) (core : Fin 2) (w : Word)
  /-- TCE_AUTH_DONE, R215. -/
  | tceAuthDone (core : Fin 2)
  /-- TCE_PROGRAM_WRITE, R201: a write of 2^size bytes at an offset of a core's program memory through the fabric. -/
  | tceProgramWrite (who : Who) (core : Fin 2) (off : BitVec 16) (size : Fin 4) (data : BitVec 64)
  /-- TASK_TICK, R204: the tick of a task, by the page of its descriptor. -/
  | taskTick (page : Fin 2) (task : Fin 16)
  /-- TCE_INTERRUPT_ENTRY, R262. -/
  | tceInterruptEntry (core : Fin 2)
  /-- NOP, R244: a core issues the instruction that stands at its pc. -/
  | nop (core : Fin 2) (ecc : CoreEcc)
  /-- END, R247: the run time of the instance from tick to END, in TCE cycles. -/
  | endTask (core : Fin 2) (ecc : CoreEcc) (time : Nat)
  /-- BR, R245: a core issues the instruction that stands at its pc. -/
  | br (core : Fin 2) (ecc : CoreEcc)
  /-- JAL, R244: a core issues the instruction that stands at its pc. -/
  | jal (core : Fin 2) (ecc : CoreEcc)
  /-- JR, R245: a core issues the instruction that stands at its pc. -/
  | jr (core : Fin 2) (ecc : CoreEcc)
  /-- LOOP, R258: a core issues the instruction that stands at its pc. -/
  | loop (core : Fin 2) (ecc : CoreEcc)
  /-- LOOPR, R258: a core issues the instruction that stands at its pc. -/
  | loopr (core : Fin 2) (ecc : CoreEcc)
  /-- LEXIT, R259: a core issues the instruction that stands at its pc. -/
  | lexit (core : Fin 2) (ecc : CoreEcc)
  /-- RETI, R263: a core issues the instruction that stands at its pc. -/
  | reti (core : Fin 2) (ecc : CoreEcc)
  /-- SWI, R244: a core issues the instruction that stands at its pc. -/
  | swi (core : Fin 2) (ecc : CoreEcc)
  /-- ADD, R248: a core issues the instruction that stands at its pc. -/
  | addOp (core : Fin 2) (ecc : CoreEcc)
  /-- SUB, R248: a core issues the instruction that stands at its pc. -/
  | subOp (core : Fin 2) (ecc : CoreEcc)
  /-- ADDS, R248: a core issues the instruction that stands at its pc. -/
  | adds (core : Fin 2) (ecc : CoreEcc)
  /-- SUBS, R248: a core issues the instruction that stands at its pc. -/
  | subs (core : Fin 2) (ecc : CoreEcc)
  /-- AND, R248: a core issues the instruction that stands at its pc. -/
  | andOp (core : Fin 2) (ecc : CoreEcc)
  /-- OR, R248: a core issues the instruction that stands at its pc. -/
  | orOp (core : Fin 2) (ecc : CoreEcc)
  /-- XOR, R248: a core issues the instruction that stands at its pc. -/
  | xorOp (core : Fin 2) (ecc : CoreEcc)
  /-- ANDN, R248: a core issues the instruction that stands at its pc. -/
  | andn (core : Fin 2) (ecc : CoreEcc)
  /-- SHL, R248: a core issues the instruction that stands at its pc. -/
  | shl (core : Fin 2) (ecc : CoreEcc)
  /-- SHR, R248: a core issues the instruction that stands at its pc. -/
  | shr (core : Fin 2) (ecc : CoreEcc)
  /-- ASR, R248: a core issues the instruction that stands at its pc. -/
  | asr (core : Fin 2) (ecc : CoreEcc)
  /-- CMP, R248: a core issues the instruction that stands at its pc. -/
  | cmp (core : Fin 2) (ecc : CoreEcc)
  /-- NEG, R248: a core issues the instruction that stands at its pc. -/
  | negOp (core : Fin 2) (ecc : CoreEcc)
  /-- ABS, R248: a core issues the instruction that stands at its pc. -/
  | absOp (core : Fin 2) (ecc : CoreEcc)
  /-- MIN, R248: a core issues the instruction that stands at its pc. -/
  | minOp (core : Fin 2) (ecc : CoreEcc)
  /-- MAX, R248: a core issues the instruction that stands at its pc. -/
  | maxOp (core : Fin 2) (ecc : CoreEcc)
  /-- ALU_MOV, R248: a core issues the instruction that stands at its pc. -/
  | aluMov (core : Fin 2) (ecc : CoreEcc)
  /-- MOVI_DATA, R249: a core issues the instruction that stands at its pc. -/
  | moviData (core : Fin 2) (ecc : CoreEcc)
  /-- MOVI_ADDR, R249: a core issues the instruction that stands at its pc. -/
  | moviAddr (core : Fin 2) (ecc : CoreEcc)
  /-- MOV, R250: a core issues the instruction that stands at its pc. -/
  | movReg (core : Fin 2) (ecc : CoreEcc)
  /-- MAC, R251: a core issues the instruction that stands at its pc. -/
  | mac (core : Fin 2) (ecc : CoreEcc)
  /-- MACD, R251: a core issues the instruction that stands at its pc. -/
  | macd (core : Fin 2) (ecc : CoreEcc)
  /-- MACS, R251: a core issues the instruction that stands at its pc. -/
  | macs (core : Fin 2) (ecc : CoreEcc)
  /-- CMAC, R251: a core issues the instruction that stands at its pc. -/
  | cmac (core : Fin 2) (ecc : CoreEcc)
  /-- RND, R252: a core issues the instruction that stands at its pc. -/
  | rnd (core : Fin 2) (ecc : CoreEcc)
  /-- LD, R253: a core issues the instruction that stands at its pc. -/
  | ld (core : Fin 2) (ecc : CoreEcc)
  /-- ST, R253: a core issues the instruction that stands at its pc. -/
  | st (core : Fin 2) (ecc : CoreEcc)
  /-- ST_ACC, R253: a core issues the instruction that stands at its pc. -/
  | stAcc (core : Fin 2) (ecc : CoreEcc)
  /-- LD_ST_PAIR, R254: a core issues the instruction that stands at its pc. -/
  | ldStPair (core : Fin 2) (ecc : CoreEcc)
  /-- FTAP, R256: a core issues the instruction that stands at its pc. -/
  | ftap (core : Fin 2) (ecc : CoreEcc)
  /-- ILLEGAL_INSTRUCTION, R243: the word at the pc of a core is illegal where it stands, or cannot be corrected. -/
  | illegalInstruction (core : Fin 2) (ecc : CoreEcc)
  /-- SINC2_FAST_RESULT, R275: the fast result of an input. -/
  | sinc2FastResult (input : Fin 24) (fast : Word)
  /-- SD_INPUT_STUCK, R276: the input and its stuck level. -/
  | sdInputStuck (input : Fin 24) (level : Bool)
  /-- GATE_DRIVER_FAULT, R277: a filtered level of nGDFi, true for fault. -/
  | gateDriverFault (input : Fin 8) (fault : Bool)
  /-- TRIP_CLEAR, R277: a W1C write of PST_TRIP. -/
  | tripClear (who : Who) (w : Word)
  /-- GRID_LOSS_CLEAR, R280: a W1C write of PST_GRID_STAT. -/
  | gridLossClear (who : Who) (w : Word)
  /-- BRAKE_TEST_START, R286: a write of PST_BT_CTL with START. -/
  | brakeTestStart (who : Who) (w : Word)
  /-- BRAKE_TEST_ABORT, R287: a write of PST_BT_CTL with ABORT. -/
  | brakeTestAbort (who : Who)
  /-- DOOR_OPEN, R296: a write of DOR_Dn_CMD with OP = 0x1. -/
  | doorOpen (who : Who) (door : Fin 2) (seq : BitVec 8)
  /-- DOOR_CLOSE, R296: OP = 0x2. -/
  | doorClose (who : Who) (door : Fin 2) (seq : BitVec 8)
  /-- DOOR_HOLD, R293: OP = 0x3. -/
  | doorHold (who : Who) (door : Fin 2) (seq : BitVec 8)
  /-- DOOR_RELEASE, R293: OP = 0x4. -/
  | doorRelease (who : Who) (door : Fin 2) (seq : BitVec 8)
  /-- DOOR_NUDGE, R296: OP = 0x5. -/
  | doorNudge (who : Who) (door : Fin 2) (seq : BitVec 8)
  /-- DOOR_STOP, R296: OP = 0x6. -/
  | doorStop (who : Who) (door : Fin 2) (seq : BitVec 8)
  /-- DOOR_HANDOVER, R296: OP = 0x7. -/
  | doorHandover (who : Who) (door : Fin 2) (seq : BitVec 8)
  /-- DOOR_TAKEBACK, R296: OP = 0x8. -/
  | doorTakeback (who : Who) (door : Fin 2) (seq : BitVec 8)
  /-- DOOR_CLEAR, R296: OP = 0x9. -/
  | doorClear (who : Who) (door : Fin 2) (seq : BitVec 8)
  /-- DOOR_ILLOP, R293: any write of DOR_Dn_CMD, of which an unknown OP is refused. -/
  | doorIllop (who : Who) (door : Fin 2) (w : Word)
  /-- DOOR_UNLOCK_TIMEOUT, R296. -/
  | doorUnlockTimeout (door : Fin 2)
  /-- DOOR_DWELL_ELAPSED, R296. -/
  | doorDwellElapsed (door : Fin 2)
  /-- DOOR_NUDGE_TIME_ELAPSED, R296. -/
  | doorNudgeTimeElapsed (door : Fin 2)
  /-- DOOR_LOCK_TIMEOUT, R296. -/
  | doorLockTimeout (door : Fin 2)
  /-- DOOR_RETRY_ELAPSED, R296. -/
  | doorRetryElapsed (door : Fin 2)
  /-- CONTACT_LEVEL_CHANGE, R307: a monitor takes a level, true closed; the changes its filter has rejected since its last
  row. -/
  | contactLevelChange (monitor : Fin 8) (closed : Bool) (rejected : Nat)
  /-- CONTACT_BYPASS, R308: BYP_T has elapsed. -/
  | contactBypass (monitor : Fin 8)
  /-- VIS_FRAME_END, R311: a frame of the virtual channel and data type that the receiver takes (R309) ends: an uncorrectable
  header, a CRC error, and the lines of raw pixels. -/
  | visFrameEnd (rx : Fin 2) (ecc crc : Bool) (lines : List (List Nat))
  /-- VIS_STALE, R312: TMO has elapsed. -/
  | visStale (rx : Fin 2)
  /-- SLOT_CLEAR, R335: a write of SIS_SFk_STAT with CLR. -/
  | slotClear (who : Who) (slot : Fin 24)
  /-- SAFETY_INPUT_CHANGE, R324: an input shows a level, true closed, and the 1 MHz samples that have shown it in a row. -/
  | safetyInputChange (input : Fin 16) (closed : Bool) (seen : Nat)
  /-- SIN_DISCREPANCY, R324: the channels of a pair have differed for DISC_T. -/
  | sinDiscrepancy (pair : Fin 8)
  /-- TEST_PULSE, R324: output TPOk goes low. -/
  | testPulse (k : Fin 4)
  /-- TEST_PULSE_END, R324: the pulse and its settle time end; the inputs that read open during it. -/
  | testPulseEnd (k : Fin 4) (sawOpen : BitVec 16)
  /-- OUTPUT_READBACK_FAULT, R330: a readback has disagreed with its output for RB_T. -/
  | outputReadbackFault (output : Fin 10)
  /-- FAULT_ARRIVAL, R341: a cause bit of a page arises. -/
  | faultArrival (page : Fin 41) (cause : Fin 24)
  /-- FAULT_DONE, R341: a write of SIS_FM_DONE. -/
  | faultDone (who : Who) (w : Word)
  /-- FAULT_IN_FAULT_HANDLING, R342: lockstep mismatch, SAF clock or REFLOSS, or an uncorrectable TCM error. -/
  | faultInFaultHandling (kind : Fin 3)
  /-- WATCHDOG_KICK, R322: a write of SIS_WDG_KICK. -/
  | watchdogKick (who : Who) (w : Word)
  /-- MODE_SET, R350: a write of SIS_MODE_SET. -/
  | modeSet (who : Who) (w : Word)
  /-- DEADBOLT_PORT_WRITE, R441: a write of REC_DBW. -/
  | deadboltPortWrite (who : Who) (w : Word)
  /-- DEADBOLT_PORT_DONE, R441: whether words A and B verified. -/
  | deadboltPortDone (okA okB : Bool)
  /-- DEADBOLT_RELEASE, R347: a write of SIS_DB_REL; which of the four MRAM writes (nonces A and B, words A and B)
  verify. -/
  | deadboltRelease (who : Who) (w : Word) (nonceOk wordAOk wordBOk : Bool)
  /-- PAIRING_FRAME_RECEIVE, R354, R356. -/
  | pairingFrameReceive (frame : PairingFrame)
  /-- INPUT_SEGMENT_RECEIVE, R357: segment `seg` with its records, and PARK_READY of the active (R112). -/
  | inputSegmentReceive (head : PairHead) (seg : BitVec 8) (records : List PairRecord) (parkReady : Bool)
  /-- OUTPUT_FRAME_RECEIVE, R362. -/
  | outputFrameReceive (head : PairHead) (records : List PairRecord)
  /-- HEARTBEAT_RECEIVE, R367: on the second path or the pair link; the partner's RDN_HEALTH. -/
  | heartbeatReceive (second : Bool) (head : PairHead) (health : BitVec 10)
  /-- SNAPSHOT_RECEIVE, R363: the frames of a snapshot, complete or not. -/
  | snapshotReceive (head : PairHead) (whole : Bool) (seed : PairSnapshot)
  /-- KEY_HANDOFF, R370: a write of RDN_KEY. -/
  | keyHandoff (who : Who) (w : Word)
  /-- REPAIR, R354: a write of RDN_KEY. -/
  | repair (who : Who) (w : Word)
  /-- LANE_LOSS, R355. -/
  | laneLoss (lane : Fin 2)
  /-- SEL_FB_CHANGE, R372: the filtered levels of SEL_FB_A and SEL_FB_B. -/
  | selFbChange (a b : Bool)
  /-- CAN_CTL_WRITE, R377: a write of CANn_CTL. -/
  | canCtlWrite (who : Who) (ctrl : Fin 4) (w : Word)
  /-- CAN_FRAME_RECEIVE, R381: a valid frame ends. -/
  | canFrameReceive (ctrl : Fin 4) (frame : CanFrame)
  /-- CAN_OBJECT_LOCK, R383: a read of W0 of an object. -/
  | canObjectLock (who : Who) (ctrl : Fin 4) (obj : Fin 128)
  /-- CAN_OBJECT_UNLOCK, R383: a read of a word of an object, of which LASTW releases the lock. -/
  | canObjectUnlock (who : Who) (ctrl : Fin 4) (obj : Fin 128) (word : Fin 20)
  /-- CAN_LOCK_TIMEOUT, R383. -/
  | canLockTimeout (ctrl : Fin 4) (obj : Fin 128)
  /-- CAN_QUEUE_POP, R385: a read of CANn_RQk_W0. -/
  | canQueuePop (who : Who) (ctrl : Fin 4) (queue : Fin 2)
  /-- CAN_TX_REQUEST, R386: a write of CANn_TXRQx. -/
  | canTxRequest (who : Who) (ctrl : Fin 4) (index : Fin 4) (w : Word)
  /-- CAN_TX_CANCEL, R386: a write of CANn_TXCANx; the object whose frame is on the bus at that moment. -/
  | canTxCancel (who : Who) (ctrl : Fin 4) (index : Fin 4) (w : Word) (onBus : Option (Fin 128))
  /-- CAN_TX_COMPLETE, R386: the object sent; the stamp of the frame's SOF; for an FD frame the delay measured. -/
  | canTxComplete (ctrl : Fin 4) (obj : Fin 128) (stamp : BitVec 32) (tdcv : BitVec 7)
  /-- CAN_BUS_ERROR, R389: the error (1 stuff, 2 form, 3 ack, 4 bit 1, 5 bit 0, 6 CRC), its phase, the object in
  transmission, whether its arbitration was won, and what the counters do. -/
  | canBusError (ctrl : Fin 4) (kind : Fin 7) (dataPhase : Bool) (tx : Option (Fin 128)) (won : Bool) (count : CanCount)
  /-- CAN_BUSOFF_RECOVERY, R389. -/
  | canBusoffRecovery (ctrl : Fin 4)
  /-- CAN_NEG_START, R378: a write of CANn_NEG_STAT. -/
  | canNegStart (who : Who) (ctrl : Fin 4) (w : Word)
  /-- CAN_NEG_TIMEOUT, R379. -/
  | canNegTimeout (ctrl : Fin 4)
  /-- CAN_CAPABILITY_ANSWER, R378. -/
  | canCapabilityAnswer (ctrl : Fin 4)
  /-- CAN_REFERENCE_REQUEST, R392. -/
  | canReferenceRequest (ctrl : Fin 4)
  /-- CAN_TT_FIRE, R393: CYCTIME reaches TTIME of an object. -/
  | canTtFire (ctrl : Fin 4) (obj : Fin 128)
  /-- CAN_REF_LOST, R393. -/
  | canRefLost (ctrl : Fin 4)
  /-- CAN_VIRTUAL_REFERENCE, R393. -/
  | canVirtualReference (ctrl : Fin 4)
  /-- CAN_WAKE_PATTERN_REQUEST, R394: a write of CANn_WUP. -/
  | canWakePatternRequest (who : Who) (ctrl : Fin 4) (w : Word)
  /-- CAN_WAKE_PATTERN_SENT, R394. -/
  | canWakePatternSent (ctrl : Fin 4)
  /-- ETH_FRAME_RECEIVE, R403. -/
  | ethFrameReceive (port : Fin 2) (frame : EthFrame)
  /-- ETH_FRAME_TRANSMIT, R404: TMR cycles since the position-cycle T0. -/
  | ethFrameTransmit (port : Fin 2) (t : Nat)
  /-- ETH_RING_INDEX_WRITE, R403: a write of ETHn_RXIDX or ETHn_TXIDX. -/
  | ethRingIndexWrite (who : Who) (port : Fin 2) (tx : Bool) (w : Word)
  /-- ETH_LINK_CHANGE, R400: the PCS gains or loses block lock or code-group synchronisation. -/
  | ethLinkChange (port : Fin 2) (locked : Bool)
  /-- PHY_POLL, R401: the value of the PHY status register, or no answer. -/
  | phyPoll (port : Fin 2) (value : Option (BitVec 16))
  /-- PHY_INTERRUPT, R401: a falling edge of nPHY_INTn; the value read, or no answer. -/
  | phyInterrupt (port : Fin 2) (value : Option (BitVec 16))
  /-- ETH_RETRAIN_DONE, R401. -/
  | ethRetrainDone (port : Fin 2)
  /-- MDIO_COMMAND, R419: a write of ETHn_MDIO_CMD. -/
  | mdioCommand (who : Who) (port : Fin 2) (w : Word)
  /-- MDIO_DONE, R419: the data read, or no answer. -/
  | mdioDone (port : Fin 2) (data : Option (BitVec 16))
  /-- PTP_SYNC_SEND, R405. -/
  | ptpSyncSend (port : Fin 2)
  /-- PTP_SYNC_RECEIVE, R407: the offset of this clock from the grandmaster that the Sync shows, in ns. -/
  | ptpSyncReceive (port : Fin 2) (offset : BitVec 32)
  /-- PTP_PDELAY, R405: the link delay measured, in ns. -/
  | ptpPdelay (port : Fin 2) (delay : BitVec 32)
  /-- SKOVESAFE_PRODUCE, R412. -/
  | skovesafeProduce (conn : Fin 64)
  /-- SKOVESAFE_FRAME_RECEIVE, R414: the path (ETH0, ETH1, CAN), the frame, PTP_NS[31:0] at its acceptance. -/
  | skovesafeFrameReceive (path : Fin 3) (frame : SkoveFrame) (now : BitVec 32)
  /-- SKOVESAFE_WATCHDOG_EXPIRY, R416. -/
  | skovesafeWatchdogExpiry (conn : Fin 64)
  /-- SKOVESAFE_PATH_TIMEOUT, R416. -/
  | skovesafePathTimeout (conn : Fin 64) (path : Fin 3)
  /-- SSE_BUFFER_SWITCH, R412: a write of SSE_Ck_CTL. -/
  | sseBufferSwitch (who : Who) (conn : Fin 64) (w : Word)
  /-- MLB_CONFIG_WRITE, R424: a write of MLBn_CFG. -/
  | mlbConfigWrite (who : Who) (n : Fin 16) (w : Word)
  /-- MLB_POST, R426: a write of MLBn_CTL with POST alone. -/
  | mlbPost (who : Who) (n : Fin 16)
  /-- MLB_WITHDRAW, R426: a write of MLBn_CTL with WITHDRAW alone. -/
  | mlbWithdraw (who : Who) (n : Fin 16)
  /-- MLB_TAKE, R426: a write of MLBn_CTL with TAKE alone. -/
  | mlbTake (who : Who) (n : Fin 16)
  /-- MLB_ACK, R426: a write of MLBn_ACK. -/
  | mlbAck (who : Who) (n : Fin 16) (w : Word)
  /-- MLB_PAYLOAD_WRITE, R425: a write of MLBn_Dk. -/
  | mlbPayloadWrite (who : Who) (n : Fin 16) (k : Fin 8) (w : Word)
  /-- MLB_PAYLOAD_READ, R425: a read of MLBn_Dk. -/
  | mlbPayloadRead (who : Who) (n : Fin 16) (k : Fin 8)
  /-- DOORBELL_RING, R427: a write of MLB_DBa_SET. -/
  | doorbellRing (who : Who) (a : Fin 8) (w : Word)
  /-- DOORBELL_CLEAR, R427: a write of MLB_DBa. -/
  | doorbellClear (who : Who) (a : Fin 8) (w : Word)
  /-- DOORBELL_MASK_WRITE, R428: a write of MLB_DBa_MASK. -/
  | doorbellMaskWrite (who : Who) (a : Fin 8) (w : Word)
  /-- LATCH_ACQUIRE, R432: a read of LAT_Lj. -/
  | latchAcquire (who : Who) (j : Fin 64)
  /-- LATCH_RELEASE, R433: a write of LAT_Lj. -/
  | latchRelease (who : Who) (j : Fin 64) (w : Word)
  /-- LATCH_FORCE_FREE, R433: a write of LAT_FREE0 or LAT_FREE1. -/
  | latchForceFree (who : Who) (k : Fin 2) (w : Word)
  /-- RECORD_SUBMIT, R449: a write of REC_SUB_CTL. -/
  | recordSubmit (who : Who) (w : Word)
  /-- RECORD_WRITE_DONE, R450: the record at the head of the queue has been written; whether the slot and, when it did
  not, the spares tried in turn verified; whether the MRAM answered. -/
  | recordWriteDone (answered slotOk : Bool) (sparesOk : List Bool)
  /-- WALL_CLOCK_SET, R447: a write of REC_WALL_HI. -/
  | wallClockSet (who : Who) (hi : Word)
  /-- RECORD_READ_TRANSLATE, R455: a write of REC_RD_IDX. -/
  | recordReadTranslate (who : Who) (w : Word)
  /-- ORDER_LC, R471: the verdict on the LC order in work, and how far it gets. -/
  | orderLc (burn : LcBurn)
  /-- ORDER_SVN, R465: the verdict on the SVN order in work; whether the burn verifies. -/
  | orderSvn (burnOk : Bool)
  /-- ORDER_REVOKE, R465: the verdict on the REVOKE order in work; whether the burn verifies. -/
  | orderRevoke (burnOk : Bool)
  /-- KEYWAY_RESPONSE, R474: the 204 bytes shifted in. -/
  | keywayResponse (bytes : List (BitVec 8))
  /-- KEYWAY_CLOSE, R474: a write of SEC_KW_STAT. -/
  | keywayClose (who : Who) (w : Word)
  /-- KEYWAY_WRITE, R475: a word written through the keyway. -/
  | keywayWrite (addr : Word) (w : Word)
  /-- XSP_RDSR, R481: the engine works RDSR; the flash's status register. -/
  | xspRdsr (sr : BitVec 8)
  /-- XSP_COMMAND_DONE, R481: how the flash ends the command. -/
  | xspCommandDone (how : FlashEnd)
  /-- XSP_BANK_SWITCH, R482: a write of XSP_BANK. -/
  | xspBankSwitch (who : Who) (w : Word)
  /-- HSP_READ, R485: address, the whole words the host clocks out, whether word 0 has returned by the end of DUMMY,
  whether the READ comes within 100 µs of the one that kept a word, whether nHSP_CS rose inside a further word. -/
  | hspRead (addr : Word) (n : Fin 65) (inTime soon cut : Bool)
  /-- HSP_WRITE, R485: address, the whole words shifted in, whether nHSP_CS rose inside a word. -/
  | hspWrite (addr : Word) (data : List (BitVec 32)) (cut : Bool)
  /-- HSP_UNKNOWN_INSTRUCTION, R485. -/
  | hspUnknownInstruction (code : BitVec 8)
  /-- STQ_SET_REQUEST, R490: a write of word `k` of a _SET register; map 0 CAR, 1 UP, 2 DN. -/
  | stqSetRequest (who : Who) (map : Fin 3) (k : Fin 8) (w : Word)
  /-- STQ_CLEAR_REQUEST, R490: a write of word `k` of a _CLR register. -/
  | stqClearRequest (who : Who) (map : Fin 3) (k : Fin 8) (w : Word)
  /-- TST_COMMAND, R505: a write of TST_CMD. -/
  | tstCommand (who : Who) (w : Word)
  /-- TAP_BYPASS, R508: an instruction other than those of R508 acts as BYPASS. -/
  | tapBypass (ir : BitVec 8)
  /-- TAP_SAMPLE_PRELOAD, R508: the cells shifted in. -/
  | tapSamplePreload (cells : List Bool)
  /-- CARRIER_VALLEY, R271. -/
  | carrierValley (set : Fin 6)
  /-- CAN_ARBITRATION_LOST, R387. -/
  | canArbitrationLost (ctrl : Fin 4) (obj : Fin 128)
  /-- CSI_LANE_SYNC_LOSS, R317. -/
  | csiLaneSyncLoss (rx : Fin 2)
  /-- CHOPPER_MINON_ELAPSED, R279. -/
  | chopperMinonElapsed (set : Fin 6) (leg : Fin 3)
  /-- SIS_IC_CLAIM, R348: a read of SIS_IC_CLAIM, or a write of it. -/
  | sisIcClaim (who : Who) (complete : Option Word)
  /-- SUPPLY_GOOD, R82. -/
  | supplyGood
  /-- POWER_ON_RESET, R71. -/
  | powerOnReset
  /-- NRESET_ASSERT, R72. -/
  | nresetAssert
  /-- KEYWAY_RESET, R71. -/
  | keywayReset
  /-- REFLOSS, R60. -/
  | refloss
  /-- XTALFAIL, R60. -/
  | xtalfail
  /-- OPTIME_STEP, R63. -/
  | optimeStep
  /-- PARK_ENTRY_COMPLETE, R64. -/
  | parkEntryComplete
  /-- PARK_ENTRY_TIMEOUT, R64. -/
  | parkEntryTimeout
  /-- PARKED_WATCH_TIMER, R68. -/
  | parkedWatchTimer
  /-- WAKE_COMPLETE, R69. -/
  | wakeComplete
  /-- CURRENT_CYCLE_T0, R22. -/
  | currentCycleT0
  /-- MAP_PAGE_LOADED, R157: the data of the page in flight has been read; whether it authenticates follows from it. -/
  | mapPageLoaded
  /-- MAP_LEARN_ENTRY, R166: the oldest queued capture entry comes up. -/
  | mapLearnEntry
  /-- MAP_REBUILD_PAGE_DONE, R167: the page in work is complete. -/
  | mapRebuildPageDone
  /-- MAP_WRITEBACK_DONE, R168: the oldest landed slot has been copied home. -/
  | mapWritebackDone
  /-- BRK_TMAG_ELAPSED, R284. -/
  | brkTmagElapsed
  /-- BRK_TPRE_ELAPSED, R284. -/
  | brkTpreElapsed
  /-- BRK_TLIFT_ELAPSED, R284. -/
  | brkTliftElapsed
  /-- BRK_TSTART_ELAPSED, R284. -/
  | brkTstartElapsed
  /-- BRK_TPICK_ELAPSED, R284. -/
  | brkTpickElapsed
  /-- BRK_TSET_ELAPSED, R284. -/
  | brkTsetElapsed
  /-- BRK_TDROP_ELAPSED, R284. -/
  | brkTdropElapsed
  /-- BRK_TRAMP_ELAPSED, R284. -/
  | brkTrampElapsed
  /-- BRAKE_TEST_RAMP_END, R286. -/
  | brakeTestRampEnd
  /-- BRAKE_TEST_HOLD_END, R286. -/
  | brakeTestHoldEnd
  /-- RELEVEL_REQUEST, R305: RLV_T has elapsed. -/
  | relevelRequest
  /-- BRAKE_LAG_ELAPSED, R329. -/
  | brakeLagElapsed
  /-- WATCHDOG_EXPIRY, R322. -/
  | watchdogExpiry
  /-- STANDSTILL_REACHED, R102. -/
  | standstillReached
  /-- PARK_IDLE_ELAPSED, R111. -/
  | parkIdleElapsed
  /-- TOKOK_EXPIRY, R347. -/
  | tokokExpiry
  /-- SERVICE_ACK_HELD, R347. -/
  | serviceAckHeld
  /-- LANE_LOCK, R354. -/
  | laneLock
  /-- PAIR_WAIT_ELAPSED, R354: PAIR_WAIT of unit A, twice that of unit B, has elapsed since LINK was entered. -/
  | pairWaitElapsed
  /-- SYNC_COMPLETE, R354. -/
  | syncComplete
  /-- LEASE_EXPIRY, R366. -/
  | leaseExpiry
  /-- KEY_CLAIM, R368. -/
  | keyClaim
  /-- SELECTOR_NONE_SHOWN, R372: SEL_T has passed. -/
  | selectorNoneShown
  /-- SELFLT_CLEAR, R372. -/
  | selfltClear
  /-- PTP_SYNC_LOST, R407. -/
  | ptpSyncLost
  /-- HEADER_REFRESH, R440. -/
  | headerRefresh
  /-- ORDER_PROVISION, R465: the verdict on the PROVISION order in work. -/
  | orderProvision
  /-- ORDER_KEYLOAD, R465: the verdict on the KEYLOAD order in work. -/
  | orderKeyload
  /-- ORDER_PAIR, R467: the verdict on the PAIR order in work. -/
  | orderPair
  /-- TOKEN_SUBMIT, R465: the verdict on the release token in work. -/
  | tokenSubmit
  /-- MAP_SEAL, R466: SEC works the SEAL command. -/
  | mapSeal
  /-- MAP_OPEN, R466: SEC works the OPEN command. -/
  | mapOpen
  /-- MAP_COMMAND_DONE, R466. -/
  | mapCommandDone
  /-- KEY_EXCHANGE_REQUEST, R468: SEC works OP 1. -/
  | keyExchangeRequest
  /-- KEY_EXCHANGE_ANSWER, R468: SEC works OP 2. -/
  | keyExchangeAnswer
  /-- KEY_EXCHANGE_ACCEPT, R468: SEC works OP 3. -/
  | keyExchangeAccept
  /-- KEYWAY_CHALLENGE, R474. -/
  | keywayChallenge
  /-- KEYWAY_SESSION_EXPIRY, R474. -/
  | keywaySessionExpiry
  /-- XSP_READ, R481: the engine works READ. -/
  | xspRead
  /-- XSP_PROGRAM, R481: the engine works PROGRAM. -/
  | xspProgram
  /-- XSP_ERASE4K, R481: the engine works ERASE4K. -/
  | xspErase4k
  /-- XSP_ERASE64K, R481: the engine works ERASE64K. -/
  | xspErase64k
  /-- XSP_WINDOW_TIMEOUT, R480. -/
  | xspWindowTimeout
  /-- HSP_STATUS, R486. -/
  | hspStatus
  /-- ROLLING_STEP_START, R506: PERIOD has elapsed. -/
  | rollingStepStart
  /-- TAP_IDCODE, R508. -/
  | tapIdcode
  /-- TAP_EXTEST, R509. -/
  | tapExtest
  /-- TAP_CLAMP, R509. -/
  | tapClamp
  /-- TAP_HIGHZ, R509. -/
  | tapHighz
  /-- TAP_RESET, R508. -/
  | tapReset
  deriving DecidableEq, Repr

end Sys2Proof
end

