-- ==== Sys2Proof/Decode.lean ====
section
/-! DEFINITION. The commands that a word spells by the table's bits. No row of spec/opcode_table.json gives bits: a
command is a write or a read of a register, or an event, with operands of its own. -/

namespace Sys2Proof

/-- The command that a word spells: none, for every word (log entry 6). -/
def decodeTableWord (nbits w : Nat) : Option Instr :=
  match nbits, w with
  | _, _ => none

end Sys2Proof
end

