-- ==== Sys2Proof/Config.lean ====
section
/-! DEFINITION. The values the spec leaves open, as constants without a body: a statement about one holds whatever it
is. `freeWord` is applied to the counter `Hw.fresh`, so that each use takes a value of its own. -/

namespace Sys2Proof.Config

/-- A value the spec does not state, one for each count (log entry 4). -/
opaque freeWord : Nat → Word

/-- The contents of the boot ROM (R28): the spec gives none. -/
opaque romByte : Nat → Byte

/-! The cryptographic algorithms the spec names and does not define (log entry 5). -/

/-- AES-256-GCM decryption (R162, R466): key, nonce, additional data, ciphertext, tag; none where the tag fails. -/
opaque gcmOpen : List Byte → List Byte → List Byte → List Byte → List Byte → Option (List Byte)

/-- AES-256-GCM encryption: key, nonce, additional data, plaintext; ciphertext and tag. -/
opaque gcmSeal : List Byte → List Byte → List Byte → List Byte → List Byte × List Byte

/-- SHA-384 (R459, R463 to R465, R473). -/
opaque sha384 : List Byte → List Byte

/-- ECDSA P-384 (R463 to R465): public key, digest, signature. -/
opaque ecdsaOk : List Byte → List Byte → List Byte → Bool

/-- The DAK of R460, derived from DUK: public half, signature of a digest, ECDH secret with a public key. -/
opaque dakPub : List Byte → List Byte
opaque dakSign : List Byte → List Byte → List Byte
opaque dakEcdh : List Byte → List Byte → List Byte

/-- HKDF with HMAC-SHA-384 (R460): secret, salt, info, length. -/
opaque hkdf : List Byte → List Byte → List Byte → Nat → List Byte

/-- HMAC-SHA-384 (R467, R468): key, message. -/
opaque hmac : List Byte → List Byte → List Byte

/-- Hashes of Pyandio's root and return keys in the boot ROM (R459). -/
opaque rootKeyHash : List Byte
opaque returnKeyHash : List Byte

end Sys2Proof.Config
end

