-- ==== Sys2Proof/Machine/RegTable.lean ====
section
/-! DEFINITION. The register pages as data (the page tables and field tables of the chapters): one row per
register, with its offset, its repeats, the access masks its fields give (R35), its reset value and whether it has a
shadow copy that the hinge swap exchanges or the period load loads (R19, R35, R51). A bit in none of the masks is
read-only or reserved; nothing but a meaning writes it. -/

namespace Sys2Proof.Machine

/-- What stands behind the shadow offset of a register (R33, R35). -/
inductive RegKind where
  | plain
  | shadowed
  | output
  deriving DecidableEq, Repr

/-- One row of a page table: `n` copies at stride `st`, each of `m` words at stride `ms`, from offset `off`. -/
structure RegRow where
  name : String
  off : Nat
  n : Nat
  st : Nat
  m : Nat
  ms : Nat
  rw : Nat
  w1c : Nat
  w1s : Nat
  wo : Nat
  rc : Nat
  reset : Nat
  kind : RegKind
  deriving DecidableEq, Repr

/-- Rows of the CPR page (03_clocks_power_reset.md). -/
def rowsCPR_0 : List RegRow := [
  ⟨"CPR_STRAP", 0x40, 1, 0, 1, 0, 0, 0, 0, 0, 0, 0x1, .plain⟩,
  ⟨"CPR_RST_CAUSE", 0x44, 1, 0, 1, 0, 0, 0xfd, 0, 0, 0, 0x1, .plain⟩,
  ⟨"CPR_RST_REQ", 0x48, 1, 0, 1, 0, 0, 0, 0, 0xffff0001, 0, 0, .plain⟩,
  ⟨"CPR_AGT_RST", 0x4c, 1, 0, 1, 0, 0xfe, 0, 0, 0, 0, 0xfe, .plain⟩,
  ⟨"CPR_RST_HOLD", 0x50, 1, 0, 1, 0, 0, 0, 0, 0, 0, 0, .plain⟩,
  ⟨"CPR_WIPE_STAT", 0x54, 1, 0, 1, 0, 0, 0, 0, 0, 0, 0x80000000, .plain⟩,
  ⟨"CPR_CLK_EN", 0x58, 1, 0, 1, 0, 0x1cc, 0, 0, 0, 0, 0x1ff, .plain⟩,
  ⟨"CPR_CLK_STAT", 0x5c, 1, 0, 1, 0, 0, 0, 0, 0, 0, 0, .plain⟩,
  ⟨"CPR_CLK_DIV", 0x60, 1, 0, 1, 0, 0x3, 0, 0, 0, 0, 0, .plain⟩,
  ⟨"CPR_CLKMON", 0x64, 1, 0, 1, 0, 0, 0x301ff, 0, 0, 0, 0, .plain⟩,
  ⟨"CPR_PARK", 0x68, 1, 0, 1, 0, 0, 0x300, 0x1, 0, 0, 0, .plain⟩,
  ⟨"CPR_WAKE_EN", 0x6c, 1, 0, 1, 0, 0x3ff, 0, 0, 0, 0, 0x1ff, .plain⟩,
  ⟨"CPR_WAKE_SRC", 0x70, 1, 0, 1, 0, 0, 0x1ff, 0, 0, 0, 0, .plain⟩,
  ⟨"CPR_WAKE_DIN", 0x74, 1, 0, 1, 0, 0xffffffff, 0, 0, 0, 0, 0, .plain⟩,
  ⟨"CPR_PW_CFG", 0x78, 1, 0, 1, 0, 0xffffffff, 0, 0, 0, 0, 0x400001, .plain⟩,
  ⟨"CPR_PW_STAT", 0x7c, 1, 0, 1, 0, 0, 0, 0, 0, 0, 0, .plain⟩,
  ⟨"CPR_OPTIME_LO", 0x80, 1, 0, 1, 0, 0, 0, 0, 0, 0, 0, .plain⟩,
  ⟨"CPR_OPTIME_HI", 0x84, 1, 0, 1, 0, 0, 0, 0, 0, 0, 0, .plain⟩,
  ⟨"CPR_HINGE_FIRE", 0x88, 1, 0, 1, 0, 0, 0, 0, 0xf, 0, 0, .plain⟩,
  ⟨"CPR_SUPMON", 0x8c, 1, 0, 1, 0, 0, 0x7f, 0, 0, 0, 0, .plain⟩,
  ⟨"CPR_RETAIN", 0x90, 8, 0x4, 1, 0, 0xffffffff, 0, 0, 0, 0, 0, .plain⟩,
  ⟨"PLIC_PRIO", 0x4000, 128, 0x4, 1, 0, 0x7, 0, 0, 0, 0, 0, .plain⟩,
  ⟨"PLIC_PEND", 0x4200, 4, 0x4, 1, 0, 0, 0, 0, 0, 0, 0, .plain⟩,
  ⟨"PLIC_EN", 0x4400, 8, 0x10, 4, 0x4, 0xffffffff, 0, 0, 0, 0, 0, .plain⟩]

/-- Rows of the CPR page (03_clocks_power_reset.md). -/
def rowsCPR_1 : List RegRow := [
  ⟨"PLIC_THR", 0x5000, 8, 0x8, 1, 0, 0x7, 0, 0, 0, 0, 0, .plain⟩,
  ⟨"PLIC_CLAIM", 0x5004, 8, 0x8, 1, 0, 0xffffffff, 0, 0, 0, 0, 0, .plain⟩]

/-- All rows of the CPR page. -/
def rowsCPR : List RegRow := rowsCPR_0 ++ rowsCPR_1

/-- Rows of the SEC page (19_security_lifecycle.md). -/
def rowsSEC : List RegRow := [
  ⟨"SEC_LCS", 0x40, 1, 0, 1, 0, 0, 0, 0, 0, 0, 0, .plain⟩,
  ⟨"SEC_OTP_OPT", 0x44, 1, 0, 1, 0, 0, 0, 0, 0, 0, 0, .plain⟩,
  ⟨"SEC_DEVUID", 0x48, 4, 0x4, 1, 0, 0, 0, 0, 0, 0, 0, .plain⟩,
  ⟨"SEC_BOOT", 0x58, 1, 0, 1, 0, 0, 0, 0, 0, 0, 0, .plain⟩,
  ⟨"SEC_SVN", 0x5c, 1, 0, 1, 0, 0, 0, 0, 0, 0, 0, .plain⟩,
  ⟨"SEC_KS", 0x60, 1, 0, 1, 0, 0, 0, 0, 0, 0, 0, .plain⟩,
  ⟨"SEC_ORD_ADDR", 0x64, 1, 0, 1, 0, 0xffffffff, 0, 0, 0, 0, 0, .plain⟩,
  ⟨"SEC_ORD_CTL", 0x68, 1, 0, 1, 0, 0x2, 0, 0x1, 0, 0, 0, .plain⟩,
  ⟨"SEC_ORD_NONCE", 0x6c, 1, 0, 1, 0, 0, 0, 0, 0, 0, 0, .plain⟩,
  ⟨"SEC_ORD_RES", 0x70, 1, 0, 1, 0, 0, 0, 0, 0, 0, 0, .plain⟩,
  ⟨"SEC_MAP_CMD", 0x74, 1, 0, 1, 0, 0x37f03ff, 0, 0x40000000, 0, 0, 0, .plain⟩,
  ⟨"SEC_MAP_TRL", 0x78, 1, 0, 1, 0, 0xffffffff, 0, 0, 0, 0, 0, .plain⟩,
  ⟨"SEC_MAP_DST", 0x7c, 1, 0, 1, 0, 0xffffffff, 0, 0, 0, 0, 0, .plain⟩,
  ⟨"SEC_MAP_RES", 0x80, 1, 0, 1, 0, 0, 0, 0, 0, 0, 0, .plain⟩,
  ⟨"SEC_POOL_AUTH", 0x84, 4, 0x4, 1, 0, 0, 0, 0, 0, 0, 0, .plain⟩,
  ⟨"SEC_SKX_CTL", 0x94, 1, 0, 1, 0, 0x3000000, 0, 0x40000000, 0, 0, 0, .plain⟩,
  ⟨"SEC_SKX_ADDR", 0x98, 1, 0, 1, 0, 0xffffffff, 0, 0, 0, 0, 0, .plain⟩,
  ⟨"SEC_KW_STAT", 0x9c, 1, 0, 1, 0, 0, 0, 0x100, 0, 0, 0, .plain⟩,
  ⟨"SEC_TRNG", 0xa0, 1, 0, 1, 0, 0, 0, 0, 0, 0, 0, .plain⟩,
  ⟨"SEC_DAK_PUB", 0x100, 24, 0x4, 1, 0, 0, 0, 0, 0, 0, 0, .plain⟩]

/-- Rows of the SIS page (13_safety_island.md). -/
def rowsSIS_0 : List RegRow := [
  ⟨"SIS_MODE", 0x40, 1, 0, 1, 0, 0, 0, 0, 0, 0, 0x2, .plain⟩,
  ⟨"SIS_MODE_SET", 0x44, 1, 0, 1, 0, 0, 0, 0, 0x10f, 0, 0, .plain⟩,
  ⟨"SIS_CAP_RATED", 0x48, 1, 0, 1, 0, 0xffffffff, 0, 0, 0, 0, 0, .shadowed⟩,
  ⟨"SIS_CAP_INSP", 0x4c, 1, 0, 1, 0, 0xffffffff, 0, 0, 0, 0, 0x9d800, .shadowed⟩,
  ⟨"SIS_CAP_RESC", 0x50, 1, 0, 1, 0, 0xffffffff, 0, 0, 0, 0, 0x4b000, .shadowed⟩,
  ⟨"SIS_CAP_FIRE", 0x54, 1, 0, 1, 0, 0xffffffff, 0, 0, 0, 0, 0, .shadowed⟩,
  ⟨"SIS_CAP_LEARN", 0x58, 1, 0, 1, 0, 0xffffffff, 0, 0, 0, 0, 0xfa000, .shadowed⟩,
  ⟨"SIS_CAP_SOLO", 0x5c, 1, 0, 1, 0, 0xffffffff, 0, 0, 0, 0, 0x271000, .shadowed⟩,
  ⟨"SIS_CAP_DEG", 0x60, 1, 0, 1, 0, 0xffffffff, 0, 0, 0, 0, 0x271000, .shadowed⟩,
  ⟨"SIS_SS_DECEL", 0x64, 1, 0, 1, 0, 0xffffffff, 0, 0, 0, 0, 0x7d000, .shadowed⟩,
  ⟨"SIS_SS_MARGIN", 0x68, 1, 0, 1, 0, 0xffffffff, 0, 0, 0, 0, 0x4b000, .shadowed⟩,
  ⟨"SIS_SS_CFG", 0x6c, 1, 0, 1, 0, 0xffff000f, 0, 0, 0, 0, 0x12c0003, .shadowed⟩,
  ⟨"SIS_OUT_ARM", 0x70, 1, 0, 1, 0, 0xff, 0, 0, 0, 0, 0, .plain⟩,
  ⟨"SIS_OUT_REQ", 0x74, 1, 0, 1, 0, 0, 0, 0, 0, 0, 0, .plain⟩,
  ⟨"SIS_OUT_STAT", 0x78, 1, 0, 1, 0, 0, 0, 0, 0, 0, 0, .plain⟩,
  ⟨"SIS_OUT_HOLD", 0x7c, 1, 0, 1, 0, 0, 0, 0, 0, 0, 0, .plain⟩,
  ⟨"SIS_OUT_CFG", 0x80, 1, 0, 1, 0, 0x1f003f, 0, 0, 0, 0, 0x10032, .shadowed⟩,
  ⟨"SIS_BOLT_G0", 0x84, 1, 0, 1, 0, 0xffffffff, 0, 0, 0, 0, 0, .plain⟩,
  ⟨"SIS_BOLT_G1", 0x88, 1, 0, 1, 0, 0x1ff, 0, 0, 0, 0, 0, .plain⟩,
  ⟨"SIS_SIN_RAW", 0x8c, 1, 0, 1, 0, 0, 0, 0, 0, 0, 0, .plain⟩,
  ⟨"SIS_SIN", 0x90, 1, 0, 1, 0, 0, 0, 0, 0, 0, 0, .plain⟩,
  ⟨"SIS_SIN_CFG", 0x94, 1, 0, 1, 0, 0xffff, 0, 0, 0, 0, 0xa00, .shadowed⟩,
  ⟨"SIS_SIN_FILT", 0x98, 4, 0x4, 1, 0, 0x1f1f1f1f, 0, 0, 0, 0, 0x4040404, .shadowed⟩,
  ⟨"SIS_TP_CFG", 0xa8, 1, 0, 1, 0, 0xffffffff, 0, 0, 0, 0, 0x640519, .shadowed⟩]

/-- Rows of the SIS page (13_safety_island.md). -/
def rowsSIS_1 : List RegRow := [
  ⟨"SIS_TP_EN", 0xac, 1, 0, 1, 0, 0xffff, 0, 0, 0, 0, 0, .shadowed⟩,
  ⟨"SIS_SIN_DIAG", 0xb0, 1, 0, 1, 0, 0, 0, 0, 0, 0, 0, .plain⟩,
  ⟨"SIS_COND_MAP", 0xb4, 1, 0, 1, 0, 0xffffffff, 0, 0, 0, 0, 0xffffffff, .shadowed⟩,
  ⟨"SIS_COND", 0xb8, 1, 0, 1, 0, 0, 0, 0, 0, 0, 0, .plain⟩,
  ⟨"SIS_CARCONN", 0xbc, 1, 0, 1, 0, 0x3f, 0, 0, 0, 0, 0, .shadowed⟩,
  ⟨"SIS_MENC", 0xc0, 1, 0, 1, 0, 0xf, 0, 0, 0, 0, 0, .shadowed⟩,
  ⟨"SIS_MGAIN", 0xc4, 1, 0, 1, 0, 0xffffffff, 0, 0, 0, 0, 0x4000, .shadowed⟩,
  ⟨"SIS_SPDCFG", 0xc8, 1, 0, 1, 0, 0x3ffffff, 0, 0, 0, 0, 0x320064, .shadowed⟩,
  ⟨"SIS_WSPD", 0xcc, 1, 0, 1, 0, 0, 0, 0, 0, 0, 0, .plain⟩,
  ⟨"SIS_WSPD_C", 0xd0, 1, 0, 1, 0, 0, 0, 0, 0, 0, 0, .plain⟩,
  ⟨"SIS_WPOS", 0xd4, 1, 0, 1, 0, 0, 0, 0, 0, 0, 0, .plain⟩,
  ⟨"SIS_WZONE", 0xd8, 1, 0, 1, 0, 0, 0, 0, 0, 0, 0, .plain⟩,
  ⟨"SIS_ADVV", 0xdc, 1, 0, 1, 0, 0xffffffff, 0, 0, 0, 0, 0xc8000, .shadowed⟩,
  ⟨"SIS_SSWD_LO", 0xe0, 1, 0, 1, 0, 0, 0, 0, 0, 0, 0, .plain⟩,
  ⟨"SIS_SSWD_HI", 0xe4, 1, 0, 1, 0, 0, 0, 0, 0, 0, 0, .plain⟩,
  ⟨"SIS_CARSAFE", 0xe8, 1, 0, 1, 0, 0, 0, 0, 0, 0, 0, .plain⟩,
  ⟨"SIS_FM_STAT", 0xf0, 1, 0, 1, 0, 0, 0, 0, 0, 0, 0, .plain⟩,
  ⟨"SIS_FM_CUR_W0", 0xf4, 1, 0, 1, 0, 0, 0, 0, 0, 0, 0, .plain⟩,
  ⟨"SIS_FM_CUR_W1", 0xf8, 1, 0, 1, 0, 0, 0, 0, 0, 0, 0, .plain⟩,
  ⟨"SIS_FM_DONE", 0xfc, 1, 0, 1, 0, 0, 0, 0, 0x1, 0, 0, .plain⟩,
  ⟨"SIS_FM_CFG", 0x100, 1, 0, 1, 0, 0x1, 0, 0, 0, 0, 0, .shadowed⟩,
  ⟨"SIS_DB_STAT", 0x104, 1, 0, 1, 0, 0, 0, 0, 0, 0, 0, .plain⟩,
  ⟨"SIS_DB_NONCE", 0x108, 1, 0, 1, 0, 0, 0, 0, 0, 0, 0, .plain⟩,
  ⟨"SIS_DB_REL", 0x10c, 1, 0, 1, 0, 0, 0, 0, 0xffff0001, 0, 0, .plain⟩]

/-- Rows of the SIS page (13_safety_island.md). -/
def rowsSIS_2 : List RegRow := [
  ⟨"SIS_LS_STAT", 0x110, 1, 0, 1, 0, 0, 0, 0, 0, 0, 0, .plain⟩,
  ⟨"SIS_WDG", 0x114, 1, 0, 1, 0, 0x3fff, 0, 0, 0, 0, 0x1f4, .shadowed⟩,
  ⟨"SIS_WDG_KICK", 0x118, 1, 0, 1, 0, 0, 0, 0, 0xffff, 0, 0, .plain⟩,
  ⟨"SIS_SF_TRIP", 0x11c, 1, 0, 1, 0, 0, 0, 0, 0, 0, 0, .plain⟩,
  ⟨"SIS_IC_PEND", 0x200, 2, 0x4, 1, 0, 0, 0, 0, 0, 0, 0, .plain⟩,
  ⟨"SIS_IC_EN", 0x208, 2, 0x4, 1, 0, 0xffffffff, 0, 0, 0, 0, 0, .plain⟩,
  ⟨"SIS_IC_CLAIM", 0x210, 1, 0, 1, 0, 0, 0, 0, 0, 0, 0, .plain⟩,
  ⟨"SIS_SFk_CFG", 0x400, 24, 0x20, 1, 0, 0xbfffffff, 0, 0, 0, 0, 0, .shadowed⟩,
  ⟨"SIS_SFk_MODES", 0x404, 24, 0x20, 1, 0, 0xffff, 0, 0, 0, 0, 0, .shadowed⟩,
  ⟨"SIS_SFk_LO", 0x408, 24, 0x20, 1, 0, 0xffffffff, 0, 0, 0, 0, 0, .shadowed⟩,
  ⟨"SIS_SFk_HI", 0x40c, 24, 0x20, 1, 0, 0xffffffff, 0, 0, 0, 0, 0, .shadowed⟩,
  ⟨"SIS_SFk_QUAL", 0x410, 24, 0x20, 1, 0, 0xffffffff, 0, 0, 0, 0, 0, .shadowed⟩,
  ⟨"SIS_SFk_STAT", 0x414, 24, 0x20, 1, 0, 0, 0x20000000, 0x40000000, 0, 0, 0, .plain⟩,
  ⟨"SIS_ZNn_LO", 0x1000, 256, 0x8, 1, 0, 0xffffffff, 0, 0, 0, 0, 0, .shadowed⟩,
  ⟨"SIS_ZNn_HI", 0x1004, 256, 0x8, 1, 0, 0xffffffff, 0, 0, 0, 0, 0, .shadowed⟩]

/-- All rows of the SIS page. -/
def rowsSIS : List RegRow := rowsSIS_0 ++ rowsSIS_1 ++ rowsSIS_2

/-- Rows of the RDN page (14_redundancy.md). -/
def rowsRDN : List RegRow := [
  ⟨"RDN_CFG", 0x40, 1, 0, 1, 0, 0x7f31, 0, 0, 0, 0, 0x830, .shadowed⟩,
  ⟨"RDN_LEASE", 0x44, 1, 0, 1, 0, 0xff0f1f, 0, 0, 0, 0, 0x10104, .shadowed⟩,
  ⟨"RDN_PAIRWAIT", 0x48, 1, 0, 1, 0, 0xffffffff, 0, 0, 0, 0, 0x32007d0, .shadowed⟩,
  ⟨"RDN_HB2_ETH", 0x4c, 1, 0, 1, 0, 0xffff, 0, 0, 0, 0, 0x88b5, .shadowed⟩,
  ⟨"RDN_HB2_CAN", 0x50, 1, 0, 1, 0, 0x9fffffff, 0, 0, 0, 0, 0, .shadowed⟩,
  ⟨"RDN_CMP", 0x54, 1, 0, 1, 0, 0xffffff, 0, 0, 0, 0, 0x40802, .shadowed⟩,
  ⟨"RDN_TOL", 0x58, 1, 0, 1, 0, 0xffffffff, 0, 0, 0, 0, 0x1480004, .shadowed⟩,
  ⟨"RDN_TOL_S", 0x5c, 1, 0, 1, 0, 0xffff, 0, 0, 0, 0, 0x40, .shadowed⟩,
  ⟨"RDN_KEY", 0x60, 1, 0, 1, 0, 0, 0, 0x3, 0, 0, 0, .plain⟩,
  ⟨"RDN_STAT", 0x64, 1, 0, 1, 0, 0, 0, 0, 0, 0, 0, .plain⟩,
  ⟨"RDN_HEALTH", 0x68, 1, 0, 1, 0, 0, 0, 0, 0, 0, 0, .plain⟩,
  ⟨"RDN_PEER_HEALTH", 0x6c, 1, 0, 1, 0, 0, 0, 0, 0, 0, 0, .plain⟩,
  ⟨"RDN_PEER", 0x70, 1, 0, 1, 0, 0, 0, 0, 0, 0, 0, .plain⟩,
  ⟨"RDN_HB_AGE", 0x74, 1, 0, 1, 0, 0, 0, 0, 0, 0, 0xffffffff, .plain⟩,
  ⟨"RDN_CMP_STAT", 0x78, 1, 0, 1, 0, 0, 0x7000, 0, 0, 0, 0, .plain⟩,
  ⟨"RDN_MIS_CNT", 0x7c, 1, 0, 1, 0, 0, 0, 0, 0, 0, 0, .plain⟩,
  ⟨"RDN_SPLIT", 0x80, 1, 0, 1, 0, 0, 0x7, 0, 0, 0, 0, .plain⟩,
  ⟨"RDN_FRM_MAX", 0x84, 1, 0, 1, 0, 0, 0, 0, 0, 0xffff0000, 0, .plain⟩,
  ⟨"RDN_AUTHERR", 0x88, 1, 0, 1, 0, 0, 0, 0, 0, 0, 0, .plain⟩,
  ⟨"RDN_COMPAT", 0x8c, 1, 0, 1, 0, 0, 0, 0, 0, 0, 0x10000, .plain⟩,
  ⟨"RDN_SYNCn_BASE", 0x100, 16, 0x8, 1, 0, 0x3ffff, 0, 0, 0, 0, 0, .shadowed⟩,
  ⟨"RDN_SYNCn_LEN", 0x104, 16, 0x8, 1, 0, 0x3fff, 0, 0, 0, 0, 0, .shadowed⟩]

/-- Rows of the MLB page (17_mailboxes_latches.md). -/
def rowsMLB : List RegRow := [
  ⟨"MLB_WHO", 0x40, 1, 0, 1, 0, 0, 0, 0, 0, 0, 0, .plain⟩,
  ⟨"MLB_EPOCH0", 0x44, 1, 0, 1, 0, 0, 0, 0, 0, 0, 0, .plain⟩,
  ⟨"MLB_EPOCH1", 0x48, 1, 0, 1, 0, 0, 0, 0, 0, 0, 0, .plain⟩,
  ⟨"MLB_MINE", 0x4c, 1, 0, 1, 0, 0, 0, 0, 0, 0, 0, .plain⟩,
  ⟨"MLB_DBa", 0x80, 8, 0x10, 1, 0, 0, 0xffffffff, 0, 0, 0, 0, .plain⟩,
  ⟨"MLB_DBa_SET", 0x84, 8, 0x10, 1, 0, 0, 0, 0, 0xffffffff, 0, 0, .plain⟩,
  ⟨"MLB_DBa_MASK", 0x88, 8, 0x10, 1, 0, 0xffffffff, 0, 0, 0, 0, 0xffffffff, .plain⟩,
  ⟨"MLB_DBa_PEND", 0x8c, 8, 0x10, 1, 0, 0, 0, 0, 0, 0, 0, .plain⟩,
  ⟨"MLBn_CFG", 0x200, 16, 0x40, 1, 0, 0x87071f1f, 0, 0, 0, 0, 0x1000, .plain⟩,
  ⟨"MLBn_CTL", 0x204, 16, 0x40, 1, 0, 0, 0, 0, 0x7, 0, 0, .plain⟩,
  ⟨"MLBn_STAT", 0x208, 16, 0x40, 1, 0, 0, 0, 0, 0, 0, 0, .plain⟩,
  ⟨"MLBn_ACK", 0x20c, 16, 0x40, 1, 0, 0xff, 0, 0, 0, 0, 0, .plain⟩,
  ⟨"MLBn_D", 0x220, 16, 0x40, 8, 0x4, 0xffffffff, 0, 0, 0, 0, 0, .plain⟩]

/-- Rows of the LAT page (17_mailboxes_latches.md). -/
def rowsLAT : List RegRow := [
  ⟨"LAT_HELD0", 0x40, 1, 0, 1, 0, 0, 0, 0, 0, 0, 0, .plain⟩,
  ⟨"LAT_HELD1", 0x44, 1, 0, 1, 0, 0, 0, 0, 0, 0, 0, .plain⟩,
  ⟨"LAT_ORPHAN0", 0x48, 1, 0, 1, 0, 0, 0xffffffff, 0, 0, 0, 0, .plain⟩,
  ⟨"LAT_ORPHAN1", 0x4c, 1, 0, 1, 0, 0, 0xffffffff, 0, 0, 0, 0, .plain⟩,
  ⟨"LAT_FREE0", 0x50, 1, 0, 1, 0, 0, 0, 0xffffffff, 0, 0, 0, .plain⟩,
  ⟨"LAT_FREE1", 0x54, 1, 0, 1, 0, 0, 0, 0xffffffff, 0, 0, 0, .plain⟩,
  ⟨"LAT_OWNi", 0x60, 8, 0x4, 1, 0, 0, 0, 0, 0, 0, 0, .plain⟩,
  ⟨"LAT_Lj", 0x100, 64, 0x4, 1, 0, 0, 0, 0, 0, 0, 0, .plain⟩]

/-- Rows of the REC page (18_event_recorder.md). -/
def rowsREC : List RegRow := [
  ⟨"REC_CFG", 0x40, 1, 0, 1, 0, 0xff01, 0, 0, 0, 0, 0x1000, .shadowed⟩,
  ⟨"REC_STAT", 0x44, 1, 0, 1, 0, 0, 0, 0, 0, 0, 0, .plain⟩,
  ⟨"REC_SEQ", 0x48, 1, 0, 1, 0, 0, 0, 0, 0, 0, 0, .plain⟩,
  ⟨"REC_HEAD_G", 0x4c, 1, 0, 1, 0, 0, 0, 0, 0, 0, 0, .plain⟩,
  ⟨"REC_HEAD_P", 0x50, 1, 0, 1, 0, 0, 0, 0, 0, 0, 0, .plain⟩,
  ⟨"REC_PCC", 0x54, 1, 0, 1, 0, 0, 0, 0, 0, 0, 0, .plain⟩,
  ⟨"REC_SPARES", 0x58, 1, 0, 1, 0, 0, 0, 0, 0, 0, 0, .plain⟩,
  ⟨"REC_LOST", 0x5c, 1, 0, 1, 0, 0, 0, 0, 0, 0, 0, .plain⟩,
  ⟨"REC_WALL_LO", 0x60, 1, 0, 1, 0, 0xffffffff, 0, 0, 0, 0, 0, .plain⟩,
  ⟨"REC_WALL_HI", 0x64, 1, 0, 1, 0, 0xffffffff, 0, 0, 0, 0, 0, .plain⟩,
  ⟨"REC_SUB_CTL", 0x68, 1, 0, 1, 0, 0x1ffff, 0, 0x80000000, 0, 0, 0, .plain⟩,
  ⟨"REC_SUB_RES", 0x6c, 1, 0, 1, 0, 0, 0, 0, 0, 0, 0, .plain⟩,
  ⟨"REC_SUB_SEQ", 0x70, 1, 0, 1, 0, 0, 0, 0, 0, 0, 0, .plain⟩,
  ⟨"REC_RD_IDX", 0x74, 1, 0, 1, 0, 0x7ffff, 0, 0, 0, 0, 0, .plain⟩,
  ⟨"REC_RD_ADDR", 0x78, 1, 0, 1, 0, 0, 0, 0, 0, 0, 0x60108000, .plain⟩,
  ⟨"REC_DBW", 0x7c, 1, 0, 1, 0, 0xff00, 0, 0x1, 0, 0, 0, .plain⟩,
  ⟨"REC_SUB_D", 0x80, 8, 0x4, 1, 0, 0xffffffff, 0, 0, 0, 0, 0, .plain⟩,
  ⟨"REC_AONn", 0x1000, 1024, 0x4, 1, 0, 0, 0, 0, 0, 0, 0, .plain⟩]

/-- Rows of the TST page (21_test_diagnostics.md). -/
def rowsTST : List RegRow := [
  ⟨"TST_CMD", 0x40, 1, 0, 1, 0, 0x3fff00, 0, 0x1000000, 0, 0, 0, .plain⟩,
  ⟨"TST_RES", 0x44, 1, 0, 1, 0, 0, 0, 0, 0, 0xff00, 0, .plain⟩,
  ⟨"TST_TIME", 0x48, 1, 0, 1, 0, 0, 0, 0, 0, 0, 0, .plain⟩,
  ⟨"TST_LIST0", 0x4c, 1, 0, 1, 0, 0xffffffff, 0, 0, 0, 0, 0, .shadowed⟩,
  ⟨"TST_LIST1", 0x50, 1, 0, 1, 0, 0x1ff, 0, 0, 0, 0, 0, .shadowed⟩,
  ⟨"TST_CFG", 0x54, 1, 0, 1, 0, 0xc000ffff, 0, 0, 0, 0, 0x12c, .shadowed⟩,
  ⟨"TST_ROLL_LIST", 0x58, 1, 0, 1, 0, 0xf, 0, 0, 0, 0, 0xf, .shadowed⟩,
  ⟨"TST_ROLL_STAT", 0x5c, 1, 0, 1, 0, 0, 0, 0, 0, 0, 0, .plain⟩,
  ⟨"TST_FAILLOG", 0x60, 1, 0, 1, 0, 0, 0, 0, 0, 0xf000ffff, 0, .plain⟩,
  ⟨"TST_IDCODE", 0x64, 1, 0, 1, 0, 0, 0, 0, 0, 0, 0, .plain⟩,
  ⟨"TST_BSCAN", 0x68, 1, 0, 1, 0, 0, 0x100, 0, 0, 0, 0, .plain⟩]

/-- Rows of the POS page (05_position_feedback.md). -/
def rowsPOS_0 : List RegRow := [
  ⟨"POS_LOOP", 0x40, 1, 0, 1, 0, 0xfff, 0, 0, 0, 0, 0xfff, .shadowed⟩,
  ⟨"POS_LOOP_STAT", 0x44, 1, 0, 1, 0, 0, 0, 0x10000, 0, 0, 0xf0, .plain⟩,
  ⟨"POS_HEALTH", 0x48, 1, 0, 1, 0, 0, 0, 0, 0, 0, 0, .plain⟩,
  ⟨"POS_FRZ_CFG", 0x4c, 1, 0, 1, 0, 0xffffff, 0, 0, 0, 0, 0x140032, .shadowed⟩,
  ⟨"POS_TUM_CFG", 0x50, 1, 0, 1, 0, 0xf3, 0, 0, 0, 0, 0x22, .shadowed⟩,
  ⟨"POS_TUM_CTL", 0x54, 1, 0, 1, 0, 0, 0, 0, 0x1, 0, 0, .plain⟩,
  ⟨"POS_TUM_TOL", 0x58, 1, 0, 1, 0, 0xfffff, 0, 0, 0, 0, 0x2710, .shadowed⟩,
  ⟨"POS_TUM_PPM", 0x5c, 1, 0, 1, 0, 0xffff, 0, 0, 0, 0, 0x3e8, .shadowed⟩,
  ⟨"POS_TUM_STAT", 0x60, 1, 0, 1, 0, 0, 0x370, 0, 0, 0, 0, .plain⟩,
  ⟨"POS_TUM_SEL", 0x64, 3, 0x4, 1, 0, 0x1f, 0, 0, 0, 0, 0xf, .shadowed⟩,
  ⟨"POS_TUM_GAIN", 0x70, 3, 0x4, 1, 0, 0xffffffff, 0, 0, 0, 0, 0x4000, .shadowed⟩,
  ⟨"POS_TUM_OFS", 0x7c, 3, 0x4, 1, 0, 0xffffffff, 0, 0, 0, 0, 0, .plain⟩,
  ⟨"POS_TUM_POS", 0x88, 3, 0x4, 1, 0, 0, 0, 0, 0, 0, 0, .plain⟩,
  ⟨"POS_TUM_TRAVEL", 0x94, 1, 0, 1, 0, 0, 0, 0, 0, 0, 0, .plain⟩,
  ⟨"POS_CS_POS", 0x98, 1, 0, 1, 0, 0, 0, 0, 0, 0, 0, .plain⟩,
  ⟨"POS_CS_STAT", 0x9c, 1, 0, 1, 0, 0, 0, 0, 0, 0, 0, .plain⟩,
  ⟨"POS_DIN_RAW", 0xa0, 1, 0, 1, 0, 0, 0, 0, 0, 0, 0, .plain⟩,
  ⟨"POS_DIN", 0xa4, 1, 0, 1, 0, 0, 0, 0, 0, 0, 0, .plain⟩,
  ⟨"POS_DIN_POL", 0xa8, 1, 0, 1, 0, 0xffffffff, 0, 0, 0, 0, 0, .shadowed⟩,
  ⟨"POS_DIN_FILT", 0xac, 1, 0, 1, 0, 0xffff, 0, 0, 0, 0, 0xa, .shadowed⟩,
  ⟨"POS_DIN_EDGEEN", 0xb0, 1, 0, 1, 0, 0xffffffff, 0, 0, 0, 0, 0, .shadowed⟩,
  ⟨"POS_DIN_CAPSRC", 0xb4, 1, 0, 1, 0, 0x7, 0, 0, 0, 0, 0x7, .shadowed⟩,
  ⟨"POS_DCAP_STAT", 0xb8, 1, 0, 1, 0, 0, 0x100, 0, 0, 0, 0, .plain⟩,
  ⟨"POS_DCAP_W", 0xbc, 3, 0x4, 1, 0, 0, 0, 0, 0, 0, 0, .plain⟩]

/-- Rows of the POS page (05_position_feedback.md). -/
def rowsPOS_1 : List RegRow := [
  ⟨"POS_LOOP_OFS", 0xc8, 1, 0, 1, 0, 0, 0, 0, 0, 0, 0, .plain⟩,
  ⟨"POS_LOOP_POS", 0xcc, 1, 0, 1, 0, 0, 0, 0, 0, 0, 0, .plain⟩,
  ⟨"POS_Qn_CTL", 0x100, 6, 0x40, 1, 0, 0xff7f, 0, 0, 0, 0, 0x710, .shadowed⟩,
  ⟨"POS_Qn_CPR", 0x104, 6, 0x40, 1, 0, 0xffffffff, 0, 0, 0, 0, 0, .shadowed⟩,
  ⟨"POS_Qn_IDXEXP", 0x108, 6, 0x40, 1, 0, 0xffffffff, 0, 0, 0, 0, 0, .shadowed⟩,
  ⟨"POS_Qn_IDXCFG", 0x10c, 6, 0x40, 1, 0, 0xffffff, 0, 0, 0, 0, 0x40004, .shadowed⟩,
  ⟨"POS_Qn_SPDCFG", 0x110, 6, 0x40, 1, 0, 0x3ffffff, 0, 0, 0, 0, 0x320064, .shadowed⟩,
  ⟨"POS_Qn_CNT", 0x114, 6, 0x40, 1, 0, 0, 0, 0, 0, 0, 0, .plain⟩,
  ⟨"POS_Qn_REV", 0x118, 6, 0x40, 1, 0, 0, 0, 0, 0, 0, 0, .plain⟩,
  ⟨"POS_Qn_SPD", 0x11c, 6, 0x40, 1, 0, 0, 0, 0, 0, 0, 0, .plain⟩,
  ⟨"POS_Qn_STAT", 0x120, 6, 0x40, 1, 0, 0, 0xf08, 0, 0, 0, 0, .plain⟩,
  ⟨"POS_Qn_ILLEG", 0x124, 6, 0x40, 1, 0, 0, 0, 0, 0, 0, 0, .plain⟩,
  ⟨"POS_Qn_IDXDEV", 0x128, 6, 0x40, 1, 0, 0, 0, 0, 0, 0, 0, .plain⟩,
  ⟨"POS_Qn_PRESET", 0x12c, 6, 0x40, 1, 0, 0, 0, 0, 0xffffffff, 0, 0, .plain⟩,
  ⟨"POS_Qn_LEDGE", 0x130, 6, 0x40, 1, 0, 0, 0, 0, 0, 0, 0, .plain⟩,
  ⟨"POS_Qn_CNT_LIVE", 0x134, 6, 0x40, 1, 0, 0, 0, 0, 0, 0, 0, .plain⟩,
  ⟨"POS_Sn_CTL", 0x300, 4, 0x40, 1, 0, 0x3f073f, 0, 0, 0, 0, 0x200022, .shadowed⟩,
  ⟨"POS_Sn_CRC", 0x304, 4, 0x40, 1, 0, 0x11fffff, 0, 0, 0, 0, 0x1060043, .shadowed⟩,
  ⟨"POS_Sn_TIM", 0x308, 4, 0x40, 1, 0, 0xfffffff, 0, 0, 0, 0, 0xc8, .shadowed⟩,
  ⟨"POS_Sn_FRM", 0x30c, 4, 0x40, 1, 0, 0xfffff, 0, 0, 0, 0, 0x402b2, .shadowed⟩,
  ⟨"POS_Sn_POS_LO", 0x310, 4, 0x40, 1, 0, 0, 0, 0, 0, 0, 0, .plain⟩,
  ⟨"POS_Sn_POS_HI", 0x314, 4, 0x40, 1, 0, 0, 0, 0, 0, 0, 0, .plain⟩,
  ⟨"POS_Sn_SPD", 0x318, 4, 0x40, 1, 0, 0, 0, 0, 0, 0, 0, .plain⟩,
  ⟨"POS_Sn_STAT", 0x31c, 4, 0x40, 1, 0, 0, 0x70002, 0, 0, 0, 0, .plain⟩]

/-- Rows of the POS page (05_position_feedback.md). -/
def rowsPOS_2 : List RegRow := [
  ⟨"POS_Sn_LDLY", 0x320, 4, 0x40, 1, 0, 0, 0, 0, 0, 0, 0, .plain⟩,
  ⟨"POS_Sn_ERRCNT", 0x324, 4, 0x40, 1, 0, 0, 0, 0, 0, 0, 0, .plain⟩,
  ⟨"POS_EMUk_CTL", 0x400, 2, 0x20, 1, 0, 0xff73, 0, 0, 0, 0, 0xa02, .shadowed⟩,
  ⟨"POS_EMUk_RATIO", 0x404, 2, 0x20, 1, 0, 0xffffffff, 0, 0, 0, 0, 0x10001, .shadowed⟩,
  ⟨"POS_EMUk_STAT", 0x408, 2, 0x20, 1, 0, 0, 0x10000, 0, 0, 0, 0, .plain⟩]

/-- All rows of the POS page. -/
def rowsPOS : List RegRow := rowsPOS_0 ++ rowsPOS_1 ++ rowsPOS_2

/-- Rows of the MAP page (06_hoistway_map.md). -/
def rowsMAP : List RegRow := [
  ⟨"MAP_CTL", 0x40, 1, 0, 1, 0, 0x3, 0, 0, 0, 0, 0, .shadowed⟩,
  ⟨"MAP_STAT", 0x44, 1, 0, 1, 0, 0, 0, 0, 0, 0, 0, .plain⟩,
  ⟨"MAP_GEN", 0x48, 1, 0, 1, 0, 0xffff, 0, 0, 0, 0, 0, .plain⟩,
  ⟨"MAP_PEER_GEN", 0x4c, 1, 0, 1, 0, 0, 0, 0, 0, 0, 0, .plain⟩,
  ⟨"MAP_POS", 0x50, 1, 0, 1, 0, 0, 0, 0, 0, 0, 0, .plain⟩,
  ⟨"MAP_RAW", 0x54, 1, 0, 1, 0, 0, 0, 0, 0, 0, 0, .plain⟩,
  ⟨"MAP_CORR", 0x58, 1, 0, 1, 0, 0, 0, 0, 0, 0, 0, .plain⟩,
  ⟨"MAP_STOPWIN", 0x5c, 1, 0, 1, 0, 0, 0, 0, 0, 0, 0, .plain⟩,
  ⟨"MAP_FLASH_A", 0x60, 1, 0, 1, 0, 0xffff0000, 0, 0, 0, 0, 0x8000000, .shadowed⟩,
  ⟨"MAP_FLASH_B", 0x64, 1, 0, 1, 0, 0xffff0000, 0, 0, 0, 0, 0xc000000, .shadowed⟩,
  ⟨"MAP_FLASH_TRL", 0x68, 1, 0, 1, 0, 0xffff0000, 0, 0, 0, 0, 0x100000, .shadowed⟩,
  ⟨"MAP_RELOAD", 0x6c, 1, 0, 1, 0, 0, 0, 0x1, 0, 0, 0, .plain⟩,
  ⟨"MAP_MARK_BASE", 0x70, 1, 0, 1, 0, 0xffffffff, 0, 0, 0, 0, 0x83800000, .shadowed⟩,
  ⟨"MAP_MARK_CNT", 0x74, 1, 0, 1, 0, 0x1fff, 0, 0, 0, 0, 0, .shadowed⟩,
  ⟨"MAP_LRN_CFG", 0x78, 1, 0, 1, 0, 0xfffffff, 0, 0, 0, 0, 0x40032, .shadowed⟩,
  ⟨"MAP_LRN_SD", 0x7c, 1, 0, 1, 0, 0xffff, 0, 0, 0, 0, 0x1f4, .shadowed⟩,
  ⟨"MAP_LRN_STAT", 0x80, 1, 0, 1, 0, 0, 0, 0, 0, 0, 0, .plain⟩,
  ⟨"MAP_REB_CTL", 0x84, 1, 0, 1, 0, 0x3ff03ff, 0, 0xc0000000, 0, 0, 0, .plain⟩,
  ⟨"MAP_REB_STAT", 0x88, 1, 0, 1, 0, 0, 0, 0, 0, 0, 0, .plain⟩,
  ⟨"MAP_DEFER", 0x8c, 1, 0, 1, 0, 0, 0, 0, 0, 0, 0, .plain⟩,
  ⟨"MAP_LNDn_POS", 0x1000, 256, 0x10, 1, 0, 0xffffffff, 0, 0, 0, 0, 0, .shadowed⟩,
  ⟨"MAP_LNDn_COR", 0x1004, 256, 0x10, 1, 0, 0xffff, 0, 0, 0, 0, 0, .shadowed⟩,
  ⟨"MAP_LNDn_ATTR", 0x1008, 256, 0x10, 1, 0, 0xfff0007, 0, 0, 0, 0, 0, .shadowed⟩,
  ⟨"MAP_DIRn", 0x2000, 1024, 0x4, 1, 0, 0x7f0000, 0x8000000, 0x3000000, 0, 0, 0, .plain⟩]

/-- Rows of the PRF page (07_motion_profile.md). -/
def rowsPRF_0 : List RegRow := [
  ⟨"PRF_VCAP", 0x40, 1, 0, 1, 0, 0, 0, 0, 0, 0, 0, .plain⟩,
  ⟨"PRF_VCAP_SRC", 0x44, 1, 0, 1, 0, 0, 0, 0, 0, 0, 0, .plain⟩,
  ⟨"PRF_WCAP", 0x48, 1, 0, 1, 0, 0xffffffff, 0, 0, 0, 0, 0x7fffffff, .plain⟩,
  ⟨"PRF_MCAP", 0x4c, 1, 0, 1, 0, 0, 0, 0, 0, 0, 0, .plain⟩,
  ⟨"PRF_DCAP", 0x50, 1, 0, 1, 0, 0, 0, 0, 0, 0, 0, .plain⟩,
  ⟨"PRF_DSTOP", 0x54, 1, 0, 1, 0, 0, 0, 0, 0, 0, 0, .plain⟩,
  ⟨"PRF_LND", 0x58, 1, 0, 1, 0, 0, 0, 0, 0, 0, 0, .plain⟩,
  ⟨"PRF_AXn_CFG", 0x100, 4, 0x80, 1, 0, 0xff1133, 0, 0, 0, 0, 0x640020, .shadowed⟩,
  ⟨"PRF_AXn_VMAX", 0x104, 4, 0x80, 1, 0, 0xffffffff, 0, 0, 0, 0, 0, .shadowed⟩,
  ⟨"PRF_AXn_AMAX", 0x108, 4, 0x80, 1, 0, 0xffffffff, 0, 0, 0, 0, 0, .shadowed⟩,
  ⟨"PRF_AXn_DMAX", 0x10c, 4, 0x80, 1, 0, 0xffffffff, 0, 0, 0, 0, 0, .shadowed⟩,
  ⟨"PRF_AXn_JMAX", 0x110, 4, 0x80, 1, 0, 0xffffffff, 0, 0, 0, 0, 0, .shadowed⟩,
  ⟨"PRF_AXn_PLIM_LO", 0x114, 4, 0x80, 1, 0, 0xffffffff, 0, 0, 0, 0, 0, .shadowed⟩,
  ⟨"PRF_AXn_PLIM_HI", 0x118, 4, 0x80, 1, 0, 0xffffffff, 0, 0, 0, 0, 0xffffffff, .shadowed⟩,
  ⟨"PRF_AXn_TGT", 0x11c, 4, 0x80, 1, 0, 0xffffffff, 0, 0, 0, 0, 0, .plain⟩,
  ⟨"PRF_AXn_CMD", 0x120, 4, 0x80, 1, 0, 0, 0, 0, 0xff0f, 0, 0, .plain⟩,
  ⟨"PRF_AXn_RES", 0x124, 4, 0x80, 1, 0, 0, 0, 0, 0, 0, 0, .plain⟩,
  ⟨"PRF_AXn_STAT", 0x128, 4, 0x80, 1, 0, 0, 0x40, 0, 0, 0, 0, .plain⟩,
  ⟨"PRF_AXn_SP_POS", 0x12c, 4, 0x80, 1, 0, 0, 0, 0, 0, 0, 0, .plain⟩,
  ⟨"PRF_AXn_SP_SPD", 0x130, 4, 0x80, 1, 0, 0, 0, 0, 0, 0, 0, .plain⟩,
  ⟨"PRF_AXn_SP_ACC", 0x134, 4, 0x80, 1, 0, 0, 0, 0, 0, 0, 0, .plain⟩,
  ⟨"PRF_AXn_REMAIN", 0x138, 4, 0x80, 1, 0, 0, 0, 0, 0, 0, 0, .plain⟩,
  ⟨"PRF_AXn_GR_CFG", 0x13c, 4, 0x80, 1, 0, 0x10f, 0, 0, 0, 0, 0xf, .shadowed⟩,
  ⟨"PRF_AXn_GR_RATIO", 0x140, 4, 0x80, 1, 0, 0xffffffff, 0, 0, 0, 0, 0x10001, .shadowed⟩]

/-- Rows of the PRF page (07_motion_profile.md). -/
def rowsPRF_1 : List RegRow := [
  ⟨"PRF_AXn_GR_NEXT", 0x144, 4, 0x80, 1, 0, 0xffffffff, 0, 0, 0, 0, 0x10001, .plain⟩,
  ⟨"PRF_AXn_GR_AT", 0x148, 4, 0x80, 1, 0, 0xffffffff, 0, 0, 0, 0, 0, .plain⟩,
  ⟨"PRF_AXn_GR_BLEND", 0x14c, 4, 0x80, 1, 0, 0xffffffff, 0, 0, 0, 0, 0, .shadowed⟩,
  ⟨"PRF_AXn_STALL", 0x150, 4, 0x80, 1, 0, 0x30fffff, 0, 0, 0, 0, 0x43800, .shadowed⟩,
  ⟨"PRF_AXn_LANG", 0x154, 4, 0x80, 1, 0, 0xffff, 0, 0, 0, 0, 0, .output⟩,
  ⟨"PRF_AXn_STALL_VMIN", 0x158, 4, 0x80, 1, 0, 0xffffffff, 0, 0, 0, 0, 0x5000, .shadowed⟩,
  ⟨"PRF_AXn_ATGT", 0x15c, 4, 0x80, 1, 0, 0, 0, 0, 0, 0, 0, .plain⟩,
  ⟨"PRF_STPk_CTL", 0x400, 2, 0x20, 1, 0, 0xffff0033, 0, 0, 0, 0, 0x64c800, .shadowed⟩,
  ⟨"PRF_STPk_LEN", 0x404, 2, 0x20, 1, 0, 0xffffffff, 0, 0, 0, 0, 0x80, .shadowed⟩,
  ⟨"PRF_STPk_CNT", 0x408, 2, 0x20, 1, 0, 0, 0, 0, 0, 0, 0, .plain⟩,
  ⟨"PRF_STPk_IVAL", 0x40c, 2, 0x20, 1, 0, 0, 0, 0, 0, 0, 0, .plain⟩,
  ⟨"PRF_STPk_STAT", 0x410, 2, 0x20, 1, 0, 0, 0x1, 0, 0, 0, 0, .plain⟩]

/-- All rows of the PRF page. -/
def rowsPRF : List RegRow := rowsPRF_0 ++ rowsPRF_1

/-- Rows of the STQ page (20_stop_queue.md). -/
def rowsSTQ : List RegRow := [
  ⟨"STQ_CFG", 0x40, 1, 0, 1, 0, 0x3ffff, 0, 0, 0, 0, 0x300c8, .shadowed⟩,
  ⟨"STQ_NEXT", 0x44, 1, 0, 1, 0, 0, 0, 0, 0, 0, 0, .plain⟩,
  ⟨"STQ_STAT", 0x48, 1, 0, 1, 0, 0, 0x700, 0, 0, 0, 0, .plain⟩,
  ⟨"STQ_CARk", 0x100, 8, 0x4, 1, 0, 0, 0, 0, 0, 0, 0, .plain⟩,
  ⟨"STQ_CARk_SET", 0x120, 8, 0x4, 1, 0, 0, 0, 0, 0xffffffff, 0, 0, .plain⟩,
  ⟨"STQ_CARk_CLR", 0x140, 8, 0x4, 1, 0, 0, 0, 0, 0xffffffff, 0, 0, .plain⟩,
  ⟨"STQ_UPk", 0x160, 8, 0x4, 1, 0, 0, 0, 0, 0, 0, 0, .plain⟩,
  ⟨"STQ_UPk_SET", 0x180, 8, 0x4, 1, 0, 0, 0, 0, 0xffffffff, 0, 0, .plain⟩,
  ⟨"STQ_UPk_CLR", 0x1a0, 8, 0x4, 1, 0, 0, 0, 0, 0xffffffff, 0, 0, .plain⟩,
  ⟨"STQ_DNk", 0x1c0, 8, 0x4, 1, 0, 0, 0, 0, 0, 0, 0, .plain⟩,
  ⟨"STQ_DNk_SET", 0x1e0, 8, 0x4, 1, 0, 0, 0, 0, 0xffffffff, 0, 0, .plain⟩,
  ⟨"STQ_DNk_CLR", 0x200, 8, 0x4, 1, 0, 0, 0, 0, 0xffffffff, 0, 0, .plain⟩]

/-- Rows of the PST page (11_hoist_drive.md). -/
def rowsPST_0 : List RegRow := [
  ⟨"PST_TB_CFG", 0x40, 1, 0, 1, 0, 0xfffff, 0, 0, 0, 0, 0x430d4, .shadowed⟩,
  ⟨"PST_TB_PHASE", 0x44, 1, 0, 1, 0, 0x1ffff, 0, 0, 0, 0, 0x9c40, .shadowed⟩,
  ⟨"PST_TB_CNT_LO", 0x48, 1, 0, 1, 0, 0, 0, 0, 0, 0, 0, .plain⟩,
  ⟨"PST_TB_CNT_HI", 0x4c, 1, 0, 1, 0, 0, 0, 0, 0, 0, 0, .plain⟩,
  ⟨"PST_TB_IDX", 0x50, 1, 0, 1, 0, 0, 0, 0, 0, 0, 0, .plain⟩,
  ⟨"PST_STO_MAP", 0x54, 1, 0, 1, 0, 0x3f, 0, 0, 0, 0, 0x3f, .shadowed⟩,
  ⟨"PST_GROUP", 0x58, 1, 0, 1, 0, 0x3f3f, 0, 0, 0, 0, 0, .shadowed⟩,
  ⟨"PST_SDCLK", 0x5c, 1, 0, 1, 0, 0xffffffff, 0, 0, 0, 0, 0x10101010, .shadowed⟩,
  ⟨"PST_SD_DEC", 0x60, 1, 0, 1, 0, 0xffff, 0, 0, 0, 0, 0x5555, .shadowed⟩,
  ⟨"PST_SD_EN", 0x64, 1, 0, 1, 0, 0xffffff, 0, 0, 0, 0, 0, .shadowed⟩,
  ⟨"PST_SD_STAT", 0x68, 1, 0, 1, 0, 0, 0xffffff, 0, 0, 0, 0, .plain⟩,
  ⟨"PST_OC_CFG", 0x6c, 1, 0, 1, 0, 0xf, 0, 0, 0, 0, 0x2, .shadowed⟩,
  ⟨"PST_DCB_CFG", 0x70, 1, 0, 1, 0, 0x11f, 0, 0, 0, 0, 0x3, .shadowed⟩,
  ⟨"PST_DCB", 0x74, 1, 0, 1, 0, 0, 0, 0, 0, 0, 0, .plain⟩,
  ⟨"PST_DCB_LIM", 0x78, 1, 0, 1, 0, 0xffffffff, 0, 0, 0, 0, 0x7fff0000, .shadowed⟩,
  ⟨"PST_CHOP", 0x7c, 1, 0, 1, 0, 0xffffffff, 0, 0, 0, 0, 0x7fff7fff, .shadowed⟩,
  ⟨"PST_CHOP_CFG", 0x80, 1, 0, 1, 0, 0xff0001, 0, 0, 0, 0, 0xa0000, .shadowed⟩,
  ⟨"PST_CHOP_STAT", 0x84, 1, 0, 1, 0, 0, 0, 0, 0, 0xffff0000, 0, .plain⟩,
  ⟨"PST_GDF_CFG", 0x88, 1, 0, 1, 0, 0xff00, 0, 0, 0, 0, 0xa00, .shadowed⟩,
  ⟨"PST_GDF_MAP", 0x8c, 1, 0, 1, 0, 0xffffffff, 0, 0, 0, 0, 0xdcba98, .shadowed⟩,
  ⟨"PST_GDF_STAT", 0x90, 1, 0, 1, 0, 0, 0xff, 0, 0, 0, 0, .plain⟩,
  ⟨"PST_TRIP", 0x94, 1, 0, 1, 0, 0, 0x3f3f3f, 0, 0, 0, 0, .plain⟩,
  ⟨"PST_BRK_CFG", 0xa0, 1, 0, 1, 0, 0x1031f1f, 0, 0, 0, 0, 0, .shadowed⟩,
  ⟨"PST_BRK_TIM0", 0xa4, 1, 0, 1, 0, 0xffffffff, 0, 0, 0, 0, 0x640032, .shadowed⟩]

/-- Rows of the PST page (11_hoist_drive.md). -/
def rowsPST_1 : List RegRow := [
  ⟨"PST_BRK_TIM1", 0xa8, 1, 0, 1, 0, 0xffffffff, 0, 0, 0, 0, 0x1f4012c, .shadowed⟩,
  ⟨"PST_BRK_TIM2", 0xac, 1, 0, 1, 0, 0xffffffff, 0, 0, 0, 0, 0x64012c, .shadowed⟩,
  ⟨"PST_BRK_TIM3", 0xb0, 1, 0, 1, 0, 0xffffffff, 0, 0, 0, 0, 0xc80032, .shadowed⟩,
  ⟨"PST_BRK_MOD", 0xb4, 1, 0, 1, 0, 0x1ff01ff, 0, 0, 0, 0, 0x800100, .shadowed⟩,
  ⟨"PST_BRK_STAT", 0xb8, 1, 0, 1, 0, 0, 0, 0, 0, 0, 0, .plain⟩,
  ⟨"PST_BT_CTL", 0xc0, 1, 0, 1, 0, 0x730, 0, 0x3, 0, 0, 0, .plain⟩,
  ⟨"PST_BT_CFG", 0xc4, 1, 0, 1, 0, 0xffffffff, 0, 0, 0, 0, 0x1007d0, .shadowed⟩,
  ⟨"PST_BT_TQ", 0xc8, 1, 0, 1, 0, 0xffffffff, 0, 0, 0, 0, 0, .shadowed⟩,
  ⟨"PST_BT_RAMP", 0xcc, 1, 0, 1, 0, 0xffff, 0, 0, 0, 0, 0x1f4, .shadowed⟩,
  ⟨"PST_BT_IREF", 0xd0, 1, 0, 1, 0, 0, 0, 0, 0, 0, 0, .plain⟩,
  ⟨"PST_BT_STAT", 0xd4, 1, 0, 1, 0, 0, 0, 0, 0, 0, 0, .plain⟩,
  ⟨"PST_GRID_CFG", 0xe0, 1, 0, 1, 0, 0x11f1f1f, 0, 0, 0, 0, 0xe0d0c, .shadowed⟩,
  ⟨"PST_GRID_ISRC", 0xe4, 1, 0, 1, 0, 0x1f1f1f, 0, 0, 0, 0, 0xa0908, .shadowed⟩,
  ⟨"PST_GRID_LIM", 0xe8, 1, 0, 1, 0, 0xffffffff, 0, 0, 0, 0, 0x412d2000, .shadowed⟩,
  ⟨"PST_GRID_ANG", 0xec, 1, 0, 1, 0, 0, 0, 0, 0, 0, 0, .plain⟩,
  ⟨"PST_GRID_FRQ", 0xf0, 1, 0, 1, 0, 0, 0, 0, 0, 0, 0, .plain⟩,
  ⟨"PST_GRID_AMP", 0xf4, 1, 0, 1, 0, 0, 0, 0, 0, 0, 0, .plain⟩,
  ⟨"PST_GRID_STAT", 0xf8, 1, 0, 1, 0, 0, 0x2, 0, 0, 0, 0, .plain⟩,
  ⟨"PST_EN_DRAWN_LO", 0x100, 1, 0, 1, 0, 0, 0, 0, 0, 0, 0, .plain⟩,
  ⟨"PST_EN_DRAWN_HI", 0x104, 1, 0, 1, 0, 0, 0, 0, 0, 0, 0, .plain⟩,
  ⟨"PST_EN_RET_LO", 0x108, 1, 0, 1, 0, 0, 0, 0, 0, 0, 0, .plain⟩,
  ⟨"PST_EN_RET_HI", 0x10c, 1, 0, 1, 0, 0, 0, 0, 0, 0, 0, .plain⟩,
  ⟨"PST_PSn_CFG", 0x200, 6, 0x40, 1, 0, 0x3f01f3, 0, 0, 0, 0, 0x2, .shadowed⟩,
  ⟨"PST_PSn_PER", 0x204, 6, 0x40, 1, 0, 0xffff, 0, 0, 0, 0, 0x30d4, .shadowed⟩]

/-- Rows of the PST page (11_hoist_drive.md). -/
def rowsPST_2 : List RegRow := [
  ⟨"PST_PSn_PHS", 0x208, 6, 0x40, 1, 0, 0xffff, 0, 0, 0, 0, 0, .shadowed⟩,
  ⟨"PST_PSn_DT", 0x20c, 6, 0x40, 1, 0, 0xfff0fff, 0, 0, 0, 0, 0x280190, .shadowed⟩,
  ⟨"PST_PSn_CMPU", 0x210, 6, 0x40, 1, 0, 0xfffff, 0, 0, 0, 0, 0, .output⟩,
  ⟨"PST_PSn_CMPV", 0x214, 6, 0x40, 1, 0, 0xfffff, 0, 0, 0, 0, 0, .output⟩,
  ⟨"PST_PSn_CMPW", 0x218, 6, 0x40, 1, 0, 0xfffff, 0, 0, 0, 0, 0, .output⟩,
  ⟨"PST_PSn_OUT", 0x21c, 6, 0x40, 1, 0, 0x3f, 0, 0, 0, 0, 0x15, .output⟩,
  ⟨"PST_PSn_STAT", 0x220, 6, 0x40, 1, 0, 0, 0, 0, 0, 0, 0, .plain⟩,
  ⟨"PST_SDn_RES", 0x400, 24, 0x4, 1, 0, 0, 0, 0, 0, 0, 0, .plain⟩,
  ⟨"PST_SDn_OCLIM", 0x480, 24, 0x4, 1, 0, 0xffffffff, 0, 0, 0, 0, 0x7fff8000, .shadowed⟩,
  ⟨"PST_SDn_FAST", 0x500, 24, 0x4, 1, 0, 0, 0, 0, 0, 0, 0, .plain⟩]

/-- All rows of the PST page. -/
def rowsPST : List RegRow := rowsPST_0 ++ rowsPST_1 ++ rowsPST_2

/-- Rows of the DOR page (12_doors_interlocks.md). -/
def rowsDOR_0 : List RegRow := [
  ⟨"DOR_DZ_CFG", 0x40, 1, 0, 1, 0, 0x1f10ffff, 0, 0, 0, 0, 0x14, .shadowed⟩,
  ⟨"DOR_DZ_STAT", 0x44, 1, 0, 1, 0, 0, 0, 0, 0, 0, 0, .plain⟩,
  ⟨"DOR_DZ_DIST", 0x48, 1, 0, 1, 0, 0, 0, 0, 0, 0, 0, .plain⟩,
  ⟨"DOR_RLV_CFG", 0x4c, 1, 0, 1, 0, 0xffffffff, 0, 0, 0, 0, 0x30a00c8, .shadowed⟩,
  ⟨"DOR_RLV_STAT", 0x50, 1, 0, 1, 0, 0, 0, 0, 0, 0, 0, .plain⟩,
  ⟨"DOR_ADV_CFG", 0x54, 1, 0, 1, 0, 0xffffffff, 0, 0, 0, 0, 0x3200096, .shadowed⟩,
  ⟨"DOR_ADV_CFG2", 0x58, 1, 0, 1, 0, 0xffffffff, 0, 0, 0, 0, 0x3e8000a, .shadowed⟩,
  ⟨"DOR_ADV_RATIO", 0x5c, 1, 0, 1, 0, 0xffffffff, 0, 0, 0, 0, 0x10002, .shadowed⟩,
  ⟨"DOR_LC0_CFG", 0x60, 1, 0, 1, 0, 0x3f1f, 0, 0, 0, 0, 0, .shadowed⟩,
  ⟨"DOR_LC1_CFG", 0x64, 1, 0, 1, 0, 0x3f1f, 0, 0, 0, 0, 0, .shadowed⟩,
  ⟨"DOR_OBS_STAT", 0x68, 1, 0, 1, 0, 0, 0, 0, 0, 0, 0, .plain⟩,
  ⟨"DOR_BYP_CFG", 0x6c, 1, 0, 1, 0, 0xffffffff, 0, 0, 0, 0, 0x640032, .shadowed⟩,
  ⟨"DOR_CTk_CFG", 0x80, 8, 0x8, 1, 0, 0xff931f, 0, 0, 0, 0, 0x40000, .shadowed⟩,
  ⟨"DOR_CTk_STAT", 0x84, 8, 0x8, 1, 0, 0, 0x1c, 0, 0, 0, 0, .plain⟩,
  ⟨"DOR_Dn_CFG", 0x200, 2, 0x80, 1, 0, 0xff7ff731, 0, 0, 0, 0, 0x33010000, .shadowed⟩,
  ⟨"DOR_Dn_SCALE", 0x204, 2, 0x80, 1, 0, 0xffffffff, 0, 0, 0, 0, 0x4000, .shadowed⟩,
  ⟨"DOR_Dn_OFS", 0x208, 2, 0x80, 1, 0, 0xffffffff, 0, 0, 0, 0, 0, .shadowed⟩,
  ⟨"DOR_Dn_OPEN", 0x20c, 2, 0x80, 1, 0, 0xffffffff, 0, 0, 0, 0, 0, .shadowed⟩,
  ⟨"DOR_Dn_TOL", 0x210, 2, 0x80, 1, 0, 0xffffffff, 0, 0, 0, 0, 0x1407d0, .shadowed⟩,
  ⟨"DOR_Dn_TIM0", 0x214, 2, 0x80, 1, 0, 0xffffffff, 0, 0, 0, 0, 0xbb801f4, .shadowed⟩,
  ⟨"DOR_Dn_TIM1", 0x218, 2, 0x80, 1, 0, 0xffffffff, 0, 0, 0, 0, 0xc803e8, .shadowed⟩,
  ⟨"DOR_Dn_TIM2", 0x21c, 2, 0x80, 1, 0, 0xffff, 0, 0, 0, 0, 0x7d0, .shadowed⟩,
  ⟨"DOR_Dn_OBS", 0x220, 2, 0x80, 1, 0, 0x3f, 0, 0, 0, 0, 0x21, .shadowed⟩,
  ⟨"DOR_Dn_FOBSCFG", 0x224, 2, 0x80, 1, 0, 0xfffff, 0, 0, 0, 0, 0x201f4, .shadowed⟩]

/-- Rows of the DOR page (12_doors_interlocks.md). -/
def rowsDOR_1 : List RegRow := [
  ⟨"DOR_Dn_FOBS", 0x228, 2, 0x80, 1, 0, 0xffff, 0, 0, 0, 0, 0, .plain⟩,
  ⟨"DOR_Dn_CLAMP", 0x22c, 2, 0x80, 1, 0, 0xffffffff, 0, 0, 0, 0, 0x5dc07d0, .shadowed⟩,
  ⟨"DOR_Dn_ECLAMP", 0x230, 2, 0x80, 1, 0, 0xffffffff, 0, 0, 0, 0, 0x27100fa0, .shadowed⟩,
  ⟨"DOR_Dn_KF", 0x234, 2, 0x80, 1, 0, 0xffffffff, 0, 0, 0, 0, 0, .shadowed⟩,
  ⟨"DOR_Dn_GAIN", 0x238, 2, 0x80, 1, 0, 0xff00ffff, 0, 0, 0, 0, 0x20002004, .shadowed⟩,
  ⟨"DOR_Dn_NUDGE", 0x23c, 2, 0x80, 1, 0, 0xffff, 0, 0, 0, 0, 0x96, .shadowed⟩,
  ⟨"DOR_Dn_CMD", 0x240, 2, 0x80, 1, 0, 0, 0, 0, 0xff0f, 0, 0, .plain⟩,
  ⟨"DOR_Dn_RES", 0x244, 2, 0x80, 1, 0, 0, 0, 0, 0, 0, 0, .plain⟩,
  ⟨"DOR_Dn_STAT", 0x248, 2, 0x80, 1, 0, 0, 0xe000, 0, 0, 0, 0, .plain⟩,
  ⟨"DOR_Dn_POS", 0x24c, 2, 0x80, 1, 0, 0, 0, 0, 0, 0, 0, .plain⟩,
  ⟨"DOR_Dn_SPD", 0x250, 2, 0x80, 1, 0, 0, 0, 0, 0, 0, 0, .plain⟩,
  ⟨"DOR_Dn_FEST", 0x254, 2, 0x80, 1, 0, 0, 0, 0, 0, 0xffff0000, 0, .plain⟩,
  ⟨"DOR_Dn_EKIN", 0x258, 2, 0x80, 1, 0, 0, 0, 0, 0, 0xffff0000, 0, .plain⟩,
  ⟨"DOR_Dn_G", 0x25c, 2, 0x80, 1, 0, 0, 0, 0, 0, 0, 0x100, .plain⟩]

/-- All rows of the DOR page. -/
def rowsDOR : List RegRow := rowsDOR_0 ++ rowsDOR_1

/-- Rows of the VIS page (12_doors_interlocks.md). -/
def rowsVIS : List RegRow := [
  ⟨"VIS_Rk_CFG", 0x100, 2, 0x40, 1, 0, 0xff000f, 0, 0, 0, 0, 0x5a0008, .shadowed⟩,
  ⟨"VIS_Rk_SIZE", 0x104, 2, 0x40, 1, 0, 0x3ff03ff, 0, 0, 0, 0, 0xf00140, .shadowed⟩,
  ⟨"VIS_Rk_CAL", 0x108, 2, 0x40, 1, 0, 0xffffffff, 0, 0, 0, 0, 0, .shadowed⟩,
  ⟨"VIS_Rk_DEPTH", 0x10c, 2, 0x40, 1, 0, 0xffffffff, 0, 0, 0, 0, 0x1000064, .shadowed⟩,
  ⟨"VIS_Rk_HIT", 0x110, 2, 0x40, 1, 0, 0xffff00ff, 0, 0, 0, 0, 0x140004, .shadowed⟩,
  ⟨"VIS_Rk_WIN", 0x114, 2, 0x40, 1, 0, 0x1f1f3f3f, 0, 0, 0, 0, 0x1f003f00, .shadowed⟩,
  ⟨"VIS_Rk_THR", 0x118, 2, 0x40, 1, 0, 0xf0f0fff, 0, 0, 0, 0, 0x3020003, .shadowed⟩,
  ⟨"VIS_Rk_TMO", 0x11c, 2, 0x40, 1, 0, 0xffff, 0, 0, 0, 0, 0x64, .shadowed⟩,
  ⟨"VIS_Rk_STAT", 0x120, 2, 0x40, 1, 0, 0, 0x700, 0, 0, 0, 0, .plain⟩,
  ⟨"VIS_Rk_FRAMES", 0x124, 2, 0x40, 1, 0, 0, 0, 0, 0, 0, 0, .plain⟩,
  ⟨"VIS_Rk_FRAME_T", 0x128, 2, 0x40, 1, 0, 0, 0, 0, 0, 0, 0, .plain⟩,
  ⟨"VIS_GRID", 0x1000, 2, 0x100, 64, 0x4, 0, 0, 0, 0, 0, 0, .plain⟩]

/-- Rows of the TCE page (08_control_engine.md). -/
def rowsTCE : List RegRow := [
  ⟨"TCE_CTL", 0x40, 1, 0, 1, 0, 0x101, 0, 0, 0, 0, 0, .plain⟩,
  ⟨"TCE_STAT", 0x44, 1, 0, 1, 0, 0, 0xd0000, 0, 0, 0, 0, .plain⟩,
  ⟨"TCE_OVR", 0x48, 1, 0, 1, 0, 0, 0, 0, 0, 0, 0, .plain⟩,
  ⟨"TCE_OVRCFG", 0x4c, 1, 0, 1, 0, 0xf, 0, 0, 0, 0, 0x2, .shadowed⟩,
  ⟨"TCE_LATE", 0x50, 1, 0, 1, 0, 0, 0, 0, 0, 0, 0, .plain⟩,
  ⟨"TCE_TRIG", 0x54, 1, 0, 1, 0, 0, 0, 0, 0xffff, 0, 0, .plain⟩,
  ⟨"TCE_BGPC", 0x58, 1, 0, 1, 0, 0x80003fff, 0, 0, 0, 0, 0, .plain⟩,
  ⟨"TCE_MANIFEST", 0x5c, 1, 0, 1, 0, 0xffffffff, 0, 0, 0, 0, 0, .plain⟩,
  ⟨"TCE_PCAUTH", 0x60, 1, 0, 1, 0, 0, 0, 0x1, 0, 0, 0, .plain⟩,
  ⟨"TCE_ERRADDR", 0x64, 1, 0, 1, 0, 0, 0, 0, 0, 0, 0, .plain⟩,
  ⟨"TCE_ECCCNT", 0x68, 1, 0, 1, 0, 0, 0, 0, 0, 0, 0, .plain⟩,
  ⟨"TCE_PC", 0x6c, 1, 0, 1, 0, 0, 0, 0, 0, 0, 0, .plain⟩,
  ⟨"TCE_BUSY", 0x70, 1, 0, 1, 0, 0, 0, 0, 0, 0xffff0000, 0, .plain⟩,
  ⟨"TCE_TASKk_CFG", 0x100, 16, 0x20, 1, 0, 0xffff77, 0, 0, 0, 0, 0, .shadowed⟩,
  ⟨"TCE_TASKk_ENTRY", 0x104, 16, 0x20, 1, 0, 0x3fff3fff, 0, 0, 0, 0, 0, .shadowed⟩,
  ⟨"TCE_TASKk_OUT", 0x108, 16, 0x20, 1, 0, 0xf3f, 0, 0, 0, 0, 0, .shadowed⟩,
  ⟨"TCE_TASKk_STAT", 0x10c, 16, 0x20, 1, 0, 0, 0x300, 0, 0, 0, 0, .plain⟩,
  ⟨"TCE_TASKk_TIME", 0x110, 16, 0x20, 1, 0, 0, 0, 0, 0, 0xffff0000, 0, .plain⟩,
  ⟨"TCE_TASKk_OVR", 0x114, 16, 0x20, 1, 0, 0, 0, 0, 0, 0, 0, .plain⟩]

/-- Rows of the CAN page (15_can_fd.md). -/
def rowsCAN_0 : List RegRow := [
  ⟨"CAN_CTL", 0x40, 1, 0, 1, 0, 0x1f, 0, 0, 0, 0, 0x1d, .plain⟩,
  ⟨"CAN_STAT", 0x44, 1, 0, 1, 0, 0, 0, 0, 0, 0, 0, .plain⟩,
  ⟨"CAN_ERR", 0x48, 1, 0, 1, 0, 0, 0, 0, 0, 0, 0, .plain⟩,
  ⟨"CAN_NBT", 0x4c, 1, 0, 1, 0, 0xffff7f7f, 0, 0, 0, 0, 0x7e1f1f, .plain⟩,
  ⟨"CAN_DBT", 0x50, 5, 0x4, 1, 0, 0x1f1f0f0f, 0, 0, 0, 0, 0x11e0707, .plain⟩,
  ⟨"CAN_NEG", 0x64, 1, 0, 1, 0, 0xff1ff7ff, 0, 0, 0, 0, 0x141f07e0, .plain⟩,
  ⟨"CAN_NEG_EXP", 0x68, 1, 0, 1, 0, 0xffff, 0, 0, 0, 0, 0, .plain⟩,
  ⟨"CAN_NEG_STAT", 0x6c, 1, 0, 1, 0, 0, 0x30000000, 0x1000000, 0, 0, 0xf0000, .plain⟩,
  ⟨"CAN_TIME", 0x70, 1, 0, 1, 0, 0xe0ffffff, 0, 0, 0, 0, 0x803e8, .shadowed⟩,
  ⟨"CAN_REFID", 0x74, 1, 0, 1, 0, 0x9fffffff, 0, 0, 0, 0, 0, .shadowed⟩,
  ⟨"CAN_TIME_STAT", 0x78, 1, 0, 1, 0, 0, 0x50000000, 0, 0, 0, 0, .plain⟩,
  ⟨"CAN_REF_STAMP", 0x7c, 1, 0, 1, 0, 0, 0, 0, 0, 0, 0, .plain⟩,
  ⟨"CAN_RXCFG", 0x80, 1, 0, 1, 0, 0xffff07, 0, 0, 0, 0, 0, .shadowed⟩,
  ⟨"CAN_RQ_STAT", 0x84, 1, 0, 1, 0, 0, 0x30000, 0, 0, 0, 0, .plain⟩,
  ⟨"CAN_LOCK_CFG", 0x88, 1, 0, 1, 0, 0xff, 0, 0, 0, 0, 0x64, .plain⟩,
  ⟨"CAN_LOST", 0x8c, 1, 0, 1, 0, 0, 0x3, 0, 0, 0, 0, .plain⟩,
  ⟨"CAN_HOLD", 0x90, 1, 0, 1, 0, 0, 0, 0, 0, 0, 0, .plain⟩,
  ⟨"CAN_IDCOL", 0x94, 1, 0, 1, 0, 0, 0, 0, 0, 0, 0, .plain⟩,
  ⟨"CAN_WUP", 0x98, 1, 0, 1, 0, 0, 0, 0, 0x1, 0, 0, .plain⟩,
  ⟨"CAN_TXRQ", 0xa0, 4, 0x4, 1, 0, 0, 0, 0xffffffff, 0, 0, 0, .plain⟩,
  ⟨"CAN_TXCAN", 0xb0, 4, 0x4, 1, 0, 0, 0, 0, 0xffffffff, 0, 0, .plain⟩,
  ⟨"CAN_TXOK", 0xc0, 4, 0x4, 1, 0, 0, 0xffffffff, 0, 0, 0, 0, .plain⟩,
  ⟨"CAN_TXFAIL", 0xd0, 4, 0x4, 1, 0, 0, 0xffffffff, 0, 0, 0, 0, .plain⟩,
  ⟨"CAN_NEWDAT", 0xe0, 4, 0x4, 1, 0, 0, 0xffffffff, 0, 0, 0, 0, .plain⟩]

/-- Rows of the CAN page (15_can_fd.md). -/
def rowsCAN_1 : List RegRow := [
  ⟨"CAN_FLTj_MATCH", 0x100, 64, 0xc, 1, 0, 0xdfffffff, 0, 0, 0, 0, 0, .shadowed⟩,
  ⟨"CAN_FLTj_MASK", 0x104, 64, 0xc, 1, 0, 0x1fffffff, 0, 0, 0, 0, 0, .shadowed⟩,
  ⟨"CAN_FLTj_ACT", 0x108, 64, 0xc, 1, 0, 0x8003007f, 0, 0, 0, 0, 0, .shadowed⟩,
  ⟨"CAN_RQ0_Ww", 0x400, 20, 0x4, 1, 0, 0, 0, 0, 0, 0, 0, .plain⟩,
  ⟨"CAN_RQ1_Ww", 0x480, 20, 0x4, 1, 0, 0, 0, 0, 0, 0, 0, .plain⟩,
  ⟨"CAN_OBJn_W0", 0x4000, 128, 0x80, 1, 0, 0xffffffff, 0, 0, 0, 0, 0, .plain⟩,
  ⟨"CAN_OBJn_W1", 0x4004, 128, 0x80, 1, 0, 0xc7f80f00, 0, 0, 0, 0, 0, .plain⟩,
  ⟨"CAN_OBJn_W2", 0x4008, 128, 0x80, 1, 0, 0xffffffff, 0, 0, 0, 0, 0, .plain⟩,
  ⟨"CAN_OBJn_W3", 0x400c, 128, 0x80, 1, 0, 0, 0xe0600000, 0, 0, 0, 0, .plain⟩,
  ⟨"CAN_OBJn_DATA", 0x4010, 128, 0x80, 16, 0x4, 0xffffffff, 0, 0, 0, 0, 0, .plain⟩]

/-- All rows of the CAN page. -/
def rowsCAN : List RegRow := rowsCAN_0 ++ rowsCAN_1

/-- Rows of the ETH page (16_ethernet_skovesafe.md). -/
def rowsETH_0 : List RegRow := [
  ⟨"ETH_CFG", 0x40, 1, 0, 1, 0, 0x3fff0130, 0, 0, 0, 0, 0x5f20000, .shadowed⟩,
  ⟨"ETH_STAT", 0x44, 1, 0, 1, 0, 0, 0, 0, 0, 0, 0, .plain⟩,
  ⟨"ETH_MAC_LO", 0x48, 1, 0, 1, 0, 0xffffffff, 0, 0, 0, 0, 0, .shadowed⟩,
  ⟨"ETH_MAC_HI", 0x4c, 1, 0, 1, 0, 0xffff, 0, 0, 0, 0, 0, .shadowed⟩,
  ⟨"ETH_PEER_LO", 0x50, 1, 0, 1, 0, 0xffffffff, 0, 0, 0, 0, 0, .shadowed⟩,
  ⟨"ETH_PEER_HI", 0x54, 1, 0, 1, 0, 0xffff, 0, 0, 0, 0, 0, .shadowed⟩,
  ⟨"ETH_ETYPE", 0x58, 1, 0, 1, 0, 0xffffffff, 0, 0, 0, 0, 0x88b6, .shadowed⟩,
  ⟨"ETH_MDIO_CMD", 0x5c, 1, 0, 1, 0, 0x301f1f, 0x40000000, 0x1000000, 0, 0, 0, .plain⟩,
  ⟨"ETH_MDIO_DATA", 0x60, 1, 0, 1, 0, 0xffffffff, 0, 0, 0, 0, 0, .plain⟩,
  ⟨"ETH_MDIO_RES", 0x64, 1, 0, 1, 0, 0xffff1f1f, 0, 0, 0, 0, 0, .shadowed⟩,
  ⟨"ETH_MDIO_MAP", 0x68, 1, 0, 1, 0, 0xffff, 0, 0, 0, 0, 0, .shadowed⟩,
  ⟨"ETH_RXRING", 0x6c, 1, 0, 1, 0, 0xfffff0ff, 0, 0, 0, 0, 0x20, .plain⟩,
  ⟨"ETH_RXIDX", 0x70, 1, 0, 1, 0, 0xff, 0, 0, 0, 0, 0, .plain⟩,
  ⟨"ETH_TXRING", 0x74, 1, 0, 1, 0, 0xfffff0ff, 0, 0, 0, 0, 0x20, .plain⟩,
  ⟨"ETH_TXIDX", 0x78, 1, 0, 1, 0, 0xff, 0, 0, 0, 0, 0, .plain⟩,
  ⟨"ETH_RXCNT", 0x7c, 1, 0, 1, 0, 0, 0, 0, 0, 0, 0, .plain⟩,
  ⟨"ETH_TXCNT", 0x80, 1, 0, 1, 0, 0, 0, 0, 0, 0, 0, .plain⟩,
  ⟨"ETH_GCL_CFG", 0x84, 1, 0, 1, 0, 0x11f, 0, 0, 0, 0, 0x1, .shadowed⟩,
  ⟨"ETH_GCLi", 0xc0, 16, 0x4, 1, 0, 0xffffffff, 0, 0, 0, 0, 0, .shadowed⟩,
  ⟨"ETH_PTP_CFG", 0x100, 1, 0, 1, 0, 0x1ff3, 0, 0, 0, 0, 0x50, .shadowed⟩,
  ⟨"ETH_PTP_NS_LO", 0x104, 1, 0, 1, 0, 0, 0, 0, 0, 0, 0, .plain⟩,
  ⟨"ETH_PTP_NS_HI", 0x108, 1, 0, 1, 0, 0, 0, 0, 0, 0, 0, .plain⟩,
  ⟨"ETH_PTP_OFS", 0x10c, 1, 0, 1, 0, 0, 0, 0, 0, 0, 0, .plain⟩,
  ⟨"ETH_PTP_PDLY", 0x110, 1, 0, 1, 0, 0, 0, 0, 0, 0, 0, .plain⟩]

/-- Rows of the ETH page (16_ethernet_skovesafe.md). -/
def rowsETH_1 : List RegRow := [
  ⟨"ETH_PTP_RATE", 0x114, 1, 0, 1, 0, 0, 0, 0, 0, 0, 0, .plain⟩,
  ⟨"ETH_TBD_CFG", 0x118, 1, 0, 1, 0, 0x10fffff, 0, 0, 0, 0, 0x1020064, .shadowed⟩,
  ⟨"ETH_TBD_STAT", 0x11c, 1, 0, 1, 0, 0, 0x300, 0, 0, 0, 0, .plain⟩,
  ⟨"ETH_T0_ERR", 0x120, 1, 0, 1, 0, 0, 0, 0, 0, 0, 0, .plain⟩,
  ⟨"ETH_T0_STAMP_LO", 0x124, 1, 0, 1, 0, 0, 0, 0, 0, 0, 0, .plain⟩,
  ⟨"ETH_T0_STAMP_HI", 0x128, 1, 0, 1, 0, 0, 0, 0, 0, 0, 0, .plain⟩]

/-- All rows of the ETH page. -/
def rowsETH : List RegRow := rowsETH_0 ++ rowsETH_1

/-- Rows of the SSE page (16_ethernet_skovesafe.md). -/
def rowsSSE : List RegRow := [
  ⟨"SSE_CFG", 0x40, 1, 0, 1, 0, 0xffff, 0, 0, 0, 0, 0x14, .shadowed⟩,
  ⟨"SSE_WD_LO", 0x44, 1, 0, 1, 0, 0, 0, 0, 0, 0, 0, .plain⟩,
  ⟨"SSE_WD_HI", 0x48, 1, 0, 1, 0, 0, 0, 0, 0, 0, 0, .plain⟩,
  ⟨"SSE_ERR", 0x4c, 1, 0, 1, 0, 0, 0, 0, 0, 0, 0, .plain⟩,
  ⟨"SSE_UNK", 0x50, 1, 0, 1, 0, 0, 0, 0, 0, 0, 0, .plain⟩,
  ⟨"SSE_PATH", 0x54, 1, 0, 1, 0, 0, 0, 0, 0, 0, 0, .plain⟩,
  ⟨"SSE_Ck_CFG", 0x100, 64, 0x40, 1, 0, 0xf73ff47f, 0, 0, 0, 0, 0x81000, .shadowed⟩,
  ⟨"SSE_Ck_CID", 0x104, 64, 0x40, 1, 0, 0x7fffff, 0, 0, 0, 0, 0, .shadowed⟩,
  ⟨"SSE_Ck_VID", 0x108, 64, 0x40, 1, 0, 0xffffffff, 0, 0, 0, 0, 0, .shadowed⟩,
  ⟨"SSE_Ck_TIM", 0x10c, 64, 0x40, 1, 0, 0xffffffff, 0, 0, 0, 0, 0xc805dc, .shadowed⟩,
  ⟨"SSE_Ck_OFS", 0x110, 64, 0x40, 1, 0, 0x1ffff, 0, 0, 0, 0, 0, .shadowed⟩,
  ⟨"SSE_Ck_BUFA", 0x114, 64, 0x40, 1, 0, 0xffffffff, 0, 0, 0, 0, 0, .shadowed⟩,
  ⟨"SSE_Ck_BUFB", 0x118, 64, 0x40, 1, 0, 0xffffffff, 0, 0, 0, 0, 0, .shadowed⟩,
  ⟨"SSE_Ck_SUB", 0x11c, 64, 0x40, 1, 0, 0xffffffff, 0, 0, 0, 0, 0, .shadowed⟩,
  ⟨"SSE_Ck_CTL", 0x120, 64, 0x40, 1, 0, 0, 0, 0x1, 0, 0, 0, .plain⟩,
  ⟨"SSE_Ck_SEQ", 0x124, 64, 0x40, 1, 0, 0, 0, 0, 0, 0, 0, .plain⟩,
  ⟨"SSE_Ck_AGE", 0x128, 64, 0x40, 1, 0, 0, 0, 0, 0, 0, 0, .plain⟩,
  ⟨"SSE_Ck_STAT", 0x12c, 64, 0x40, 1, 0, 0, 0xf80, 0, 0, 0, 0, .plain⟩,
  ⟨"SSE_Ck_CNT0", 0x130, 64, 0x40, 1, 0, 0, 0, 0, 0, 0, 0, .plain⟩,
  ⟨"SSE_Ck_CNT1", 0x134, 64, 0x40, 1, 0, 0, 0, 0, 0, 0, 0, .plain⟩]

/-- Rows of the HSP page (19_security_lifecycle.md). -/
def rowsHSP : List RegRow := [
  ⟨"HSP_CFG", 0x40, 1, 0, 1, 0, 0x1f, 0, 0, 0, 0, 0x10, .shadowed⟩,
  ⟨"HSP_STAT", 0x44, 1, 0, 1, 0, 0, 0, 0, 0, 0, 0, .plain⟩,
  ⟨"HSP_INTSRC0", 0x48, 1, 0, 1, 0, 0, 0, 0, 0, 0, 0, .plain⟩,
  ⟨"HSP_INTSRC1", 0x4c, 1, 0, 1, 0, 0, 0, 0, 0, 0, 0, .plain⟩]

/-- Rows of the XSP page (19_security_lifecycle.md). -/
def rowsXSP : List RegRow := [
  ⟨"XSP_CFG", 0x40, 1, 0, 1, 0, 0x13f, 0, 0, 0, 0, 0x30, .shadowed⟩,
  ⟨"XSP_STAT", 0x44, 1, 0, 1, 0, 0, 0, 0, 0, 0, 0, .plain⟩,
  ⟨"XSP_BANK", 0x48, 1, 0, 1, 0, 0x1, 0, 0, 0, 0, 0, .plain⟩,
  ⟨"XSP_OPC", 0x4c, 1, 0, 1, 0, 0xffffffff, 0, 0, 0, 0, 0, .shadowed⟩,
  ⟨"XSP_LAT", 0x50, 1, 0, 1, 0, 0x1f, 0, 0, 0, 0, 0x14, .shadowed⟩,
  ⟨"XSP_TMO", 0x54, 1, 0, 1, 0, 0xffff, 0, 0, 0, 0, 0x1388, .shadowed⟩,
  ⟨"XSP_WP0", 0x58, 1, 0, 1, 0, 0xffffffff, 0, 0, 0, 0, 0x120012, .plain⟩,
  ⟨"XSP_WP1", 0x5c, 1, 0, 1, 0, 0xffffffff, 0, 0, 0, 0, 0x1, .plain⟩,
  ⟨"XSP_CMD", 0x60, 1, 0, 1, 0, 0x7000000, 0, 0x40000000, 0, 0, 0, .plain⟩,
  ⟨"XSP_CMD_FADDR", 0x64, 1, 0, 1, 0, 0x1fffffff, 0, 0, 0, 0, 0, .plain⟩,
  ⟨"XSP_CMD_BUF", 0x68, 1, 0, 1, 0, 0xffffffff, 0, 0, 0, 0, 0, .plain⟩,
  ⟨"XSP_CMD_LEN", 0x6c, 1, 0, 1, 0, 0x1ffff, 0, 0, 0, 0, 0, .plain⟩,
  ⟨"XSP_CMD_RES", 0x70, 1, 0, 1, 0, 0, 0, 0, 0, 0, 0, .plain⟩,
  ⟨"XSP_SIZE", 0x74, 1, 0, 1, 0, 0, 0, 0, 0, 0, 0, .plain⟩]

/-- The rows of the page with index `p` (R32); none where no block sits. -/
def pageRows (p : Nat) : List RegRow :=
  match p with
  | 0x0 => rowsCPR
  | 0x1 => rowsSEC
  | 0x2 => rowsSIS
  | 0x3 => rowsRDN
  | 0x4 => rowsMLB
  | 0x5 => rowsLAT
  | 0x6 => rowsREC
  | 0x7 => rowsTST
  | 0x10 => rowsPOS
  | 0x11 => rowsMAP
  | 0x12 => rowsPRF
  | 0x13 => rowsSTQ
  | 0x14 => rowsPST
  | 0x15 => rowsDOR
  | 0x16 => rowsVIS
  | 0x18 => rowsTCE
  | 0x19 => rowsTCE
  | 0x20 => rowsCAN
  | 0x21 => rowsCAN
  | 0x22 => rowsCAN
  | 0x23 => rowsCAN
  | 0x24 => rowsETH
  | 0x25 => rowsETH
  | 0x26 => rowsSSE
  | 0x27 => rowsHSP
  | 0x28 => rowsXSP
  | _ => []

end Sys2Proof.Machine
end

