-- ==== Sys2Proof/Machine/Regs.lean ====
section
/-! DEFINITION. The addresses of the registers, under the names the register pages of the spec give them,
and the bit fields the meanings use. A register whose name holds an index letter takes that index; a register
of a page that stands more than once (TCE, CAN, ETH) takes the instance first. A shadow copy stands 0x8000
above its active register (R33). -/

namespace Sys2Proof.Machine

/-- Base address of the register page with index `p` (R32, R350: page index = (base - 0x4000_0000) >> 16). -/
abbrev pageBase (p : Nat) : Nat := 0x40000000 + 0x10000 * p

/-- Page index of CPR (R32). -/
abbrev PG_CPR : Nat := 0x0
/-- Page index of SEC (R32). -/
abbrev PG_SEC : Nat := 0x1
/-- Page index of SIS (R32). -/
abbrev PG_SIS : Nat := 0x2
/-- Page index of RDN (R32). -/
abbrev PG_RDN : Nat := 0x3
/-- Page index of MLB (R32). -/
abbrev PG_MLB : Nat := 0x4
/-- Page index of LAT (R32). -/
abbrev PG_LAT : Nat := 0x5
/-- Page index of REC (R32). -/
abbrev PG_REC : Nat := 0x6
/-- Page index of TST (R32). -/
abbrev PG_TST : Nat := 0x7
/-- Page index of POS (R32). -/
abbrev PG_POS : Nat := 0x10
/-- Page index of MAP (R32). -/
abbrev PG_MAP : Nat := 0x11
/-- Page index of PRF (R32). -/
abbrev PG_PRF : Nat := 0x12
/-- Page index of STQ (R32). -/
abbrev PG_STQ : Nat := 0x13
/-- Page index of PST (R32). -/
abbrev PG_PST : Nat := 0x14
/-- Page index of DOR (R32). -/
abbrev PG_DOR : Nat := 0x15
/-- Page index of VIS (R32). -/
abbrev PG_VIS : Nat := 0x16
/-- Page index of TCE instance `k` (R32). -/
abbrev PG_TCE (k : Nat) : Nat := 0x18 + k
/-- Page index of CAN instance `k` (R32). -/
abbrev PG_CAN (k : Nat) : Nat := 0x20 + k
/-- Page index of ETH instance `k` (R32). -/
abbrev PG_ETH (k : Nat) : Nat := 0x24 + k
/-- Page index of SSE (R32). -/
abbrev PG_SSE : Nat := 0x26
/-- Page index of HSP (R32). -/
abbrev PG_HSP : Nat := 0x27
/-- Page index of XSP (R32). -/
abbrev PG_XSP : Nat := 0x28

/-! The common header (R38), by page index. -/
abbrev BLK_ID (p : Nat) : Nat := pageBase p + 0x0
abbrev BLK_CAP (p : Nat) : Nat := pageBase p + 0x4
abbrev BLK_CTL (p : Nat) : Nat := pageBase p + 0x8
abbrev BLK_CTL_SRST (p : Nat) : Field := ⟨BLK_CTL p, 3, 1⟩
abbrev BLK_CTL_QREQ (p : Nat) : Field := ⟨BLK_CTL p, 2, 1⟩
abbrev BLK_CTL_BOLT (p : Nat) : Field := ⟨BLK_CTL p, 1, 1⟩
abbrev BLK_CTL_EN (p : Nat) : Field := ⟨BLK_CTL p, 0, 1⟩
abbrev BLK_STAT (p : Nat) : Nat := pageBase p + 0xc
abbrev BLK_STAT_HPEND (p : Nat) : Field := ⟨BLK_STAT p, 4, 1⟩
abbrev BLK_STAT_FAULT (p : Nat) : Field := ⟨BLK_STAT p, 3, 1⟩
abbrev BLK_STAT_BOLTED (p : Nat) : Field := ⟨BLK_STAT p, 2, 1⟩
abbrev BLK_STAT_QUIET (p : Nat) : Field := ⟨BLK_STAT p, 1, 1⟩
abbrev BLK_STAT_RUN (p : Nat) : Field := ⟨BLK_STAT p, 0, 1⟩
abbrev BLK_IRQ (p : Nat) : Nat := pageBase p + 0x10
abbrev BLK_IRQ_FLT (p : Nat) : Field := ⟨BLK_IRQ p, 31, 1⟩
abbrev BLK_IRQ_HDONE (p : Nat) : Field := ⟨BLK_IRQ p, 30, 1⟩
abbrev BLK_IRQ_EN (p : Nat) : Nat := pageBase p + 0x14
abbrev BLK_IRQ_ROUTE (p : Nat) : Nat := pageBase p + 0x18
abbrev BLK_IRQ_ROUTE_AGT (p : Nat) : Field := ⟨BLK_IRQ_ROUTE p, 0, 8⟩
abbrev BLK_HINGE (p : Nat) : Nat := pageBase p + 0x1c
abbrev BLK_HINGE_CANCEL (p : Nat) : Field := ⟨BLK_HINGE p, 8, 1⟩
abbrev BLK_HINGE_GROUP (p : Nat) : Field := ⟨BLK_HINGE p, 4, 2⟩
abbrev BLK_HINGE_SYNC (p : Nat) : Field := ⟨BLK_HINGE p, 3, 1⟩
abbrev BLK_HINGE_POINT (p : Nat) : Field := ⟨BLK_HINGE p, 1, 2⟩
abbrev BLK_HINGE_SWAP (p : Nat) : Field := ⟨BLK_HINGE p, 0, 1⟩
abbrev BLK_HINGE_CNT (p : Nat) : Nat := pageBase p + 0x20
abbrev BLK_LOCK (p : Nat) : Nat := pageBase p + 0x24
abbrev BLK_LOCK_SISONLY (p : Nat) : Field := ⟨BLK_LOCK p, 1, 1⟩
abbrev BLK_LOCK_LOCK (p : Nat) : Field := ⟨BLK_LOCK p, 0, 1⟩
abbrev BLK_FAULT (p : Nat) : Nat := pageBase p + 0x28
abbrev BLK_FAULT_FKW (p : Nat) : Field := ⟨BLK_FAULT p, 27, 1⟩
abbrev BLK_FAULT_FAGENT (p : Nat) : Field := ⟨BLK_FAULT p, 24, 3⟩
abbrev BLK_FAULT_COMMON (p : Nat) : Field := ⟨BLK_FAULT p, 0, 6⟩
abbrev BLK_FAULT_SRSTSEQ (p : Nat) : Field := ⟨BLK_FAULT p, 5, 1⟩
abbrev BLK_FAULT_BOLTSEQ (p : Nat) : Field := ⟨BLK_FAULT p, 4, 1⟩
abbrev BLK_FAULT_HREJ (p : Nat) : Field := ⟨BLK_FAULT p, 3, 1⟩
abbrev BLK_FAULT_LOCKW (p : Nat) : Field := ⟨BLK_FAULT p, 2, 1⟩
abbrev BLK_FAULT_UNDEF (p : Nat) : Field := ⟨BLK_FAULT p, 0, 1⟩
abbrev BLK_TEST (p : Nat) : Nat := pageBase p + 0x2c
abbrev BLK_TEST_PAT (p : Nat) : Field := ⟨BLK_TEST p, 8, 8⟩
abbrev BLK_TEST_FAIL (p : Nat) : Field := ⟨BLK_TEST p, 3, 1⟩
abbrev BLK_TEST_PASS (p : Nat) : Field := ⟨BLK_TEST p, 2, 1⟩
abbrev BLK_TEST_BUSY (p : Nat) : Field := ⟨BLK_TEST p, 1, 1⟩
abbrev BLK_TEST_START (p : Nat) : Field := ⟨BLK_TEST p, 0, 1⟩

/-! CPR page (03_clocks_power_reset.md). -/
abbrev CPR_STRAP : Nat := 0x40000040
abbrev CPR_STRAP_UNIT_AB : Field := ⟨CPR_STRAP, 2, 1⟩
abbrev CPR_STRAP_ROLE : Field := ⟨CPR_STRAP, 0, 2⟩
abbrev CPR_RST_CAUSE : Nat := 0x40000044
abbrev CPR_RST_CAUSE_HELD : Field := ⟨CPR_RST_CAUSE, 7, 1⟩
abbrev CPR_RST_CAUSE_KEYWAY : Field := ⟨CPR_RST_CAUSE, 6, 1⟩
abbrev CPR_RST_CAUSE_LIFECYC : Field := ⟨CPR_RST_CAUSE, 5, 1⟩
abbrev CPR_RST_CAUSE_WARM : Field := ⟨CPR_RST_CAUSE, 4, 1⟩
abbrev CPR_RST_CAUSE_NRST : Field := ⟨CPR_RST_CAUSE, 3, 1⟩
abbrev CPR_RST_CAUSE_SUPMON : Field := ⟨CPR_RST_CAUSE, 2, 1⟩
abbrev CPR_RST_CAUSE_POR : Field := ⟨CPR_RST_CAUSE, 0, 1⟩
abbrev CPR_RST_REQ : Nat := 0x40000048
abbrev CPR_AGT_RST : Nat := 0x4000004c
abbrev CPR_AGT_RST_AGT : Field := ⟨CPR_AGT_RST, 1, 7⟩
abbrev CPR_RST_HOLD : Nat := 0x40000050
abbrev CPR_RST_HOLD_HOLD_T : Field := ⟨CPR_RST_HOLD, 0, 24⟩
abbrev CPR_WIPE_STAT : Nat := 0x40000054
abbrev CPR_WIPE_STAT_BUSY : Field := ⟨CPR_WIPE_STAT, 31, 1⟩
abbrev CPR_WIPE_STAT_FAIL : Field := ⟨CPR_WIPE_STAT, 16, 6⟩
abbrev CPR_WIPE_STAT_DONE : Field := ⟨CPR_WIPE_STAT, 0, 6⟩
abbrev CPR_CLK_EN : Nat := 0x40000058
abbrev CPR_CLK_EN_VIS : Field := ⟨CPR_CLK_EN, 8, 1⟩
abbrev CPR_CLK_EN_BUS : Field := ⟨CPR_CLK_EN, 7, 1⟩
abbrev CPR_CLK_EN_NET : Field := ⟨CPR_CLK_EN, 6, 1⟩
abbrev CPR_CLK_EN_TCE : Field := ⟨CPR_CLK_EN, 3, 1⟩
abbrev CPR_CLK_EN_APP : Field := ⟨CPR_CLK_EN, 2, 1⟩
abbrev CPR_CLK_STAT : Nat := 0x4000005c
abbrev CPR_CLK_STAT_REF_OK : Field := ⟨CPR_CLK_STAT, 25, 1⟩
abbrev CPR_CLK_STAT_XTAL_OK : Field := ⟨CPR_CLK_STAT, 24, 1⟩
abbrev CPR_CLK_STAT_LOCK : Field := ⟨CPR_CLK_STAT, 16, 4⟩
abbrev CPR_CLK_STAT_RUN : Field := ⟨CPR_CLK_STAT, 0, 9⟩
abbrev CPR_CLK_DIV : Nat := 0x40000060
abbrev CPR_CLK_DIV_APP_DIV : Field := ⟨CPR_CLK_DIV, 0, 2⟩
abbrev CPR_CLKMON : Nat := 0x40000064
abbrev CPR_CLKMON_XTALFAIL : Field := ⟨CPR_CLKMON, 17, 1⟩
abbrev CPR_CLKMON_REFLOSS : Field := ⟨CPR_CLKMON, 16, 1⟩
abbrev CPR_CLKMON_TRIP : Field := ⟨CPR_CLKMON, 0, 9⟩
abbrev CPR_PARK : Nat := 0x40000068
abbrev CPR_PARK_PAGE : Field := ⟨CPR_PARK, 16, 6⟩
abbrev CPR_PARK_TMO : Field := ⟨CPR_PARK, 9, 1⟩
abbrev CPR_PARK_ABORT : Field := ⟨CPR_PARK, 8, 1⟩
abbrev CPR_PARK_REQ : Field := ⟨CPR_PARK, 0, 1⟩
abbrev CPR_WAKE_EN : Nat := 0x4000006c
abbrev CPR_WAKE_EN_SRC : Field := ⟨CPR_WAKE_EN, 0, 9⟩
abbrev CPR_WAKE_EN_CANRX : Field := ⟨CPR_WAKE_EN, 9, 1⟩
abbrev CPR_WAKE_SRC : Nat := 0x40000070
abbrev CPR_WAKE_SRC_FIRST : Field := ⟨CPR_WAKE_SRC, 16, 4⟩
abbrev CPR_WAKE_SRC_SRC : Field := ⟨CPR_WAKE_SRC, 0, 9⟩
abbrev CPR_WAKE_DIN : Nat := 0x40000074
abbrev CPR_PW_CFG : Nat := 0x40000078
abbrev CPR_PW_CFG_LIMIT : Field := ⟨CPR_PW_CFG, 16, 16⟩
abbrev CPR_PW_CFG_PERIOD : Field := ⟨CPR_PW_CFG, 8, 8⟩
abbrev CPR_PW_CFG_DZ_EN : Field := ⟨CPR_PW_CFG, 2, 1⟩
abbrev CPR_PW_CFG_EN : Field := ⟨CPR_PW_CFG, 0, 1⟩
abbrev CPR_PW_CFG_SRC : Field := ⟨CPR_PW_CFG, 1, 1⟩
abbrev CPR_PW_CFG_DZ_IDX : Field := ⟨CPR_PW_CFG, 3, 5⟩
abbrev CPR_PW_STAT : Nat := 0x4000007c
abbrev CPR_PW_STAT_MOVED : Field := ⟨CPR_PW_STAT, 16, 16⟩
abbrev CPR_PW_STAT_TIMER : Field := ⟨CPR_PW_STAT, 2, 1⟩
abbrev CPR_PW_STAT_DZ : Field := ⟨CPR_PW_STAT, 1, 1⟩
abbrev CPR_PW_STAT_MOVE : Field := ⟨CPR_PW_STAT, 0, 1⟩
abbrev CPR_OPTIME_LO : Nat := 0x40000080
abbrev CPR_OPTIME_HI : Nat := 0x40000084
abbrev CPR_HINGE_FIRE : Nat := 0x40000088
abbrev CPR_SUPMON : Nat := 0x4000008c
abbrev CPR_RETAIN (n : Nat) : Nat := 0x40000090 + 0x4 * n
abbrev PLIC_PRIO (n : Nat) : Nat := 0x40004000 + 0x4 * n
abbrev PLIC_PRIO_PRIO (n : Nat) : Field := ⟨PLIC_PRIO n, 0, 3⟩
abbrev PLIC_PEND (n : Nat) : Nat := 0x40004200 + 0x4 * n
abbrev PLIC_EN (n m : Nat) : Nat := 0x40004400 + 0x10 * n + 0x4 * m
abbrev PLIC_THR (n : Nat) : Nat := 0x40005000 + 0x8 * n
abbrev PLIC_THR_THR (n : Nat) : Field := ⟨PLIC_THR n, 0, 3⟩
abbrev PLIC_CLAIM (n : Nat) : Nat := 0x40005004 + 0x8 * n

/-! SEC page (19_security_lifecycle.md). -/
abbrev SEC_LCS : Nat := 0x40010040
abbrev SEC_OTP_OPT : Nat := 0x40010044
abbrev SEC_DEVUID (n : Nat) : Nat := 0x40010048 + 0x4 * n
abbrev SEC_BOOT : Nat := 0x40010058
abbrev SEC_BOOT_FALLBACK : Field := ⟨SEC_BOOT, 31, 1⟩
abbrev SEC_BOOT_SLOT : Field := ⟨SEC_BOOT, 30, 1⟩
abbrev SEC_BOOT_FAILA : Field := ⟨SEC_BOOT, 16, 8⟩
abbrev SEC_BOOT_FAILB : Field := ⟨SEC_BOOT, 8, 8⟩
abbrev SEC_SVN : Nat := 0x4001005c
abbrev SEC_SVN_RUN : Field := ⟨SEC_SVN, 8, 8⟩
abbrev SEC_KS : Nat := 0x40010060
abbrev SEC_KS_WRAPOK : Field := ⟨SEC_KS, 8, 1⟩
abbrev SEC_ORD_ADDR : Nat := 0x40010064
abbrev SEC_ORD_CTL : Nat := 0x40010068
abbrev SEC_ORD_CTL_BUSY : Field := ⟨SEC_ORD_CTL, 31, 1⟩
abbrev SEC_ORD_CTL_KIND : Field := ⟨SEC_ORD_CTL, 1, 1⟩
abbrev SEC_ORD_NONCE : Nat := 0x4001006c
abbrev SEC_ORD_RES : Nat := 0x40010070
abbrev SEC_ORD_RES_VALID : Field := ⟨SEC_ORD_RES, 31, 1⟩
abbrev SEC_MAP_CMD : Nat := 0x40010074
abbrev SEC_MAP_CMD_BUSY : Field := ⟨SEC_MAP_CMD, 31, 1⟩
abbrev SEC_MAP_CMD_OP : Field := ⟨SEC_MAP_CMD, 24, 2⟩
abbrev SEC_MAP_CMD_SLOT : Field := ⟨SEC_MAP_CMD, 16, 7⟩
abbrev SEC_MAP_CMD_PAGE : Field := ⟨SEC_MAP_CMD, 0, 10⟩
abbrev SEC_MAP_TRL : Nat := 0x40010078
abbrev SEC_MAP_DST : Nat := 0x4001007c
abbrev SEC_MAP_RES : Nat := 0x40010080
abbrev SEC_MAP_RES_VALID : Field := ⟨SEC_MAP_RES, 31, 1⟩
abbrev SEC_POOL_AUTH (n : Nat) : Nat := 0x40010084 + 0x4 * n
abbrev SEC_SKX_CTL : Nat := 0x40010094
abbrev SEC_SKX_CTL_BUSY : Field := ⟨SEC_SKX_CTL, 31, 1⟩
abbrev SEC_SKX_CTL_OP : Field := ⟨SEC_SKX_CTL, 24, 2⟩
abbrev SEC_SKX_CTL_RES : Field := ⟨SEC_SKX_CTL, 0, 8⟩
abbrev SEC_SKX_ADDR : Nat := 0x40010098
abbrev SEC_KW_STAT : Nat := 0x4001009c
abbrev SEC_KW_STAT_OPEN : Field := ⟨SEC_KW_STAT, 31, 1⟩
abbrev SEC_KW_STAT_DENIED : Field := ⟨SEC_KW_STAT, 9, 1⟩
abbrev SEC_KW_STAT_PERM : Field := ⟨SEC_KW_STAT, 0, 5⟩
abbrev SEC_TRNG : Nat := 0x400100a0
abbrev SEC_DAK_PUB (n : Nat) : Nat := 0x40010100 + 0x4 * n

/-! SIS page (13_safety_island.md). -/
abbrev SIS_MODE : Nat := 0x40020040
abbrev SIS_MODE_PREV : Field := ⟨SIS_MODE, 16, 4⟩
abbrev SIS_MODE_STBY : Field := ⟨SIS_MODE, 8, 1⟩
abbrev SIS_MODE_CUR : Field := ⟨SIS_MODE, 0, 4⟩
abbrev SIS_MODE_SET : Nat := 0x40020044
abbrev SIS_CAP_RATED : Nat := 0x40020048
abbrev SIS_CAP_INSP : Nat := 0x4002004c
abbrev SIS_CAP_RESC : Nat := 0x40020050
abbrev SIS_CAP_FIRE : Nat := 0x40020054
abbrev SIS_CAP_LEARN : Nat := 0x40020058
abbrev SIS_CAP_SOLO : Nat := 0x4002005c
abbrev SIS_CAP_DEG : Nat := 0x40020060
abbrev SIS_SS_DECEL : Nat := 0x40020064
abbrev SIS_SS_MARGIN : Nat := 0x40020068
abbrev SIS_SS_CFG : Nat := 0x4002006c
abbrev SIS_SS_CFG_PARK_IDLE : Field := ⟨SIS_SS_CFG, 16, 16⟩
abbrev SIS_SS_CFG_SS_REPEAT : Field := ⟨SIS_SS_CFG, 0, 4⟩
abbrev SIS_OUT_ARM : Nat := 0x40020070
abbrev SIS_OUT_ARM_SRL : Field := ⟨SIS_OUT_ARM, 4, 4⟩
abbrev SIS_OUT_ARM_DLK1 : Field := ⟨SIS_OUT_ARM, 3, 1⟩
abbrev SIS_OUT_ARM_DLK0 : Field := ⟨SIS_OUT_ARM, 2, 1⟩
abbrev SIS_OUT_ARM_BRK : Field := ⟨SIS_OUT_ARM, 1, 1⟩
abbrev SIS_OUT_ARM_STO : Field := ⟨SIS_OUT_ARM, 0, 1⟩
abbrev SIS_OUT_REQ : Nat := 0x40020074
abbrev SIS_OUT_REQ_UNLOCK1 : Field := ⟨SIS_OUT_REQ, 3, 1⟩
abbrev SIS_OUT_REQ_UNLOCK0 : Field := ⟨SIS_OUT_REQ, 2, 1⟩
abbrev SIS_OUT_REQ_LIFT : Field := ⟨SIS_OUT_REQ, 1, 1⟩
abbrev SIS_OUT_REQ_DRIVE : Field := ⟨SIS_OUT_REQ, 0, 1⟩
abbrev SIS_OUT_STAT : Nat := 0x40020078
abbrev SIS_OUT_STAT_RB : Field := ⟨SIS_OUT_STAT, 16, 10⟩
abbrev SIS_OUT_STAT_OUT : Field := ⟨SIS_OUT_STAT, 0, 10⟩
abbrev SIS_OUT_HOLD : Nat := 0x4002007c
abbrev SIS_OUT_CFG : Nat := 0x40020080
abbrev SIS_OUT_CFG_BRK_LAG : Field := ⟨SIS_OUT_CFG, 0, 6⟩
abbrev SIS_BOLT_G0 : Nat := 0x40020084
abbrev SIS_BOLT_G0_PAGE : Field := ⟨SIS_BOLT_G0, 0, 32⟩
abbrev SIS_BOLT_G1 : Nat := 0x40020088
abbrev SIS_BOLT_G1_PAGE : Field := ⟨SIS_BOLT_G1, 0, 9⟩
abbrev SIS_SIN_RAW : Nat := 0x4002008c
abbrev SIS_SIN : Nat := 0x40020090
abbrev SIS_SIN_CFG : Nat := 0x40020094
abbrev SIS_SIN_CFG_PAIR : Field := ⟨SIS_SIN_CFG, 0, 8⟩
abbrev SIS_SIN_FILT (n : Nat) : Nat := 0x40020098 + 0x4 * n
abbrev SIS_TP_CFG : Nat := 0x400200a8
abbrev SIS_TP_EN : Nat := 0x400200ac
abbrev SIS_TP_EN_EN : Field := ⟨SIS_TP_EN, 0, 16⟩
abbrev SIS_SIN_DIAG : Nat := 0x400200b0
abbrev SIS_SIN_DIAG_DISC : Field := ⟨SIS_SIN_DIAG, 16, 8⟩
abbrev SIS_SIN_DIAG_TPFAIL : Field := ⟨SIS_SIN_DIAG, 0, 16⟩
abbrev SIS_COND_MAP : Nat := 0x400200b4
abbrev SIS_COND : Nat := 0x400200b8
abbrev SIS_CARCONN : Nat := 0x400200bc
abbrev SIS_CARCONN_CONN : Field := ⟨SIS_CARCONN, 0, 6⟩
abbrev SIS_MENC : Nat := 0x400200c0
abbrev SIS_MENC_SRC : Field := ⟨SIS_MENC, 0, 4⟩
abbrev SIS_MGAIN : Nat := 0x400200c4
abbrev SIS_SPDCFG : Nat := 0x400200c8
abbrev SIS_SPDCFG_SPD_TMAX : Field := ⟨SIS_SPDCFG, 16, 10⟩
abbrev SIS_SPDCFG_SPD_WIN : Field := ⟨SIS_SPDCFG, 0, 16⟩
abbrev SIS_WSPD : Nat := 0x400200cc
abbrev SIS_WSPD_C : Nat := 0x400200d0
abbrev SIS_WPOS : Nat := 0x400200d4
abbrev SIS_WZONE : Nat := 0x400200d8
abbrev SIS_WZONE_VALID : Field := ⟨SIS_WZONE, 31, 1⟩
abbrev SIS_WZONE_IN : Field := ⟨SIS_WZONE, 16, 1⟩
abbrev SIS_WZONE_LANDING : Field := ⟨SIS_WZONE, 0, 8⟩
abbrev SIS_ADVV : Nat := 0x400200dc
abbrev SIS_SSWD_LO : Nat := 0x400200e0
abbrev SIS_SSWD_HI : Nat := 0x400200e4
abbrev SIS_CARSAFE : Nat := 0x400200e8
abbrev SIS_FM_STAT : Nat := 0x400200f0
abbrev SIS_FM_STAT_BUSY : Field := ⟨SIS_FM_STAT, 31, 1⟩
abbrev SIS_FM_STAT_CURCLASS : Field := ⟨SIS_FM_STAT, 24, 3⟩
abbrev SIS_FM_STAT_QOVFCNT : Field := ⟨SIS_FM_STAT, 8, 8⟩
abbrev SIS_FM_STAT_LEVEL : Field := ⟨SIS_FM_STAT, 0, 6⟩
abbrev SIS_FM_CUR_W0 : Nat := 0x400200f4
abbrev SIS_FM_CUR_W0_VALID : Field := ⟨SIS_FM_CUR_W0, 31, 1⟩
abbrev SIS_FM_CUR_W0_CLASS : Field := ⟨SIS_FM_CUR_W0, 24, 3⟩
abbrev SIS_FM_CUR_W0_SRC : Field := ⟨SIS_FM_CUR_W0, 16, 6⟩
abbrev SIS_FM_CUR_W0_CAUSE : Field := ⟨SIS_FM_CUR_W0, 8, 5⟩
abbrev SIS_FM_CUR_W1 : Nat := 0x400200f8
abbrev SIS_FM_DONE : Nat := 0x400200fc
abbrev SIS_FM_CFG : Nat := 0x40020100
abbrev SIS_FM_CFG_RECSTOP : Field := ⟨SIS_FM_CFG, 0, 1⟩
abbrev SIS_DB_STAT : Nat := 0x40020104
abbrev SIS_DB_STAT_SET : Field := ⟨SIS_DB_STAT, 31, 1⟩
abbrev SIS_DB_STAT_WORDA : Field := ⟨SIS_DB_STAT, 30, 1⟩
abbrev SIS_DB_STAT_WORDB : Field := ⟨SIS_DB_STAT, 29, 1⟩
abbrev SIS_DB_STAT_MIRROR : Field := ⟨SIS_DB_STAT, 28, 1⟩
abbrev SIS_DB_STAT_CAUSE : Field := ⟨SIS_DB_STAT, 16, 8⟩
abbrev SIS_DB_STAT_RELFAIL : Field := ⟨SIS_DB_STAT, 10, 1⟩
abbrev SIS_DB_STAT_SRVOK : Field := ⟨SIS_DB_STAT, 9, 1⟩
abbrev SIS_DB_STAT_TOKOK : Field := ⟨SIS_DB_STAT, 8, 1⟩
abbrev SIS_DB_NONCE : Nat := 0x40020108
abbrev SIS_DB_REL : Nat := 0x4002010c
abbrev SIS_LS_STAT : Nat := 0x40020110
abbrev SIS_LS_STAT_CECNT : Field := ⟨SIS_LS_STAT, 0, 16⟩
abbrev SIS_WDG : Nat := 0x40020114
abbrev SIS_WDG_KICK : Nat := 0x40020118
abbrev SIS_SF_TRIP : Nat := 0x4002011c
abbrev SIS_IC_PEND (n : Nat) : Nat := 0x40020200 + 0x4 * n
abbrev SIS_IC_EN (n : Nat) : Nat := 0x40020208 + 0x4 * n
abbrev SIS_IC_CLAIM : Nat := 0x40020210
abbrev SIS_SFk_CFG (n : Nat) : Nat := 0x40020400 + 0x20 * n
abbrev SIS_SFk_CFG_EN (n : Nat) : Field := ⟨SIS_SFk_CFG n, 31, 1⟩
abbrev SIS_SFk_CFG_QEN (n : Nat) : Field := ⟨SIS_SFk_CFG n, 29, 1⟩
abbrev SIS_SFk_CFG_RMASK (n : Nat) : Field := ⟨SIS_SFk_CFG n, 25, 4⟩
abbrev SIS_SFk_CFG_CLASS (n : Nat) : Field := ⟨SIS_SFk_CFG n, 22, 3⟩
abbrev SIS_SFk_CFG_ACT (n : Nat) : Field := ⟨SIS_SFk_CFG n, 16, 6⟩
abbrev SIS_SFk_CFG_N (n : Nat) : Field := ⟨SIS_SFk_CFG n, 8, 8⟩
abbrev SIS_SFk_CFG_CMP (n : Nat) : Field := ⟨SIS_SFk_CFG n, 5, 3⟩
abbrev SIS_SFk_CFG_VAR (n : Nat) : Field := ⟨SIS_SFk_CFG n, 0, 5⟩
abbrev SIS_SFk_MODES (n : Nat) : Nat := 0x40020404 + 0x20 * n
abbrev SIS_SFk_MODES_MODES (n : Nat) : Field := ⟨SIS_SFk_MODES n, 0, 16⟩
abbrev SIS_SFk_LO (n : Nat) : Nat := 0x40020408 + 0x20 * n
abbrev SIS_SFk_HI (n : Nat) : Nat := 0x4002040c + 0x20 * n
abbrev SIS_SFk_QUAL (n : Nat) : Nat := 0x40020410 + 0x20 * n
abbrev SIS_SFk_QUAL_QMASK (n : Nat) : Field := ⟨SIS_SFk_QUAL n, 16, 16⟩
abbrev SIS_SFk_QUAL_QMATCH (n : Nat) : Field := ⟨SIS_SFk_QUAL n, 0, 16⟩
abbrev SIS_SFk_STAT (n : Nat) : Nat := 0x40020414 + 0x20 * n
abbrev SIS_SFk_STAT_TRIP (n : Nat) : Field := ⟨SIS_SFk_STAT n, 31, 1⟩
abbrev SIS_SFk_STAT_CFGERR (n : Nat) : Field := ⟨SIS_SFk_STAT n, 28, 1⟩
abbrev SIS_SFk_STAT_CLRREJ (n : Nat) : Field := ⟨SIS_SFk_STAT n, 29, 1⟩
abbrev SIS_SFk_STAT_CNT (n : Nat) : Field := ⟨SIS_SFk_STAT n, 0, 8⟩
abbrev SIS_ZNn_LO (n : Nat) : Nat := 0x40021000 + 0x8 * n
abbrev SIS_ZNn_HI (n : Nat) : Nat := 0x40021004 + 0x8 * n

/-! RDN page (14_redundancy.md). -/
abbrev RDN_CFG : Nat := 0x40030040
abbrev RDN_CFG_HB2_PATH : Field := ⟨RDN_CFG, 12, 3⟩
abbrev RDN_CFG_HB2_DIV : Field := ⟨RDN_CFG, 8, 4⟩
abbrev RDN_CFG_LOFFER : Field := ⟨RDN_CFG, 4, 2⟩
abbrev RDN_CFG_PAIRED : Field := ⟨RDN_CFG, 0, 1⟩
abbrev RDN_LEASE : Nat := 0x40030044
abbrev RDN_LEASE_SEL_T : Field := ⟨RDN_LEASE, 16, 8⟩
abbrev RDN_LEASE_GUARD : Field := ⟨RDN_LEASE, 8, 4⟩
abbrev RDN_LEASE_LEASE : Field := ⟨RDN_LEASE, 0, 5⟩
abbrev RDN_PAIRWAIT : Nat := 0x40030048
abbrev RDN_PAIRWAIT_SYNC_N : Field := ⟨RDN_PAIRWAIT, 16, 16⟩
abbrev RDN_HB2_ETH : Nat := 0x4003004c
abbrev RDN_HB2_ETH_ETYPE : Field := ⟨RDN_HB2_ETH, 0, 16⟩
abbrev RDN_HB2_CAN : Nat := 0x40030050
abbrev RDN_CMP : Nat := 0x40030054
abbrev RDN_CMP_LATE_N : Field := ⟨RDN_CMP, 16, 8⟩
abbrev RDN_CMP_IN_N : Field := ⟨RDN_CMP, 8, 8⟩
abbrev RDN_CMP_OUT_N : Field := ⟨RDN_CMP, 0, 8⟩
abbrev RDN_TOL : Nat := 0x40030058
abbrev RDN_TOL_SD_TOL : Field := ⟨RDN_TOL, 16, 16⟩
abbrev RDN_TOL_CNT_TOL : Field := ⟨RDN_TOL, 0, 16⟩
abbrev RDN_TOL_S : Nat := 0x4003005c
abbrev RDN_TOL_S_S_TOL : Field := ⟨RDN_TOL_S, 0, 16⟩
abbrev RDN_KEY : Nat := 0x40030060
abbrev RDN_KEY_HELD : Field := ⟨RDN_KEY, 31, 1⟩
abbrev RDN_KEY_SELFSEL : Field := ⟨RDN_KEY, 30, 1⟩
abbrev RDN_KEY_PEERSEL : Field := ⟨RDN_KEY, 29, 1⟩
abbrev RDN_KEY_RELEASE : Field := ⟨RDN_KEY, 24, 1⟩
abbrev RDN_STAT : Nat := 0x40030064
abbrev RDN_STAT_FAILCODE : Field := ⟨RDN_STAT, 8, 4⟩
abbrev RDN_STAT_COAST : Field := ⟨RDN_STAT, 7, 1⟩
abbrev RDN_STAT_LANEDEG : Field := ⟨RDN_STAT, 6, 1⟩
abbrev RDN_STAT_LMODE : Field := ⟨RDN_STAT, 4, 2⟩
abbrev RDN_STAT_STATE : Field := ⟨RDN_STAT, 0, 4⟩
abbrev RDN_HEALTH : Nat := 0x40030068
abbrev RDN_HEALTH_HEALTH : Field := ⟨RDN_HEALTH, 0, 10⟩
abbrev RDN_PEER_HEALTH : Nat := 0x4003006c
abbrev RDN_PEER_HEALTH_HEALTH : Field := ⟨RDN_PEER_HEALTH, 0, 10⟩
abbrev RDN_PEER : Nat := 0x40030070
abbrev RDN_PEER_VALID : Field := ⟨RDN_PEER, 31, 1⟩
abbrev RDN_PEER_KEY : Field := ⟨RDN_PEER, 30, 1⟩
abbrev RDN_PEER_RELEASE : Field := ⟨RDN_PEER, 29, 1⟩
abbrev RDN_PEER_UNIT : Field := ⟨RDN_PEER, 24, 1⟩
abbrev RDN_PEER_MODE : Field := ⟨RDN_PEER, 16, 4⟩
abbrev RDN_PEER_COMPAT : Field := ⟨RDN_PEER, 0, 16⟩
abbrev RDN_HB_AGE : Nat := 0x40030074
abbrev RDN_HB_AGE_HB2 : Field := ⟨RDN_HB_AGE, 16, 16⟩
abbrev RDN_HB_AGE_PL : Field := ⟨RDN_HB_AGE, 0, 16⟩
abbrev RDN_CMP_STAT : Nat := 0x40030078
abbrev RDN_CMP_STAT_LATE : Field := ⟨RDN_CMP_STAT, 14, 1⟩
abbrev RDN_CMP_STAT_OUTMIS : Field := ⟨RDN_CMP_STAT, 13, 1⟩
abbrev RDN_CMP_STAT_INMIS : Field := ⟨RDN_CMP_STAT, 12, 1⟩
abbrev RDN_CMP_STAT_INCLASS : Field := ⟨RDN_CMP_STAT, 0, 8⟩
abbrev RDN_MIS_CNT : Nat := 0x4003007c
abbrev RDN_MIS_CNT_OUT : Field := ⟨RDN_MIS_CNT, 16, 16⟩
abbrev RDN_MIS_CNT_IN : Field := ⟨RDN_MIS_CNT, 0, 16⟩
abbrev RDN_SPLIT : Nat := 0x40030080
abbrev RDN_SPLIT_COUNT : Field := ⟨RDN_SPLIT, 16, 16⟩
abbrev RDN_SPLIT_KIND : Field := ⟨RDN_SPLIT, 0, 3⟩
abbrev RDN_FRM_MAX : Nat := 0x40030084
abbrev RDN_FRM_MAX_MAX : Field := ⟨RDN_FRM_MAX, 16, 16⟩
abbrev RDN_FRM_MAX_WC : Field := ⟨RDN_FRM_MAX, 0, 16⟩
abbrev RDN_AUTHERR : Nat := 0x40030088
abbrev RDN_AUTHERR_CNT : Field := ⟨RDN_AUTHERR, 0, 16⟩
abbrev RDN_COMPAT : Nat := 0x4003008c
abbrev RDN_COMPAT_FORMATS : Field := ⟨RDN_COMPAT, 16, 8⟩
abbrev RDN_COMPAT_PAIRCOMPAT : Field := ⟨RDN_COMPAT, 0, 16⟩
abbrev RDN_SYNCn_BASE (n : Nat) : Nat := 0x40030100 + 0x8 * n
abbrev RDN_SYNCn_LEN (n : Nat) : Nat := 0x40030104 + 0x8 * n

/-! MLB page (17_mailboxes_latches.md). -/
abbrev MLB_WHO : Nat := 0x40040040
abbrev MLB_EPOCH0 : Nat := 0x40040044
abbrev MLB_EPOCH1 : Nat := 0x40040048
abbrev MLB_MINE : Nat := 0x4004004c
abbrev MLB_DBa (n : Nat) : Nat := 0x40040080 + 0x10 * n
abbrev MLB_DBa_SET (n : Nat) : Nat := 0x40040084 + 0x10 * n
abbrev MLB_DBa_MASK (n : Nat) : Nat := 0x40040088 + 0x10 * n
abbrev MLB_DBa_PEND (n : Nat) : Nat := 0x4004008c + 0x10 * n
abbrev MLBn_CFG (n : Nat) : Nat := 0x40040200 + 0x40 * n
abbrev MLBn_CFG_EN (n : Nat) : Field := ⟨MLBn_CFG n, 31, 1⟩
abbrev MLBn_CFG_RCV (n : Nat) : Field := ⟨MLBn_CFG n, 24, 3⟩
abbrev MLBn_CFG_SND (n : Nat) : Field := ⟨MLBn_CFG n, 16, 3⟩
abbrev MLBn_CFG_ADB (n : Nat) : Field := ⟨MLBn_CFG n, 8, 5⟩
abbrev MLBn_CFG_RDB (n : Nat) : Field := ⟨MLBn_CFG n, 0, 5⟩
abbrev MLBn_CTL (n : Nat) : Nat := 0x40040204 + 0x40 * n
abbrev MLBn_STAT (n : Nat) : Nat := 0x40040208 + 0x40 * n
abbrev MLBn_STAT_RCV_RESTARTED (n : Nat) : Field := ⟨MLBn_STAT n, 31, 1⟩
abbrev MLBn_STAT_SND_STALE (n : Nat) : Field := ⟨MLBn_STAT n, 30, 1⟩
abbrev MLBn_STAT_RD (n : Nat) : Field := ⟨MLBn_STAT n, 29, 1⟩
abbrev MLBn_STAT_EPOCH (n : Nat) : Field := ⟨MLBn_STAT n, 16, 8⟩
abbrev MLBn_STAT_STATE (n : Nat) : Field := ⟨MLBn_STAT n, 0, 2⟩
abbrev MLBn_ACK (n : Nat) : Nat := 0x4004020c + 0x40 * n
abbrev MLBn_ACK_VALID (n : Nat) : Field := ⟨MLBn_ACK n, 31, 1⟩
abbrev MLBn_ACK_EPOCH (n : Nat) : Field := ⟨MLBn_ACK n, 16, 8⟩
abbrev MLBn_ACK_CODE (n : Nat) : Field := ⟨MLBn_ACK n, 0, 8⟩
abbrev MLBn_D (n m : Nat) : Nat := 0x40040220 + 0x40 * n + 0x4 * m

/-! LAT page (17_mailboxes_latches.md). -/
abbrev LAT_HELD0 : Nat := 0x40050040
abbrev LAT_HELD1 : Nat := 0x40050044
abbrev LAT_ORPHAN0 : Nat := 0x40050048
abbrev LAT_ORPHAN1 : Nat := 0x4005004c
abbrev LAT_FREE0 : Nat := 0x40050050
abbrev LAT_FREE1 : Nat := 0x40050054
abbrev LAT_OWNi (n : Nat) : Nat := 0x40050060 + 0x4 * n
abbrev LAT_Lj (n : Nat) : Nat := 0x40050100 + 0x4 * n

/-! REC page (18_event_recorder.md). -/
abbrev REC_CFG : Nat := 0x40060040
abbrev REC_CFG_HDR_T : Field := ⟨REC_CFG, 8, 8⟩
abbrev REC_CFG_SWPROT : Field := ⟨REC_CFG, 0, 1⟩
abbrev REC_STAT : Nat := 0x40060044
abbrev REC_STAT_DEGRADED : Field := ⟨REC_STAT, 31, 1⟩
abbrev REC_STAT_BUSY : Field := ⟨REC_STAT, 30, 1⟩
abbrev REC_STAT_WALLVALID : Field := ⟨REC_STAT, 29, 1⟩
abbrev REC_STAT_WRAP_P : Field := ⟨REC_STAT, 17, 1⟩
abbrev REC_STAT_WRAP_G : Field := ⟨REC_STAT, 16, 1⟩
abbrev REC_STAT_AONCNT : Field := ⟨REC_STAT, 8, 6⟩
abbrev REC_STAT_LEVEL : Field := ⟨REC_STAT, 0, 6⟩
abbrev REC_SEQ : Nat := 0x40060048
abbrev REC_HEAD_G : Nat := 0x4006004c
abbrev REC_HEAD_P : Nat := 0x40060050
abbrev REC_PCC : Nat := 0x40060054
abbrev REC_SPARES : Nat := 0x40060058
abbrev REC_SPARES_BAD : Field := ⟨REC_SPARES, 16, 13⟩
abbrev REC_SPARES_USED : Field := ⟨REC_SPARES, 0, 13⟩
abbrev REC_LOST : Nat := 0x4006005c
abbrev REC_LOST_AONOVW : Field := ⟨REC_LOST, 16, 16⟩
abbrev REC_LOST_HWLOST : Field := ⟨REC_LOST, 0, 16⟩
abbrev REC_WALL_LO : Nat := 0x40060060
abbrev REC_WALL_HI : Nat := 0x40060064
abbrev REC_SUB_CTL : Nat := 0x40060068
abbrev REC_SUB_RES : Nat := 0x4006006c
abbrev REC_SUB_SEQ : Nat := 0x40060070
abbrev REC_RD_IDX : Nat := 0x40060074
abbrev REC_RD_ADDR : Nat := 0x40060078
abbrev REC_DBW : Nat := 0x4006007c
abbrev REC_DBW_BUSY : Field := ⟨REC_DBW, 31, 1⟩
abbrev REC_DBW_FAIL : Field := ⟨REC_DBW, 30, 1⟩
abbrev REC_DBW_CAUSE : Field := ⟨REC_DBW, 8, 8⟩
abbrev REC_SUB_D (n : Nat) : Nat := 0x40060080 + 0x4 * n
abbrev REC_AONn (n : Nat) : Nat := 0x40061000 + 0x4 * n

/-! TST page (21_test_diagnostics.md). -/
abbrev TST_CMD : Nat := 0x40070040
abbrev TST_CMD_BUSY : Field := ⟨TST_CMD, 31, 1⟩
abbrev TST_CMD_PAGE : Field := ⟨TST_CMD, 16, 6⟩
abbrev TST_CMD_PAT : Field := ⟨TST_CMD, 8, 8⟩
abbrev TST_RES : Nat := 0x40070044
abbrev TST_TIME : Nat := 0x40070048
abbrev TST_TIME_T : Field := ⟨TST_TIME, 0, 24⟩
abbrev TST_LIST0 : Nat := 0x4007004c
abbrev TST_LIST1 : Nat := 0x40070050
abbrev TST_LIST1_PAGE : Field := ⟨TST_LIST1, 0, 9⟩
abbrev TST_CFG : Nat := 0x40070054
abbrev TST_CFG_ROLLEN : Field := ⟨TST_CFG, 31, 1⟩
abbrev TST_CFG_PWT : Field := ⟨TST_CFG, 30, 1⟩
abbrev TST_CFG_PERIOD : Field := ⟨TST_CFG, 0, 16⟩
abbrev TST_ROLL_LIST : Nat := 0x40070058
abbrev TST_ROLL_LIST_LIST : Field := ⟨TST_ROLL_LIST, 0, 4⟩
abbrev TST_ROLL_STAT : Nat := 0x4007005c
abbrev TST_ROLL_STAT_ACTIVE : Field := ⟨TST_ROLL_STAT, 31, 1⟩
abbrev TST_ROLL_STAT_NEXT : Field := ⟨TST_ROLL_STAT, 24, 2⟩
abbrev TST_ROLL_STAT_STEPS : Field := ⟨TST_ROLL_STAT, 0, 16⟩
abbrev TST_FAILLOG : Nat := 0x40070060
abbrev TST_FAILLOG_VALID : Field := ⟨TST_FAILLOG, 31, 1⟩
abbrev TST_IDCODE : Nat := 0x40070064
abbrev TST_BSCAN : Nat := 0x40070068
abbrev TST_BSCAN_TAPACT : Field := ⟨TST_BSCAN, 31, 1⟩
abbrev TST_BSCAN_HOLD : Field := ⟨TST_BSCAN, 30, 1⟩
abbrev TST_BSCAN_REFUSED : Field := ⟨TST_BSCAN, 8, 1⟩
abbrev TST_BSCAN_IR : Field := ⟨TST_BSCAN, 0, 8⟩

/-! POS page (05_position_feedback.md). -/
abbrev POS_LOOP : Nat := 0x40100040
abbrev POS_LOOP_MENC : Field := ⟨POS_LOOP, 8, 4⟩
abbrev POS_LOOP_ALT : Field := ⟨POS_LOOP, 4, 4⟩
abbrev POS_LOOP_PRI : Field := ⟨POS_LOOP, 0, 4⟩
abbrev POS_LOOP_STAT : Nat := 0x40100044
abbrev POS_LOOP_STAT_SWITCHED : Field := ⟨POS_LOOP_STAT, 8, 1⟩
abbrev POS_LOOP_STAT_CUR : Field := ⟨POS_LOOP_STAT, 4, 4⟩
abbrev POS_LOOP_STAT_STATE : Field := ⟨POS_LOOP_STAT, 0, 3⟩
abbrev POS_HEALTH : Nat := 0x40100048
abbrev POS_HEALTH_CS : Field := ⟨POS_HEALTH, 12, 1⟩
abbrev POS_HEALTH_S : Field := ⟨POS_HEALTH, 8, 4⟩
abbrev POS_HEALTH_Q : Field := ⟨POS_HEALTH, 0, 6⟩
abbrev POS_FRZ_CFG : Nat := 0x4010004c
abbrev POS_FRZ_CFG_FRZ_T : Field := ⟨POS_FRZ_CFG, 16, 8⟩
abbrev POS_FRZ_CFG_FRZ_V : Field := ⟨POS_FRZ_CFG, 0, 16⟩
abbrev POS_TUM_CFG : Nat := 0x40100050
abbrev POS_TUM_CFG_TUM_N : Field := ⟨POS_TUM_CFG, 4, 4⟩
abbrev POS_TUM_CFG_AUTOALN : Field := ⟨POS_TUM_CFG, 1, 1⟩
abbrev POS_TUM_CFG_EN : Field := ⟨POS_TUM_CFG, 0, 1⟩
abbrev POS_TUM_CTL : Nat := 0x40100054
abbrev POS_TUM_TOL : Nat := 0x40100058
abbrev POS_TUM_TOL_TOL_ABS : Field := ⟨POS_TUM_TOL, 0, 20⟩
abbrev POS_TUM_PPM : Nat := 0x4010005c
abbrev POS_TUM_PPM_TOL_PPM : Field := ⟨POS_TUM_PPM, 0, 16⟩
abbrev POS_TUM_STAT : Nat := 0x40100060
abbrev POS_TUM_STAT_ACTIVE : Field := ⟨POS_TUM_STAT, 12, 2⟩
abbrev POS_TUM_STAT_ALNREJ : Field := ⟨POS_TUM_STAT, 9, 1⟩
abbrev POS_TUM_STAT_UNKNOWN : Field := ⟨POS_TUM_STAT, 8, 1⟩
abbrev POS_TUM_STAT_FAIL : Field := ⟨POS_TUM_STAT, 4, 3⟩
abbrev POS_TUM_STAT_DIS : Field := ⟨POS_TUM_STAT, 0, 3⟩
abbrev POS_TUM_SEL (n : Nat) : Nat := 0x40100064 + 0x4 * n
abbrev POS_TUM_SEL_NEG (n : Nat) : Field := ⟨POS_TUM_SEL n, 4, 1⟩
abbrev POS_TUM_SEL_SEL (n : Nat) : Field := ⟨POS_TUM_SEL n, 0, 4⟩
abbrev POS_TUM_GAIN (n : Nat) : Nat := 0x40100070 + 0x4 * n
abbrev POS_TUM_OFS (n : Nat) : Nat := 0x4010007c + 0x4 * n
abbrev POS_TUM_POS (n : Nat) : Nat := 0x40100088 + 0x4 * n
abbrev POS_TUM_TRAVEL : Nat := 0x40100094
abbrev POS_CS_POS : Nat := 0x40100098
abbrev POS_CS_STAT : Nat := 0x4010009c
abbrev POS_CS_STAT_FAILCNT : Field := ⟨POS_CS_STAT, 4, 3⟩
abbrev POS_CS_STAT_LATE : Field := ⟨POS_CS_STAT, 1, 1⟩
abbrev POS_CS_STAT_VALID : Field := ⟨POS_CS_STAT, 0, 1⟩
abbrev POS_DIN_RAW : Nat := 0x401000a0
abbrev POS_DIN : Nat := 0x401000a4
abbrev POS_DIN_POL : Nat := 0x401000a8
abbrev POS_DIN_FILT : Nat := 0x401000ac
abbrev POS_DIN_FILT_FAST : Field := ⟨POS_DIN_FILT, 8, 8⟩
abbrev POS_DIN_FILT_DFILT : Field := ⟨POS_DIN_FILT, 0, 8⟩
abbrev POS_DIN_EDGEEN : Nat := 0x401000b0
abbrev POS_DIN_CAPSRC : Nat := 0x401000b4
abbrev POS_DIN_CAPSRC_SRC : Field := ⟨POS_DIN_CAPSRC, 0, 3⟩
abbrev POS_DCAP_STAT : Nat := 0x401000b8
abbrev POS_DCAP_STAT_DOVF : Field := ⟨POS_DCAP_STAT, 8, 1⟩
abbrev POS_DCAP_STAT_LEVEL : Field := ⟨POS_DCAP_STAT, 0, 6⟩
abbrev POS_DCAP_W (n : Nat) : Nat := 0x401000bc + 0x4 * n
abbrev POS_LOOP_OFS : Nat := 0x401000c8
abbrev POS_LOOP_POS : Nat := 0x401000cc
abbrev POS_Qn_CTL (n : Nat) : Nat := 0x40100100 + 0x40 * n
abbrev POS_Qn_CTL_IDX_FAULT (n : Nat) : Field := ⟨POS_Qn_CTL n, 6, 1⟩
abbrev POS_Qn_CTL_IDX_MODE (n : Nat) : Field := ⟨POS_Qn_CTL n, 4, 2⟩
abbrev POS_Qn_CTL_SWAPAB (n : Nat) : Field := ⟨POS_Qn_CTL n, 2, 1⟩
abbrev POS_Qn_CTL_FDIV (n : Nat) : Field := ⟨POS_Qn_CTL n, 8, 8⟩
abbrev POS_Qn_CTL_IDXPOL (n : Nat) : Field := ⟨POS_Qn_CTL n, 3, 1⟩
abbrev POS_Qn_CTL_FMAJ (n : Nat) : Field := ⟨POS_Qn_CTL n, 1, 1⟩
abbrev POS_Qn_CTL_EN (n : Nat) : Field := ⟨POS_Qn_CTL n, 0, 1⟩
abbrev POS_Qn_CPR (n : Nat) : Nat := 0x40100104 + 0x40 * n
abbrev POS_Qn_IDXEXP (n : Nat) : Nat := 0x40100108 + 0x40 * n
abbrev POS_Qn_IDXCFG (n : Nat) : Nat := 0x4010010c + 0x40 * n
abbrev POS_Qn_IDXCFG_QILL_LIMIT (n : Nat) : Field := ⟨POS_Qn_IDXCFG n, 16, 8⟩
abbrev POS_Qn_IDXCFG_IDX_TOL (n : Nat) : Field := ⟨POS_Qn_IDXCFG n, 0, 16⟩
abbrev POS_Qn_SPDCFG (n : Nat) : Nat := 0x40100110 + 0x40 * n
abbrev POS_Qn_SPDCFG_SPD_TMAX (n : Nat) : Field := ⟨POS_Qn_SPDCFG n, 16, 10⟩
abbrev POS_Qn_SPDCFG_SPD_MINWIN (n : Nat) : Field := ⟨POS_Qn_SPDCFG n, 0, 16⟩
abbrev POS_Qn_CNT (n : Nat) : Nat := 0x40100114 + 0x40 * n
abbrev POS_Qn_REV (n : Nat) : Nat := 0x40100118 + 0x40 * n
abbrev POS_Qn_SPD (n : Nat) : Nat := 0x4010011c + 0x40 * n
abbrev POS_Qn_STAT (n : Nat) : Nat := 0x40100120 + 0x40 * n
abbrev POS_Qn_STAT_SPDZERO (n : Nat) : Field := ⟨POS_Qn_STAT n, 14, 1⟩
abbrev POS_Qn_STAT_SPDSHORT (n : Nat) : Field := ⟨POS_Qn_STAT n, 13, 1⟩
abbrev POS_Qn_STAT_IDXREF (n : Nat) : Field := ⟨POS_Qn_STAT n, 12, 1⟩
abbrev POS_Qn_STAT_IDXSKIP (n : Nat) : Field := ⟨POS_Qn_STAT n, 11, 1⟩
abbrev POS_Qn_STAT_IDXERR (n : Nat) : Field := ⟨POS_Qn_STAT n, 10, 1⟩
abbrev POS_Qn_STAT_IDXCOR (n : Nat) : Field := ⟨POS_Qn_STAT n, 9, 1⟩
abbrev POS_Qn_STAT_ILL (n : Nat) : Field := ⟨POS_Qn_STAT n, 8, 1⟩
abbrev POS_Qn_STAT_QFLT (n : Nat) : Field := ⟨POS_Qn_STAT n, 3, 1⟩
abbrev POS_Qn_STAT_FROZEN (n : Nat) : Field := ⟨POS_Qn_STAT n, 2, 1⟩
abbrev POS_Qn_STAT_OK (n : Nat) : Field := ⟨POS_Qn_STAT n, 1, 1⟩
abbrev POS_Qn_STAT_DIR (n : Nat) : Field := ⟨POS_Qn_STAT n, 0, 1⟩
abbrev POS_Qn_ILLEG (n : Nat) : Nat := 0x40100124 + 0x40 * n
abbrev POS_Qn_IDXDEV (n : Nat) : Nat := 0x40100128 + 0x40 * n
abbrev POS_Qn_PRESET (n : Nat) : Nat := 0x4010012c + 0x40 * n
abbrev POS_Qn_LEDGE (n : Nat) : Nat := 0x40100130 + 0x40 * n
abbrev POS_Qn_CNT_LIVE (n : Nat) : Nat := 0x40100134 + 0x40 * n
abbrev POS_Sn_CTL (n : Nat) : Nat := 0x40100300 + 0x40 * n
abbrev POS_Sn_CTL_LEN (n : Nat) : Field := ⟨POS_Sn_CTL n, 16, 6⟩
abbrev POS_Sn_CTL_CLKSEL (n : Nat) : Field := ⟨POS_Sn_CTL n, 8, 3⟩
abbrev POS_Sn_CTL_PAR (n : Nat) : Field := ⟨POS_Sn_CTL n, 3, 2⟩
abbrev POS_Sn_CTL_NEGO (n : Nat) : Field := ⟨POS_Sn_CTL n, 5, 1⟩
abbrev POS_Sn_CTL_GRAY (n : Nat) : Field := ⟨POS_Sn_CTL n, 2, 1⟩
abbrev POS_Sn_CTL_PROTO (n : Nat) : Field := ⟨POS_Sn_CTL n, 1, 1⟩
abbrev POS_Sn_CTL_EN (n : Nat) : Field := ⟨POS_Sn_CTL n, 0, 1⟩
abbrev POS_Sn_CRC (n : Nat) : Nat := 0x40100304 + 0x40 * n
abbrev POS_Sn_CRC_WIDTH (n : Nat) : Field := ⟨POS_Sn_CRC n, 16, 5⟩
abbrev POS_Sn_CRC_INV (n : Nat) : Field := ⟨POS_Sn_CRC n, 24, 1⟩
abbrev POS_Sn_CRC_POLY (n : Nat) : Field := ⟨POS_Sn_CRC n, 0, 16⟩
abbrev POS_Sn_TIM (n : Nat) : Nat := 0x40100308 + 0x40 * n
abbrev POS_Sn_TIM_TOUT (n : Nat) : Field := ⟨POS_Sn_TIM n, 0, 16⟩
abbrev POS_Sn_FRM (n : Nat) : Nat := 0x4010030c + 0x40 * n
abbrev POS_Sn_FRM_SWIN (n : Nat) : Field := ⟨POS_Sn_FRM n, 16, 4⟩
abbrev POS_Sn_FRM_FRMMAX (n : Nat) : Field := ⟨POS_Sn_FRM n, 0, 16⟩
abbrev POS_Sn_POS_LO (n : Nat) : Nat := 0x40100310 + 0x40 * n
abbrev POS_Sn_POS_HI (n : Nat) : Nat := 0x40100314 + 0x40 * n
abbrev POS_Sn_SPD (n : Nat) : Nat := 0x40100318 + 0x40 * n
abbrev POS_Sn_STAT (n : Nat) : Nat := 0x4010031c + 0x40 * n
abbrev POS_Sn_STAT_SPDSTALE (n : Nat) : Field := ⟨POS_Sn_STAT n, 19, 1⟩
abbrev POS_Sn_STAT_NERR (n : Nat) : Field := ⟨POS_Sn_STAT n, 18, 1⟩
abbrev POS_Sn_STAT_TOUTERR (n : Nat) : Field := ⟨POS_Sn_STAT n, 17, 1⟩
abbrev POS_Sn_STAT_CRCERR (n : Nat) : Field := ⟨POS_Sn_STAT n, 16, 1⟩
abbrev POS_Sn_STAT_RATE (n : Nat) : Field := ⟨POS_Sn_STAT n, 12, 3⟩
abbrev POS_Sn_STAT_NEGFAIL (n : Nat) : Field := ⟨POS_Sn_STAT n, 9, 1⟩
abbrev POS_Sn_STAT_NEGDONE (n : Nat) : Field := ⟨POS_Sn_STAT n, 8, 1⟩
abbrev POS_Sn_STAT_FAILCNT (n : Nat) : Field := ⟨POS_Sn_STAT n, 4, 3⟩
abbrev POS_Sn_STAT_WARN (n : Nat) : Field := ⟨POS_Sn_STAT n, 3, 1⟩
abbrev POS_Sn_STAT_FROZEN (n : Nat) : Field := ⟨POS_Sn_STAT n, 2, 1⟩
abbrev POS_Sn_STAT_LOST (n : Nat) : Field := ⟨POS_Sn_STAT n, 1, 1⟩
abbrev POS_Sn_STAT_VALID (n : Nat) : Field := ⟨POS_Sn_STAT n, 0, 1⟩
abbrev POS_Sn_LDLY (n : Nat) : Nat := 0x40100320 + 0x40 * n
abbrev POS_Sn_ERRCNT (n : Nat) : Nat := 0x40100324 + 0x40 * n
abbrev POS_EMUk_CTL (n : Nat) : Nat := 0x40100400 + 0x20 * n
abbrev POS_EMUk_CTL_SRC (n : Nat) : Field := ⟨POS_EMUk_CTL n, 4, 3⟩
abbrev POS_EMUk_CTL_EN (n : Nat) : Field := ⟨POS_EMUk_CTL n, 0, 1⟩
abbrev POS_EMUk_CTL_IDXEN (n : Nat) : Field := ⟨POS_EMUk_CTL n, 1, 1⟩
abbrev POS_EMUk_RATIO (n : Nat) : Nat := 0x40100404 + 0x20 * n
abbrev POS_EMUk_RATIO_M (n : Nat) : Field := ⟨POS_EMUk_RATIO n, 16, 16⟩
abbrev POS_EMUk_RATIO_N (n : Nat) : Field := ⟨POS_EMUk_RATIO n, 0, 16⟩
abbrev POS_EMUk_STAT (n : Nat) : Nat := 0x40100408 + 0x20 * n
abbrev POS_EMUk_STAT_OVF (n : Nat) : Field := ⟨POS_EMUk_STAT n, 16, 1⟩
abbrev POS_EMUk_STAT_BACKLOG (n : Nat) : Field := ⟨POS_EMUk_STAT n, 0, 9⟩

/-! MAP page (06_hoistway_map.md). -/
abbrev MAP_CTL : Nat := 0x40110040
abbrev MAP_CTL_ORDER : Field := ⟨MAP_CTL, 1, 1⟩
abbrev MAP_CTL_LEARN : Field := ⟨MAP_CTL, 0, 1⟩
abbrev MAP_STAT : Nat := 0x40110044
abbrev MAP_STAT_LOADED : Field := ⟨MAP_STAT, 16, 11⟩
abbrev MAP_STAT_POOLWAIT : Field := ⟨MAP_STAT, 8, 1⟩
abbrev MAP_STAT_RELOADING : Field := ⟨MAP_STAT, 7, 1⟩
abbrev MAP_STAT_RANGE : Field := ⟨MAP_STAT, 6, 1⟩
abbrev MAP_STAT_GENMIS : Field := ⟨MAP_STAT, 5, 1⟩
abbrev MAP_STAT_CAPREQ : Field := ⟨MAP_STAT, 4, 1⟩
abbrev MAP_STAT_LOWCONF : Field := ⟨MAP_STAT, 3, 1⟩
abbrev MAP_STAT_UNLEARNED : Field := ⟨MAP_STAT, 2, 1⟩
abbrev MAP_STAT_COARSE : Field := ⟨MAP_STAT, 1, 1⟩
abbrev MAP_STAT_VALID : Field := ⟨MAP_STAT, 0, 1⟩
abbrev MAP_GEN : Nat := 0x40110048
abbrev MAP_GEN_GEN : Field := ⟨MAP_GEN, 0, 16⟩
abbrev MAP_PEER_GEN : Nat := 0x4011004c
abbrev MAP_PEER_GEN_GEN : Field := ⟨MAP_PEER_GEN, 0, 16⟩
abbrev MAP_POS : Nat := 0x40110050
abbrev MAP_RAW : Nat := 0x40110054
abbrev MAP_CORR : Nat := 0x40110058
abbrev MAP_STOPWIN : Nat := 0x4011005c
abbrev MAP_STOPWIN_HI : Field := ⟨MAP_STOPWIN, 16, 10⟩
abbrev MAP_STOPWIN_LO : Field := ⟨MAP_STOPWIN, 0, 10⟩
abbrev MAP_FLASH_A : Nat := 0x40110060
abbrev MAP_FLASH_B : Nat := 0x40110064
abbrev MAP_FLASH_TRL : Nat := 0x40110068
abbrev MAP_RELOAD : Nat := 0x4011006c
abbrev MAP_RELOAD_BUSY : Field := ⟨MAP_RELOAD, 31, 1⟩
abbrev MAP_RELOAD_NEXT : Field := ⟨MAP_RELOAD, 16, 10⟩
abbrev MAP_RELOAD_START : Field := ⟨MAP_RELOAD, 0, 1⟩
abbrev MAP_MARK_BASE : Nat := 0x40110070
abbrev MAP_MARK_CNT : Nat := 0x40110074
abbrev MAP_MARK_CNT_CNT : Field := ⟨MAP_MARK_CNT, 0, 13⟩
abbrev MAP_LRN_CFG : Nat := 0x40110078
abbrev MAP_LRN_CFG_ALPHA : Field := ⟨MAP_LRN_CFG, 24, 4⟩
abbrev MAP_LRN_CFG_CONF_N : Field := ⟨MAP_LRN_CFG, 16, 8⟩
abbrev MAP_LRN_CFG_MATCH_WIN : Field := ⟨MAP_LRN_CFG, 0, 16⟩
abbrev MAP_LRN_SD : Nat := 0x4011007c
abbrev MAP_LRN_SD_CONF_SD : Field := ⟨MAP_LRN_SD, 0, 16⟩
abbrev MAP_LRN_STAT : Nat := 0x40110080
abbrev MAP_LRN_STAT_OVF : Field := ⟨MAP_LRN_STAT, 28, 4⟩
abbrev MAP_LRN_STAT_UNMATCHED : Field := ⟨MAP_LRN_STAT, 16, 12⟩
abbrev MAP_LRN_STAT_MATCHED : Field := ⟨MAP_LRN_STAT, 0, 16⟩
abbrev MAP_REB_CTL : Nat := 0x40110084
abbrev MAP_REB_CTL_LAST : Field := ⟨MAP_REB_CTL, 16, 10⟩
abbrev MAP_REB_CTL_FIRST : Field := ⟨MAP_REB_CTL, 0, 10⟩
abbrev MAP_REB_STAT : Nat := 0x40110088
abbrev MAP_REB_STAT_BUSY : Field := ⟨MAP_REB_STAT, 31, 1⟩
abbrev MAP_REB_STAT_CUR : Field := ⟨MAP_REB_STAT, 16, 10⟩
abbrev MAP_REB_STAT_PEND : Field := ⟨MAP_REB_STAT, 8, 8⟩
abbrev MAP_DEFER : Nat := 0x4011008c
abbrev MAP_DEFER_DEFCYC : Field := ⟨MAP_DEFER, 0, 16⟩
abbrev MAP_LNDn_POS (n : Nat) : Nat := 0x40111000 + 0x10 * n
abbrev MAP_LNDn_COR (n : Nat) : Nat := 0x40111004 + 0x10 * n
abbrev MAP_LNDn_ATTR (n : Nat) : Nat := 0x40111008 + 0x10 * n
abbrev MAP_LNDn_ATTR_DZ_HALF (n : Nat) : Field := ⟨MAP_LNDn_ATTR n, 16, 12⟩
abbrev MAP_LNDn_ATTR_EN (n : Nat) : Field := ⟨MAP_LNDn_ATTR n, 0, 1⟩
abbrev MAP_DIRn (n : Nat) : Nat := 0x40112000 + 0x4 * n
abbrev MAP_DIRn_STATE (n : Nat) : Field := ⟨MAP_DIRn n, 30, 2⟩
abbrev MAP_DIRn_SWAPREQ (n : Nat) : Field := ⟨MAP_DIRn n, 29, 1⟩
abbrev MAP_DIRn_DEFERRED (n : Nat) : Field := ⟨MAP_DIRn n, 28, 1⟩
abbrev MAP_DIRn_DIRTY (n : Nat) : Field := ⟨MAP_DIRn n, 27, 1⟩
abbrev MAP_DIRn_LOC (n : Nat) : Field := ⟨MAP_DIRn n, 26, 1⟩
abbrev MAP_DIRn_SLOT (n : Nat) : Field := ⟨MAP_DIRn n, 16, 7⟩
abbrev MAP_DIRn_PGEN (n : Nat) : Field := ⟨MAP_DIRn n, 0, 16⟩

/-! PRF page (07_motion_profile.md). -/
abbrev PRF_VCAP : Nat := 0x40120040
abbrev PRF_VCAP_SRC : Nat := 0x40120044
abbrev PRF_WCAP : Nat := 0x40120048
abbrev PRF_MCAP : Nat := 0x4012004c
abbrev PRF_DCAP : Nat := 0x40120050
abbrev PRF_DSTOP : Nat := 0x40120054
abbrev PRF_LND : Nat := 0x40120058
abbrev PRF_LND_VALID : Field := ⟨PRF_LND, 31, 1⟩
abbrev PRF_LND_LANDING : Field := ⟨PRF_LND, 0, 8⟩
abbrev PRF_AXn_CFG (n : Nat) : Nat := 0x40120100 + 0x80 * n
abbrev PRF_AXn_CFG_EN (n : Nat) : Field := ⟨PRF_AXn_CFG n, 12, 1⟩
abbrev PRF_AXn_CFG_REVERSE_ALLOW (n : Nat) : Field := ⟨PRF_AXn_CFG n, 8, 1⟩
abbrev PRF_AXn_CFG_STILL (n : Nat) : Field := ⟨PRF_AXn_CFG n, 4, 2⟩
abbrev PRF_AXn_CFG_TYPE (n : Nat) : Field := ⟨PRF_AXn_CFG n, 0, 2⟩
abbrev PRF_AXn_VMAX (n : Nat) : Nat := 0x40120104 + 0x80 * n
abbrev PRF_AXn_AMAX (n : Nat) : Nat := 0x40120108 + 0x80 * n
abbrev PRF_AXn_DMAX (n : Nat) : Nat := 0x4012010c + 0x80 * n
abbrev PRF_AXn_JMAX (n : Nat) : Nat := 0x40120110 + 0x80 * n
abbrev PRF_AXn_PLIM_LO (n : Nat) : Nat := 0x40120114 + 0x80 * n
abbrev PRF_AXn_PLIM_HI (n : Nat) : Nat := 0x40120118 + 0x80 * n
abbrev PRF_AXn_TGT (n : Nat) : Nat := 0x4012011c + 0x80 * n
abbrev PRF_AXn_CMD (n : Nat) : Nat := 0x40120120 + 0x80 * n
abbrev PRF_AXn_RES (n : Nat) : Nat := 0x40120124 + 0x80 * n
abbrev PRF_AXn_STAT (n : Nat) : Nat := 0x40120128 + 0x80 * n
abbrev PRF_AXn_STAT_MSTLOST (n : Nat) : Field := ⟨PRF_AXn_STAT n, 11, 1⟩
abbrev PRF_AXn_STAT_LANDING (n : Nat) : Field := ⟨PRF_AXn_STAT n, 10, 1⟩
abbrev PRF_AXn_STAT_LIMHIT (n : Nat) : Field := ⟨PRF_AXn_STAT n, 9, 1⟩
abbrev PRF_AXn_STAT_GRPEND (n : Nat) : Field := ⟨PRF_AXn_STAT n, 8, 1⟩
abbrev PRF_AXn_STAT_REVERSING (n : Nat) : Field := ⟨PRF_AXn_STAT n, 7, 1⟩
abbrev PRF_AXn_STAT_STALL (n : Nat) : Field := ⟨PRF_AXn_STAT n, 6, 1⟩
abbrev PRF_AXn_STAT_CAPPED (n : Nat) : Field := ⟨PRF_AXn_STAT n, 5, 1⟩
abbrev PRF_AXn_STAT_STILL (n : Nat) : Field := ⟨PRF_AXn_STAT n, 4, 1⟩
abbrev PRF_AXn_STAT_GEARED (n : Nat) : Field := ⟨PRF_AXn_STAT n, 3, 1⟩
abbrev PRF_AXn_STAT_STOPPED (n : Nat) : Field := ⟨PRF_AXn_STAT n, 2, 1⟩
abbrev PRF_AXn_STAT_DONE (n : Nat) : Field := ⟨PRF_AXn_STAT n, 1, 1⟩
abbrev PRF_AXn_STAT_MOVING (n : Nat) : Field := ⟨PRF_AXn_STAT n, 0, 1⟩
abbrev PRF_AXn_SP_POS (n : Nat) : Nat := 0x4012012c + 0x80 * n
abbrev PRF_AXn_SP_SPD (n : Nat) : Nat := 0x40120130 + 0x80 * n
abbrev PRF_AXn_SP_ACC (n : Nat) : Nat := 0x40120134 + 0x80 * n
abbrev PRF_AXn_REMAIN (n : Nat) : Nat := 0x40120138 + 0x80 * n
abbrev PRF_AXn_GR_CFG (n : Nat) : Nat := 0x4012013c + 0x80 * n
abbrev PRF_AXn_GR_CFG_LIMFLT (n : Nat) : Field := ⟨PRF_AXn_GR_CFG n, 8, 1⟩
abbrev PRF_AXn_GR_CFG_MSRC (n : Nat) : Field := ⟨PRF_AXn_GR_CFG n, 0, 4⟩
abbrev PRF_AXn_GR_RATIO (n : Nat) : Nat := 0x40120140 + 0x80 * n
abbrev PRF_AXn_GR_RATIO_DEN (n : Nat) : Field := ⟨PRF_AXn_GR_RATIO n, 16, 16⟩
abbrev PRF_AXn_GR_NEXT (n : Nat) : Nat := 0x40120144 + 0x80 * n
abbrev PRF_AXn_GR_AT (n : Nat) : Nat := 0x40120148 + 0x80 * n
abbrev PRF_AXn_GR_BLEND (n : Nat) : Nat := 0x4012014c + 0x80 * n
abbrev PRF_AXn_STALL (n : Nat) : Nat := 0x40120150 + 0x80 * n
abbrev PRF_AXn_STALL_ACT (n : Nat) : Field := ⟨PRF_AXn_STALL n, 24, 2⟩
abbrev PRF_AXn_STALL_N (n : Nat) : Field := ⟨PRF_AXn_STALL n, 16, 4⟩
abbrev PRF_AXn_STALL_ANG (n : Nat) : Field := ⟨PRF_AXn_STALL n, 0, 16⟩
abbrev PRF_AXn_LANG (n : Nat) : Nat := 0x40120154 + 0x80 * n
abbrev PRF_AXn_LANG_LANG (n : Nat) : Field := ⟨PRF_AXn_LANG n, 0, 16⟩
abbrev PRF_AXn_STALL_VMIN (n : Nat) : Nat := 0x40120158 + 0x80 * n
abbrev PRF_AXn_ATGT (n : Nat) : Nat := 0x4012015c + 0x80 * n
abbrev PRF_STPk_CTL (n : Nat) : Nat := 0x40120400 + 0x20 * n
abbrev PRF_STPk_CTL_SETUP (n : Nat) : Field := ⟨PRF_STPk_CTL n, 24, 8⟩
abbrev PRF_STPk_CTL_PW (n : Nat) : Field := ⟨PRF_STPk_CTL n, 16, 8⟩
abbrev PRF_STPk_CTL_AXIS (n : Nat) : Field := ⟨PRF_STPk_CTL n, 4, 2⟩
abbrev PRF_STPk_CTL_EN (n : Nat) : Field := ⟨PRF_STPk_CTL n, 0, 1⟩
abbrev PRF_STPk_CTL_DIRPOL (n : Nat) : Field := ⟨PRF_STPk_CTL n, 1, 1⟩
abbrev PRF_STPk_LEN (n : Nat) : Nat := 0x40120404 + 0x20 * n
abbrev PRF_STPk_CNT (n : Nat) : Nat := 0x40120408 + 0x20 * n
abbrev PRF_STPk_IVAL (n : Nat) : Nat := 0x4012040c + 0x20 * n
abbrev PRF_STPk_STAT (n : Nat) : Nat := 0x40120410 + 0x20 * n
abbrev PRF_STPk_STAT_SLOW (n : Nat) : Field := ⟨PRF_STPk_STAT n, 1, 1⟩
abbrev PRF_STPk_STAT_STPSAT (n : Nat) : Field := ⟨PRF_STPk_STAT n, 0, 1⟩

/-! STQ page (20_stop_queue.md). -/
abbrev STQ_CFG : Nat := 0x40130040
abbrev STQ_CFG_FFONE : Field := ⟨STQ_CFG, 17, 1⟩
abbrev STQ_CFG_ARRCLR : Field := ⟨STQ_CFG, 16, 1⟩
abbrev STQ_CFG_MARGIN : Field := ⟨STQ_CFG, 0, 16⟩
abbrev STQ_NEXT : Nat := 0x40130044
abbrev STQ_NEXT_VALID : Field := ⟨STQ_NEXT, 31, 1⟩
abbrev STQ_NEXT_AT : Field := ⟨STQ_NEXT, 30, 1⟩
abbrev STQ_NEXT_REV : Field := ⟨STQ_NEXT, 29, 1⟩
abbrev STQ_NEXT_PDIR : Field := ⟨STQ_NEXT, 8, 2⟩
abbrev STQ_NEXT_LANDING : Field := ⟨STQ_NEXT, 0, 8⟩
abbrev STQ_STAT : Nat := 0x40130048
abbrev STQ_STAT_EMPTY : Field := ⟨STQ_STAT, 31, 1⟩
abbrev STQ_STAT_TGTDIFF : Field := ⟨STQ_STAT, 30, 1⟩
abbrev STQ_STAT_ARRLND : Field := ⟨STQ_STAT, 16, 8⟩
abbrev STQ_STAT_HELDW : Field := ⟨STQ_STAT, 10, 1⟩
abbrev STQ_STAT_CALLREJ : Field := ⟨STQ_STAT, 9, 1⟩
abbrev STQ_STAT_ANSWER : Field := ⟨STQ_STAT, 8, 1⟩
abbrev STQ_CARk (n : Nat) : Nat := 0x40130100 + 0x4 * n
abbrev STQ_CARk_SET (n : Nat) : Nat := 0x40130120 + 0x4 * n
abbrev STQ_CARk_CLR (n : Nat) : Nat := 0x40130140 + 0x4 * n
abbrev STQ_UPk (n : Nat) : Nat := 0x40130160 + 0x4 * n
abbrev STQ_UPk_SET (n : Nat) : Nat := 0x40130180 + 0x4 * n
abbrev STQ_UPk_CLR (n : Nat) : Nat := 0x401301a0 + 0x4 * n
abbrev STQ_DNk (n : Nat) : Nat := 0x401301c0 + 0x4 * n
abbrev STQ_DNk_SET (n : Nat) : Nat := 0x401301e0 + 0x4 * n
abbrev STQ_DNk_CLR (n : Nat) : Nat := 0x40130200 + 0x4 * n

/-! PST page (11_hoist_drive.md). -/
abbrev PST_TB_CFG : Nat := 0x40140040
abbrev PST_TB_CFG_POS_DIV : Field := ⟨PST_TB_CFG, 16, 4⟩
abbrev PST_TB_CFG_CUR_PER : Field := ⟨PST_TB_CFG, 0, 16⟩
abbrev PST_TB_PHASE : Nat := 0x40140044
abbrev PST_TB_PHASE_PHASE : Field := ⟨PST_TB_PHASE, 0, 17⟩
abbrev PST_TB_CNT_LO : Nat := 0x40140048
abbrev PST_TB_CNT_HI : Nat := 0x4014004c
abbrev PST_TB_IDX : Nat := 0x40140050
abbrev PST_STO_MAP : Nat := 0x40140054
abbrev PST_STO_MAP_SETS : Field := ⟨PST_STO_MAP, 0, 6⟩
abbrev PST_GROUP : Nat := 0x40140058
abbrev PST_GROUP_GRP1 : Field := ⟨PST_GROUP, 8, 6⟩
abbrev PST_GROUP_GRP0 : Field := ⟨PST_GROUP, 0, 6⟩
abbrev PST_SDCLK : Nat := 0x4014005c
abbrev PST_SD_DEC : Nat := 0x40140060
abbrev PST_SD_EN : Nat := 0x40140064
abbrev PST_SD_EN_EN : Field := ⟨PST_SD_EN, 0, 24⟩
abbrev PST_SD_STAT : Nat := 0x40140068
abbrev PST_SD_STAT_FAIL : Field := ⟨PST_SD_STAT, 0, 24⟩
abbrev PST_OC_CFG : Nat := 0x4014006c
abbrev PST_OC_CFG_OC_N : Field := ⟨PST_OC_CFG, 0, 4⟩
abbrev PST_DCB_CFG : Nat := 0x40140070
abbrev PST_DCB_CFG_EN : Field := ⟨PST_DCB_CFG, 8, 1⟩
abbrev PST_DCB_CFG_SRC : Field := ⟨PST_DCB_CFG, 0, 5⟩
abbrev PST_DCB : Nat := 0x40140074
abbrev PST_DCB_LIM : Nat := 0x40140078
abbrev PST_DCB_LIM_OV : Field := ⟨PST_DCB_LIM, 16, 16⟩
abbrev PST_DCB_LIM_UV : Field := ⟨PST_DCB_LIM, 0, 16⟩
abbrev PST_CHOP : Nat := 0x4014007c
abbrev PST_CHOP_ON : Field := ⟨PST_CHOP, 16, 16⟩
abbrev PST_CHOP_OFF : Field := ⟨PST_CHOP, 0, 16⟩
abbrev PST_CHOP_CFG : Nat := 0x40140080
abbrev PST_CHOP_CFG_EN : Field := ⟨PST_CHOP_CFG, 0, 1⟩
abbrev PST_CHOP_CFG_MINON : Field := ⟨PST_CHOP_CFG, 16, 8⟩
abbrev PST_CHOP_STAT : Nat := 0x40140084
abbrev PST_CHOP_STAT_MAX : Field := ⟨PST_CHOP_STAT, 16, 16⟩
abbrev PST_CHOP_STAT_LAST : Field := ⟨PST_CHOP_STAT, 0, 16⟩
abbrev PST_GDF_CFG : Nat := 0x40140088
abbrev PST_GDF_MAP : Nat := 0x4014008c
abbrev PST_GDF_STAT : Nat := 0x40140090
abbrev PST_GDF_STAT_LEVEL : Field := ⟨PST_GDF_STAT, 16, 8⟩
abbrev PST_GDF_STAT_LATCH : Field := ⟨PST_GDF_STAT, 0, 8⟩
abbrev PST_TRIP : Nat := 0x40140094
abbrev PST_TRIP_GRP : Field := ⟨PST_TRIP, 16, 6⟩
abbrev PST_TRIP_GDF : Field := ⟨PST_TRIP, 8, 6⟩
abbrev PST_TRIP_OC : Field := ⟨PST_TRIP, 0, 6⟩
abbrev PST_BRK_CFG : Nat := 0x401400a0
abbrev PST_BRK_CFG_EN : Field := ⟨PST_BRK_CFG, 24, 1⟩
abbrev PST_BRK_CFG_FBPOL : Field := ⟨PST_BRK_CFG, 17, 1⟩
abbrev PST_BRK_CFG_FB1EN : Field := ⟨PST_BRK_CFG, 16, 1⟩
abbrev PST_BRK_CFG_FB1 : Field := ⟨PST_BRK_CFG, 8, 5⟩
abbrev PST_BRK_CFG_FB0 : Field := ⟨PST_BRK_CFG, 0, 5⟩
abbrev PST_BRK_TIM0 : Nat := 0x401400a4
abbrev PST_BRK_TIM1 : Nat := 0x401400a8
abbrev PST_BRK_TIM2 : Nat := 0x401400ac
abbrev PST_BRK_TIM3 : Nat := 0x401400b0
abbrev PST_BRK_MOD : Nat := 0x401400b4
abbrev PST_BRK_MOD_HOLD_D : Field := ⟨PST_BRK_MOD, 16, 9⟩
abbrev PST_BRK_MOD_PICK_D : Field := ⟨PST_BRK_MOD, 0, 9⟩
abbrev PST_BRK_STAT : Nat := 0x401400b8
abbrev PST_BRK_STAT_CAUSE : Field := ⟨PST_BRK_STAT, 12, 3⟩
abbrev PST_BRK_STAT_FB : Field := ⟨PST_BRK_STAT, 8, 2⟩
abbrev PST_BRK_STAT_HOLDD : Field := ⟨PST_BRK_STAT, 7, 1⟩
abbrev PST_BRK_STAT_START : Field := ⟨PST_BRK_STAT, 6, 1⟩
abbrev PST_BRK_STAT_FORCED : Field := ⟨PST_BRK_STAT, 5, 1⟩
abbrev PST_BRK_STAT_RUN : Field := ⟨PST_BRK_STAT, 4, 1⟩
abbrev PST_BRK_STAT_STATE : Field := ⟨PST_BRK_STAT, 0, 3⟩
abbrev PST_BT_CTL : Nat := 0x401400c0
abbrev PST_BT_CTL_SRC : Field := ⟨PST_BT_CTL, 8, 3⟩
abbrev PST_BT_CTL_DIR : Field := ⟨PST_BT_CTL, 5, 1⟩
abbrev PST_BT_CTL_CIRC : Field := ⟨PST_BT_CTL, 4, 1⟩
abbrev PST_BT_CFG : Nat := 0x401400c4
abbrev PST_BT_CFG_SLIP : Field := ⟨PST_BT_CFG, 16, 16⟩
abbrev PST_BT_TQ : Nat := 0x401400c8
abbrev PST_BT_RAMP : Nat := 0x401400cc
abbrev PST_BT_RAMP_RAMP : Field := ⟨PST_BT_RAMP, 0, 16⟩
abbrev PST_BT_IREF : Nat := 0x401400d0
abbrev PST_BT_STAT : Nat := 0x401400d4
abbrev PST_BT_STAT_BUSY : Field := ⟨PST_BT_STAT, 31, 1⟩
abbrev PST_BT_STAT_PASS : Field := ⟨PST_BT_STAT, 30, 1⟩
abbrev PST_BT_STAT_FAIL : Field := ⟨PST_BT_STAT, 29, 1⟩
abbrev PST_BT_STAT_ABORTED : Field := ⟨PST_BT_STAT, 28, 1⟩
abbrev PST_BT_STAT_STEP : Field := ⟨PST_BT_STAT, 16, 3⟩
abbrev PST_BT_STAT_SLIPMAX : Field := ⟨PST_BT_STAT, 0, 16⟩
abbrev PST_GRID_CFG : Nat := 0x401400e0
abbrev PST_GRID_CFG_EN : Field := ⟨PST_GRID_CFG, 24, 1⟩
abbrev PST_GRID_CFG_C : Field := ⟨PST_GRID_CFG, 16, 5⟩
abbrev PST_GRID_CFG_B : Field := ⟨PST_GRID_CFG, 8, 5⟩
abbrev PST_GRID_CFG_A : Field := ⟨PST_GRID_CFG, 0, 5⟩
abbrev PST_GRID_ISRC : Nat := 0x401400e4
abbrev PST_GRID_ISRC_C : Field := ⟨PST_GRID_ISRC, 16, 5⟩
abbrev PST_GRID_ISRC_B : Field := ⟨PST_GRID_ISRC, 8, 5⟩
abbrev PST_GRID_ISRC_A : Field := ⟨PST_GRID_ISRC, 0, 5⟩
abbrev PST_GRID_LIM : Nat := 0x401400e8
abbrev PST_GRID_LIM_FMAX : Field := ⟨PST_GRID_LIM, 24, 8⟩
abbrev PST_GRID_LIM_FMIN : Field := ⟨PST_GRID_LIM, 16, 8⟩
abbrev PST_GRID_LIM_AMIN : Field := ⟨PST_GRID_LIM, 0, 16⟩
abbrev PST_GRID_ANG : Nat := 0x401400ec
abbrev PST_GRID_ANG_ANG : Field := ⟨PST_GRID_ANG, 0, 16⟩
abbrev PST_GRID_FRQ : Nat := 0x401400f0
abbrev PST_GRID_AMP : Nat := 0x401400f4
abbrev PST_GRID_STAT : Nat := 0x401400f8
abbrev PST_GRID_STAT_LOSS : Field := ⟨PST_GRID_STAT, 1, 1⟩
abbrev PST_GRID_STAT_LOCK : Field := ⟨PST_GRID_STAT, 0, 1⟩
abbrev PST_EN_DRAWN_LO : Nat := 0x40140100
abbrev PST_EN_DRAWN_HI : Nat := 0x40140104
abbrev PST_EN_RET_LO : Nat := 0x40140108
abbrev PST_EN_RET_HI : Nat := 0x4014010c
abbrev PST_PSn_CFG (n : Nat) : Nat := 0x40140200 + 0x40 * n
abbrev PST_PSn_CFG_POLL (n : Nat) : Field := ⟨PST_PSn_CFG n, 8, 1⟩
abbrev PST_PSn_CFG_POLH (n : Nat) : Field := ⟨PST_PSn_CFG n, 7, 1⟩
abbrev PST_PSn_CFG_AXEN (n : Nat) : Field := ⟨PST_PSn_CFG n, 6, 1⟩
abbrev PST_PSn_CFG_AXIS (n : Nat) : Field := ⟨PST_PSn_CFG n, 4, 2⟩
abbrev PST_PSn_CFG_LOCK (n : Nat) : Field := ⟨PST_PSn_CFG n, 1, 1⟩
abbrev PST_PSn_CFG_EN (n : Nat) : Field := ⟨PST_PSn_CFG n, 0, 1⟩
abbrev PST_PSn_PER (n : Nat) : Nat := 0x40140204 + 0x40 * n
abbrev PST_PSn_PER_PER (n : Nat) : Field := ⟨PST_PSn_PER n, 0, 16⟩
abbrev PST_PSn_PHS (n : Nat) : Nat := 0x40140208 + 0x40 * n
abbrev PST_PSn_PHS_PHS (n : Nat) : Field := ⟨PST_PSn_PHS n, 0, 16⟩
abbrev PST_PSn_DT (n : Nat) : Nat := 0x4014020c + 0x40 * n
abbrev PST_PSn_DT_DT (n : Nat) : Field := ⟨PST_PSn_DT n, 0, 12⟩
abbrev PST_PSn_DT_MINPW (n : Nat) : Field := ⟨PST_PSn_DT n, 16, 12⟩
abbrev PST_PSn_CMPU (n : Nat) : Nat := 0x40140210 + 0x40 * n
abbrev PST_PSn_CMPV (n : Nat) : Nat := 0x40140214 + 0x40 * n
abbrev PST_PSn_CMPW (n : Nat) : Nat := 0x40140218 + 0x40 * n
abbrev PST_PSn_OUT (n : Nat) : Nat := 0x4014021c + 0x40 * n
abbrev PST_PSn_STAT (n : Nat) : Nat := 0x40140220 + 0x40 * n
abbrev PST_PSn_STAT_STILL (n : Nat) : Field := ⟨PST_PSn_STAT n, 3, 1⟩
abbrev PST_PSn_STAT_STO (n : Nat) : Field := ⟨PST_PSn_STAT n, 2, 1⟩
abbrev PST_PSn_STAT_TRIPPED (n : Nat) : Field := ⟨PST_PSn_STAT n, 1, 1⟩
abbrev PST_PSn_STAT_SWITCHING (n : Nat) : Field := ⟨PST_PSn_STAT n, 0, 1⟩
abbrev PST_SDn_RES (n : Nat) : Nat := 0x40140400 + 0x4 * n
abbrev PST_SDn_OCLIM (n : Nat) : Nat := 0x40140480 + 0x4 * n
abbrev PST_SDn_OCLIM_HI (n : Nat) : Field := ⟨PST_SDn_OCLIM n, 16, 16⟩
abbrev PST_SDn_OCLIM_LO (n : Nat) : Field := ⟨PST_SDn_OCLIM n, 0, 16⟩
abbrev PST_SDn_FAST (n : Nat) : Nat := 0x40140500 + 0x4 * n

/-! DOR page (12_doors_interlocks.md). -/
abbrev DOR_DZ_CFG : Nat := 0x40150040
abbrev DOR_DZ_CFG_DZS_DIN : Field := ⟨DOR_DZ_CFG, 24, 5⟩
abbrev DOR_DZ_CFG_DZS_EN : Field := ⟨DOR_DZ_CFG, 20, 1⟩
abbrev DOR_DZ_CFG_DZ_SLACK : Field := ⟨DOR_DZ_CFG, 0, 16⟩
abbrev DOR_DZ_STAT : Nat := 0x40150044
abbrev DOR_DZ_STAT_VALID : Field := ⟨DOR_DZ_STAT, 31, 1⟩
abbrev DOR_DZ_STAT_DZMIS : Field := ⟨DOR_DZ_STAT, 16, 1⟩
abbrev DOR_DZ_STAT_IN : Field := ⟨DOR_DZ_STAT, 8, 1⟩
abbrev DOR_DZ_STAT_LANDING : Field := ⟨DOR_DZ_STAT, 0, 8⟩
abbrev DOR_DZ_DIST : Nat := 0x40150048
abbrev DOR_RLV_CFG : Nat := 0x4015004c
abbrev DOR_RLV_CFG_RLV_DONE : Field := ⟨DOR_RLV_CFG, 24, 8⟩
abbrev DOR_RLV_CFG_RLV_TOL : Field := ⟨DOR_RLV_CFG, 16, 8⟩
abbrev DOR_RLV_STAT : Nat := 0x40150050
abbrev DOR_RLV_STAT_REQ : Field := ⟨DOR_RLV_STAT, 31, 1⟩
abbrev DOR_RLV_STAT_LANDING : Field := ⟨DOR_RLV_STAT, 0, 8⟩
abbrev DOR_ADV_CFG : Nat := 0x40150054
abbrev DOR_ADV_CFG_ADV_VMAX : Field := ⟨DOR_ADV_CFG, 16, 16⟩
abbrev DOR_ADV_CFG_ADV_DIST : Field := ⟨DOR_ADV_CFG, 0, 16⟩
abbrev DOR_ADV_CFG2 : Nat := 0x40150058
abbrev DOR_ADV_CFG2_ADV_ARM : Field := ⟨DOR_ADV_CFG2, 16, 16⟩
abbrev DOR_ADV_CFG2_ADV_BLEND : Field := ⟨DOR_ADV_CFG2, 0, 16⟩
abbrev DOR_ADV_RATIO : Nat := 0x4015005c
abbrev DOR_ADV_RATIO_ADV_DEN : Field := ⟨DOR_ADV_RATIO, 16, 16⟩
abbrev DOR_ADV_RATIO_ADV_NUM : Field := ⟨DOR_ADV_RATIO, 0, 16⟩
abbrev DOR_LC0_CFG : Nat := 0x40150060
abbrev DOR_LC0_CFG_FEN : Field := ⟨DOR_LC0_CFG, 13, 1⟩
abbrev DOR_LC0_CFG_FDIN : Field := ⟨DOR_LC0_CFG, 8, 5⟩
abbrev DOR_LC0_CFG_DIN : Field := ⟨DOR_LC0_CFG, 0, 5⟩
abbrev DOR_LC1_CFG : Nat := 0x40150064
abbrev DOR_LC1_CFG_FEN : Field := ⟨DOR_LC1_CFG, 13, 1⟩
abbrev DOR_LC1_CFG_FDIN : Field := ⟨DOR_LC1_CFG, 8, 5⟩
abbrev DOR_LC1_CFG_DIN : Field := ⟨DOR_LC1_CFG, 0, 5⟩
abbrev DOR_OBS_STAT : Nat := 0x40150068
abbrev DOR_OBS_STAT_VSTALE : Field := ⟨DOR_OBS_STAT, 6, 2⟩
abbrev DOR_OBS_STAT_VCROSS : Field := ⟨DOR_OBS_STAT, 4, 2⟩
abbrev DOR_OBS_STAT_LCFLT : Field := ⟨DOR_OBS_STAT, 2, 2⟩
abbrev DOR_OBS_STAT_LCBEAM : Field := ⟨DOR_OBS_STAT, 0, 2⟩
abbrev DOR_BYP_CFG : Nat := 0x4015006c
abbrev DOR_BYP_CFG_BYP_GAP : Field := ⟨DOR_BYP_CFG, 0, 16⟩
abbrev DOR_CTk_CFG (n : Nat) : Nat := 0x40150080 + 0x8 * n
abbrev DOR_CTk_CFG_EN (n : Nat) : Field := ⟨DOR_CTk_CFG n, 15, 1⟩
abbrev DOR_CTk_CFG_DOOR (n : Nat) : Field := ⟨DOR_CTk_CFG n, 12, 1⟩
abbrev DOR_CTk_CFG_KIND (n : Nat) : Field := ⟨DOR_CTk_CFG n, 8, 2⟩
abbrev DOR_CTk_STAT (n : Nat) : Nat := 0x40150084 + 0x8 * n
abbrev DOR_CTk_STAT_CHAT (n : Nat) : Field := ⟨DOR_CTk_STAT n, 16, 16⟩
abbrev DOR_CTk_STAT_CTOPEN (n : Nat) : Field := ⟨DOR_CTk_STAT n, 4, 1⟩
abbrev DOR_CTk_STAT_BYPASS (n : Nat) : Field := ⟨DOR_CTk_STAT n, 3, 1⟩
abbrev DOR_CTk_STAT_UNEXP (n : Nat) : Field := ⟨DOR_CTk_STAT n, 2, 1⟩
abbrev DOR_CTk_STAT_LEVEL (n : Nat) : Field := ⟨DOR_CTk_STAT n, 0, 1⟩
abbrev DOR_Dn_CFG (n : Nat) : Nat := 0x40150200 + 0x80 * n
abbrev DOR_Dn_CFG_LOCK_RETRY (n : Nat) : Field := ⟨DOR_Dn_CFG n, 28, 4⟩
abbrev DOR_Dn_CFG_NUDGE_N (n : Nat) : Field := ⟨DOR_Dn_CFG n, 24, 4⟩
abbrev DOR_Dn_CFG_FFBTN (n : Nat) : Field := ⟨DOR_Dn_CFG n, 18, 5⟩
abbrev DOR_Dn_CFG_ADV (n : Nat) : Field := ⟨DOR_Dn_CFG n, 17, 1⟩
abbrev DOR_Dn_CFG_FFCP (n : Nat) : Field := ⟨DOR_Dn_CFG n, 16, 1⟩
abbrev DOR_Dn_CFG_NEG (n : Nat) : Field := ⟨DOR_Dn_CFG n, 15, 1⟩
abbrev DOR_Dn_CFG_QSRC (n : Nat) : Field := ⟨DOR_Dn_CFG n, 12, 3⟩
abbrev DOR_Dn_CFG_SET (n : Nat) : Field := ⟨DOR_Dn_CFG n, 8, 3⟩
abbrev DOR_Dn_CFG_AXIS (n : Nat) : Field := ⟨DOR_Dn_CFG n, 4, 2⟩
abbrev DOR_Dn_CFG_EN (n : Nat) : Field := ⟨DOR_Dn_CFG n, 0, 1⟩
abbrev DOR_Dn_SCALE (n : Nat) : Nat := 0x40150204 + 0x80 * n
abbrev DOR_Dn_OFS (n : Nat) : Nat := 0x40150208 + 0x80 * n
abbrev DOR_Dn_OPEN (n : Nat) : Nat := 0x4015020c + 0x80 * n
abbrev DOR_Dn_TOL (n : Nat) : Nat := 0x40150210 + 0x80 * n
abbrev DOR_Dn_TOL_LOCK_GAP (n : Nat) : Field := ⟨DOR_Dn_TOL n, 16, 16⟩
abbrev DOR_Dn_TOL_POS_TOL (n : Nat) : Field := ⟨DOR_Dn_TOL n, 0, 16⟩
abbrev DOR_Dn_TIM0 (n : Nat) : Nat := 0x40150214 + 0x80 * n
abbrev DOR_Dn_TIM1 (n : Nat) : Nat := 0x40150218 + 0x80 * n
abbrev DOR_Dn_TIM1_NUDGE_T (n : Nat) : Field := ⟨DOR_Dn_TIM1 n, 16, 16⟩
abbrev DOR_Dn_TIM2 (n : Nat) : Nat := 0x4015021c + 0x80 * n
abbrev DOR_Dn_OBS (n : Nat) : Nat := 0x40150220 + 0x80 * n
abbrev DOR_Dn_FOBSCFG (n : Nat) : Nat := 0x40150224 + 0x80 * n
abbrev DOR_Dn_FOBSCFG_FOBS_N (n : Nat) : Field := ⟨DOR_Dn_FOBSCFG n, 16, 4⟩
abbrev DOR_Dn_FOBSCFG_FOBS_TH (n : Nat) : Field := ⟨DOR_Dn_FOBSCFG n, 0, 16⟩
abbrev DOR_Dn_FOBS (n : Nat) : Nat := 0x40150228 + 0x80 * n
abbrev DOR_Dn_FOBS_FOBS (n : Nat) : Field := ⟨DOR_Dn_FOBS n, 0, 16⟩
abbrev DOR_Dn_CLAMP (n : Nat) : Nat := 0x4015022c + 0x80 * n
abbrev DOR_Dn_CLAMP_FMAX (n : Nat) : Field := ⟨DOR_Dn_CLAMP n, 16, 16⟩
abbrev DOR_Dn_CLAMP_FCUT (n : Nat) : Field := ⟨DOR_Dn_CLAMP n, 0, 16⟩
abbrev DOR_Dn_ECLAMP (n : Nat) : Nat := 0x40150230 + 0x80 * n
abbrev DOR_Dn_ECLAMP_EMAX (n : Nat) : Field := ⟨DOR_Dn_ECLAMP n, 16, 16⟩
abbrev DOR_Dn_ECLAMP_ENUDGE (n : Nat) : Field := ⟨DOR_Dn_ECLAMP n, 0, 16⟩
abbrev DOR_Dn_KF (n : Nat) : Nat := 0x40150234 + 0x80 * n
abbrev DOR_Dn_KF_MASS (n : Nat) : Field := ⟨DOR_Dn_KF n, 16, 16⟩
abbrev DOR_Dn_KF_KF (n : Nat) : Field := ⟨DOR_Dn_KF n, 0, 16⟩
abbrev DOR_Dn_GAIN (n : Nat) : Nat := 0x40150238 + 0x80 * n
abbrev DOR_Dn_GAIN_CUT_N (n : Nat) : Field := ⟨DOR_Dn_GAIN n, 24, 8⟩
abbrev DOR_Dn_GAIN_GDN (n : Nat) : Field := ⟨DOR_Dn_GAIN n, 8, 8⟩
abbrev DOR_Dn_GAIN_GUP (n : Nat) : Field := ⟨DOR_Dn_GAIN n, 0, 8⟩
abbrev DOR_Dn_NUDGE (n : Nat) : Nat := 0x4015023c + 0x80 * n
abbrev DOR_Dn_NUDGE_NUDGE_V (n : Nat) : Field := ⟨DOR_Dn_NUDGE n, 0, 16⟩
abbrev DOR_Dn_CMD (n : Nat) : Nat := 0x40150240 + 0x80 * n
abbrev DOR_Dn_RES (n : Nat) : Nat := 0x40150244 + 0x80 * n
abbrev DOR_Dn_STAT (n : Nat) : Nat := 0x40150248 + 0x80 * n
abbrev DOR_Dn_STAT_OBSSRC (n : Nat) : Field := ⟨DOR_Dn_STAT n, 16, 8⟩
abbrev DOR_Dn_STAT_ADVABORT (n : Nat) : Field := ⟨DOR_Dn_STAT n, 15, 1⟩
abbrev DOR_Dn_STAT_STALLOPEN (n : Nat) : Field := ⟨DOR_Dn_STAT n, 14, 1⟩
abbrev DOR_Dn_STAT_DLKLOST (n : Nat) : Field := ⟨DOR_Dn_STAT n, 13, 1⟩
abbrev DOR_Dn_STAT_UNLOCKED (n : Nat) : Field := ⟨DOR_Dn_STAT n, 12, 1⟩
abbrev DOR_Dn_STAT_OBS (n : Nat) : Field := ⟨DOR_Dn_STAT n, 11, 1⟩
abbrev DOR_Dn_STAT_CUT (n : Nat) : Field := ⟨DOR_Dn_STAT n, 10, 1⟩
abbrev DOR_Dn_STAT_CLAMPING (n : Nat) : Field := ⟨DOR_Dn_STAT n, 9, 1⟩
abbrev DOR_Dn_STAT_NUDGE (n : Nat) : Field := ⟨DOR_Dn_STAT n, 8, 1⟩
abbrev DOR_Dn_STAT_REVCNT (n : Nat) : Field := ⟨DOR_Dn_STAT n, 4, 4⟩
abbrev DOR_Dn_STAT_STATE (n : Nat) : Field := ⟨DOR_Dn_STAT n, 0, 4⟩
abbrev DOR_Dn_POS (n : Nat) : Nat := 0x4015024c + 0x80 * n
abbrev DOR_Dn_SPD (n : Nat) : Nat := 0x40150250 + 0x80 * n
abbrev DOR_Dn_FEST (n : Nat) : Nat := 0x40150254 + 0x80 * n
abbrev DOR_Dn_FEST_PEAK (n : Nat) : Field := ⟨DOR_Dn_FEST n, 16, 16⟩
abbrev DOR_Dn_FEST_F (n : Nat) : Field := ⟨DOR_Dn_FEST n, 0, 16⟩
abbrev DOR_Dn_EKIN (n : Nat) : Nat := 0x40150258 + 0x80 * n
abbrev DOR_Dn_EKIN_PEAK (n : Nat) : Field := ⟨DOR_Dn_EKIN n, 16, 16⟩
abbrev DOR_Dn_EKIN_E (n : Nat) : Field := ⟨DOR_Dn_EKIN n, 0, 16⟩
abbrev DOR_Dn_G (n : Nat) : Nat := 0x4015025c + 0x80 * n
abbrev DOR_Dn_G_G (n : Nat) : Field := ⟨DOR_Dn_G n, 0, 9⟩

/-! VIS page (12_doors_interlocks.md). -/
abbrev VIS_Rk_CFG (n : Nat) : Nat := 0x40160100 + 0x40 * n
abbrev VIS_Rk_CFG_EN (n : Nat) : Field := ⟨VIS_Rk_CFG n, 0, 1⟩
abbrev VIS_Rk_CFG_DT (n : Nat) : Field := ⟨VIS_Rk_CFG n, 3, 1⟩
abbrev VIS_Rk_SIZE (n : Nat) : Nat := 0x40160104 + 0x40 * n
abbrev VIS_Rk_SIZE_LINES (n : Nat) : Field := ⟨VIS_Rk_SIZE n, 16, 10⟩
abbrev VIS_Rk_SIZE_PIXELS (n : Nat) : Field := ⟨VIS_Rk_SIZE n, 0, 10⟩
abbrev VIS_Rk_CAL (n : Nat) : Nat := 0x40160108 + 0x40 * n
abbrev VIS_Rk_DEPTH (n : Nat) : Nat := 0x4016010c + 0x40 * n
abbrev VIS_Rk_DEPTH_DSCALE (n : Nat) : Field := ⟨VIS_Rk_DEPTH n, 16, 16⟩
abbrev VIS_Rk_DEPTH_DMIN (n : Nat) : Field := ⟨VIS_Rk_DEPTH n, 0, 16⟩
abbrev VIS_Rk_HIT (n : Nat) : Nat := 0x40160110 + 0x40 * n
abbrev VIS_Rk_HIT_ZGAP (n : Nat) : Field := ⟨VIS_Rk_HIT n, 16, 16⟩
abbrev VIS_Rk_HIT_PIX_N (n : Nat) : Field := ⟨VIS_Rk_HIT n, 0, 8⟩
abbrev VIS_Rk_WIN (n : Nat) : Nat := 0x40160114 + 0x40 * n
abbrev VIS_Rk_WIN_ROW_HI (n : Nat) : Field := ⟨VIS_Rk_WIN n, 24, 5⟩
abbrev VIS_Rk_WIN_ROW_LO (n : Nat) : Field := ⟨VIS_Rk_WIN n, 16, 5⟩
abbrev VIS_Rk_WIN_COL_HI (n : Nat) : Field := ⟨VIS_Rk_WIN n, 8, 6⟩
abbrev VIS_Rk_WIN_COL_LO (n : Nat) : Field := ⟨VIS_Rk_WIN n, 0, 6⟩
abbrev VIS_Rk_THR (n : Nat) : Nat := 0x40160118 + 0x40 * n
abbrev VIS_Rk_THR_CLR_F (n : Nat) : Field := ⟨VIS_Rk_THR n, 24, 4⟩
abbrev VIS_Rk_THR_OCC_F (n : Nat) : Field := ⟨VIS_Rk_THR n, 16, 4⟩
abbrev VIS_Rk_THR_OCC_N (n : Nat) : Field := ⟨VIS_Rk_THR n, 0, 12⟩
abbrev VIS_Rk_TMO (n : Nat) : Nat := 0x4016011c + 0x40 * n
abbrev VIS_Rk_STAT (n : Nat) : Nat := 0x40160120 + 0x40 * n
abbrev VIS_Rk_STAT_CROSS (n : Nat) : Field := ⟨VIS_Rk_STAT n, 31, 1⟩
abbrev VIS_Rk_STAT_STALE (n : Nat) : Field := ⟨VIS_Rk_STAT n, 30, 1⟩
abbrev VIS_Rk_STAT_OCC (n : Nat) : Field := ⟨VIS_Rk_STAT n, 16, 12⟩
abbrev VIS_Rk_STAT_LINEERR (n : Nat) : Field := ⟨VIS_Rk_STAT n, 10, 1⟩
abbrev VIS_Rk_STAT_CRCERR (n : Nat) : Field := ⟨VIS_Rk_STAT n, 9, 1⟩
abbrev VIS_Rk_STAT_ECCERR (n : Nat) : Field := ⟨VIS_Rk_STAT n, 8, 1⟩
abbrev VIS_Rk_FRAMES (n : Nat) : Nat := 0x40160124 + 0x40 * n
abbrev VIS_Rk_FRAMES_DROPPED (n : Nat) : Field := ⟨VIS_Rk_FRAMES n, 16, 16⟩
abbrev VIS_Rk_FRAMES_GOOD (n : Nat) : Field := ⟨VIS_Rk_FRAMES n, 0, 16⟩
abbrev VIS_Rk_FRAME_T (n : Nat) : Nat := 0x40160128 + 0x40 * n
abbrev VIS_GRID (n m : Nat) : Nat := 0x40161000 + 0x100 * n + 0x4 * m

/-! TCE page (08_control_engine.md). -/
abbrev TCE_CTL (c : Nat) : Nat := 0x40180040 + 0x10000 * c
abbrev TCE_CTL_SOLO (c : Nat) : Field := ⟨TCE_CTL c, 8, 1⟩
abbrev TCE_CTL_GO (c : Nat) : Field := ⟨TCE_CTL c, 0, 1⟩
abbrev TCE_STAT (c : Nat) : Nat := 0x40180044 + 0x10000 * c
abbrev TCE_STAT_ECCU (c : Nat) : Field := ⟨TCE_STAT c, 19, 1⟩
abbrev TCE_STAT_ILLOP (c : Nat) : Field := ⟨TCE_STAT c, 18, 1⟩
abbrev TCE_STAT_BUSERR (c : Nat) : Field := ⟨TCE_STAT c, 16, 1⟩
abbrev TCE_STAT_SOLOACT (c : Nat) : Field := ⟨TCE_STAT c, 9, 1⟩
abbrev TCE_STAT_AUTH (c : Nat) : Field := ⟨TCE_STAT c, 8, 1⟩
abbrev TCE_STAT_CURTASK (c : Nat) : Field := ⟨TCE_STAT c, 4, 4⟩
abbrev TCE_STAT_STATE (c : Nat) : Field := ⟨TCE_STAT c, 0, 3⟩
abbrev TCE_OVR (c : Nat) : Nat := 0x40180048 + 0x10000 * c
abbrev TCE_OVR_CONSEC (c : Nat) : Field := ⟨TCE_OVR c, 16, 4⟩
abbrev TCE_OVR_TOTAL (c : Nat) : Field := ⟨TCE_OVR c, 0, 16⟩
abbrev TCE_OVRCFG (c : Nat) : Nat := 0x4018004c + 0x10000 * c
abbrev TCE_OVRCFG_OVR_LIMIT (c : Nat) : Field := ⟨TCE_OVRCFG c, 0, 4⟩
abbrev TCE_LATE (c : Nat) : Nat := 0x40180050 + 0x10000 * c
abbrev TCE_LATE_LATE (c : Nat) : Field := ⟨TCE_LATE c, 0, 16⟩
abbrev TCE_TRIG (c : Nat) : Nat := 0x40180054 + 0x10000 * c
abbrev TCE_BGPC (c : Nat) : Nat := 0x40180058 + 0x10000 * c
abbrev TCE_BGPC_BGEN (c : Nat) : Field := ⟨TCE_BGPC c, 31, 1⟩
abbrev TCE_BGPC_BGPC (c : Nat) : Field := ⟨TCE_BGPC c, 0, 14⟩
abbrev TCE_MANIFEST (c : Nat) : Nat := 0x4018005c + 0x10000 * c
abbrev TCE_PCAUTH (c : Nat) : Nat := 0x40180060 + 0x10000 * c
abbrev TCE_PCAUTH_BUSY (c : Nat) : Field := ⟨TCE_PCAUTH c, 31, 1⟩
abbrev TCE_ERRADDR (c : Nat) : Nat := 0x40180064 + 0x10000 * c
abbrev TCE_ECCCNT (c : Nat) : Nat := 0x40180068 + 0x10000 * c
abbrev TCE_PC (c : Nat) : Nat := 0x4018006c + 0x10000 * c
abbrev TCE_BUSY (c : Nat) : Nat := 0x40180070 + 0x10000 * c
abbrev TCE_BUSY_MAX (c : Nat) : Field := ⟨TCE_BUSY c, 16, 16⟩
abbrev TCE_BUSY_LAST (c : Nat) : Field := ⟨TCE_BUSY c, 0, 16⟩
abbrev TCE_TASKk_CFG (c n : Nat) : Nat := 0x40180100 + 0x10000 * c + 0x20 * n
abbrev TCE_TASKk_CFG_SDIV (c n : Nat) : Field := ⟨TCE_TASKk_CFG c n, 20, 4⟩
abbrev TCE_TASKk_CFG_DIV (c n : Nat) : Field := ⟨TCE_TASKk_CFG c n, 16, 4⟩
abbrev TCE_TASKk_CFG_PHASE (c n : Nat) : Field := ⟨TCE_TASKk_CFG c n, 12, 4⟩
abbrev TCE_TASKk_CFG_PRIO (c n : Nat) : Field := ⟨TCE_TASKk_CFG c n, 8, 4⟩
abbrev TCE_TASKk_CFG_TRIG (c n : Nat) : Field := ⟨TCE_TASKk_CFG c n, 4, 3⟩
abbrev TCE_TASKk_CFG_IEN (c n : Nat) : Field := ⟨TCE_TASKk_CFG c n, 2, 1⟩
abbrev TCE_TASKk_CFG_ASAP (c n : Nat) : Field := ⟨TCE_TASKk_CFG c n, 1, 1⟩
abbrev TCE_TASKk_CFG_EN (c n : Nat) : Field := ⟨TCE_TASKk_CFG c n, 0, 1⟩
abbrev TCE_TASKk_ENTRY (c n : Nat) : Nat := 0x40180104 + 0x10000 * c + 0x20 * n
abbrev TCE_TASKk_ENTRY_SENTRY (c n : Nat) : Field := ⟨TCE_TASKk_ENTRY c n, 16, 14⟩
abbrev TCE_TASKk_ENTRY_ENTRY (c n : Nat) : Field := ⟨TCE_TASKk_ENTRY c n, 0, 14⟩
abbrev TCE_TASKk_OUT (c n : Nat) : Nat := 0x40180108 + 0x10000 * c + 0x20 * n
abbrev TCE_TASKk_OUT_AX (c n : Nat) : Field := ⟨TCE_TASKk_OUT c n, 8, 4⟩
abbrev TCE_TASKk_OUT_PS (c n : Nat) : Field := ⟨TCE_TASKk_OUT c n, 0, 6⟩
abbrev TCE_TASKk_STAT (c n : Nat) : Nat := 0x4018010c + 0x10000 * c + 0x20 * n
abbrev TCE_TASKk_STAT_LATE (c n : Nat) : Field := ⟨TCE_TASKk_STAT c n, 9, 1⟩
abbrev TCE_TASKk_STAT_OVR (c n : Nat) : Field := ⟨TCE_TASKk_STAT c n, 8, 1⟩
abbrev TCE_TASKk_STAT_PEND (c n : Nat) : Field := ⟨TCE_TASKk_STAT c n, 1, 1⟩
abbrev TCE_TASKk_STAT_RUN (c n : Nat) : Field := ⟨TCE_TASKk_STAT c n, 0, 1⟩
abbrev TCE_TASKk_TIME (c n : Nat) : Nat := 0x40180110 + 0x10000 * c + 0x20 * n
abbrev TCE_TASKk_TIME_MAX (c n : Nat) : Field := ⟨TCE_TASKk_TIME c n, 16, 16⟩
abbrev TCE_TASKk_TIME_LAST (c n : Nat) : Field := ⟨TCE_TASKk_TIME c n, 0, 16⟩
abbrev TCE_TASKk_OVR (c n : Nat) : Nat := 0x40180114 + 0x10000 * c + 0x20 * n
abbrev TCE_TASKk_OVR_CNT (c n : Nat) : Field := ⟨TCE_TASKk_OVR c n, 0, 16⟩

/-! CAN page (15_can_fd.md). -/
abbrev CAN_CTL (c : Nat) : Nat := 0x40200040 + 0x10000 * c
abbrev CAN_CTL_NEGEN (c : Nat) : Field := ⟨CAN_CTL c, 4, 1⟩
abbrev CAN_CTL_TDCEN (c : Nat) : Field := ⟨CAN_CTL c, 3, 1⟩
abbrev CAN_CTL_FDOE (c : Nat) : Field := ⟨CAN_CTL c, 2, 1⟩
abbrev CAN_CTL_LOM (c : Nat) : Field := ⟨CAN_CTL c, 1, 1⟩
abbrev CAN_CTL_INIT (c : Nat) : Field := ⟨CAN_CTL c, 0, 1⟩
abbrev CAN_STAT (c : Nat) : Nat := 0x40200044 + 0x10000 * c
abbrev CAN_STAT_NOKEY (c : Nat) : Field := ⟨CAN_STAT c, 31, 1⟩
abbrev CAN_STAT_QUIET (c : Nat) : Field := ⟨CAN_STAT c, 30, 1⟩
abbrev CAN_STAT_ACT (c : Nat) : Field := ⟨CAN_STAT c, 19, 1⟩
abbrev CAN_STAT_EWARN (c : Nat) : Field := ⟨CAN_STAT c, 18, 1⟩
abbrev CAN_STAT_BOFF (c : Nat) : Field := ⟨CAN_STAT c, 17, 1⟩
abbrev CAN_STAT_EP (c : Nat) : Field := ⟨CAN_STAT c, 16, 1⟩
abbrev CAN_STAT_BORC (c : Nat) : Field := ⟨CAN_STAT c, 0, 8⟩
abbrev CAN_ERR (c : Nat) : Nat := 0x40200048 + 0x10000 * c
abbrev CAN_ERR_TDCV (c : Nat) : Field := ⟨CAN_ERR c, 24, 7⟩
abbrev CAN_ERR_DLEC (c : Nat) : Field := ⟨CAN_ERR c, 20, 3⟩
abbrev CAN_ERR_LEC (c : Nat) : Field := ⟨CAN_ERR c, 16, 3⟩
abbrev CAN_ERR_RP (c : Nat) : Field := ⟨CAN_ERR c, 15, 1⟩
abbrev CAN_ERR_REC (c : Nat) : Field := ⟨CAN_ERR c, 8, 7⟩
abbrev CAN_ERR_TEC (c : Nat) : Field := ⟨CAN_ERR c, 0, 8⟩
abbrev CAN_NBT (c : Nat) : Nat := 0x4020004c + 0x10000 * c
abbrev CAN_NBT_NBRP (c : Nat) : Field := ⟨CAN_NBT c, 24, 8⟩
abbrev CAN_NBT_NTSEG1 (c : Nat) : Field := ⟨CAN_NBT c, 16, 8⟩
abbrev CAN_NBT_NTSEG2 (c : Nat) : Field := ⟨CAN_NBT c, 8, 7⟩
abbrev CAN_NBT_NSJW (c : Nat) : Field := ⟨CAN_NBT c, 0, 7⟩
abbrev CAN_DBT (c n : Nat) : Nat := 0x40200050 + 0x10000 * c + 0x4 * n
abbrev CAN_DBT_DBRP (c n : Nat) : Field := ⟨CAN_DBT c n, 24, 5⟩
abbrev CAN_DBT_DTSEG1 (c n : Nat) : Field := ⟨CAN_DBT c n, 16, 5⟩
abbrev CAN_DBT_DTSEG2 (c n : Nat) : Field := ⟨CAN_DBT c n, 8, 4⟩
abbrev CAN_DBT_DSJW (c n : Nat) : Field := ⟨CAN_DBT c n, 0, 4⟩
abbrev CAN_NEG (c : Nat) : Nat := 0x40200064 + 0x10000 * c
abbrev CAN_NEG_MASK (c : Nat) : Field := ⟨CAN_NEG c, 16, 5⟩
abbrev CAN_NEG_NODE (c : Nat) : Field := ⟨CAN_NEG c, 12, 4⟩
abbrev CAN_NEG_NEG_ID (c : Nat) : Field := ⟨CAN_NEG c, 0, 11⟩
abbrev CAN_NEG_EXP (c : Nat) : Nat := 0x40200068 + 0x10000 * c
abbrev CAN_NEG_EXP_EXP (c : Nat) : Field := ⟨CAN_NEG_EXP c, 0, 16⟩
abbrev CAN_NEG_STAT (c : Nat) : Nat := 0x4020006c + 0x10000 * c
abbrev CAN_NEG_STAT_DONE (c : Nat) : Field := ⟨CAN_NEG_STAT c, 31, 1⟩
abbrev CAN_NEG_STAT_NEGFAIL (c : Nat) : Field := ⟨CAN_NEG_STAT c, 30, 1⟩
abbrev CAN_NEG_STAT_NEGMISS (c : Nat) : Field := ⟨CAN_NEG_STAT c, 29, 1⟩
abbrev CAN_NEG_STAT_RATECHG (c : Nat) : Field := ⟨CAN_NEG_STAT c, 28, 1⟩
abbrev CAN_NEG_STAT_RATE (c : Nat) : Field := ⟨CAN_NEG_STAT c, 16, 4⟩
abbrev CAN_NEG_STAT_HEARD (c : Nat) : Field := ⟨CAN_NEG_STAT c, 0, 16⟩
abbrev CAN_TIME (c : Nat) : Nat := 0x40200070 + 0x10000 * c
abbrev CAN_TIME_MASTER (c : Nat) : Field := ⟨CAN_TIME c, 31, 1⟩
abbrev CAN_TIME_ALIGN (c : Nat) : Field := ⟨CAN_TIME c, 30, 1⟩
abbrev CAN_TIME_REF_DIV (c : Nat) : Field := ⟨CAN_TIME c, 16, 8⟩
abbrev CAN_TIME_REF_PER (c : Nat) : Field := ⟨CAN_TIME c, 0, 16⟩
abbrev CAN_REFID (c : Nat) : Nat := 0x40200074 + 0x10000 * c
abbrev CAN_TIME_STAT (c : Nat) : Nat := 0x40200078 + 0x10000 * c
abbrev CAN_TIME_STAT_REFOK (c : Nat) : Field := ⟨CAN_TIME_STAT c, 31, 1⟩
abbrev CAN_TIME_STAT_REFLOST (c : Nat) : Field := ⟨CAN_TIME_STAT c, 30, 1⟩
abbrev CAN_TIME_STAT_LOCALT (c : Nat) : Field := ⟨CAN_TIME_STAT c, 29, 1⟩
abbrev CAN_TIME_STAT_MASTCOL (c : Nat) : Field := ⟨CAN_TIME_STAT c, 28, 1⟩
abbrev CAN_TIME_STAT_CYCCNT (c : Nat) : Field := ⟨CAN_TIME_STAT c, 16, 8⟩
abbrev CAN_TIME_STAT_CYCTIME (c : Nat) : Field := ⟨CAN_TIME_STAT c, 0, 16⟩
abbrev CAN_REF_STAMP (c : Nat) : Nat := 0x4020007c + 0x10000 * c
abbrev CAN_RXCFG (c : Nat) : Nat := 0x40200080 + 0x10000 * c
abbrev CAN_RXCFG_Q1WM (c : Nat) : Field := ⟨CAN_RXCFG c, 16, 8⟩
abbrev CAN_RXCFG_Q0WM (c : Nat) : Field := ⟨CAN_RXCFG c, 8, 8⟩
abbrev CAN_RXCFG_RTRACC (c : Nat) : Field := ⟨CAN_RXCFG c, 2, 1⟩
abbrev CAN_RXCFG_NOMATCH (c : Nat) : Field := ⟨CAN_RXCFG c, 0, 2⟩
abbrev CAN_RQ_STAT (c : Nat) : Nat := 0x40200084 + 0x10000 * c
abbrev CAN_RQ_STAT_Q1LVL (c : Nat) : Field := ⟨CAN_RQ_STAT c, 8, 7⟩
abbrev CAN_RQ_STAT_Q0LVL (c : Nat) : Field := ⟨CAN_RQ_STAT c, 0, 7⟩
abbrev CAN_LOCK_CFG (c : Nat) : Nat := 0x40200088 + 0x10000 * c
abbrev CAN_LOST (c : Nat) : Nat := 0x4020008c + 0x10000 * c
abbrev CAN_LOST_LOBJ (c : Nat) : Field := ⟨CAN_LOST c, 8, 7⟩
abbrev CAN_LOST_LOCKTO (c : Nat) : Field := ⟨CAN_LOST c, 1, 1⟩
abbrev CAN_LOST_LOST (c : Nat) : Field := ⟨CAN_LOST c, 0, 1⟩
abbrev CAN_HOLD (c : Nat) : Nat := 0x40200090 + 0x10000 * c
abbrev CAN_HOLD_FULL (c : Nat) : Field := ⟨CAN_HOLD c, 31, 1⟩
abbrev CAN_HOLD_OBJ (c : Nat) : Field := ⟨CAN_HOLD c, 0, 7⟩
abbrev CAN_IDCOL (c : Nat) : Nat := 0x40200094 + 0x10000 * c
abbrev CAN_IDCOL_LOBJ (c : Nat) : Field := ⟨CAN_IDCOL c, 16, 7⟩
abbrev CAN_IDCOL_COUNT (c : Nat) : Field := ⟨CAN_IDCOL c, 0, 16⟩
abbrev CAN_WUP (c : Nat) : Nat := 0x40200098 + 0x10000 * c
abbrev CAN_TXRQ (c n : Nat) : Nat := 0x402000a0 + 0x10000 * c + 0x4 * n
abbrev CAN_TXCAN (c n : Nat) : Nat := 0x402000b0 + 0x10000 * c + 0x4 * n
abbrev CAN_TXOK (c n : Nat) : Nat := 0x402000c0 + 0x10000 * c + 0x4 * n
abbrev CAN_TXFAIL (c n : Nat) : Nat := 0x402000d0 + 0x10000 * c + 0x4 * n
abbrev CAN_NEWDAT (c n : Nat) : Nat := 0x402000e0 + 0x10000 * c + 0x4 * n
abbrev CAN_FLTj_MATCH (c n : Nat) : Nat := 0x40200100 + 0x10000 * c + 0xc * n
abbrev CAN_FLTj_MATCH_EN (c n : Nat) : Field := ⟨CAN_FLTj_MATCH c n, 31, 1⟩
abbrev CAN_FLTj_MATCH_XTD (c n : Nat) : Field := ⟨CAN_FLTj_MATCH c n, 30, 1⟩
abbrev CAN_FLTj_MATCH_ID (c n : Nat) : Field := ⟨CAN_FLTj_MATCH c n, 0, 29⟩
abbrev CAN_FLTj_MASK (c n : Nat) : Nat := 0x40200104 + 0x10000 * c + 0xc * n
abbrev CAN_FLTj_MASK_MASK (c n : Nat) : Field := ⟨CAN_FLTj_MASK c n, 0, 29⟩
abbrev CAN_FLTj_ACT (c n : Nat) : Nat := 0x40200108 + 0x10000 * c + 0xc * n
abbrev CAN_FLTj_ACT_REPLAY (c n : Nat) : Field := ⟨CAN_FLTj_ACT c n, 31, 1⟩
abbrev CAN_FLTj_ACT_ACT (c n : Nat) : Field := ⟨CAN_FLTj_ACT c n, 16, 2⟩
abbrev CAN_FLTj_ACT_OBJ (c n : Nat) : Field := ⟨CAN_FLTj_ACT c n, 0, 7⟩
abbrev CAN_RQ0_Ww (c n : Nat) : Nat := 0x40200400 + 0x10000 * c + 0x4 * n
abbrev CAN_RQ1_Ww (c n : Nat) : Nat := 0x40200480 + 0x10000 * c + 0x4 * n
abbrev CAN_OBJn_W0 (c n : Nat) : Nat := 0x40204000 + 0x10000 * c + 0x80 * n
abbrev CAN_OBJn_W0_TYPE (c n : Nat) : Field := ⟨CAN_OBJn_W0 c n, 30, 2⟩
abbrev CAN_OBJn_W1 (c n : Nat) : Nat := 0x40204004 + 0x10000 * c + 0x80 * n
abbrev CAN_OBJn_W1_OWNER (c n : Nat) : Field := ⟨CAN_OBJn_W1 c n, 30, 2⟩
abbrev CAN_OBJn_W1_CONT (c n : Nat) : Field := ⟨CAN_OBJn_W1 c n, 26, 1⟩
abbrev CAN_OBJn_W1_IE (c n : Nat) : Field := ⟨CAN_OBJn_W1 c n, 25, 1⟩
abbrev CAN_OBJn_W1_OS (c n : Nat) : Field := ⟨CAN_OBJn_W1 c n, 24, 1⟩
abbrev CAN_OBJn_W1_OVW (c n : Nat) : Field := ⟨CAN_OBJn_W1 c n, 23, 1⟩
abbrev CAN_OBJn_W1_FDF (c n : Nat) : Field := ⟨CAN_OBJn_W1 c n, 21, 1⟩
abbrev CAN_OBJn_W1_DLC (c n : Nat) : Field := ⟨CAN_OBJn_W1 c n, 8, 4⟩
abbrev CAN_OBJn_W1_LASTW (c n : Nat) : Field := ⟨CAN_OBJn_W1 c n, 0, 5⟩
abbrev CAN_OBJn_W2 (c n : Nat) : Nat := 0x40204008 + 0x10000 * c + 0x80 * n
abbrev CAN_OBJn_W3 (c n : Nat) : Nat := 0x4020400c + 0x10000 * c + 0x80 * n
abbrev CAN_OBJn_W3_NEWDAT (c n : Nat) : Field := ⟨CAN_OBJn_W3 c n, 31, 1⟩
abbrev CAN_OBJn_W3_LOST (c n : Nat) : Field := ⟨CAN_OBJn_W3 c n, 30, 1⟩
abbrev CAN_OBJn_W3_OVWR (c n : Nat) : Field := ⟨CAN_OBJn_W3 c n, 29, 1⟩
abbrev CAN_OBJn_W3_LOCKED (c n : Nat) : Field := ⟨CAN_OBJn_W3 c n, 28, 1⟩
abbrev CAN_OBJn_W3_LOCKAG (c n : Nat) : Field := ⟨CAN_OBJn_W3 c n, 25, 3⟩
abbrev CAN_OBJn_W3_SUSP (c n : Nat) : Field := ⟨CAN_OBJn_W3 c n, 24, 1⟩
abbrev CAN_OBJn_W3_TXRQ (c n : Nat) : Field := ⟨CAN_OBJn_W3 c n, 23, 1⟩
abbrev CAN_OBJn_W3_TXOK (c n : Nat) : Field := ⟨CAN_OBJn_W3 c n, 22, 1⟩
abbrev CAN_OBJn_W3_TXFAIL (c n : Nat) : Field := ⟨CAN_OBJn_W3 c n, 21, 1⟩
abbrev CAN_OBJn_W3_FAILCAUSE (c n : Nat) : Field := ⟨CAN_OBJn_W3 c n, 16, 4⟩
abbrev CAN_OBJn_W3_FILTER (c n : Nat) : Field := ⟨CAN_OBJn_W3 c n, 8, 8⟩
abbrev CAN_OBJn_W3_IDCOLCNT (c n : Nat) : Field := ⟨CAN_OBJn_W3 c n, 0, 2⟩
abbrev CAN_OBJn_DATA (c n m : Nat) : Nat := 0x40204010 + 0x10000 * c + 0x80 * n + 0x4 * m

/-! ETH page (16_ethernet_skovesafe.md). -/
abbrev ETH_CFG (c : Nat) : Nat := 0x40240040 + 0x10000 * c
abbrev ETH_CFG_MTU (c : Nat) : Field := ⟨ETH_CFG c, 16, 14⟩
abbrev ETH_CFG_AUTO (c : Nat) : Field := ⟨ETH_CFG c, 8, 1⟩
abbrev ETH_CFG_MODE (c : Nat) : Field := ⟨ETH_CFG c, 4, 2⟩
abbrev ETH_STAT (c : Nat) : Nat := 0x40240044 + 0x10000 * c
abbrev ETH_STAT_LINK (c : Nat) : Field := ⟨ETH_STAT c, 31, 1⟩
abbrev ETH_STAT_PHYLINK (c : Nat) : Field := ⟨ETH_STAT c, 30, 1⟩
abbrev ETH_STAT_MODE (c : Nat) : Field := ⟨ETH_STAT c, 4, 2⟩
abbrev ETH_MAC_LO (c : Nat) : Nat := 0x40240048 + 0x10000 * c
abbrev ETH_MAC_HI (c : Nat) : Nat := 0x4024004c + 0x10000 * c
abbrev ETH_MAC_HI_ADDR (c : Nat) : Field := ⟨ETH_MAC_HI c, 0, 16⟩
abbrev ETH_PEER_LO (c : Nat) : Nat := 0x40240050 + 0x10000 * c
abbrev ETH_PEER_HI (c : Nat) : Nat := 0x40240054 + 0x10000 * c
abbrev ETH_ETYPE (c : Nat) : Nat := 0x40240058 + 0x10000 * c
abbrev ETH_MDIO_CMD (c : Nat) : Nat := 0x4024005c + 0x10000 * c
abbrev ETH_MDIO_CMD_BUSY (c : Nat) : Field := ⟨ETH_MDIO_CMD c, 31, 1⟩
abbrev ETH_MDIO_CMD_ERR (c : Nat) : Field := ⟨ETH_MDIO_CMD c, 30, 1⟩
abbrev ETH_MDIO_CMD_OP (c : Nat) : Field := ⟨ETH_MDIO_CMD c, 20, 2⟩
abbrev ETH_MDIO_CMD_DEVAD (c : Nat) : Field := ⟨ETH_MDIO_CMD c, 8, 5⟩
abbrev ETH_MDIO_CMD_PHYAD (c : Nat) : Field := ⟨ETH_MDIO_CMD c, 0, 5⟩
abbrev ETH_MDIO_DATA (c : Nat) : Nat := 0x40240060 + 0x10000 * c
abbrev ETH_MDIO_RES (c : Nat) : Nat := 0x40240064 + 0x10000 * c
abbrev ETH_MDIO_MAP (c : Nat) : Nat := 0x40240068 + 0x10000 * c
abbrev ETH_MDIO_MAP_LPOS (c : Nat) : Field := ⟨ETH_MDIO_MAP c, 12, 4⟩
abbrev ETH_MDIO_MAP_FPOS (c : Nat) : Field := ⟨ETH_MDIO_MAP c, 8, 4⟩
abbrev ETH_MDIO_MAP_RMAP (c : Nat) : Field := ⟨ETH_MDIO_MAP c, 0, 8⟩
abbrev ETH_RXRING (c : Nat) : Nat := 0x4024006c + 0x10000 * c
abbrev ETH_RXRING_BUFSZ (c : Nat) : Field := ⟨ETH_RXRING c, 0, 8⟩
abbrev ETH_RXIDX (c : Nat) : Nat := 0x40240070 + 0x10000 * c
abbrev ETH_RXIDX_HEAD (c : Nat) : Field := ⟨ETH_RXIDX c, 16, 8⟩
abbrev ETH_RXIDX_TAIL (c : Nat) : Field := ⟨ETH_RXIDX c, 0, 8⟩
abbrev ETH_TXRING (c : Nat) : Nat := 0x40240074 + 0x10000 * c
abbrev ETH_TXIDX (c : Nat) : Nat := 0x40240078 + 0x10000 * c
abbrev ETH_TXIDX_HEAD (c : Nat) : Field := ⟨ETH_TXIDX c, 16, 8⟩
abbrev ETH_TXIDX_TAIL (c : Nat) : Field := ⟨ETH_TXIDX c, 0, 8⟩
abbrev ETH_RXCNT (c : Nat) : Nat := 0x4024007c + 0x10000 * c
abbrev ETH_RXCNT_ERR (c : Nat) : Field := ⟨ETH_RXCNT c, 16, 16⟩
abbrev ETH_RXCNT_OK (c : Nat) : Field := ⟨ETH_RXCNT c, 0, 16⟩
abbrev ETH_TXCNT (c : Nat) : Nat := 0x40240080 + 0x10000 * c
abbrev ETH_TXCNT_DROP (c : Nat) : Field := ⟨ETH_TXCNT c, 16, 16⟩
abbrev ETH_TXCNT_OK (c : Nat) : Field := ⟨ETH_TXCNT c, 0, 16⟩
abbrev ETH_GCL_CFG (c : Nat) : Nat := 0x40240084 + 0x10000 * c
abbrev ETH_GCL_CFG_EN (c : Nat) : Field := ⟨ETH_GCL_CFG c, 8, 1⟩
abbrev ETH_GCL_CFG_N (c : Nat) : Field := ⟨ETH_GCL_CFG c, 0, 5⟩
abbrev ETH_GCLi (c n : Nat) : Nat := 0x402400c0 + 0x10000 * c + 0x4 * n
abbrev ETH_GCLi_GATES (c n : Nat) : Field := ⟨ETH_GCLi c n, 24, 8⟩
abbrev ETH_GCLi_DUR (c n : Nat) : Field := ⟨ETH_GCLi c n, 0, 24⟩
abbrev ETH_PTP_CFG (c : Nat) : Nat := 0x40240100 + 0x10000 * c
abbrev ETH_PTP_CFG_PTPPORT (c : Nat) : Field := ⟨ETH_PTP_CFG c, 12, 1⟩
abbrev ETH_PTP_CFG_SYNC_LOG (c : Nat) : Field := ⟨ETH_PTP_CFG c, 4, 4⟩
abbrev ETH_PTP_CFG_GMSEL (c : Nat) : Field := ⟨ETH_PTP_CFG c, 0, 2⟩
abbrev ETH_PTP_NS_LO (c : Nat) : Nat := 0x40240104 + 0x10000 * c
abbrev ETH_PTP_NS_HI (c : Nat) : Nat := 0x40240108 + 0x10000 * c
abbrev ETH_PTP_OFS (c : Nat) : Nat := 0x4024010c + 0x10000 * c
abbrev ETH_PTP_PDLY (c : Nat) : Nat := 0x40240110 + 0x10000 * c
abbrev ETH_PTP_RATE (c : Nat) : Nat := 0x40240114 + 0x10000 * c
abbrev ETH_TBD_CFG (c : Nat) : Nat := 0x40240118 + 0x10000 * c
abbrev ETH_TBD_CFG_STEP_EN (c : Nat) : Field := ⟨ETH_TBD_CFG c, 24, 1⟩
abbrev ETH_TBD_CFG_SLEW_MAX (c : Nat) : Field := ⟨ETH_TBD_CFG c, 16, 4⟩
abbrev ETH_TBD_CFG_LOCK_TOL (c : Nat) : Field := ⟨ETH_TBD_CFG c, 0, 16⟩
abbrev ETH_TBD_STAT (c : Nat) : Nat := 0x4024011c + 0x10000 * c
abbrev ETH_TBD_STAT_LOCKED (c : Nat) : Field := ⟨ETH_TBD_STAT c, 31, 1⟩
abbrev ETH_TBD_STAT_GMACT (c : Nat) : Field := ⟨ETH_TBD_STAT c, 30, 1⟩
abbrev ETH_TBD_STAT_STEPPED (c : Nat) : Field := ⟨ETH_TBD_STAT c, 9, 1⟩
abbrev ETH_TBD_STAT_SYNCLOST (c : Nat) : Field := ⟨ETH_TBD_STAT c, 8, 1⟩
abbrev ETH_T0_ERR (c : Nat) : Nat := 0x40240120 + 0x10000 * c
abbrev ETH_T0_STAMP_LO (c : Nat) : Nat := 0x40240124 + 0x10000 * c
abbrev ETH_T0_STAMP_HI (c : Nat) : Nat := 0x40240128 + 0x10000 * c

/-! SSE page (16_ethernet_skovesafe.md). -/
abbrev SSE_CFG : Nat := 0x40260040
abbrev SSE_WD_LO : Nat := 0x40260044
abbrev SSE_WD_HI : Nat := 0x40260048
abbrev SSE_ERR : Nat := 0x4026004c
abbrev SSE_ERR_CRCERR : Field := ⟨SSE_ERR, 16, 16⟩
abbrev SSE_ERR_AUTHERR : Field := ⟨SSE_ERR, 0, 16⟩
abbrev SSE_UNK : Nat := 0x40260050
abbrev SSE_UNK_CNT : Field := ⟨SSE_UNK, 0, 16⟩
abbrev SSE_PATH : Nat := 0x40260054
abbrev SSE_PATH_OK : Field := ⟨SSE_PATH, 0, 3⟩
abbrev SSE_Ck_CFG (n : Nat) : Nat := 0x40260100 + 0x40 * n
abbrev SSE_Ck_CFG_EN (n : Nat) : Field := ⟨SSE_Ck_CFG n, 31, 1⟩
abbrev SSE_Ck_CFG_DIR (n : Nat) : Field := ⟨SSE_Ck_CFG n, 30, 1⟩
abbrev SSE_Ck_CFG_KIND (n : Nat) : Field := ⟨SSE_Ck_CFG n, 28, 2⟩
abbrev SSE_Ck_CFG_PATHS (n : Nat) : Field := ⟨SSE_Ck_CFG n, 24, 3⟩
abbrev SSE_Ck_CFG_CANCTL (n : Nat) : Field := ⟨SSE_Ck_CFG n, 20, 2⟩
abbrev SSE_Ck_CFG_CANDIV (n : Nat) : Field := ⟨SSE_Ck_CFG n, 16, 4⟩
abbrev SSE_Ck_CFG_PERIOD (n : Nat) : Field := ⟨SSE_Ck_CFG n, 12, 4⟩
abbrev SSE_Ck_CFG_SUBST (n : Nat) : Field := ⟨SSE_Ck_CFG n, 10, 1⟩
abbrev SSE_Ck_CFG_LEN (n : Nat) : Field := ⟨SSE_Ck_CFG n, 0, 7⟩
abbrev SSE_Ck_CID (n : Nat) : Nat := 0x40260104 + 0x40 * n
abbrev SSE_Ck_CID_CANOBJ (n : Nat) : Field := ⟨SSE_Ck_CID n, 16, 7⟩
abbrev SSE_Ck_CID_CID (n : Nat) : Field := ⟨SSE_Ck_CID n, 0, 16⟩
abbrev SSE_Ck_VID (n : Nat) : Nat := 0x40260108 + 0x40 * n
abbrev SSE_Ck_TIM (n : Nat) : Nat := 0x4026010c + 0x40 * n
abbrev SSE_Ck_TIM_WD (n : Nat) : Field := ⟨SSE_Ck_TIM n, 16, 16⟩
abbrev SSE_Ck_TIM_MAXAGE (n : Nat) : Field := ⟨SSE_Ck_TIM n, 0, 16⟩
abbrev SSE_Ck_OFS (n : Nat) : Nat := 0x40260110 + 0x40 * n
abbrev SSE_Ck_BUFA (n : Nat) : Nat := 0x40260114 + 0x40 * n
abbrev SSE_Ck_BUFB (n : Nat) : Nat := 0x40260118 + 0x40 * n
abbrev SSE_Ck_SUB (n : Nat) : Nat := 0x4026011c + 0x40 * n
abbrev SSE_Ck_CTL (n : Nat) : Nat := 0x40260120 + 0x40 * n
abbrev SSE_Ck_CTL_BSEL (n : Nat) : Field := ⟨SSE_Ck_CTL n, 0, 1⟩
abbrev SSE_Ck_SEQ (n : Nat) : Nat := 0x40260124 + 0x40 * n
abbrev SSE_Ck_AGE (n : Nat) : Nat := 0x40260128 + 0x40 * n
abbrev SSE_Ck_AGE_SINCE (n : Nat) : Field := ⟨SSE_Ck_AGE n, 16, 16⟩
abbrev SSE_Ck_AGE_AGE (n : Nat) : Field := ⟨SSE_Ck_AGE n, 0, 16⟩
abbrev SSE_Ck_STAT (n : Nat) : Nat := 0x4026012c + 0x40 * n
abbrev SSE_Ck_STAT_EXP (n : Nat) : Field := ⟨SSE_Ck_STAT n, 31, 1⟩
abbrev SSE_Ck_STAT_SUBACT (n : Nat) : Field := ⟨SSE_Ck_STAT n, 30, 1⟩
abbrev SSE_Ck_STAT_UNTIMED (n : Nat) : Field := ⟨SSE_Ck_STAT n, 29, 1⟩
abbrev SSE_Ck_STAT_BUFCUR (n : Nat) : Field := ⟨SSE_Ck_STAT n, 28, 1⟩
abbrev SSE_Ck_STAT_PATHOK (n : Nat) : Field := ⟨SSE_Ck_STAT n, 24, 3⟩
abbrev SSE_Ck_STAT_KEYERR (n : Nat) : Field := ⟨SSE_Ck_STAT n, 12, 1⟩
abbrev SSE_Ck_STAT_OLD (n : Nat) : Field := ⟨SSE_Ck_STAT n, 11, 1⟩
abbrev SSE_Ck_STAT_LOSTSEQ (n : Nat) : Field := ⟨SSE_Ck_STAT n, 10, 1⟩
abbrev SSE_Ck_STAT_STALE (n : Nat) : Field := ⟨SSE_Ck_STAT n, 9, 1⟩
abbrev SSE_Ck_STAT_CRCE (n : Nat) : Field := ⟨SSE_Ck_STAT n, 8, 1⟩
abbrev SSE_Ck_STAT_AUTHE (n : Nat) : Field := ⟨SSE_Ck_STAT n, 7, 1⟩
abbrev SSE_Ck_CNT0 (n : Nat) : Nat := 0x40260130 + 0x40 * n
abbrev SSE_Ck_CNT0_DUP (n : Nat) : Field := ⟨SSE_Ck_CNT0 n, 16, 16⟩
abbrev SSE_Ck_CNT0_ACC (n : Nat) : Field := ⟨SSE_Ck_CNT0 n, 0, 16⟩
abbrev SSE_Ck_CNT1 (n : Nat) : Nat := 0x40260134 + 0x40 * n
abbrev SSE_Ck_CNT1_LOST (n : Nat) : Field := ⟨SSE_Ck_CNT1 n, 16, 16⟩
abbrev SSE_Ck_CNT1_REJ (n : Nat) : Field := ⟨SSE_Ck_CNT1 n, 0, 16⟩

/-! HSP page (19_security_lifecycle.md). -/
abbrev HSP_CFG : Nat := 0x40270040
abbrev HSP_CFG_DUMMY : Field := ⟨HSP_CFG, 0, 5⟩
abbrev HSP_STAT : Nat := 0x40270044
abbrev HSP_STAT_ERR : Field := ⟨HSP_STAT, 16, 16⟩
abbrev HSP_STAT_OK : Field := ⟨HSP_STAT, 0, 16⟩
abbrev HSP_INTSRC0 : Nat := 0x40270048
abbrev HSP_INTSRC1 : Nat := 0x4027004c

/-! XSP page (19_security_lifecycle.md). -/
abbrev XSP_CFG : Nat := 0x40280040
abbrev XSP_CFG_OCT : Field := ⟨XSP_CFG, 8, 1⟩
abbrev XSP_CFG_XDIV : Field := ⟨XSP_CFG, 0, 6⟩
abbrev XSP_STAT : Nat := 0x40280044
abbrev XSP_STAT_FLBUSY : Field := ⟨XSP_STAT, 31, 1⟩
abbrev XSP_STAT_WIN : Field := ⟨XSP_STAT, 28, 1⟩
abbrev XSP_STAT_PROTO : Field := ⟨XSP_STAT, 0, 1⟩
abbrev XSP_BANK : Nat := 0x40280048
abbrev XSP_BANK_BANK : Field := ⟨XSP_BANK, 0, 1⟩
abbrev XSP_OPC : Nat := 0x4028004c
abbrev XSP_LAT : Nat := 0x40280050
abbrev XSP_LAT_LAT : Field := ⟨XSP_LAT, 0, 5⟩
abbrev XSP_TMO : Nat := 0x40280054
abbrev XSP_WP0 : Nat := 0x40280058
abbrev XSP_WP1 : Nat := 0x4028005c
abbrev XSP_CMD : Nat := 0x40280060
abbrev XSP_CMD_BUSY : Field := ⟨XSP_CMD, 31, 1⟩
abbrev XSP_CMD_OP : Field := ⟨XSP_CMD, 24, 3⟩
abbrev XSP_CMD_FADDR : Nat := 0x40280064
abbrev XSP_CMD_BUF : Nat := 0x40280068
abbrev XSP_CMD_LEN : Nat := 0x4028006c
abbrev XSP_CMD_RES : Nat := 0x40280070
abbrev XSP_CMD_RES_VALID : Field := ⟨XSP_CMD_RES, 31, 1⟩
abbrev XSP_SIZE : Nat := 0x40280074
abbrev XSP_SIZE_MIB : Field := ⟨XSP_SIZE, 0, 10⟩

end Sys2Proof.Machine
end

