-- ==== Sys2Proof/Machine/State.lean ====
section
/-! DEFINITION. The state of the device as plain data. Every register of the pages of the spec is held by address in
`Hw.regs` (what is not listed reads its reset value, `Machine/RegTable.lean`); what the spec gives the blocks beside
their registers (timers, queues, holders, sequencer positions, pin levels) is held in one structure per block; the
memories are one list of cells; the commands that wait are a queue. -/

namespace Sys2Proof.Machine

/-- Why the machine would stop with a fault. The spec stops the device on no command (a bus error is an answer to one
access, R29; a fault cause is an entry of the fault manager, R341), so the type has no constructor: safe. -/
inductive Fault where
  deriving DecidableEq, Repr

/-- Why a command has no effect in the model. -/
inductive Refusal where
  /-- Raised by an arm of `exec` that has no meaning yet; safe. -/
  | notModelled (mnemonic : String)
  deriving DecidableEq, Repr

/-- The answer a requester got to its last access: the words read, or a bus error (R29). -/
structure Reply where
  data : List Word
  err : Bool
  deriving DecidableEq, Repr

/-- A 64-bit holder of one requester for one pair (R37); requester 8 is the keyway. -/
structure Holder where
  who : Nat
  addr : Nat
  word : Word
  deriving DecidableEq, Repr

/-- A write to a shadow offset that stalls until a SYNC copy has finished (R52). -/
structure StalledWrite where
  who : Nat
  addr : Nat
  word : Word
  deriving DecidableEq, Repr

/-- An access that stalls while its memory is being wiped (R77): requester, address, bytes, and what a write carries. -/
structure StalledAccess where
  who : Who
  addr : Nat
  size : Nat
  data : Option Nat
  deriving DecidableEq, Repr

/-- An entry of the fault manager (R341, R350): class, page index or 0x3F for a slot, cause bit or slot, T0 index. -/
structure FaultEntry where
  cls : Nat
  src : Nat
  cause : Nat
  t0 : Nat
  deriving DecidableEq, Repr

/-- A cause of a SAFE-STOP entry (R110). -/
inductive StopCause where
  | block (page bit : Nat)
  | slot (k : Nat)
  | request
  | machineFrame
  | carReport
  | overflow
  deriving DecidableEq, Repr

/-- A record on its way to the MRAM (R443): what arrival fixes. -/
structure Record where
  seq : Nat
  opt : Nat
  typ : Nat
  wall : Nat
  wvalid : Bool
  mode : Nat
  src : Nat
  prot : Bool
  cont : Bool
  fromAon : Bool
  data : List Nat
  deriving DecidableEq, Repr

/-- Installation facts: the part and its straps and one-time-programmed options, which no command changes but a
life-cycle order (R1, R3, R4, R345, R347). -/
structure Env where
  /-- R4: 48, 46 or 44 for TLM-1048, -1046, -1044. -/
  part : Nat
  /-- R347: OTP option that a power-on reset releases a deadbolt. -/
  dbPwrrel : Bool
  /-- R106, R347: OTP option that leaves the door locks to the Ward in DEADBOLT. -/
  dbDoor : Bool
  /-- R104: FIREFIGHTER enabled in the configuration. -/
  fireEn : Bool
  /-- R104: LEARN enabled in the configuration. -/
  learnEn : Bool
  deriving DecidableEq, Repr

/-- Clocks, power and reset beside the CPR page (R58 to R82). -/
structure CprState where
  /-- R82: every supply monitor is good. -/
  supplies : Bool
  /-- R82: VDD_AON or VDDIO_A has not been good since power-on or its trip: the safe-output balls are at high impedance. -/
  safeHiZ : Bool
  /-- R72: nRESET is low. -/
  nreset : Bool
  /-- R75: a reset is in progress, until the wipe completes. -/
  inReset : Bool
  /-- R71: the last reset was power-on or cold, so that its release samples the straps (R76). -/
  cold : Bool
  /-- R447, R110: the last reset was a power-on reset. -/
  por : Bool
  /-- R60: the PLL clocks are stopped after REFLOSS. -/
  clocksDead : Bool
  /-- R63: the one write of the operating time is spent. -/
  optSpent : Bool
  /-- R63: agent 0 has written CPR_AGT_RST since reset. -/
  agtWritten : Bool
  /-- R64: a PARKED entry is in progress. -/
  parking : Bool
  /-- R64 step 1: the pages whose QREQ CPR has set; steps 2 to 4 are done. -/
  parkQ : List Nat
  parkAt : Bool
  /-- The levels of the balls DIN0 to DIN31 (R135); R64 step 4: their snapshot. -/
  din : Nat
  dinSnap : Nat
  /-- R70: A and B of the watched channel as AON saw them last; its count since the snapshot. -/
  pwA : Bool
  pwB : Bool
  pwCount : Int
  /-- R69: a wake runs. -/
  waking : Bool
  /-- R68, R343: the sources recognised in this wake. -/
  wakeBy : Nat
  /-- R343: the recorded result of the wake self-test of the last PW_TIMER wake, true where it passed. -/
  selfTest : Option Bool
  /-- R64, R67: AON holds the safe outputs. -/
  aonHold : Bool
  /-- R82: new MRAM writes are blocked. -/
  mramBlocked : Bool
  /-- R104: the PROVISION flag. -/
  provFlag : Bool
  /-- R73: a RESET_HELD record is due after boot. -/
  heldRec : Bool
  /-- R98: the PLIC's pending bits, and the sources that are claimed and not yet completed, bit = source. -/
  plicIp : Nat
  plicBusy : Nat
  /-- R77: accesses that stall until the wipe is done, in order. -/
  wipeWait : List StalledAccess
  deriving DecidableEq, Repr

/-- What the common header implies beside its registers (R37, R51 to R55). -/
structure HdrState where
  /-- R55: pages whose EN was written 0 and whose quiesce runs. -/
  disabling : List Nat
  /-- R55: pages that return to RUN at their next period boundary. -/
  starting : List Nat
  /-- R52: pages whose SYNC copy runs. -/
  syncing : List Nat
  /-- R53: pages whose swap waits for the end of a SYNC copy. -/
  late : List Nat
  /-- R52: writes to shadow offsets that stall until the copy ends. -/
  stalled : List StalledWrite
  /-- R37: read holders. -/
  rdHold : List Holder
  /-- R37: write holders. -/
  wrHold : List Holder
  /-- R50, R500: the pattern of the run in progress on a page, as its START found it (page, pattern). -/
  runs : List (Nat × Nat)
  deriving DecidableEq, Repr


/-- A count edge (R128): stamp in 2.5 ns units, EXT after the edge. -/
structure Edge where
  stamp : Nat
  ext : Int
  deriving DecidableEq, Repr

/-- A quadrature decoder (R120 to R128): filtered levels, live EXT, the CPR it counts by, the ring of edges. -/
structure QChan where
  /-- R121: filtered A and B, before SWAPAB; R124: filtered index; R120: a channel that is off shows the levels it would
  start from. -/
  a : Bool
  b : Bool
  z : Bool
  /-- R123: the extended count. -/
  ext : Int
  /-- R123: CPR in force. -/
  cpr : Nat
  /-- R128: at most 64 edges, newest first. -/
  ring : List Edge
  /-- R122: direction of the last count; R126: a count has reversed it since the enable. -/
  down : Bool
  reversed : Bool
  /-- R121: illegal transitions in this 1 ms window. -/
  illegal : Nat
  /-- R127: a preset for the next T0. -/
  preset : Option Nat
  /-- R147: held disabled by an invalid configuration. -/
  held : Bool
  /-- R120: the channel has been enabled. -/
  started : Bool
  /-- R120: samples stamped at or before this were taken before the enable; no sample has been taken since. -/
  before : Nat
  first : Bool
  /-- R142: a count edge since the last T0. -/
  edge : Bool
  deriving DecidableEq, Repr

/-- A decoder at reset. -/
def QChan.init : QChan := ⟨false, false, false, 0, 4294967296, [], false, false, 0, none, false, false, 0, true, false⟩

/-- A serial channel (R130 to R134): the last frames, newest first, with their success. -/
structure SChan where
  frames : List (Nat × Bool)
  /-- R147: held disabled by an invalid configuration. -/
  held : Bool
  /-- R132, R134: the channel has been enabled. -/
  started : Bool
  /-- R132: verdicts of the frames of a negotiation, oldest first: 8 that measure the line, then at most 16 at each rate. -/
  tried : List Bool
  deriving DecidableEq, Repr

def SChan.init : SChan := ⟨[], false, false, []⟩

/-- An entry of the capture FIFO (R136). -/
structure Capture where
  din : Nat
  level : Bool
  stamp : Nat
  count : Nat
  deriving DecidableEq, Repr

/-- An emulation output (R137, R138): accumulator, backlog, place of A and B in their sequence, Z; held disabled by an
invalid configuration; it has been enabled. -/
structure Emu where
  r : Int
  backlog : Int
  phase : Nat
  z : Bool
  held : Bool
  started : Bool
  deriving DecidableEq, Repr

def Emu.init : Emu := ⟨0, 0, 0, false, false, false⟩

/-- What the car-source holder keeps of a car frame (R25): position, speed word, latch stamp in ns, VALID. -/
structure CarSample where
  pos : Nat
  spd : Int
  stamp : Nat
  valid : Bool
  deriving DecidableEq, Repr

/-- Position feedback beside its page (R120 to R143). -/
structure PosState where
  q : List QChan
  /-- R123: EXT as latched at T0. -/
  ext : List Int
  s : List SChan
  /-- R135: filtered ball levels, before POL. -/
  din : Nat
  /-- R135: in how many consecutive samples a FAST input showed the level it shows. -/
  dinRun : List Nat
  /-- R136: the capture FIFO, oldest first, at most 32; the holder of each requester. -/
  dcap : List Capture
  capHold : List (Nat × List Word)
  /-- R166: capture entries queued for MAP. -/
  capMap : List Capture
  emu : List Emu
  /-- R24: a car frame accepted since the last latch. -/
  csNew : Option CarSample
  /-- R24: the frame that is extrapolated. -/
  csCur : Option CarSample
  /-- R142: consecutive good car frames since LOST; LOST of the car source. -/
  csGood : Nat
  csLost : Bool
  /-- R142: frozen sources, bit = source code. -/
  frozen : Nat
  /-- R142: serial channels whose LOST reaches the Ward at the next T0. -/
  lostDue : Nat
  /-- R142: in the CAR role, channels lost by the frame that started at the coming T0; they count at the T0 after it. -/
  lostNext : Nat
  /-- R140: consecutive cycles of disagreement of the pairs 01, 02, 12. -/
  disCnt : List Nat
  /-- R140: travel of L0 since alignment, position LSB. -/
  travel : Nat
  /-- R139: leg positions at the last T0. -/
  legPrev : Option Nat
  /-- R141: alignment asked for; positions of L0 over the last 50 ms, newest first. -/
  alignReq : Bool
  trail : List Nat
  /-- R142: by source code, cycles of an unchanged value while motion is commanded; the values; by quadrature channel,
  cycles without an edge while another leg moves; the legs' positions at the last T0. -/
  frzA : List Nat
  frzB : List Nat
  frzVal : List Int
  legLast : List Nat
  /-- PST_TB_CNT at the last T0 (R136, R166). -/
  t0 : Nat
  /-- R143: fed positions of the last two cycles; RETURN asked for; healthy cycles of PRI; the feed is valid. -/
  fed1 : Nat
  fed2 : Nat
  returnReq : Bool
  priGood : Nat
  fedValid : Bool
  /-- R147: legs held by an invalid configuration. -/
  legHeld : Nat
  /-- R147: the car source is named in POS_LOOP without a leg. -/
  csHeld : Bool
  deriving DecidableEq, Repr

/-- The Ward beside its page (R320 to R347). -/
structure SisState where
  /-- R341: faults that arose in this command and are not yet entered (model's own; empty between commands). -/
  arriving : List FaultEntry
  /-- R341: the queue, at most 32 entries. -/
  queue : List FaultEntry
  /-- R339, R110: SAFE-STOP triggers for the next T0, by cause. -/
  stopTrig : List StopCause
  /-- R339: DEADBOLT trigger for the next T0. -/
  boltTrig : Bool
  /-- R342: the hold of a fault in fault handling, until reset. -/
  hwHold : Bool
  /-- R342 steps 4 and 5: the cores are held in reset and heartbeats stop. -/
  dead : Bool
  /-- R329: BRK_LAG runs. -/
  lag : Bool
  /-- R329: the lag began in the present cycle. -/
  lagNew : Bool
  /-- R110: operating times of the SAFE-STOP entries by cause (AON). -/
  counts : List (StopCause × List Nat)
  /-- R110: this SAFE-STOP ends in DEADBOLT at standstill. -/
  repeatHit : Bool
  /-- R344: nonce latched with the deadbolt. -/
  dbNonce : Nat
  /-- R344: operating time latched with the deadbolt. -/
  dbOpt : Nat
  /-- R324: filtered channel levels, 1 closed. -/
  sin : Nat
  /-- R324: test-pulse outputs that are low (or settling). -/
  tpLow : Nat
  /-- R330: the output balls found stuck, and at what level. -/
  rbStuck : Nat
  rbLevel : Nat
  /-- R322: the watchdog is supervised. -/
  wdgOn : Bool
  /-- R322: position cycles since the last kick. -/
  wdgAge : Nat
  /-- R109: the Ward's speed at SAFE-STOP entry. -/
  v0 : Int
  /-- R109: position cycles since SAFE-STOP entry. -/
  ssT : Nat
  /-- R344: this SAFE-STOP has seen standstill, STO and brake are withdrawn. -/
  stopDone : Bool
  /-- R332, R335: slots whose test held at the last T0. -/
  tested : Nat
  /-- R334, R335: the balls that latched trips hold, by slot, as configured when they tripped. -/
  holds : List (Nat × Nat)
  /-- R350: the order of SIS_MODE_SET. -/
  order : List Nat
  /-- R102: standstill reached. -/
  still : Bool
  /-- R111: MODE_PARK_IDLE has elapsed in READY. -/
  parkIdle : Bool
  /-- R325: consecutive failed car values. -/
  carBad : Nat
  /-- R325: consecutive good car values. -/
  carGood : Nat
  /-- R325: CARLOST. -/
  carLost : Bool
  /-- R325: illegal transitions of the Ward's decoder in this 1 ms window. -/
  wIllegal : Nat
  /-- R348: claimed sources of the interrupt controller. -/
  icClaimed : List Nat
  /-- R104: car load below the configured empty threshold. -/
  carEmpty : Bool
  /-- R104: a PROOF test order is authenticated. -/
  proofOrder : Bool
  /-- R106: an authenticated overspeed test raises the PROOF cap. -/
  overspeed : Bool
  /-- R325: the Ward's own two decoders; its copy of the car frame; frames of its own S0 receiver, newest first, as they
  came and as of the last T0. -/
  wq : List QChan
  wCar : Option CarSample
  /-- R413: safety positions of a car frame accepted since the last T0. -/
  wCarNew : Option CarSample
  /-- R112: PARK_READY as this unit sends it. -/
  parkReady : Bool
  wS0 : List (Nat × Bool)
  wS0cur : List (Nat × Bool)
  /-- R325: a frame of its own S0 receiver has ended since the last T0. -/
  wS0new : Bool
  deriving DecidableEq, Repr

/-- The recorder beside its page (R438 to R456). -/
structure RecState where
  /-- R449: records that wait to be written. -/
  queue : List Record
  /-- R453: AON store, oldest first, at most 64. -/
  aon : List Record
  /-- R440, R447: wall time last set, ms. -/
  wallBase : Nat
  /-- R440, R447: operating time at that setting. -/
  optBase : Nat
  /-- R440: generation of header A. -/
  genA : Nat
  /-- R440: generation of header B. -/
  genB : Nat
  /-- R451: the work at enable is done. -/
  loaded : Bool
  /-- R446, R453: the sequence numbers have run out; RECORDER enters at the next position-cycle T0. -/
  ranOut : Bool
  /-- R442, R452: remapped ring slots (slot, spare slot). -/
  remap : List (Nat × Nat)
  /-- R452: lowest spare entry not yet used or bad. -/
  spNext : Nat
  /-- R453: consecutive unanswered accesses. -/
  noAnswer : Nat
  /-- R456: submit registers per agent: CTL, RES, SEQ, D0 to D7. -/
  sub : List (Nat × List Word)
  deriving DecidableEq, Repr

/-- The power stage beside its page (R265 to R287). -/
structure PstState where
  /-- R265: current-cycle period in force, TMR cycles. -/
  curPer : Nat
  /-- R265: current cycles per position cycle in force. -/
  posDiv : Nat
  /-- R265: the current-cycle T0 that opens a position cycle has come, its POSITION_CYCLE_T0 not yet. -/
  posDue : Bool
  /-- R176, R362: TMR cycles and current cycles of the position cycle that has ended. -/
  endPer : Nat
  endDiv : Nat
  /-- R266: the phase in force, ns. -/
  tbPhase : Nat
  /-- R267: where the free-running counter of each set (LOCK = 0) stood at the last current-cycle T0, in counts of 2 PER
  from its valley; none before the first T0 with EN. -/
  ctr : List (Option Nat)
  /-- R267: carrier valleys of each set taken since the last current-cycle T0. -/
  valleys : List Nat
  /-- R275: consecutive fast results outside OCLIM, per input. -/
  ocCnt : List Nat
  /-- R278: the bus's last fast result lay above OV. -/
  dcbHigh : Bool
  /-- R279: CHOP legs that are on, bit 3 * set + leg. -/
  chopOn : Nat
  /-- R279: TMR cycles on in this position cycle; those counted since the leg turned on. -/
  chopTime : Nat
  chopSince : Nat
  /-- R279: CHOP legs whose MINON runs. -/
  minon : Nat
  /-- R279: the bus's last fast result lay below CHOP.OFF. -/
  busLow : Bool
  /-- R267, R288: sets held OFF for an invalid configuration. -/
  badSet : Nat
  /-- R274: clock groups held with RES = 0. -/
  badGroup : Nat
  /-- R288: PICK_D or HOLD_D invalid, so that BMOD is held off. -/
  badDuty : Bool
  /-- R300: sets held off by the door clamp. -/
  clampOff : Nat
  /-- R271: sets that have had their carrier valley since priority 1 released them. -/
  resumed : Nat
  /-- R280: current cycles in lock, at most 256. -/
  gLock : Nat
  /-- R280: consecutive current cycles of weak amplitude. -/
  gWeak : Nat
  /-- R280: consecutive current cycles outside the frequency window. -/
  gOff : Nat
  /-- R280: PS2 is off under GRIDLOSS. -/
  gridOff : Bool
  /-- R283: brake coil duty: 0 off, 1 PICK_D, 2 HOLD_D. -/
  bmod : Nat
  /-- R284: the DRIVE request to the Ward. -/
  drive : Bool
  /-- R284: the LIFT request to the Ward. -/
  lift : Bool
  /-- R285: a start request kept through CLOSING and RELEASE. -/
  keepStart : Bool
  /-- R284: every contact has shown applied in CLOSING. -/
  settled : Bool
  /-- R284: PRF is to treat AX0 as stopped. -/
  axStop : Bool
  /-- R286: EXT at the start of the ramp. -/
  btStart : Int
  /-- R286: position cycles of the ramp. -/
  btT : Nat
  /-- R408: TMR cycles still to add to (or remove from) the coming current cycles; R409: cycles to lengthen the next by;
  length of the last current cycle. -/
  slew : Int
  stretch : Nat
  lastLen : Nat
  deriving DecidableEq, Repr

/-- How far a pool slot is (R168): being built, its swap pending, landed, copied back. -/
inductive PoolStage where
  | building
  | pending
  | landed
  | copied
  deriving DecidableEq, Repr

/-- A pool slot in use (R168). -/
structure PoolUse where
  slot : Nat
  page : Nat
  stage : PoolStage
  deriving DecidableEq, Repr

/-- The hoistway map beside its page (R148 to R170). -/
structure MapState where
  /-- R163: full page generations. -/
  pgen : List (Nat × Nat)
  /-- R157: EN was 1 at the last T0; a reload waits for the next T0; pages still to load, the first in flight; the
  order waits for a valid feed. -/
  sawEn : Bool
  rlStart : Bool
  rlQueue : List Nat
  rlSort : Bool
  /-- R157, R159: pages that become LOADED (generation) or BAD (none) at the next T0. -/
  done : List (Nat × Option Nat)
  /-- R156: pages that become UNLOADED at the next T0. -/
  unload : List Nat
  /-- R168: pool slots in use, oldest first. -/
  pool : List PoolUse
  /-- R170: imports for the next T0 (page, slot). -/
  imports : List (Nat × Nat)
  /-- R168: page in work, last page, CANCEL seen. -/
  rbCur : Option Nat
  rbLast : Nat
  rbStop : Bool
  /-- R164: the landing table in force is not strictly rising. -/
  lndBad : Bool
  /-- R169: fed positions of the last 50 ms, newest first; page of the last lookup. -/
  trail : List Nat
  prevPage : Nat
  /-- R466: EN has read 1 since the device reset, so that the write protection runs. -/
  protOn : Bool
  deriving DecidableEq, Repr

def MapState.init : MapState :=
  { pgen := [], sawEn := false, rlStart := false, rlQueue := [], rlSort := false, done := [], unload := [], pool := [],
    imports := [], rbCur := none, rbLast := 0, rbStop := false, lndBad := false, trail := [], prevPage := 0,
    protOn := false }

/-- A task descriptor: the page that holds it and its number (R203). -/
structure TaskRef where
  page : Nat
  k : Nat
  deriving DecidableEq, Repr

/-- What a result in flight does when it lands (R229 to R231): a whole register, a view of an accumulator (0 l, 1 h, 2 g,
3 load form), an accumulation (0 replace, 1 add, 2 subtract), the flags Z, N, C, V, or sticky bits alone. -/
inductive Landing where
  | put (v : Nat)
  | view (sel v : Nat)
  | acc (op : Nat) (p : Int)
  | flags (v : Nat)
  | none
  deriving DecidableEq, Repr

/-- A result in flight: issue cycles left, register code of R250 (acc0 to acc3 are 0x40 to 0x43, the flags 0x7F, the
governing copy of a loop register its code + 0x80), what lands, the sticky bits of sw that it sets. -/
structure Flight where
  left : Nat
  code : Nat
  what : Landing
  sticky : Nat
  deriving DecidableEq, Repr

/-- An entry of the loop stack: count, start, end (R250, R258). -/
structure LoopEntry where
  c : Nat
  s : Nat
  e : Nat
  deriving DecidableEq, Repr

/-- Loop start, loop end, loop depth and the two entries of the loop stack (R220, R258). -/
structure Loops where
  ls : Nat
  le : Nat
  dep : Nat
  e0 : LoopEntry
  e1 : LoopEntry
  deriving DecidableEq, Repr

def Loops.init : Loops := ⟨0, 0, 0, ⟨0, 0, 0⟩, ⟨0, 0, 0⟩⟩

/-- A TCE core (R199 to R264). -/
structure Core where
  /-- R220: d0 to d15, acc0 to acc3, a, o, b, l, lc, pc, sw. -/
  d : List Word
  acc : List (BitVec 72)
  a : List (BitVec 24)
  o : List (BitVec 24)
  b : List (BitVec 24)
  l : List (BitVec 24)
  lc : Nat
  pc : Nat
  sw : Nat
  /-- R220, R260: the loop registers, and the values that govern loop-back. -/
  loops : Loops
  gov : Loops
  /-- R229: results in flight, in issue order. -/
  flight : List Flight
  /-- R245: delay slots still to issue, and where they lead (none: on in order); they are RETI's (R263). -/
  delay : Nat
  target : Option Nat
  retSlots : Bool
  /-- R262: saved index and sw while a handler runs; R263: the first instruction after RETI is still to issue. -/
  saved : Option (Nat × Nat)
  resumed : Bool
  /-- R256: register and sample of the filter tap issued directly before. -/
  bypass : Option (Nat × Word)
  /-- R205: running and pending instances; R221: pc and sw of the pre-empted background. -/
  run : Option TaskRef
  pend : List TaskRef
  bg : Option (Nat × Nat)
  /-- R209: dispatch is enabled, or will be from the next position-cycle T0; R202: GO = 0 was written while a task ran. -/
  dispatch : Bool
  enabling : Bool
  haltReq : Bool
  /-- R203: ticks that are due; R206: instances whose load is armed; instances that have passed their boundary;
  R210: running instances that have met an overrun. -/
  due : List TaskRef
  armed : List TaskRef
  crossed : List TaskRef
  overrun : List TaskRef
  /-- R212: SOLO as ordered for the next position-cycle T0; normal instances of each task since the switch. -/
  soloReq : Option Bool
  soloCnt : List (TaskRef × Nat)
  /-- R259: the first pass through a body of one or two instructions is still to end. -/
  fresh : Bool
  /-- TCE_BUSY: cycles issued in this position cycle. -/
  cycles : Nat
  /-- R217: tasks of this page held disabled by an invalid configuration, and by a group that a task of the other page
  names too. -/
  held : Nat
  clash : Nat
  deriving DecidableEq, Repr

/-- R220: every register 0. -/
def Core.init : Core :=
  { d := List.replicate 16 0, acc := List.replicate 4 0, a := List.replicate 8 0, o := List.replicate 8 0,
    b := List.replicate 8 0, l := List.replicate 8 0, lc := 0, pc := 0, sw := 0, loops := Loops.init, gov := Loops.init,
    flight := [], delay := 0, target := none, retSlots := false, saved := none, resumed := false, bypass := none,
    run := none, pend := [], bg := none, dispatch := false, enabling := false, haltReq := false, due := [], armed := [],
    crossed := [], overrun := [], soloReq := none, soloCnt := [], fresh := false, cycles := 0, held := 0,
    clash := 0 }

/-- The last accepted machine frame (R413). -/
structure MachFrame where
  vcmd : Int
  vmeas : Int
  dstop : Nat
  land : Nat
  landValid : Bool
  state : Nat
  brk : Nat
  deriving DecidableEq, Repr

/-- The last accepted car frame (R413), its first 26 bytes as fields. -/
structure CarFrame where
  pos : Nat
  spd : Int
  wpos : Nat
  wspd : Int
  cond : Nat
  state : Nat
  door : Nat
  mapgen : Nat
  stamp : Nat
  deriving DecidableEq, Repr

/-- What the unit keeps of the frames of the other role (R413): the last accepted ones, and whether a car frame has come
since the last T0. -/
structure PeerState where
  mach : Option MachFrame
  car : Option CarFrame
  carNew : Bool
  /-- R111: consecutive frames of the other role with PARK_READY, at most 8. -/
  parkRun : Nat
  deriving DecidableEq, Repr

def PeerState.init : PeerState := ⟨none, none, false, 0⟩

/-- Depth vision beside the page (R311): consecutive good frames with and without occupancy; held receivers. -/
structure VisState where
  occ : List Nat
  clr : List Nat
  held : Nat
  deriving DecidableEq, Repr

def VisState.init : VisState := ⟨[0, 0], [0, 0], 0⟩

/-- What a pair-link frame carries: records (R359), the health and the lease remaining in µs, a snapshot, pairing data, the own
AUTH proof. -/
inductive PairBody where
  | records (l : List PairRecord)
  | beat (health lease : Nat)
  | snapshot (x : PairSnapshot)
  | pairing (f : PairingBody)
  | proof (bytes : List Byte)
  deriving DecidableEq, Repr

/-- A frame that RDN has sent (R357, R358, R367): on the second path or the pair link; TYPE, FLAGS, T0IDX, the 64-bit
counter, MODE, SEG; LEN and TAG; PARK_READY of the sender (R112, log entry 67). -/
structure PairFrame where
  second : Bool
  typ : Nat
  flags : Nat
  t0idx : Nat
  ctr : Nat
  mode : Nat
  seg : Nat
  len : Nat
  tag : List Byte
  park : Bool
  body : PairBody
  deriving DecidableEq, Repr

/-- Redundancy beside its page (R351 to R372). -/
structure RdnState where
  /-- R373: the configuration that the last valid swap brought in. -/
  force : List (Nat × Word)
  /-- R354: pairing of a unit that stays ACTIVE: 0 none, 2 HELLO, 3 AUTH, 4 AGREE. What AGREE has settled: the partner
  holds the key. -/
  phase : Nat
  agreed : Option Bool
  /-- R355: a lane is to be dropped at the next T0. -/
  laneDue : Bool
  /-- R358: counter last accepted; offset of the partner's T0 indexes to the own ones; own frames sent. -/
  last : Option Nat
  off : Option Nat
  ctr : Nat
  /-- R467: session key and salt; R357: the frames sent since the last position-cycle T0. -/
  session : Option (List Byte × List Byte)
  /-- R354, R467: the own nonce of this pairing and the partner's; the partner's HELLO record. -/
  nonce : List Byte
  peerNonce : Option (List Byte)
  peerHello : List Byte
  tx : List PairFrame
  /-- R367: own T0 indexes of the newest heartbeats; indexes of the last two position-cycle T0s. -/
  pl : Option Nat
  hb2 : Option Nat
  posIdx : Nat
  prevIdx : Nat
  /-- R357, R360: segments accepted for the next cycle, and those replayed in this one; the unit replays. -/
  segs : List (Nat × List PairRecord)
  play : List (Nat × List PairRecord)
  replaying : Bool
  /-- R360: frames accepted since the last T0. -/
  canSeen : List (Nat × Nat × CanFrame)
  sseSeen : List (Nat × Nat × List Byte × Nat)
  /-- R361: own samples of the last cycle; own sinc3 results by current cycle; classes that differed last time; sequence
  numbers of SkoveSafe connections that one side only has. -/
  own : List PairRecord
  ownSd : List (Nat × List Word)
  differed : Nat
  lone : List (Nat × Nat)
  /-- R362: the active's output frame; own outputs of this position cycle and of the one before. -/
  outRx : Option (List PairRecord)
  outs : List PairRecord
  outsPrev : List PairRecord
  /-- Consecutive cycles: input mismatch, output mismatch, late, clean (R354), SEL_FB in agreement (R372). -/
  inCnt : Nat
  outCnt : Nat
  lateCnt : Nat
  clean : Nat
  selOk : Nat
  /-- R363: a snapshot to load at the next T0; one has been loaded; the snapshot taken for the partner. -/
  seed : Option PairSnapshot
  seeded : Bool
  /-- R354: position-cycle T0s until the snapshot is asked for, 0 none. -/
  askIn : Nat
  wantCapture : Bool
  capture : Option PairSnapshot
  /-- R118: mode and PARK_READY of the last verified input frame; bits 3 to 0 of the health as it came. -/
  frameMode : Option Nat
  framePark : Bool
  frameHealth : Nat
  /-- R370: RELEASE seen in the partner's frames; own handoff step. -/
  relSeen : Bool
  hand : Nat
  /-- R372: SELFLT stands; the ages of the two paths disagree (KIND 6). -/
  selflt : Bool
  onePath : Bool
  /-- R366: own T0 index of the last renewal of the lease. -/
  renewed : Nat
  /-- R507: INCMP and OUTCMP are forced to 0. -/
  forced : Bool
  /-- R117: this standby is in a SAFE-STOP of its own. -/
  ownStop : Bool
  /-- R119: the input frame shows the active's entry to PARKED. R371: ages restart at the next T0. -/
  parkDue : Bool
  woke : Bool
  deriving DecidableEq, Repr

def RdnState.init : RdnState :=
  { force := [], phase := 0, agreed := none, laneDue := false, last := none, off := none, ctr := 0, session := none, nonce := [], peerNonce := none, peerHello := [], tx := [], pl := none,
    hb2 := none, posIdx := 0, prevIdx := 0, segs := [], play := [], replaying := false, canSeen := [], sseSeen := [],
    own := [], ownSd := [], differed := 0, lone := [], outRx := none, outs := [], outsPrev := [], inCnt := 0, outCnt := 0,
    lateCnt := 0, clean := 0, selOk := 0, seed := none, seeded := false, askIn := 0, wantCapture := false, capture := none,
    frameMode := none, framePark := false, frameHealth := 0, relSeen := false, hand := 0, selflt := false,
    onePath := false, renewed := 0, forced := false, ownStop := false, parkDue := false, woke := false }

/-- What a CAN frame brings to an object: words W0, W1, W2 and the data words (R382), and the accepting filter. -/
structure CanRx where
  w0 : Word
  w1 : Word
  w2 : Word
  data : List Word
  filter : Nat
  deriving DecidableEq, Repr

/-- A CAN controller beside its page (R376 to R396). -/
structure CanState where
  /-- R385: the two queues, oldest first; popped entries per requester, key requester + 16 * queue. -/
  q0 : List (List Word)
  q1 : List (List Word)
  popped : List (Nat × List Word)
  /-- R384: the pending holder. -/
  hold : Option (Nat × CanRx)
  /-- R383: LASTW held at the time of locking, by object. -/
  lastw : List (Nat × Nat)
  /-- R393: TT objects in arbitration; those that have fired in this cycle. -/
  fired : List Nat
  done : List Nat
  /-- R386: objects whose cancel waits for the end of their frame; those that were in arbitration at the last event of the
  bus, so before the next SOF; the frame last sent. -/
  cancel : List Nat
  cand : List Nat
  sent : Option CanFrame
  /-- R378: masks heard since the start, by node; TMO has passed; an answer is due; the capability buffer. -/
  heard : List (Nat × Nat)
  tmo : Bool
  answerDue : Bool
  capBuf : List Byte
  /-- R392: a reference is requested; the next cycle count; MASTCOL stops references; TB_CNT at CYCTIME = 0,
  which counts since the first reference. -/
  refReq : Bool
  refCnt : Nat
  refStop : Bool
  cycBase : Nat
  counting : Bool
  /-- R394: a wake pattern is requested; the bus has been idle since, so that no frame goes out before it. -/
  wup : Bool
  wupNext : Bool
  /-- R397: the TIME and REFID set in force; filters held disabled. -/
  time : Word
  refid : Word
  held : List Nat
  deriving DecidableEq, Repr

def CanState.init : CanState :=
  { q0 := [], q1 := [], popped := [], hold := none, lastw := [], fired := [], done := [], cancel := [], cand := [], sent := none, heard := [],
    tmo := false, answerDue := false, capBuf := [], refReq := false, refCnt := 0, refStop := false, cycBase := 0, counting := false,
    wup := false, wupNext := false, time := 0x803E8, refid := 0, held := [] }

/-- A frame of the hardware that waits at a port (R404): queue, bytes before FCS, EtherType. -/
structure EthTx where
  queue : Nat
  len : Nat
  etype : Nat
  deriving DecidableEq, Repr

/-- An Ethernet port beside its page (R400 to R404): code lock of the PCS, the mode a retraining settles in, frames of
the hardware that wait (queue, length in bytes), the gate list in force in this cycle. -/
structure EthPort where
  pcs : Bool
  retrain : Option Nat
  txq : List EthTx
  gates : List (Nat × Nat)
  gated : Bool
  deriving DecidableEq, Repr

/-- Ethernet and the time engine (R400 to R409): the configuration that the last valid swap brought in, the fraction of
a nanosecond of PTP_NS in 1/2,000,000,000, the first T0 seen, T0s inside and outside the lock tolerance. -/
structure EthState where
  port : List EthPort
  force : List (Nat × Word)
  frac : Nat
  started : Bool
  inTol : Nat
  outTol : Nat
  deriving DecidableEq, Repr

def EthState.init : EthState := ⟨List.replicate 2 ⟨false, none, [], [], false⟩, [], 0, false, 0, 0⟩

/-- A SkoveSafe connection beside its registers (R410 to R416). -/
structure SseConn where
  /-- Enabled at the last swap; held by an invalid configuration. -/
  on : Bool
  held : Bool
  /-- R410: key and salt from SEC. -/
  key : Option (List Byte × List Byte)
  /-- R411: the producer's next counter; position cycles since its last frame; the last frame. -/
  ctr : Nat
  cyc : Nat
  out : List Byte
  /-- R415: last accepted counter and the bitmap of those before; the next frame is accepted as new. -/
  last : Option Nat
  seen : Nat
  first : Bool
  /-- R416: accepted frames without a gap since an expiry; TB_CNT at the last acceptance. -/
  run : Nat
  at_ : Nat
  /-- R412: the buffers switch at the next production. -/
  bsel : Bool
  deriving DecidableEq, Repr

def SseConn.init : SseConn :=
  { on := false, held := false, key := none, ctr := 1, cyc := 0, out := [], last := none, seen := 0, first := true,
    run := 0, at_ := 0, bsel := false }

/-- What no reset changes of SEC (R459, R460): the OTP fuses and the key store. -/
structure OtpState where
  devuid : List Byte
  duk : List Byte
  /-- R471: INTENT and DONE of OEM, FIELD, RETURN, SCRAPPED, bits 0 to 3. -/
  intent : Nat
  done : Nat
  oempk : List (List Byte)
  oemRev : Nat
  srvpk : List Byte
  dbgpk : List Byte
  /-- Burned bits of SVN. -/
  floor : Nat
  flashEnc : Bool
  kwOff : Bool
  /-- K0 to K3, as the unwrapped blob holds them. -/
  keys : List (Option (List Byte))
  deriving DecidableEq, Repr

/-- A unit in FIELD without keys (log entry 2). -/
def OtpState.init : OtpState :=
  { devuid := List.replicate 16 0, duk := List.replicate 32 0, intent := 3, done := 3,
    oempk := List.replicate 4 (List.replicate 48 0), oemRev := 0, srvpk := List.replicate 48 0,
    dbgpk := List.replicate 48 0, floor := 0, flashEnc := false, kwOff := false, keys := List.replicate 4 none }

/-- The key in a slot of the key store. -/
def OtpState.key (o : OtpState) (k : Nat) : Option (List Byte) := o.keys.getD k none

/-- A map command as its registers stood at GO (R466). -/
structure MapJob where
  op : Nat
  slot : Nat
  page : Nat
  trl : Nat
  dst : Nat
  deriving DecidableEq, Repr

/-- SEC beside its page until the next reset (R465 to R474). -/
structure SecState where
  /-- R466: the map commands that have been started and not answered, in order, and the result of the first once it has
  been worked. -/
  mapJobs : List MapJob
  mapRes : Option Nat
  /-- R465, R468: the address of the order or token, and of the exchange buffer, as of GO. -/
  ordAddr : Nat
  skxAddr : Nat
  /-- R468: BOOTNONCE of this boot; the challenge of the last request. -/
  bootNonce : List Byte
  skx : List Byte
  /-- R474: the challenge shifted out; the operating time of the last failed response; NOTAFTER of the session. -/
  challenge : Option (List Byte)
  failAt : Option Nat
  notAfter : Nat
  deriving DecidableEq, Repr

def SecState.init : SecState :=
  { mapJobs := [], mapRes := none, ordAddr := 0, skxAddr := 0, bootNonce := List.replicate 32 0, skx := [], challenge := none, failAt := none, notAfter := 0 }

/-- A window read that waits while the flash is busy (R480): requester, flash address under the bank of its start (R30),
bytes. -/
structure WindowRead where
  who : Nat
  addr : Nat
  size : Nat
  deriving DecidableEq, Repr

/-- A flash command as its registers stood at GO (R481). -/
structure FlashJob where
  op : Nat
  faddr : Nat
  buf : Nat
  len : Nat
  deriving DecidableEq, Repr

/-- XSP beside its page (R479 to R483): the command in work; the code with which it has been worked; the window reads that
wait, in order; the configuration set in force. -/
structure XspState where
  job : FlashJob
  work : Option Nat
  sr : Nat
  win : List WindowRead
  cfg : Word
  lat : Word
  deriving DecidableEq, Repr

def XspState.init : XspState := ⟨⟨0, 0, 0, 0⟩, none, 0, [], 0x30, 0x14⟩

/-- HSP beside its page (R485, R486): a word kept for the host, flags of the next status word, words of the last WRITE,
the DUMMY in force. -/
structure HspState where
  kept : List (Nat × Word)
  rerr : Bool
  werr : Bool
  wake : Bool
  wdone : Nat
  dummy : Nat
  deriving DecidableEq, Repr

def HspState.init : HspState := ⟨[], false, false, false, 0, 16⟩

/-- What a run of TST serves (R505, R506): TST_CMD, the wake test, the rolling step. -/
inductive TstKind where
  | command
  | wakeTest
  | rolling
  deriving DecidableEq, Repr

/-- How far the run is: none, waiting for the solo switch, for QUIET, for the end of a pattern, for the cores' return. -/
inductive TstStage where
  | idle
  | solo
  | quiet
  | pattern
  | back
  deriving DecidableEq, Repr

/-- TST beside its page (R500 to R509): the run in progress with the pages and patterns still to do, the page in work
first; its step pending for its conditions; the boundary register as loaded. -/
structure TstState where
  kind : TstKind
  stage : TstStage
  todo : List (Nat × List Nat)
  due : Bool
  wakeDue : Bool
  cells : List Bool
  deriving DecidableEq, Repr

def TstState.init : TstState := ⟨.command, .idle, [], false, false, []⟩

/-! ## The values at reset -/

/-- Clocks, power and reset as a power-on reset leaves them. -/
def CprState.init : CprState :=
  { supplies := true, safeHiZ := false, nreset := false, inReset := true, cold := true, por := true, clocksDead := false, optSpent := false,
    agtWritten := false, parking := false, parkQ := [], parkAt := false, din := 0, dinSnap := 0, pwA := false, pwB := false,
    pwCount := 0, waking := false, wakeBy := 0, selfTest := none, aonHold := false, mramBlocked := false, provFlag := false, heldRec := false, plicIp := 0,
    plicBusy := 0, wipeWait := [] }

def HdrState.init : HdrState :=
  { disabling := [], starting := [], syncing := [], late := [], stalled := [], rdHold := [], wrHold := [], runs := [] }

/-- Every channel open (R324), nothing arrived, nothing counted. -/
def SisState.init : SisState :=
  { arriving := [], queue := [], stopTrig := [], boltTrig := false, hwHold := false, dead := false, lag := false, lagNew := false,
    counts := [], repeatHit := false, dbNonce := 0, dbOpt := 0, sin := 0, tpLow := 0, rbStuck := 0, rbLevel := 0, wdgOn := false,
    wdgAge := 0, v0 := 0, ssT := 0, stopDone := false, tested := 0, holds := [], order := [], still := false,
    parkIdle := false, carBad := 0, carGood := 0, carLost := true, wIllegal := 0, icClaimed := [], carEmpty := false,
    proofOrder := false, overspeed := false, wq := List.replicate 2 QChan.init, wCar := none, wCarNew := none, parkReady := false, wS0 := [], wS0cur := [],
    wS0new := false }

def RecState.init : RecState :=
  { queue := [], aon := [], wallBase := 0, optBase := 0, genA := 0, genB := 0, loaded := false, ranOut := false, remap := [], spNext := 0,
    noAnswer := 0, sub := [] }

/-- The time base in force at reset is PST_TB_CFG's reset value (R265). -/
def PstState.init : PstState :=
  { curPer := 12500, posDiv := 4, posDue := false, endPer := 50000, endDiv := 4, tbPhase := 40000,
    ctr := List.replicate 6 none, valleys := List.replicate 6 0, ocCnt := List.replicate 24 0, dcbHigh := false,
    chopOn := 0, chopTime := 0, chopSince := 0, minon := 0, busLow := false, badSet := 0, badGroup := 0, badDuty := false, clampOff := 0, resumed := 0,
    gLock := 0, gWeak := 0, gOff := 0, gridOff := false, bmod := 0, drive := false, lift := false, keepStart := false,
    settled := false, axStop := false, btStart := 0, btT := 0, slew := 0, stretch := 0, lastLen := 0 }

def PosState.init : PosState :=
  { q := List.replicate 6 QChan.init, ext := List.replicate 6 0, s := List.replicate 4 SChan.init, din := 0, dinRun := List.replicate 8 0, dcap := [],
    capHold := [], capMap := [], emu := List.replicate 2 Emu.init, csNew := none, csCur := none, csGood := 0,
    csLost := false, frozen := 0, lostDue := 0, lostNext := 0, disCnt := [0, 0, 0], travel := 0, legPrev := none, alignReq := false,
    trail := [], frzA := List.replicate 13 0, frzB := List.replicate 6 0, frzVal := List.replicate 13 0,
    legLast := [0, 0, 0], t0 := 0, fed1 := 0, fed2 := 0, returnReq := false, priGood := 0, fedValid := false, legHeld := 0, csHeld := false }

/-! ## The whole -/

/-- The hardware but for the memories. -/
structure Hw where
  env : Env
  /-- Free values taken so far (log entry 4). -/
  fresh : Nat
  /-- R29: the answer of the last access. -/
  reply : Reply
  otp : OtpState
  /-- Registers that differ from their reset value, by address. -/
  regs : List (Nat × Word)
  cpr : CprState
  hdr : HdrState
  sis : SisState
  rcd : RecState
  pst : PstState
  pos : PosState
  dor : DorState
  map : MapState
  prf : PrfState
  peer : PeerState
  vis : VisState
  can : List CanState
  rdn : RdnState
  tce : List Core
  eth : EthState
  sse : List SseConn
  stq : StqState
  sec : SecState
  xsp : XspState
  hsp : HspState
  tst : TstState
  deriving DecidableEq, Repr

/-- The hardware and its memories (R28, R30): cells that differ from what an unwritten byte reads as. -/
structure Dev where
  hw : Hw
  mem : List Host.Cell
  deriving DecidableEq, Repr

/-- The state: the device and the commands that wait, first in first out. -/
structure State where
  dev : Dev
  pending : List Instr
  deriving DecidableEq, Repr

/-- The installation at State.reset (log entry 2). -/
def Env.init : Env := { part := 48, dbPwrrel := false, dbDoor := false, fireEn := true, learnEn := true }

/-- The hardware with every block at reset and nothing listed. -/
def Hw.init : Hw :=
  { env := Env.init, fresh := 0, reply := ⟨[], false⟩, otp := OtpState.init, regs := [], cpr := CprState.init,
    hdr := HdrState.init, sis := SisState.init, rcd := RecState.init, pst := PstState.init, pos := PosState.init,
    dor := DorState.init, map := MapState.init, prf := PrfState.init, peer := PeerState.init,
    vis := VisState.init, can := List.replicate 4 CanState.init, rdn := RdnState.init, tce := List.replicate 2 Core.init, eth := EthState.init,
    sse := List.replicate 64 SseConn.init,
    stq := StqState.init, sec := SecState.init, xsp := XspState.init, hsp := HspState.init,
    tst := TstState.init }

/-- The registers that differ at State.reset from the reset values of their page tables: the seven pages that are
enabled at reset run (R42, R43), the SIS TCM is wiped (R77, R90), CPR_CLK_STAT with both references, the four locks and
every clock running (R91, R92), and PRF_AXn_CFG with its shadow as the CAR role gives them (R174; log entry 2). -/
def resetRegs : List (Nat × Word) :=
  [ (0x4000000C, 1),
    (0x40000054, 0x80000020),
    (0x4000005C, 0x030F01FF),
    (0x4001000C, 1),
    (0x4002000C, 1),
    (0x4004000C, 1),
    (0x4005000C, 1),
    (0x4006000C, 1),
    (0x40120100, 0x00640021),
    (0x40120180, 0x00640021),
    (0x40120200, 0x00640022),
    (0x40120280, 0x00640022),
    (0x40128100, 0x00640021),
    (0x40128180, 0x00640021),
    (0x40128200, 0x00640022),
    (0x40128280, 0x00640022),
    (0x4028000C, 1) ]

/-- The machine right after a power-on reset is released (R71, R79): mode BOOT, the boot ROM at work, nothing listed in
a memory, no command waiting. Straps, variant and OTP are log entry 2. -/
def State.reset : State :=
  { dev := { hw := { Hw.init with regs := resetRegs }, mem := [] }, pending := [] }

end Sys2Proof.Machine
end

