-- ==== Sys2Proof/Machine/Ops.lean ====
section
/-! DEFINITION. The named operations over the register store, the memories, the access answers and the free values,
and the rules of the common page that every block shares (R33 to R57). -/

namespace Sys2Proof.Machine

/-! ## Register rows and reset values -/

/-- Whether row `r` has a register at page offset `o`. -/
def RegRow.has (r : RegRow) (o : Nat) : Bool :=
  let d := o - r.off
  let i := if r.st = 0 then 0 else d / r.st
  let e := if r.st = 0 then d else d % r.st
  let j := if r.ms = 0 then 0 else e / r.ms
  decide (r.off ≤ o) && decide (i < r.n) && decide (j < r.m) && decide (e = j * r.ms)

/-- Page index of an address of the peripheral space. -/
def pageOf (a : Nat) : Nat := (a - 0x40000000) / 0x10000

/-- Offset in its page. -/
def offOf (a : Nat) : Nat := a % 0x10000

/-- The row of the register at active offset `o` of page `p`. -/
def rowAt (p o : Nat) : Option RegRow := (pageRows p).find? (fun r => r.has o)

/-- Pages of R32 whose EN resets to 1 (R42). -/
def enResets (p : Nat) : Bool :=
  p = PG_CPR || p = PG_SEC || p = PG_SIS || p = PG_MLB || p = PG_LAT || p = PG_REC || p = PG_XSP

/-- Reset value of a header register (R38, R42, R43, R46): a page that is not enabled reads QUIET. -/
def hdrReset (p o : Nat) : Nat :=
  if o = 8 then b2n (enResets p)
  else if o = 0xC then (if enResets p then 0 else 2)
  else if o = 0x1C then 0xC
  else 0

/-- Reset value of a register of page `p` at active offset `o` from its page table. `MLBn_CFG` and `DOR_Dn_CFG` are the
registers whose tables give a value per copy (R436, R315). -/
def rowReset (p o : Nat) : Nat :=
  match rowAt p o with
  | none => 0
  | some r =>
    if p = PG_MLB && r.off = 0x200 then r.reset + 0x101 * ((o - 0x200) / 0x40)
    else if p = PG_DOR && r.off = 0x200 then r.reset + 0x1110 * ((o - 0x200) / 0x80)
    else if (p = PG_CAN 0 || p = PG_CAN 1 || p = PG_CAN 2 || p = PG_CAN 3) && r.off = 0x50 then
      [0x011E0707, 0x001E0707, 0x000E0303, 0x000A0303, 0x00060101].getD ((o - 0x50) / 4) 0
    else r.reset

/-- The value a register holds at reset (R38, R56; the page tables). -/
def regReset (a : Nat) : Word :=
  let p := pageOf a
  let o := offOf a
  BitVec.ofNat 32 <|
    if a < 0x40000000 || 0x41000000 ≤ a then 0
    else if o < 0x40 then hdrReset p o
    else if o < 0x8000 then rowReset p o
    else if o < 0x8040 then 0
    else match rowAt p (o - 0x8000) with
      | some r => if r.kind = .plain then 0 else rowReset p (o - 0x8000)
      | none => 0

/-! ## The register store -/

/-- The first entry for address `a`. -/
def lookupReg : List (Nat × Word) → Nat → Option Word
  | [], _ => none
  | (b, w) :: l, a => if b = a then some w else lookupReg l a

/-- The store without address `a`. -/
def eraseReg : List (Nat × Word) → Nat → List (Nat × Word)
  | [], _ => []
  | (b, w) :: l, a => if b = a then eraseReg l a else (b, w) :: eraseReg l a

/-- The store with an entry for `a` put before the first higher address. -/
def insertReg : List (Nat × Word) → Nat → Word → List (Nat × Word)
  | [], a, v => [(a, v)]
  | (b, w) :: l, a, v => if a < b then (a, v) :: (b, w) :: l else (b, w) :: insertReg l a v

/-- The word in the register at address `a`. -/
def Hw.reg (h : Hw) (a : Nat) : Word := (lookupReg h.regs a).getD (regReset a)

/-- The hardware with word `v` in the register at address `a`; a register at its reset value is not listed. -/
def Hw.setReg (h : Hw) (a : Nat) (v : Word) : Hw :=
  if v = regReset a then { h with regs := eraseReg h.regs a }
  else { h with regs := insertReg (eraseReg h.regs a) a v }

/-- A bit field of a register, as a number. -/
def Hw.rd (h : Hw) (f : Field) : Nat := getBits (h.reg f.addr) f.lo f.width

/-- A one-bit field as a Bool. -/
def Hw.on (h : Hw) (f : Field) : Bool := h.rd f = 1

/-- The hardware with the low bits of `v` in field `f`. -/
def Hw.wr (h : Hw) (f : Field) (v : Nat) : Hw := h.setReg f.addr (setBits (h.reg f.addr) f.lo f.width v)

/-- A whole register as an unsigned number. -/
def Hw.nat (h : Hw) (a : Nat) : Nat := (h.reg a).toNat

/-- A whole register as a signed number. -/
def Hw.int (h : Hw) (a : Nat) : Int := (h.reg a).toInt

/-- A whole register set from a number, modulo 2^32. -/
def Hw.setNat (h : Hw) (a n : Nat) : Hw := h.setReg a (BitVec.ofNat 32 n)

/-- A whole register set from an integer, modulo 2^32. -/
def Hw.setInt (h : Hw) (a : Nat) (i : Int) : Hw := h.setReg a (BitVec.ofInt 32 i)

/-- Bit `i` of a register. -/
def Hw.bitAt (h : Hw) (a i : Nat) : Bool := (h.reg a).getLsbD i

/-- The hardware with bit `i` of a register set or cleared. -/
def Hw.setBitAt (h : Hw) (a i : Nat) (b : Bool) : Hw := h.setReg a (setBits (h.reg a) i 1 (b2n b))

/-- A counter register that saturates at the top of its field. -/
def Hw.bump (h : Hw) (f : Field) (k : Nat) : Hw := h.wr f (satN f.width (h.rd f + k))

/-- Do `f` if `c` holds. -/
def Hw.cond (h : Hw) (c : Bool) (f : Hw → Hw) : Hw := if c then f h else h

/-- Do `f` for every element of a list, in order. -/
def Hw.each {α : Type} (h : Hw) (l : List α) (f : α → Hw → Hw) : Hw := l.foldl (fun h x => f x h) h

/-- A 64-bit value held as a pair (R37), low word at `a`. -/
def Hw.pair (h : Hw) (a : Nat) : Nat := h.nat a + 4294967296 * h.nat (a + 4)

/-- Set a 64-bit pair. -/
def Hw.setPair (h : Hw) (a n : Nat) : Hw := (h.setNat a n).setNat (a + 4) (n / 4294967296)

/-- The address is a message object's: block memory of a CAN controller (R77, R398). -/
def canMemory (a : Nat) : Bool :=
  decide (0x40200000 ≤ a) && decide (a < 0x40240000) && decide (0x4000 ≤ offOf a) && decide (offOf a < 0x8000)

/-- Every register of a page back to its reset value; the message objects, block memory, stand (R56). -/
def Hw.clearPage (h : Hw) (p : Nat) : Hw :=
  { h with regs := h.regs.filter (fun e => decide (pageOf e.1 ≠ p) || canMemory e.1) }

/-- A field of the Ethernet configuration in force: a set that an invalid swap brings in never stands (R417). -/
def Hw.ethF (h : Hw) (f : Field) : Nat :=
  getBits ((lookupReg h.eth.force f.addr).getD (regReset f.addr)) f.lo f.width

/-- A field of the redundancy configuration in force (R373). -/
def Hw.rdnF (h : Hw) (f : Field) : Nat :=
  getBits ((lookupReg h.rdn.force f.addr).getD (regReset f.addr)) f.lo f.width

/-- The unit has a partner (R3, R354). -/
def Hw.paired (h : Hw) : Bool := h.rdnF RDN_CFG_PAIRED = 1

/-- A standby replays its partner: its own agents command nothing (R360). -/
def Hw.standby (h : Hw) : Bool := h.rdn.replaying || h.rd RDN_STAT_STATE = 7

/-! ## Free values -/

/-- Take a fresh free 32-bit value: the spec states none (log entry 4). -/
def Hw.free (h : Hw) (k : Word → Hw → Hw) : Hw := k (Config.freeWord h.fresh) { h with fresh := h.fresh + 1 }

/-- `n` fresh free words as bytes: what SEC draws from its random source (R465, R468, R474). -/
def Hw.draw (h : Hw) (n : Nat) : List Byte × Hw :=
  (((List.range n).map fun i => leBytes 4 (Config.freeWord (h.fresh + i)).toNat).flatten, { h with fresh := h.fresh + n })

/-! ## Memories -/

/-- A word of the MRAM as the unit leaves the factory (log entry 3): headers A and B carry MAGIC and a good CRC over
zeros, the deadbolt words are clear with a good CRC; everything else is 0. -/
def mramWord (a : Nat) : Nat :=
  if a = 0x60000000 || a = 0x60000040 then 0x54434552
  else if a = 0x6000003C || a = 0x6000007C then 0x7c352990
  else if a = 0x600000BC || a = 0x600000FC then 0x5a0b0531
  else 0

/-- What a byte that nothing has written reads as: the wiped memories read 0 (R77); MRAM and flash are log entry 3;
the boot ROM is free. Flash stands at 0x1_0000_0000 plus its own address (R30, R481). -/
def memDefault (a : Nat) : Byte :=
  if a < 0x20000 then Config.romByte a
  else if 0x100000000 ≤ a then 0xFF
  else if 0x60000000 ≤ a && decide (a < 0x60000100) then BitVec.ofNat 8 (mramWord (a / 4 * 4) / 256 ^ (a % 4))
  else 0

/-- The first byte listed for address `a`. -/
def memLookup : List Host.Cell → Nat → Option Byte
  | [], _ => none
  | (b, v) :: l, a => if b = a then some v else memLookup l a

/-- The byte at address `a`. -/
def memRead (m : List Host.Cell) (a : Nat) : Byte := (memLookup m a).getD (memDefault a)

/-- The memory without an entry for `a`. -/
def memErase : List Host.Cell → Nat → List Host.Cell
  | [], _ => []
  | (b, v) :: l, a => if b = a then memErase l a else (b, v) :: memErase l a

/-- The memory with an entry put before the first higher address. -/
def memInsert : List Host.Cell → Nat → Byte → List Host.Cell
  | [], a, v => [(a, v)]
  | (b, w) :: l, a, v => if a < b then (a, v) :: (b, w) :: l else (b, w) :: memInsert l a v

/-- The memory with byte `v` at address `a`, in canonical form. -/
def memWrite (m : List Host.Cell) (a : Nat) (v : Byte) : List Host.Cell :=
  if v = memDefault a then memErase m a else memInsert (memErase m a) a v

/-- Consecutive bytes from `a`. -/
def memReadBytes (m : List Host.Cell) (a : Nat) : Nat → List Byte
  | 0 => []
  | k + 1 => memRead m a :: memReadBytes m (a + 1) k

/-- Write consecutive bytes from `a`. -/
def memWriteBytes (m : List Host.Cell) (a : Nat) : List Byte → List Host.Cell
  | [] => m
  | b :: bs => memWriteBytes (memWrite m a b) (a + 1) bs

/-- A little-endian number of `k` bytes at `a`. -/
def memNat (m : List Host.Cell) (a k : Nat) : Nat := ofLE (memReadBytes m a k)

/-- Write a little-endian number of `k` bytes at `a`. -/
def memSetNat (m : List Host.Cell) (a k n : Nat) : List Host.Cell := memWriteBytes m a (leBytes k n)

/-- Forget every cell from `lo` to below `hi`: the region reads as unwritten (R77). -/
def memClear (m : List Host.Cell) (lo hi : Nat) : List Host.Cell :=
  m.filter (fun c => decide (c.1 < lo) || decide (hi ≤ c.1))

/-- Keys rise strictly and no cell holds what an unlisted address reads as. -/
def memWf : List Host.Cell → Bool
  | [] => true
  | [(a, v)] => decide (v ≠ memDefault a)
  | (a, v) :: (b, w) :: l => decide (v ≠ memDefault a) && decide (a < b) && memWf ((b, w) :: l)

/-! ## The address map (R28) -/

/-- An address range lies in another. -/
def inRange (a n lo hi : Nat) : Bool := decide (lo ≤ a) && decide (a + n ≤ hi)

/-- Bytes of the shared SRAM. -/
def inSram (a n : Nat) : Bool := inRange a n 0x20000000 0x20400000

/-- Bytes of the DRAM; half of it on TLM-1044 (R7). -/
def Hw.inDram (h : Hw) (a n : Nat) : Bool := inRange a n 0x80000000 (if h.env.part = 44 then 0x84000000 else 0x88000000)

/-- Bytes of the memories that a block reaches over the bus: shared SRAM, exchange RAM, TCE data, DRAM. -/
def Hw.busRam (h : Hw) (a n : Nat) : Bool :=
  inSram a n || inRange a n 0x30000000 0x30040000 || inRange a n 0x31010000 0x31030000 ||
    inRange a n 0x31110000 0x31130000 || h.inDram a n

/-! ## Requesters, answers -/

/-- An access answered with data. -/
def Hw.answer (h : Hw) (l : List Word) : Hw := { h with reply := ⟨l, false⟩ }

/-- An access that ends in a bus error: nothing is written (R29). -/
def Hw.busError (h : Hw) : Hw := { h with reply := ⟨[], true⟩ }

/-- An access that is taken or ignored without a bus error and carries no data. -/
def Hw.ack (h : Hw) : Hw := { h with reply := ⟨[], false⟩ }

/-! ## Presence of units -/

/-- Page index `p` belongs to a block of R32. -/
def isPage (p : Nat) : Bool := !(pageRows p).isEmpty

/-- R5: absent units read zeros and ignore writes. -/
def Hw.absent (h : Hw) (p : Nat) : Bool :=
  (p = PG_VIS && h.env.part ≠ 48) ||
  (h.env.part = 44 && (p = PG_ETH 1 || p = PG_CAN 2 || p = PG_CAN 3))

/-- R4: the optional units. -/
def Hw.hasV (h : Hw) : Bool := h.env.part = 48
def Hw.hasE2 (h : Hw) : Bool := h.env.part ≠ 44
def Hw.hasG (h : Hw) : Bool := h.env.part ≠ 44

/-- R4: number of map pages. -/
def Hw.mapPages (h : Hw) : Nat := if h.env.part = 44 then 256 else 1024

/-- R4: number of PWM sets. -/
def Hw.pwmSets (h : Hw) : Nat := if h.env.part = 44 then 3 else 6

/-- R1: the role from the sampled straps. -/
def Hw.isCar (h : Hw) : Bool := h.rd CPR_STRAP_ROLE = 1
def Hw.isMachine (h : Hw) : Bool := h.rd CPR_STRAP_ROLE = 2

/-- The present mode code (R99, R100). -/
def Hw.mode (h : Hw) : Nat := h.rd SIS_MODE_CUR

/-- Agents run in every mode but OFF, RESET and PARKED, and not without the PLL clocks (R60, R65, R71, R100): no access
is made there. -/
def Hw.fabricOn (h : Hw) : Bool := h.mode ≠ 0 && h.mode ≠ 1 && h.mode ≠ 3 && !h.cpr.clocksDead

/-- The requester can make an access: the Ward unless its TCM failed the wipe (R78) or its cores are held in reset (R342),
agents 1 to 7 unless they are held
in reset (R80, R88), application and TCE cores with their clock (R91); the keyway is no agent (R80). -/
def Hw.agentOn (h : Hw) : Who → Bool
  | .keyway => true
  | .agent a =>
    if a.val = 0 then !bit (h.rd CPR_WIPE_STAT_FAIL) 5 && !h.sis.dead
    else !bit (h.rd CPR_AGT_RST_AGT) (a.val - 1) &&
      (if a.val ≤ 4 then h.on CPR_CLK_EN_APP else if a.val ≤ 6 then h.on CPR_CLK_EN_TCE else true)

/-- An access by `who` takes place (R60, R78, R80, R91, R100; log entry 17). -/
def Hw.canAccess (h : Hw) (who : Who) : Bool := h.fabricOn && h.agentOn who

/-- POS, MAP, PRF and STQ are held in BOOT and PROVISION; DOR and VIS in DEADBOLT too (R108). -/
def Hw.motionHeld (h : Hw) : Bool := h.mode = 2 || h.mode = 0xD

/-- The other role's unit counts as parked: in READY, its last frame carried PARK_READY (R113). -/
def Hw.otherParks (h : Hw) : Bool := h.mode = 4 && decide (0 < h.peer.parkRun)
def Hw.doorsHeld (h : Hw) : Bool := h.motionHeld || h.mode = 0xC

/-- Modes in which the drive may be released (R100). -/
def driveMode (m : Nat) : Bool := decide (5 ≤ m) && decide (m ≤ 0xB)

/-- A mode in which the car may not move and the drive may not be released; SAFE-STOP from its standstill on (R100). -/
def Hw.haltMode (h : Hw) : Bool := !driveMode h.mode || (h.mode = 0xB && h.sis.stopDone)

/-- The set-points of this T0 are published: their registers read them from now on (R208). -/
def Hw.publishSet (h : Hw) : Hw := { h with prf := { h.prf with spOld := [] } }

/-- A fresh reading of the operating time, 1/16 s (R63). -/
def Hw.opTime (h : Hw) : Nat := h.pair CPR_OPTIME_LO

/-! ## Common page rules -/

/-- The interrupt line of a page to an agent (R45); a bolted block's lines are inactive (R55). -/
def Hw.line (h : Hw) (p a : Nat) : Bool :=
  isPage p && !h.absent p && !h.on (BLK_STAT_BOLTED p) && decide (h.nat (BLK_IRQ p) &&& h.nat (BLK_IRQ_EN p) ≠ 0) &&
    bit (h.rd (BLK_IRQ_ROUTE_AGT p)) a

/-- PLIC source `n` is asserted: its block's line to an application core (R98). -/
def Hw.plicLine (h : Hw) (n : Nat) : Bool :=
  decide (1 ≤ n) && decide (n ≤ 41) && (List.range 4).any (fun a => h.line (n - 1) (a + 1))

/-- PLIC source `n` is pending (R98): its pending bit is latched, or it is asserted and not claimed. -/
def Hw.plicPending (h : Hw) (n : Nat) : Bool :=
  bit h.cpr.plicIp n || (h.plicLine n && !bit h.cpr.plicBusy n)

/-- The pending bits latch what is asserted: before anything that can take a line away (R98). -/
def Hw.plicLatch (h : Hw) : Hw := { h with cpr := { h.cpr with plicIp := maskOf 42 h.plicPending } }

/-- Set a block interrupt bit (R44). -/
def Hw.irq (h : Hw) (p b : Nat) : Hw := h.setBitAt (BLK_IRQ p) b true

/-- Set a common fault cause (R49): the first cause while bits [5:0] are clear records the requester. -/
def Hw.commonFault (h : Hw) (who : Who) (f : Nat → Field) (p : Nat) : Hw :=
  let h1 := if h.rd (BLK_FAULT_COMMON p) = 0 then
      match who with
      | .agent a => (h.wr (BLK_FAULT_FAGENT p) a.val).wr (BLK_FAULT_FKW p) 0
      | .keyway => (h.wr (BLK_FAULT_FAGENT p) 0).wr (BLK_FAULT_FKW p) 1
    else h
  (h1.wr (f p) 1).wr (BLK_IRQ_FLT p) 1

/-- Set a block fault cause that does not reach the fault manager (R49). -/
def Hw.blockFault (h : Hw) (p b : Nat) : Hw := (h.setBitAt (BLK_FAULT p) b true).wr (BLK_IRQ_FLT p) 1

/-- The block is enabled, not quiet and not bolted (R43, R55). -/
def Hw.running (h : Hw) (p : Nat) : Bool := h.on (BLK_STAT_RUN p)
def Hw.bolted (h : Hw) (p : Nat) : Bool := h.on (BLK_STAT_BOLTED p)
def Hw.quiet (h : Hw) (p : Nat) : Bool := h.on (BLK_STAT_QUIET p)

/-- The key in a slot of the key store, where the boot has unwrapped the store (R460, R461, R477). -/
def Hw.stored (h : Hw) (k : Nat) : Option (List Byte) := if h.on SEC_KS_WRAPOK then h.otp.key k else none

/-- SEC's lanes reach the flash: XSP is not bolted, the flash neither programs nor erases (R480, R483). -/
def Hw.laneRuns (h : Hw) : Bool := !h.bolted PG_XSP && !h.on XSP_STAT_FLBUSY

/-- R48: with SISONLY only agent 0 may write anything in the page. -/
def Hw.sisOnlyOk (h : Hw) (who : Who) (p : Nat) : Bool :=
  !h.on (BLK_LOCK_SISONLY p) || who = .agent 0

/-- R54: a configuration write is refused to others than agent 0 while LOCK stands. -/
def Hw.lockOk (h : Hw) (who : Who) (p : Nat) : Bool :=
  !h.on (BLK_LOCK_LOCK p) || who = .agent 0

/-- A write of a configuration register by `who`: refused with LOCKW under R48 and R54, ignored by an absent unit. -/
def Hw.cfgWrite (h : Hw) (who : Who) (p : Nat) (f : Hw → Hw) : Hw :=
  if h.absent p then h.ack
  else if h.sisOnlyOk who p && h.lockOk who p then f h.ack
  else h.ack.commonFault who BLK_FAULT_LOCKW p

/-- A write of an operating register by `who`: only SISONLY can refuse it (R48, R54). -/
def Hw.opWrite (h : Hw) (who : Who) (p : Nat) (f : Hw → Hw) : Hw :=
  if h.absent p then h.ack
  else if h.sisOnlyOk who p then f h.ack
  else h.ack.commonFault who BLK_FAULT_LOCKW p

/-- A write that agent 0 alone may make: another's changes nothing and sets fault bit `b` (NOTSIS) of the page. -/
def Hw.agent0 (h : Hw) (who : Who) (p b : Nat) (f : Hw → Hw) : Hw :=
  if who = .agent 0 then f h.ack else h.ack.blockFault p b

/-! ## Boundary scan (R508) -/

/-- An instruction is loaded; balls held by another are released. -/
def Hw.tapLoad (h : Hw) (ir : Nat) : Hw := ((h.wr TST_BSCAN_TAPACT 1).wr TST_BSCAN_IR ir).wr TST_BSCAN_HOLD 0

/-! ## 64-bit pairs (R37) -/

/-- The word a requester holds for address `a`. -/
def holderOf (l : List Holder) (who a : Nat) : Option Word :=
  (l.find? (fun x => decide (x.who = who) && decide (x.addr = a))).map (·.word)

/-- The holders with the requester's word for `a` replaced. -/
def setHolder (l : List Holder) (who a : Nat) (w : Word) : List Holder :=
  ⟨who, a, w⟩ :: l.filter (fun x => !(decide (x.who = who) && decide (x.addr = a)))

/-- The holders without the requester's word for `a`. -/
def dropHolder (l : List Holder) (who a : Nat) : List Holder :=
  l.filter (fun x => !(decide (x.who = who) && decide (x.addr = a)))

/-- A written _LO waits in the requester's holder. -/
def Hw.holdLo (h : Hw) (who a : Nat) (w : Word) : Hw :=
  { h with hdr := { h.hdr with wrHold := setHolder h.hdr.wrHold who a w } }

/-- A written _HI completes the pair with the requester's own _LO, or with the _LO that stands. -/
def Hw.pairWrite (h : Hw) (who a : Nat) (hi : Word) : Hw :=
  let lo := (holderOf h.hdr.wrHold who (a - 4)).getD (h.reg (a - 4))
  let h1 := (h.setReg (a - 4) lo).setReg a hi
  { h1 with hdr := { h1.hdr with wrHold := dropHolder h1.hdr.wrHold who (a - 4) } }

/-- The pair's _LO addresses that a requester may write. -/
def writtenPairLo (a : Nat) : Bool :=
  a = CPR_OPTIME_LO || a = REC_WALL_LO ||
  (List.range 2).any fun c => a = ETH_MAC_LO c || a = ETH_PEER_LO c || a = ETH_MAC_LO c + 0x8000 || a = ETH_PEER_LO c + 0x8000

/-- A word written at a shadow address lands: an _LO waits in the requester's holder, an _HI completes its pair (R37). -/
def Hw.shadowLands (h : Hw) (x : StalledWrite) : Hw :=
  if writtenPairLo x.addr then h.holdLo x.who x.addr x.word
  else if writtenPairLo (x.addr - 4) then h.pairWrite x.who x.addr x.word
  else h.setReg x.addr x.word

/-- Low addresses of the 64-bit pairs. -/
def isPairLo (a : Nat) : Bool :=
  a = CPR_OPTIME_LO || a = PST_TB_CNT_LO || a = PST_EN_DRAWN_LO || a = PST_EN_RET_LO || a = SIS_SSWD_LO ||
  a = SSE_WD_LO || a = REC_WALL_LO ||
  (List.range 4).any (fun n => a = POS_Sn_POS_LO n) ||
  (List.range 2).any (fun c => a = ETH_MAC_LO c || a = ETH_PEER_LO c || a = ETH_PTP_NS_LO c || a = ETH_T0_STAMP_LO c ||
    a = ETH_MAC_LO c + 0x8000 || a = ETH_PEER_LO c + 0x8000)

end Sys2Proof.Machine
end

