-- ==== Sys2Proof/Machine/RecQueue.lean ====
section
/-! DEFINITION. How records come to the recorder: CRC-32C, the queue, the AON store (R443 to R449, R453). -/

namespace Sys2Proof.Machine

/-- One bit of CRC-32C, reflected (R411: polynomial 0x1EDC6F41). -/
def crcBit (c : Nat) : Nat := if c % 2 = 1 then (c / 2) ^^^ 0x82F63B78 else c / 2

/-- One byte of CRC-32C. -/
def crcByte (c : Nat) (b : Byte) : Nat :=
  crcBit (crcBit (crcBit (crcBit (crcBit (crcBit (crcBit (crcBit (c ^^^ b.toNat))))))))

/-- CRC-32C over a list of bytes (R411, R444). -/
def crc32c (l : List Byte) : Nat := (l.foldl crcByte 0xFFFFFFFF) ^^^ 0xFFFFFFFF

/-- The 60 bytes of a record that its CRC covers (R443). -/
def recordBody (h : Hw) (r : Record) : List Byte :=
  leBytes 4 r.seq ++ leBytes 6 r.opt ++ leBytes 2 r.typ ++ leBytes 4 (h.nat REC_PCC) ++ leBytes 8 r.wall ++
  leBytes 1 (r.mode + 16 * h.rd CPR_STRAP_UNIT_AB + 32 * h.rd CPR_STRAP_ROLE + 128 * b2n r.wvalid) ++
  leBytes 1 r.src ++ leBytes 2 (b2n r.prot + 2 * b2n r.cont + 4 * b2n r.fromAon) ++
  ((r.data.map (leBytes 4)).flatten ++ List.replicate 32 0).take 32

/-- The 64 bytes of a record with its CRC (R443, R444). -/
def recordBytes (h : Hw) (r : Record) : List Byte :=
  let b := recordBody h r
  b ++ leBytes 4 (crc32c b)

/-- Wall time of an operating time, in ms (R447: 62.5 ms a count). -/
def wallAt (h : Hw) (opt : Nat) : Nat :=
  (h.rcd.wallBase + (opt - h.rcd.optBase) * 125 / 2) % 2 ^ 64

/-- The recorder keeps records in the AON store: it is DEGRADED or bolted (R453, R456). -/
def Hw.recAonMode (h : Hw) : Bool := h.on REC_STAT_DEGRADED || h.bolted PG_REC

/-- A record goes to the AON store; the oldest of 64 is overwritten and counted (R453). AONCNT has six bits: 64 reads 63
(DESIGN CHOICE, log entry 55). -/
def Hw.toAon (h : Hw) (r : Record) : Hw :=
  let beyond := decide (64 ≤ h.rcd.aon.length)
  let l := (if beyond then h.rcd.aon.drop 1 else h.rcd.aon) ++ [r]
  let h1 := { h with rcd := { h.rcd with aon := l } }
  (h1.cond beyond (·.bump REC_LOST_AONOVW 1)).wr REC_STAT_AONCNT (satN 6 l.length)

/-- REC becomes DEGRADED (R453), with IRQ bit 3. RECORDER and the queue follow in `recFail`. -/
def Hw.recDegrade (h : Hw) : Hw := ((h.wr REC_STAT_DEGRADED 1).wr REC_STAT_BUSY 0).irq PG_REC 3

/-- A record is put behind the queue (R449), with the level and the interrupt of 16 entries. -/
def Hw.recPush (h : Hw) (r : Record) : Hw :=
  let q := h.rcd.queue ++ [r]
  let h1 := ({ h with rcd := { h.rcd with queue := q } }.wr REC_STAT_LEVEL (satN 6 q.length)).wr REC_STAT_BUSY 1
  (h1.cond (16 ≤ q.length) (·.irq PG_REC 1)).cond h.cpr.parking (·.wr (BLK_STAT_QUIET PG_REC) 0)

/-- The sequence numbers run out (R446): DEGRADED; the fault enters at the next position-cycle T0 (DESIGN CHOICE, log entry
55). -/
def Hw.recRunOut (h : Hw) : Hw :=
  if h.on REC_STAT_DEGRADED then h
  else { h.recDegrade with rcd := { h.rcd with ranOut := true } }

/-- Arrival of a record (R446): SEQ and stamps are given; the queue, the AON store or the loss count takes it. -/
def Hw.recArrive (h : Hw) (typ src : Nat) (prot cont : Bool) (data : List Nat) : Hw :=
  if h.nat REC_SEQ = 0xFFFFFFFF then h.recRunOut
  else
    let wv := h.on REC_STAT_WALLVALID
    let r : Record := ⟨h.nat REC_SEQ, h.opTime, typ, if wv then wallAt h h.opTime else 0, wv, h.mode, src, prot, cont,
      false, data⟩
    if h.recAonMode then (h.toAon r).setNat REC_SEQ (h.nat REC_SEQ + 1)
    else if 32 ≤ h.rcd.queue.length then (h.bump REC_LOST_HWLOST 1).blockFault PG_REC 10
    else (h.recPush r).setNat REC_SEQ (h.nat REC_SEQ + 1)

/-- A record of the Ward's hardware (SRC 0x10). -/
def Hw.recWard (h : Hw) (typ : Nat) (prot : Bool) (data : List Nat) : Hw := h.recArrive typ 0x10 prot false data

/-- A record of the recorder itself (SRC 0x11). -/
def Hw.recSelf (h : Hw) (typ : Nat) (prot : Bool) (data : List Nat) : Hw := h.recArrive typ 0x11 prot false data

end Sys2Proof.Machine
end

