-- ==== Sys2Proof/Machine/FaultManager.lean ====
section
/-! DEFINITION. What every block shares with the Ward: the safe outputs and how a cause de-energises them (R328 to
R330), the brake sequencer forced to APPLIED (R284), the deadbolt latch (R344) and the fault manager (R339 to R341). -/

namespace Sys2Proof.Machine

/-! ## Power stage: what STO and trips do to the sets -/

/-- STO is active unless both channels are energised (R271). -/
def Hw.stoActive (h : Hw) : Bool := h.rd SIS_OUT_STAT_OUT % 4 ≠ 3

/-- A set has a latched trip (R277). -/
def Hw.setTripped (h : Hw) (n : Nat) : Bool :=
  bit (h.rd PST_TRIP_OC) n || bit (h.rd PST_TRIP_GDF) n || bit (h.rd PST_TRIP_GRP) n

/-- A set is the motor of an enabled door (R14, R300). -/
def Hw.doorSet (h : Hw) (n : Nat) : Bool :=
  (List.range 2).any fun d => h.on (DOR_Dn_CFG_EN d) && h.rd (DOR_Dn_CFG_SET d) = n

/-- The mode has the set's PWM off (R108): where the drive may not be released; the doors' own sets still run where
R108 lets the doors run, in READY and after the standstill of SAFE-STOP (log entry 57). -/
def Hw.modeOff (h : Hw) (n : Nat) : Bool := h.haltMode && !((h.mode = 4 || h.mode = 0xB) && h.doorSet n)

/-- Priority 1 of R270 holds a three-phase set off: PST bolted, EN = 0, tripped, STO active and mapped, PS2 under
GRIDLOSS, the set held for an invalid configuration (R267, R288), off by the mode (R108). -/
def Hw.setOff (h : Hw) (n : Nat) : Bool :=
  h.modeOff n || h.bolted PG_PST || !h.on (PST_PSn_CFG_EN n) || h.setTripped n || (h.stoActive && bit (h.rd PST_STO_MAP_SETS) n) ||
  (n = 2 && h.pst.gridOff) || bit h.pst.badSet n || bit h.pst.clampOff n

/-- The function of a leg: 0 three-phase, 1 CHOP, 2 BMOD0, 3 BMOD1. -/
def Hw.legFn (h : Hw) (n l : Nat) : Nat := getBits (h.reg (PST_PSn_CFG n)) (16 + 2 * l) 2

/-- The standstill mode that PRF signals for an axis at rest (R191, R192): 0 OFF, 1 SHORT, 2 HOLD. -/
def Hw.restMode (h : Hw) (n : Nat) : Nat := if bit h.prf.coilsOff n then 0 else h.rd (PRF_AXn_CFG_STILL n)

/-- Some leg of a three-phase set stands at priority 7 of R270: PWM by its OUT field, and no standstill mode OFF or
SHORT of an axis it follows. -/
def Hw.legsPwm (h : Hw) (n : Nat) : Bool :=
  !(h.on (PST_PSn_CFG_AXEN n) && h.on (PST_PSn_STAT_STILL n) && decide (h.restMode (h.rd (PST_PSn_CFG_AXIS n)) ≠ 2)) &&
    (List.range 3).all (fun l => h.legFn n l = 0) &&
    (List.range 3).any fun l => getBits (h.reg (PST_PSn_OUT n)) (2 * l) 2 = 0

/-- Set status (R270, R271): an off set stops at once; a released one switches from its next valley (`CARRIER_VALLEY`).
SWITCHING shows that legs are modulated (log entry 23). -/
def Hw.refreshSet (n : Nat) (h : Hw) : Hw :=
  let off := h.setOff n
  let h0 := { h with pst := { h.pst with resumed := if off then setBitN h.pst.resumed n false else h.pst.resumed } }
  ((h0.wr (PST_PSn_STAT_STO n) (b2n (h.stoActive && bit (h.rd PST_STO_MAP_SETS) n))).wr
    (PST_PSn_STAT_TRIPPED n) (b2n (h.setTripped n))).wr (PST_PSn_STAT_SWITCHING n)
    (b2n (bit h0.pst.resumed n && h.legsPwm n))

def Hw.refreshSets (h : Hw) : Hw := h.each (List.range 6) Hw.refreshSet

/-! ## Brake sequencer and brake test -/

/-- The brake test ends with ABORTED: reference 0, the other circuit applied (R287). -/
def Hw.btAbort (h : Hw) : Hw :=
  if h.on PST_BT_STAT_BUSY then
    ((((h.wr PST_BT_STAT_BUSY 0).wr PST_BT_STAT_ABORTED 1).wr PST_BT_STAT_STEP 0).setNat PST_BT_IREF 0).irq PG_PST 10
  else h

/-- The sequencer is forced to APPLIED at once (R284, last row): FORCED = 1, BMOD off, start request dropped. -/
def Hw.brakeForce (h : Hw) : Hw :=
  if h.isMachine && h.on PST_BRK_CFG_EN && h.rd PST_BRK_STAT_STATE ≠ 0 then
    let h1 := (((((h.btAbort.wr PST_BRK_STAT_STATE 0).wr PST_BRK_STAT_FORCED 1).wr PST_BRK_STAT_RUN 0).wr
      PST_BRK_STAT_HOLDD 0).wr PST_BRK_STAT_START 0).irq PG_PST 9
    { h1 with pst := { h1.pst with bmod := 0, drive := false, lift := false, keepStart := false, settled := false } }
  else h

/-! ## Safe outputs -/

/-- Ball masks of SIS_OUT_STAT.OUT (R350). -/
def maskSTO : Nat := 0x3
def maskBRK : Nat := 0xC
def maskDLK : Nat := 0x30
def maskSRL : Nat := 0x3C0

/-- The readbacks of outputs `o` (R330): they follow, but for the balls found stuck. -/
def Hw.readback (h : Hw) (o : Nat) : Nat := o &&& (0x3FF ^^^ h.sis.rbStuck) ||| h.sis.rbLevel &&& h.sis.rbStuck

/-- The outputs set to `o`. -/
def Hw.setOuts (h : Hw) (o : Nat) : Hw :=
  ((h.wr SIS_OUT_STAT_OUT o).wr SIS_OUT_STAT_RB (h.readback o)).refreshSets

/-- The balls of `m` de-energised, whatever the cause. -/
def Hw.outsOff (h : Hw) (m : Nat) : Hw := h.setOuts (h.rd SIS_OUT_STAT_OUT &&& (0x3FF ^^^ m))

/-- One cause de-energises the balls of `m` in one cycle (R329): with STO in the same cycle the brake follows after
BRK_LAG; a later cause, or one without STO, drops the brake at once and ends the lag, and a class action in the cycle of
the slot trip that it belongs to does not. The brake sequencer is forced when STO or the brake supply goes (R284). -/
def Hw.dropCause (h : Hw) (m : Nat) : Hw :=
  let out := h.rd SIS_OUT_STAT_OUT
  let sto := decide (m &&& maskSTO ≠ 0)
  let brk := decide (m &&& maskBRK ≠ 0)
  let fell := decide (out &&& m &&& (maskSTO ||| maskBRK) ≠ 0)
  let lag := sto && brk && decide (out &&& maskSTO ≠ 0) && decide (out &&& maskBRK ≠ 0) && !h.sis.lag &&
    decide (h.rd SIS_OUT_CFG_BRK_LAG ≠ 0)
  let on := lag || (h.sis.lag && h.sis.lagNew && sto)
  let m' := if on then m &&& (0x3FF ^^^ maskBRK) else m
  let h1 := { h with sis := { h.sis with lag := on || (h.sis.lag && !brk), lagNew := lag || h.sis.lagNew } }
  (h1.outsOff m').cond fell Hw.brakeForce

/-- The balls of `m` fall in this cycle without a lag, which ends where they take the brake along (R329). -/
def Hw.dropNow (h : Hw) (m : Nat) : Hw :=
  let fell := decide (h.rd SIS_OUT_STAT_OUT &&& m &&& (maskSTO ||| maskBRK) ≠ 0)
  let h1 := { h with sis := { h.sis with lag := h.sis.lag && decide (m &&& maskBRK = 0) } }
  (h1.outsOff m).cond fell Hw.brakeForce

/-! ## Deadbolt -/

/-- The deadbolt latches with a cause (R344): the first cause stands; the mirror takes it and the port starts. -/
def Hw.latchBolt (h : Hw) (cause : Nat) : Hw :=
  if h.on SIS_DB_STAT_SET then h
  else
    let h1 := (((h.wr SIS_DB_STAT_SET 1).wr SIS_DB_STAT_MIRROR 1).wr SIS_DB_STAT_CAUSE cause)
    let h2 := (h1.wr REC_DBW_CAUSE cause).wr REC_DBW_BUSY 1
    let h3 := { h2 with sis := { h2.sis with dbNonce := h.nat SIS_DB_NONCE, dbOpt := h.opTime } }
    h3.recWard 0x0013 true [cause, h.nat SIS_DB_NONCE]

/-! ## Fault manager -/

/-- The cause code of SIS_DB_STAT for an entry (R350: slot k, or block fault of page p). -/
def boltCode (e : FaultEntry) : Nat :=
  if e.src = 0x3F then e.cause else if e.src = PG_CPR && e.cause = 31 then 0xC1
  else if e.src = PG_SIS && e.cause = 31 then 0xC2 else 0x40 + e.src

/-- What SAFE-STOP cause an entry counts as (R110). -/
def stopCauseOf (e : FaultEntry) : StopCause :=
  if e.src = 0x3F then .slot e.cause else .block e.src e.cause

/-- A SAFE-STOP trigger for the next T0 (R339), each cause once (R110). -/
def Hw.trigStop (h : Hw) (c : StopCause) : Hw :=
  { h with sis := { h.sis with stopTrig := if c ∈ h.sis.stopTrig then h.sis.stopTrig else h.sis.stopTrig ++ [c] } }

/-- The balls a DEADBOLT entry drops: all, DLK under DB_DOOR left to R106. -/
def Hw.boltMask (h : Hw) : Nat := if h.env.dbDoor then 0x3FF ^^^ maskDLK else 0x3FF

/-- The actions of a class, applied when its entry becomes current (R339). -/
def Hw.classActions (h : Hw) (e : FaultEntry) : Hw :=
  let h1 := h.cond (decide (1 ≤ e.cls)) (·.irq PG_SIS 1)
  let h2 := h1.cond (decide (e.cls = 2)) (fun h => h.setNat PRF_WCAP (min (h.nat PRF_WCAP) (h.nat SIS_CAP_DEG)))
  let h3 := h2.cond (decide (e.cls = 3 ∨ e.cls = 4)) (·.trigStop (stopCauseOf e))
  let h4 := h3.cond (decide (e.cls = 4)) (·.dropCause (maskSTO ||| maskBRK))
  h4.cond (decide (e.cls = 5)) (fun h =>
    let h := (h.dropCause h.boltMask).latchBolt (boltCode e)
    { h with sis := { h.sis with boltTrig := true } })

/-- The entry becomes current (R341, R350). -/
def Hw.makeCurrent (h : Hw) (e : FaultEntry) : Hw :=
  ((((((((h.wr SIS_FM_CUR_W0_VALID 1).wr SIS_FM_CUR_W0_CLASS e.cls).wr SIS_FM_CUR_W0_SRC e.src).wr
    SIS_FM_CUR_W0_CAUSE e.cause).setNat SIS_FM_CUR_W1 e.t0).wr SIS_FM_STAT_BUSY 1).wr SIS_FM_STAT_CURCLASS e.cls).wr
    SIS_FM_STAT_LEVEL h.sis.queue.length).classActions e

/-- The entry that is current, if any. -/
def Hw.current (h : Hw) : Option FaultEntry :=
  if h.on SIS_FM_CUR_W0_VALID then
    some ⟨h.rd SIS_FM_CUR_W0_CLASS, h.rd SIS_FM_CUR_W0_SRC, h.rd SIS_FM_CUR_W0_CAUSE, h.nat SIS_FM_CUR_W1⟩
  else none

/-- An entry that finds no room (R341): QOVF, QOVFCNT, SAFE-STOP at the next T0, a FAULT record of its own. -/
def Hw.queueOverflow (h : Hw) : Hw :=
  (((h.blockFault PG_SIS 10).bump SIS_FM_STAT_QOVFCNT 1).trigStop .overflow).recWard 0x0011 true
    [0x80000000 + 3 * 0x1000000 + PG_SIS * 0x10000 + 10 * 256, h.nat PST_TB_IDX]

/-- SIS_FM_CUR_W0 of an entry (R350). -/
def entryWord (e : FaultEntry) : Nat := 0x80000000 + e.cls * 0x1000000 + e.src * 0x10000 + e.cause * 256

/-- Arrival of one entry (R341): it is recorded, and becomes current, joins the queue or overflows it. -/
def Hw.enterFault (e : FaultEntry) (h : Hw) : Hw :=
  let h1 := h.recWard 0x0011 (decide (3 ≤ e.cls)) [entryWord e, e.t0]
  match h1.current with
  | none => h1.makeCurrent e
  | some c =>
    if c.cls < e.cls then
      let full := decide (32 ≤ h1.sis.queue.length)
      let q := c :: (if full then h1.sis.queue.take 31 else h1.sis.queue)
      let h2 := { h1 with sis := { h1.sis with queue := q } }
      (h2.cond full Hw.queueOverflow).makeCurrent e
    else if 32 ≤ h1.sis.queue.length then h1.queueOverflow
    else
      let q := h1.sis.queue ++ [e]
      { h1 with sis := { h1.sis with queue := q } }.wr SIS_FM_STAT_LEVEL q.length

/-- Order of entries that arrive in one cycle: class descending, then page index, then cause (R341). -/
def entryBefore (a b : FaultEntry) : Bool :=
  if a.cls ≠ b.cls then decide (b.cls < a.cls)
  else if a.src ≠ b.src then decide (a.src < b.src) else decide (a.cause ≤ b.cause)

/-- Insertion in that order, behind equals. -/
def insertEntry (e : FaultEntry) : List FaultEntry → List FaultEntry
  | [] => [e]
  | x :: l => if entryBefore x e then x :: insertEntry e l else e :: x :: l

/-- The entries of one cycle in their order (R341). The slots among them enter together, ascending as they have
arrived (R335), at the place of the one with the highest class (log entry 67). -/
def entryOrder (l : List FaultEntry) : List FaultEntry :=
  let slots := l.filter fun e => e.src = 0x3F
  let others := (l.filter fun e => e.src ≠ 0x3F).foldr insertEntry []
  match slots.foldr insertEntry [] with
  | [] => others
  | top :: _ =>
    others.filter (entryBefore · top) ++ slots ++ others.filter fun x => !entryBefore x top

/-- The faults that arose in this command enter the fault manager (R341). -/
def Hw.settle (h : Hw) : Hw :=
  match h.sis.arriving with
  | [] => h
  | l => { h with sis := { h.sis with arriving := [] } }.each (entryOrder l) Hw.enterFault

/-- An entry for the fault manager, not yet entered. -/
def Hw.pushEntry (h : Hw) (cls src cause : Nat) : Hw :=
  { h with sis := { h.sis with arriving := h.sis.arriving ++ [⟨cls, src, cause, h.nat PST_TB_IDX⟩] } }

/-- The class of a block fault cause that reaches the Ward (R340, R373, and the header lists of the blocks that say
which bits reach it); none for a cause that does not. -/
def Hw.faultClass (h : Hw) (p b : Nat) : Option Nat :=
  if p = PG_POS then (if b = 12 then some 2 else if b = 13 then some 3 else if b = 14 then some 4
    else if 8 ≤ b ∧ b ≤ 11 then some 1 else none)
  else if p = PG_MAP then (if b = 8 ∨ b = 9 then some 1 else if b = 10 then some 3 else none)
  else if p = PG_PRF then (if b = 9 then some 1 else if b = 10 ∨ b = 11 then some 3 else none)
  else if p = PG_TCE 0 ∨ p = PG_TCE 1 then (if 8 ≤ b ∧ b ≤ 10 then some 3 else if b = 11 then some 1 else none)
  else if p = PG_PST then
    (if b = 9 ∨ b = 10 ∨ b = 12 then some 3 else if b = 11 ∨ b = 17 then some 4 else if b = 13 then some 1
     else if b = 15 then some 5
     else if b = 14 then some (if h.rd PST_BRK_STAT_CAUSE = 3 then 5 else if h.rd PST_BRK_STAT_CAUSE = 2 then 4 else 3)
     else none)
  else if p = PG_DOR then
    (if b = 9 ∨ b = 12 ∨ b = 13 then some 1 else if b = 10 then some 5 else if b = 11 then some 4
     else if b = 14 then some 2 else if b = 16 then some 3 else none)
  else if p = PG_REC then (if b = 8 then some (if h.on SIS_FM_CFG_RECSTOP then 3 else 1) else none)
  else if p = PG_SIS then
    (if b = 9 ∨ b = 11 then some 3 else if b = 13 then some 5 else if b = 15 then some 4
     else if b = 8 ∨ b = 12 ∨ b = 14 ∨ b = 16 ∨ b = 17 then some 1 else none)
  else if p = PG_RDN then (if b = 8 ∨ b = 10 then some 3 else if 9 ≤ b ∧ b ≤ 14 then some 1 else none)
  else if p = PG_TST then (if b = 8 then some 3 else if b = 9 ∨ b = 10 then some 1 else none)
  else none

/-- A block fault cause arises (R49, R340): a bit that was clear sets, with FLT, and reaches the Ward by its class.
A bit already set arrives no second time (log entry 7). -/
def Hw.raise (h : Hw) (p b : Nat) : Hw :=
  if h.bitAt (BLK_FAULT p) b then h
  else
    let h1 := h.blockFault p b
    match h1.faultClass p b with
    | some c => h1.pushEntry c p b
    | none => h1

/-- A write that agent 0 alone may make, in a page whose NOTSIS reaches the Ward. -/
def Hw.agent0R (h : Hw) (who : Who) (p b : Nat) (f : Hw → Hw) : Hw :=
  if who = .agent 0 then f h.ack else h.ack.raise p b

/-! ## Mode -/

/-- SIS_MODE takes a code at its T0 or event (R99): PREV, the mode-change interrupt and a MODE record (R445), whose
trigger word the spec does not encode (log entry 4). The time in READY starts again (R111), LEARN starts with its counts
clear (R166). -/
def Hw.setMode (h : Hw) (m : Nat) : Hw :=
  if h.mode = m then h
  else h.free fun w h =>
    let old := h.mode
    let h1 := (((h.wr SIS_MODE_PREV old).wr SIS_MODE_CUR m).irq PG_SIS 2).recWard 0x0010 false [old, m, w.toNat]
    { h1.cond (m = 9) (·.setNat MAP_LRN_STAT 0) with sis := { h1.sis with parkIdle := false } }

/-- SAFE-STOP starts (R109, R344): the Ward's speed sample and the time of its supervision. -/
def Hw.startStop (h : Hw) : Hw :=
  { h with sis := { h.sis with
    v0 := if h.isCar then h.int SIS_WSPD_C else h.int SIS_WSPD
    ssT := 0
    stopDone := false } }

end Sys2Proof.Machine
end

