-- ==== Sys2Proof/Machine/Ward.lean ====
section
/-! DEFINITION. The Ward: its inputs, the condition word's inputs, the safety function slots, the safe outputs at a T0,
and its commands (R320 to R350). -/

namespace Sys2Proof.Machine

/-! ## Safety inputs (R324) -/

/-- One channel as its filter and the test pulses leave it. -/
def Hw.sinChannel (h : Hw) (n : Nat) : Bool := bit h.sis.sin n && !bit (h.rd SIS_SIN_DIAG_TPFAIL) n

/-- The value a reader of SIS_SIN sees for input `n`: the pair's where its PAIR bit is set. -/
def Hw.sinValue (h : Hw) (n : Nat) : Bool :=
  let m := n / 2
  if bit (h.rd SIS_SIN_CFG_PAIR) m then
    h.sinChannel (2 * m) && h.sinChannel (2 * m + 1) && !bit (h.rd SIS_SIN_DIAG_DISC) m
  else h.sinChannel n

/-- DISC clears in the sample in which both channels read open. -/
def Hw.discUpdate (h : Hw) : Hw :=
  h.wr SIS_SIN_DIAG_DISC (maskOf 8 fun m =>
    bit (h.rd SIS_SIN_DIAG_DISC) m && (h.sinChannel (2 * m) || h.sinChannel (2 * m + 1)))

/-- An input is held by the test pulse that supplies it. -/
def Hw.sinHeld (h : Hw) (n : Nat) : Bool := bit (h.rd SIS_TP_EN_EN) n && bit h.sis.tpLow (n % 4)

/-- The 1 MHz samples a new level takes (R324): FILTn ms, 0 acting as 1 and more than 20 as 20. -/
def Hw.sinNeeds (h : Hw) (n : Nat) : Nat :=
  let ms := getBits (h.reg (SIS_SIN_FILT (n / 4))) (8 * (n % 4)) 5
  1000 * min 20 (max 1 ms)

/-- SAFETY_INPUT_CHANGE (R324): the raw level shows at once, the filter takes it after FILTn ms of equal samples. -/
def safetyInput (n : Nat) (closed : Bool) (seen : Nat) (h : Hw) : Hw :=
  let h1 := h.setBitAt SIS_SIN_RAW n closed
  if h.sinHeld n || decide (seen < h.sinNeeds n) then h1
  else { h1 with sis := { h1.sis with sin := setBitN h1.sis.sin n closed } }.discUpdate

/-- SIN_DISCREPANCY (R324): the pair is configured and its channels differ. -/
def sinDiscrepant (m : Nat) (h : Hw) : Hw :=
  if bit (h.rd SIS_SIN_CFG_PAIR) m && h.sinChannel (2 * m) != h.sinChannel (2 * m + 1) then
    (h.wr SIS_SIN_DIAG_DISC (setBitN (h.rd SIS_SIN_DIAG_DISC) m true)).raise PG_SIS 12
  else h

/-- TEST_PULSE (R324). -/
def testPulseStart (k : Nat) (h : Hw) : Hw := { h with sis := { h.sis with tpLow := setBitN h.sis.tpLow k true } }

/-- TEST_PULSE_END (R324): every tested input of the output passes or fails. -/
def testPulseStop (k : Nat) (saw : Nat) (h : Hw) : Hw :=
  let tested := fun n => decide (n % 4 = k) && bit (h.rd SIS_TP_EN_EN) n
  let bad := (List.range 16).any (fun n => tested n && !bit saw n)
  let h1 := h.wr SIS_SIN_DIAG_TPFAIL (maskOf 16 fun n =>
    if tested n then !bit saw n else bit (h.rd SIS_SIN_DIAG_TPFAIL) n)
  let h2 := { h1 with sis := { h1.sis with tpLow := setBitN h1.sis.tpLow k false } }
  h2.discUpdate.cond bad (·.raise PG_SIS 14)

/-! ## Slots (R332 to R336) -/

/-- The variable a slot tests, as a signed or unsigned number (R333). -/
def Hw.slotVar (h : Hw) (v : Nat) : Int :=
  if v = 0 then h.int SIS_WSPD
  else if v = 1 then h.int SIS_WSPD_C
  else if v = 2 then (h.nat SIS_WPOS : Int)
  else if v = 3 then h.int SIS_WSPD_C - h.int SIS_WSPD
  else if v = 4 then (h.nat SIS_SIN : Int)
  else if v = 5 then (h.nat SIS_COND : Int)
  else if v = 6 then (h.nat SIS_SSWD_LO : Int)
  else if v = 7 then (h.nat SIS_SSWD_HI : Int)
  else ((h.rd SIS_OUT_STAT_RB ^^^ h.rd SIS_OUT_STAT_OUT : Nat) : Int)

/-- The variables that are signed (R333). -/
def slotSigned (v : Nat) : Bool := decide (v < 2) || decide (v = 3)

/-- A limit register read as the variable is. -/
def Hw.slotLimit (h : Hw) (v a : Nat) : Int := if slotSigned v then h.int a else (h.nat a : Int)

/-- The SAFE-STOP supervision test (R109): v_lim = |v0| - DECEL * t + MARGIN at `t` position cycles of 2.5 ns TMR
cycles, compared exactly; it is made only in SAFE-STOP while STILL = 0 (R333). -/
def Hw.ssCurve (h : Hw) : Bool :=
  let v := if h.isCar then h.int SIS_WSPD_C else h.int SIS_WSPD
  let per := h.pst.curPer * h.pst.posDiv
  let beyond := decide (400000000 * (h.sis.v0.natAbs + h.nat SIS_SS_MARGIN) <
    400000000 * v.natAbs + h.nat SIS_SS_DECEL * h.sis.ssT * per)
  let opposite := if h.sis.v0 = 0 then true else decide (v * h.sis.v0 < 0)
  h.mode = 0xB && !h.bitAt SIS_COND 6 &&
    (beyond || (opposite && decide (v.natAbs > 51200)))

/-- The test CMP of a slot on its variable (R333). -/
def Hw.slotTest (h : Hw) (k : Nat) : Bool :=
  let v := h.rd (SIS_SFk_CFG_VAR k)
  let c := h.rd (SIS_SFk_CFG_CMP k)
  let x := h.slotVar v
  let lo := h.slotLimit v (SIS_SFk_LO k)
  let hi := h.slotLimit v (SIS_SFk_HI k)
  if c = 0 then decide (x > hi)
  else if c = 1 then decide ((x.natAbs : Int) > hi)
  else if c = 2 then decide (x < lo) || decide (x > hi)
  else if c = 3 then decide (toU32 x &&& h.nat (SIS_SFk_LO k) = h.nat (SIS_SFk_HI k))
  else if c = 4 then decide (toU32 x &&& h.nat (SIS_SFk_LO k) ≠ h.nat (SIS_SFk_HI k))
  else if c = 5 then h.ssCurve
  else false

/-- The qualifier of a slot (R332). -/
def Hw.slotQual (h : Hw) (k : Nat) : Bool :=
  !h.on (SIS_SFk_CFG_QEN k) ||
    decide (h.nat SIS_COND &&& h.rd (SIS_SFk_QUAL_QMASK k) = h.rd (SIS_SFk_QUAL_QMATCH k))

/-- A slot is enabled in the present mode; the SAFE-STOP supervision has its own condition (R332, R333). -/
def Hw.slotLive (h : Hw) (k : Nat) : Bool :=
  h.on (SIS_SFk_CFG_EN k) && (bit (h.rd (SIS_SFk_MODES_MODES k)) h.mode || h.rd (SIS_SFk_CFG_CMP k) = 5)

/-- An enabled slot whose configuration R336 calls invalid. -/
def Hw.slotBad (h : Hw) (k : Nat) : Bool :=
  let v := h.rd (SIS_SFk_CFG_VAR k)
  let c := h.rd (SIS_SFk_CFG_CMP k)
  h.on (SIS_SFk_CFG_EN k) &&
    (decide (8 < v) || decide (5 < c) || h.rd (SIS_SFk_CFG_N k) = 0 || (c = 5 && v ≠ 0) ||
     (c = 2 && decide (h.slotLimit v (SIS_SFk_LO k) > h.slotLimit v (SIS_SFk_HI k))) ||
     decide (6 ≤ h.rd (SIS_SFk_CFG_CLASS k)))

/-- The balls a slot's actions hold (R334). -/
def Hw.slotMask (h : Hw) (k : Nat) : Nat :=
  let a := h.rd (SIS_SFk_CFG_ACT k)
  (if bit a 0 then maskSTO else 0) ||| (if bit a 1 then maskBRK else 0) ||| (if bit a 2 then maskDLK else 0) |||
    (if bit a 3 then 64 * h.rd (SIS_SFk_CFG_RMASK k) else 0)

/-- One slot at a T0: CNT, CFGERR and whether it trips now (R332, R336). -/
def Hw.slotCount (h : Hw) (k : Nat) : Hw :=
  let live := h.slotLive k
  let held := live && h.slotTest k && h.slotQual k
  let cnt := if held then satN 8 (h.rd (SIS_SFk_STAT_CNT k) + 1) else 0
  let h1 := { h with sis := { h.sis with tested := setBitN h.sis.tested k held } }.wr (SIS_SFk_STAT_CNT k) cnt
  (h1.wr (SIS_SFk_STAT_CFGERR k) (b2n (h.slotBad k))).cond (h.slotBad k) (·.raise PG_SIS 9)

/-- The slot trips at this T0: CNT has reached N, or its configuration is invalid, and TRIP was clear. -/
def Hw.slotTrips (h : Hw) (k : Nat) : Bool :=
  !h.on (SIS_SFk_STAT_TRIP k) && (h.slotBad k ||
    (h.slotLive k && decide (0 < h.rd (SIS_SFk_CFG_N k)) && decide (h.rd (SIS_SFk_CFG_N k) ≤ h.rd (SIS_SFk_STAT_CNT k))))

/-- What a trip does beside the outputs: TRIP latches, RECORD, NOTIFY, an entry of the slot's class (R334, R336). -/
def Hw.slotTrip (k : Nat) (h : Hw) : Hw :=
  let a := h.rd (SIS_SFk_CFG_ACT k)
  let c := h.rd (SIS_SFk_CFG_CLASS k)
  let h1 := (h.wr (SIS_SFk_STAT_TRIP k) 1).setBitAt SIS_SF_TRIP k true
  let h2 := { h1 with sis := { h1.sis with holds := (k, h.slotMask k) :: h1.sis.holds } }.setBitAt SIS_OUT_HOLD k
    (decide (h.slotMask k ≠ 0))
  let h3 := h2.cond (bit a 4) (fun h => h.recWard 0x0012 true
    [k, h.nat (SIS_SFk_STAT k), h.nat SIS_WSPD, h.nat SIS_WPOS, h.nat SIS_COND, h.nat SIS_OUT_STAT])
  (h3.cond (bit a 5) (·.irq PG_SIS 0)).pushEntry (if 6 ≤ c then 3 else c) 0x3F k

/-- All slots at a T0 (R332, R335): trips of one T0 act as one cause and enter in ascending order. -/
def Hw.slotsT0 (h : Hw) : Hw :=
  let h1 := h.each (List.range 24) (fun k h => h.slotCount k)
  let tr := (List.range 24).filter (fun k => h1.slotTrips k)
  let m := tr.foldl (fun a k => a ||| h1.slotMask k) 0
  let h2 := h1.each tr Hw.slotTrip
  h2.cond (decide (m ≠ 0)) (·.dropCause m)

/-- The balls that latched trips hold (R335): a later change of the slot's configuration moves no hold. -/
def Hw.slotHold (h : Hw) : Nat := h.sis.holds.foldl (fun a e => a ||| e.2) 0

/-- SLOT_CLEAR (R335): accepted only when the test was made and failed at the last T0. -/
def slotClearW (who : Who) (k : Nat) (h : Hw) : Hw :=
  h.agent0R who PG_SIS 8 fun h =>
    if bit h.sis.tested k then h.wr (SIS_SFk_STAT_CLRREJ k) 1
    else
      let h1 := ((h.wr (SIS_SFk_STAT_TRIP k) 0).setBitAt SIS_SF_TRIP k false).setBitAt SIS_OUT_HOLD k false
      { h1 with sis := { h1.sis with holds := h1.sis.holds.filter fun e => decide (e.1 ≠ k) } }

/-! ## Safe outputs at a T0 (R106, R328) -/

/-- The hold of a current STOP0 or DEADBOLT entry, of a fault in fault handling, of AON and of nRESET (R339, R342, R64,
R72). -/
def Hw.classHold (h : Hw) : Nat :=
  let c := if h.on SIS_FM_CUR_W0_VALID then h.rd SIS_FM_CUR_W0_CLASS else 0
  (if c = 4 then maskSTO ||| maskBRK else if c = 5 then h.boltMask else 0) |||
  (if h.sis.hwHold || h.cpr.aonHold || h.cpr.nreset || h.sis.dead then 0x3FF else 0)

/-- The balls the mode permits (R106, R344). -/
def Hw.modeMask (h : Hw) : Nat :=
  let m := h.mode
  let still := h.bitAt SIS_COND 6
  let inz := h.bitAt SIS_COND 1
  let moving := h.bitAt SIS_COND 0
  let run := maskSTO ||| maskBRK ||| maskSRL
  if h.on SIS_MODE_STBY then 0
  else if m = 4 then maskSRL ||| (if still && inz then maskDLK else 0)
  else if m = 5 ∨ m = 6 ∨ m = 8 then run ||| maskDLK
  else if m = 7 then run ||| (if moving then 0 else maskDLK)
  else if m = 9 ∨ m = 0xA then run
  else if m = 0xB then maskSRL ||| (if h.sis.stopDone then 0 else maskSTO ||| maskBRK) |||
    (if moving then 0 else maskDLK)
  else if m = 0xC then (if h.env.dbDoor && still && inz then maskDLK else 0)
  else 0

/-- The balls whose requests stand, latched in SIS_OUT_REQ (R328). -/
def Hw.reqMask (h : Hw) : Nat :=
  (if h.isCar || h.on SIS_OUT_REQ_DRIVE then maskSTO else 0) ||| (if h.on SIS_OUT_REQ_LIFT then maskBRK else 0) |||
  (if h.on SIS_OUT_REQ_UNLOCK0 then 0x10 else 0) ||| (if h.on SIS_OUT_REQ_UNLOCK1 then 0x20 else 0) ||| maskSRL

/-- The balls armed (R328, R350). -/
def Hw.armMask (h : Hw) : Nat :=
  (if h.on SIS_OUT_ARM_STO then maskSTO else 0) ||| (if h.on SIS_OUT_ARM_BRK then maskBRK else 0) |||
  (if h.on SIS_OUT_ARM_DLK0 then 0x10 else 0) ||| (if h.on SIS_OUT_ARM_DLK1 then 0x20 else 0) |||
  64 * h.rd SIS_OUT_ARM_SRL

/-- The zone condition of the door locks (R328). -/
def Hw.zoneMask (h : Hw) : Nat :=
  if h.bitAt SIS_COND 1 && (h.bitAt SIS_COND 6 || h.bitAt SIS_COND 13) then 0x3FF else 0x3FF ^^^ maskDLK

/-- The balls that may be energised now: everything R328 asks. -/
def Hw.permitMask (h : Hw) : Nat :=
  h.armMask &&& h.reqMask &&& h.modeMask &&& h.zoneMask &&& (0x3FF ^^^ (h.slotHold ||| h.classHold))

/-- The requests latched at a T0 (R328): DRIVE and LIFT of PST, UNLOCK of DOR. -/
def Hw.latchRequests (h : Hw) : Hw :=
  (((h.wr SIS_OUT_REQ_DRIVE (b2n h.pst.drive)).wr SIS_OUT_REQ_LIFT (b2n h.pst.lift)).wr
    SIS_OUT_REQ_UNLOCK0 (b2n (bit h.dor.unlock 0))).wr SIS_OUT_REQ_UNLOCK1 (b2n (bit h.dor.unlock 1))

/-- SAFE_OUTPUT_ENERGISE at a T0: exactly the permitted balls are energised, but for a brake inside its lag (R328,
R329). Where STO or the brake falls though PST still asks for it, the Ward has acted on its own account (R284). -/
def Hw.outputsT0 (h : Hw) : Hw :=
  let h1 := h.latchRequests
  let p := h1.permitMask ||| (if h1.sis.lag then h1.rd SIS_OUT_STAT_OUT &&& maskBRK else 0)
  let lost := h1.rd SIS_OUT_STAT_OUT &&& (0x3FF ^^^ p) &&&
    ((if h1.pst.drive then maskSTO else 0) ||| (if h1.pst.lift then maskBRK else 0))
  (h1.setOuts p).cond (decide (lost ≠ 0)) Hw.brakeForce

/-- A write of SIS_OUT_ARM (R328, R335): what it clears falls at once, without the lag of R329; what it sets waits for a
T0. -/
def armWrite (w : Nat) (h : Hw) : Hw :=
  let h1 := h.setNat SIS_OUT_ARM (w % 256)
  h1.dropNow (h.rd SIS_OUT_STAT_OUT &&& (0x3FF ^^^ h1.armMask))

/-! ## Commands -/

/-- BRAKE_LAG_ELAPSED (R329). -/
def lagElapsed (h : Hw) : Hw :=
  if h.sis.lag then { h with sis := { h.sis with lag := false } }.outsOff maskBRK else h

/-- OUTPUT_READBACK_FAULT (R330): the ball stands at the level its output has not. Stuck energised is of class DEADBOLT,
stuck de-energised of class SAFE-STOP; each output found stuck at a level enters once while OUTRB stands. -/
def readbackFault (k : Nat) (h : Hw) : Hw :=
  let high := !bit (h.rd SIS_OUT_STAT_OUT) k
  let h0 := { h with sis := { h.sis with
    rbStuck := setBitN h.sis.rbStuck k true
    rbLevel := setBitN h.sis.rbLevel k high } }
  let h1 := h0.wr SIS_OUT_STAT_RB (h0.readback (h.rd SIS_OUT_STAT_OUT))
  if h.bitAt (BLK_FAULT PG_SIS) 11 && bit h.sis.rbStuck k && bit h.sis.rbLevel k == high then h1
  else (h1.blockFault PG_SIS 11).pushEntry (if high then 5 else 3) PG_SIS 11

/-- FAULT_DONE (R341): the current entry ends, the head of the queue becomes current. -/
def faultFinish (who : Who) (w : Word) (h : Hw) : Hw :=
  h.agent0R who PG_SIS 8 fun h =>
    if getBits w 0 1 = 0 then h
    else
      let h1 := (((h.setReg SIS_FM_CUR_W0 0).setReg SIS_FM_CUR_W1 0).wr SIS_FM_STAT_BUSY 0).wr SIS_FM_STAT_CURCLASS 0
      match h1.sis.queue with
      | [] => h1
      | e :: q => { h1 with sis := { h1.sis with queue := q } }.makeCurrent e

/-- FAULT_IN_FAULT_HANDLING (R342): the hardware steps, without the queue. -/
def hardFault (cause : Nat) (h : Hw) : Hw :=
  let h1 := (h.dropCause 0x3FF).latchBolt cause
  { h1 with sis := { h1.sis with hwHold := true, dead := true, boltTrig := true } }

/-- WATCHDOG_KICK (R322): the interval starts again; another KEY is ignored. -/
def wdgKick (who : Who) (w : Word) (h : Hw) : Hw :=
  h.agent0R who PG_SIS 8 fun h =>
    if getBits w 0 16 = 0x5A96 then { h with sis := { h.sis with wdgAge := 0 } } else h

/-- MODE_SET (R350): an order for the next T0, which judges each order in turn. -/
def modeOrder (who : Who) (w : Word) (h : Hw) : Hw :=
  h.agent0R who PG_SIS 8 fun h =>
    if getBits w 8 1 = 1 then { h with sis := { h.sis with order := h.sis.order ++ [getBits w 0 4] } } else h

/-- STANDSTILL_REACHED (R102): the car rests and the brake is applied. -/
def standstill (h : Hw) : Hw :=
  if !h.bitAt SIS_COND 0 && h.bitAt SIS_COND 5 then { h with sis := { h.sis with still := true } } else h

/-- PARK_IDLE_ELAPSED (R111): MODE_PARK_IDLE = 0 disables parking. -/
def parkIdle (h : Hw) : Hw :=
  if h.mode = 4 ∧ h.rd SIS_SS_CFG_PARK_IDLE ≠ 0 then { h with sis := { h.sis with parkIdle := true } } else h

/-- DEADBOLT_PORT_WRITE (R441): agent 0 starts the port with a CAUSE. -/
def dbPortWrite (who : Who) (w : Word) (h : Hw) : Hw :=
  h.agent0 who PG_REC 12 fun h =>
    let h1 := h.wr REC_DBW_CAUSE (getBits w 8 8)
    h1.cond (getBits w 0 1 = 1) fun h =>
      let h2 := (h.wr REC_DBW_BUSY 1).wr REC_DBW_FAIL 0
      { h2 with sis := { h2.sis with dbNonce := h.nat SIS_DB_NONCE, dbOpt := h.opTime } }

/-- The 64 bytes of a deadbolt word (R441). -/
def boltWord (state cause nonce opt : Nat) : List Byte :=
  let b := leBytes 1 state ++ leBytes 1 cause ++ leBytes 2 0 ++ leBytes 4 nonce ++ leBytes 6 opt ++ List.replicate 46 0
  b ++ leBytes 4 (crc32c b)

/-- DEADBOLT_PORT_DONE (R344, R441): words A and B are written and verified, or FAIL sets. In DEGRADED REC writes
nothing and the port fails (R453). -/
def dbPortDone (okA okB : Bool) (d : Dev) : Dev :=
  let h := d.hw
  if !h.on REC_DBW_BUSY then d
  else
    let can := !h.on REC_STAT_DEGRADED && !h.cpr.mramBlocked
    let b := boltWord 0xDB (h.rd REC_DBW_CAUSE) h.sis.dbNonce h.sis.dbOpt
    let a := can && okA
    let bb := can && okB
    let m1 := if a then memWriteBytes d.mem 0x60000080 b else d.mem
    let m2 := if bb then memWriteBytes m1 0x600000C0 b else m1
    let h1 := (h.wr REC_DBW_BUSY 0).wr REC_DBW_FAIL (b2n (!(a && bb)))
    let h2 := (h1.cond a (·.wr SIS_DB_STAT_WORDA 1)).cond bb (·.wr SIS_DB_STAT_WORDB 1)
    { hw := h2, mem := m2 }

/-- TOKOK_EXPIRY (R347). -/
def tokokExpire (h : Hw) : Hw := h.wr SIS_DB_STAT_TOKOK 0

/-- SERVICE_ACK_HELD (R347). -/
def serviceAck (h : Hw) : Hw :=
  if h.on SIS_DB_STAT_TOKOK && h.bitAt SIS_COND 6 then h.wr SIS_DB_STAT_SRVOK 1 else h

end Sys2Proof.Machine
end

