-- ==== Sys2Proof/Machine/Power.lean ====
section
/-! DEFINITION. The power stage: period loads, sets and trips, sigma-delta results, DC bus and chopper, mains, brake
sequencer and brake test (R265 to R290). -/

namespace Sys2Proof.Machine

/-! ## Period load (R19, R21) -/

/-- The output registers of a set take their shadow values (R19). -/
def Hw.loadSet (n : Nat) (h : Hw) : Hw :=
  h.each [PST_PSn_CMPU n, PST_PSn_CMPV n, PST_PSn_CMPW n, PST_PSn_OUT n] (fun a h => h.setReg a (h.reg (a + 0x8000)))

/-- The sets of a mask, ascending, that the part has. -/
def Hw.setsOf (h : Hw) (m : Nat) : List Nat := (List.range h.pwmSets).filter (fun n => bit m n)

/-! ## Trips (R275, R277, R278) -/

/-- The groups that have a member in `m`, with `m`. -/
def Hw.tripGroups (h : Hw) (m : Nat) : Nat :=
  let sets := 2 ^ h.pwmSets - 1
  let meets := fun (g : Nat) => if g &&& m ≠ 0 then g else 0
  (m ||| meets (h.rd PST_GROUP_GRP0 &&& sets) ||| meets (h.rd PST_GROUP_GRP1 &&& sets)) &&& sets

/-- The sets that trip with a set, itself left out (R277): the members of its groups, and those of a group that one of
them belongs to, since a member that trips by its group trips. -/
def Hw.groupMates (h : Hw) (n : Nat) : Nat := h.tripGroups (h.tripGroups (2 ^ n)) &&& (63 ^^^ 2 ^ n)

/-- A set trips with a cause field; every mate trips with GRP; the sets go OFF and their interrupt bits set. -/
def Hw.tripSet (h : Hw) (f : Field) (n : Nat) : Hw :=
  let mates := h.groupMates n
  let h1 := h.wr f (setBitN (h.rd f) n true)
  let h2 := h1.wr PST_TRIP_GRP (h1.rd PST_TRIP_GRP ||| mates)
  (h2.each (n :: h.setsOf mates) (fun k h => h.irq PG_PST k)).refreshSets

/-- Every set of PST_STO_MAP goes OFF as a trip, and what shares a trip group with one (R277, R278). -/
def Hw.tripMapped (h : Hw) : Hw :=
  let own := h.setsOf (h.rd PST_STO_MAP_SETS)
  let all := own.foldl (fun m n => m ||| 2 ^ n ||| h.groupMates n) 0
  let new := h.setsOf all |>.filter fun n => !h.setTripped n
  ((h.wr PST_TRIP_GRP (h.rd PST_TRIP_GRP ||| all)).each new fun n h => h.irq PG_PST n).refreshSets

/-- A fast result lies outside OCLIM of its input, FAST[31:16] against signed limits (R275). -/
def Hw.ocOutside (h : Hw) (i : Nat) (fast : Nat) : Bool :=
  let x := signed 16 (fast / 65536)
  decide (signed 16 (h.rd (PST_SDn_OCLIM_HI i)) < x) || decide (x < signed 16 (h.rd (PST_SDn_OCLIM_LO i)))

/-- A cause that stands against a set: a mapped gate-driver input at fault, an enabled input whose FAST lies outside OCLIM,
or a bus above OV for a mapped set (R277, R278). -/
def Hw.tripCause (h : Hw) (n : Nat) : Bool :=
  (List.range 8).any (fun i => bit (h.rd PST_GDF_STAT_LEVEL) i && h.bitAt PST_GDF_MAP (4 * i + 3) &&
    getBits (h.reg PST_GDF_MAP) (4 * i) 3 = n) ||
  (List.range 4).any (fun j => bit (h.rd PST_SD_EN_EN) (4 * n + j) && h.ocOutside (4 * n + j) (h.nat (PST_SDn_FAST (4 * n + j)))) ||
  (h.pst.dcbHigh && bit (h.rd PST_STO_MAP_SETS) n)

/-- TRIP_CLEAR (R277): a W1C write of PST_TRIP; a set whose cause stands keeps its bits. -/
def clearTrips (who : Who) (w : Word) (h : Hw) : Hw :=
  h.opWrite who PG_PST fun h =>
    let ok := fun n => !h.tripCause n
    let clr := fun (f : Field) (lo : Nat) =>
      maskOf 6 fun n => bit (h.rd f) n && !(bit (getBits w lo 6) n && ok n)
    (((h.wr PST_TRIP_OC (clr PST_TRIP_OC 0)).wr PST_TRIP_GDF (clr PST_TRIP_GDF 8)).wr PST_TRIP_GRP
      (clr PST_TRIP_GRP 16)).refreshSets

/-- GATE_DRIVER_FAULT (R277): a filtered level of an nGDF input. -/
def gateFault (i : Nat) (fault : Bool) (h : Hw) : Hw :=
  let h1 := h.wr PST_GDF_STAT_LEVEL (setBitN (h.rd PST_GDF_STAT_LEVEL) i fault)
  if !fault then h1
  else
    let h2 := h1.wr PST_GDF_STAT_LATCH (setBitN (h.rd PST_GDF_STAT_LATCH) i true)
    let n := getBits (h.reg PST_GDF_MAP) (4 * i) 3
    if h.bitAt PST_GDF_MAP (4 * i + 3) && decide (n < h.pwmSets) then (h2.tripSet PST_TRIP_GDF n).raise PG_PST 10 else h2

/-! ## Chopper (R279) -/

/-- A CHOP leg may work: EN of its set, no trip of its set by its own gate-driver input (R270, R279). -/
def Hw.chopLeg (h : Hw) (n l : Nat) : Bool :=
  h.legFn n l = 1 && h.on (PST_PSn_CFG_EN n) && !bit (h.rd PST_TRIP_GDF) n && !bit h.pst.badSet n

/-- The chopper works (R279). -/
def Hw.chopWorks (h : Hw) : Bool := h.on PST_CHOP_CFG_EN || h.on PST_GRID_STAT_LOSS

/-- The BMOD function of circuit `i` drives its coil (R283, R286): in a brake test the other circuit's alone. -/
def Hw.bmodOn (h : Hw) (i : Nat) : Bool :=
  h.pst.bmod ≠ 0 && !h.pst.badDuty && !(h.on PST_BT_STAT_BUSY && h.rd PST_BT_CTL_CIRC = i)

/-- What a leg puts out (R270): both switches off, the low side on, modulated by its compare value, the high side on,
the high side at a duty in 1/256. -/
inductive LegOut where
  | off
  | low
  | pwm
  | high
  | duty (d : Nat)
  deriving DecidableEq, Repr

/-- The output of leg `l` of set `n`, by the priorities of R270. -/
def Hw.legOut (h : Hw) (n l : Nat) : LegOut :=
  let fn := h.legFn n l
  let axis := h.rd (PST_PSn_CFG_AXIS n)
  let rests := h.on (PST_PSn_CFG_AXEN n) && h.on (PST_PSn_STAT_STILL n)
  let out := getBits (h.reg (PST_PSn_OUT n)) (2 * l) 2
  if fn = 1 then (if bit h.pst.chopOn (3 * n + l) && h.chopLeg n l && (h.chopWorks || bit h.pst.minon (3 * n + l)) then .high
    else .off)
  else if fn = 2 ∨ fn = 3 then
    (if h.bmodOn (fn - 2) && h.on (PST_PSn_CFG_EN n) && !bit (h.rd PST_TRIP_GDF) n && !h.bolted PG_PST && !bit h.pst.badSet n
     then .duty (if h.pst.bmod = 1 then h.rd PST_BRK_MOD_PICK_D else h.rd PST_BRK_MOD_HOLD_D) else .off)
  else if h.setOff n || !bit h.pst.resumed n || (List.range 3).any (fun k => h.legFn n k ≠ 0) then .off
  else if rests && h.restMode axis = 0 then .off
  else if rests && h.restMode axis = 1 then .low
  else if out = 2 then .low
  else if out = 0 then .pwm
  else .off

/-! ## Carriers (R267 to R269) -/

/-- Half-period of a set's carrier, in counts (R267). -/
def Hw.carrierPer (h : Hw) (n : Nat) : Nat :=
  if h.on (PST_PSn_CFG_LOCK n) then h.pst.curPer else h.rd (PST_PSn_PER_PER n)

/-- Where the counter of a set stood at the last current-cycle T0, in counts of 2 PER from its valley (R267): with LOCK its
valley lies PHS cycles behind the even-indexed T0s; without, it runs free from the first T0 with EN. -/
def Hw.carrierAt0 (h : Hw) (n : Nat) : Option Nat :=
  let per := h.carrierPer n
  if h.on (PST_PSn_CFG_LOCK n) then
    some ((2 * per + (if h.nat PST_TB_IDX % 2 = 0 then 0 else per) - h.rd (PST_PSn_PHS_PHS n)) % (2 * per))
  else h.pst.ctr.getD n none

/-- The counter of a set `t` sixteenths of a TMR cycle after that T0: sixteenths of a count from its valley, modulo 32 PER. -/
def Hw.carrierPhase (h : Hw) (n t : Nat) : Option Nat :=
  (h.carrierAt0 n).map fun c => (16 * c + t) % (32 * h.carrierPer n)

/-- Its position c, up and down between 0 and PER, in sixteenths of a count (R267, R268). -/
def Hw.carrierPos (h : Hw) (n t : Nat) : Option Nat :=
  (h.carrierPhase n t).map fun x => if x ≤ 16 * h.carrierPer n then x else 32 * h.carrierPer n - x

/-- CMP of a leg. -/
def Hw.cmpOf (h : Hw) (n l : Nat) : Nat := [h.nat (PST_PSn_CMPU n), h.nat (PST_PSn_CMPV n), h.nat (PST_PSn_CMPW n)].getD l 0

/-- The high-side command of a leg at counter position `c` (R268); CMP at 16 PER or above holds it on. -/
def Hw.highCommand (h : Hw) (n l c : Nat) : Bool := decide (c < h.cmpOf n l) || decide (16 * h.carrierPer n ≤ h.cmpOf n l)

/-- The two switches of a modulated leg at a phase of its carrier, under a CMP that stands (R268, R269): each turns on DT
behind its command's edge, and a command whose pulse would be shorter than MINPW is suppressed, the leg keeping its
state. -/
def Hw.modulated (h : Hw) (n l x : Nat) : Bool × Bool :=
  let top := 16 * h.carrierPer n
  let cmp := h.cmpOf n l
  let dt := 16 * h.rd (PST_PSn_DT_DT n)
  let least := 16 * h.rd (PST_PSn_DT_MINPW n) + dt
  let rising := decide (x < top)
  let c := if rising then x else 2 * top - x
  if cmp = 0 ∨ (cmp < top ∧ 2 * cmp < least) then (false, true)
  else if top ≤ cmp ∨ 2 * (top - cmp) < least then (true, false)
  else (decide (c < cmp) && (rising || decide (c + dt ≤ cmp)), decide (cmp ≤ c) && (!rising || decide (cmp + dt ≤ c)))

/-- The levels of the two balls of a leg, `t` sixteenths of a TMR cycle after the last current-cycle T0 (R268 to R270, R283):
the high and the low side, active as POLH and POLL say. A coil leg switches at its duty of the carrier. -/
def Hw.legBalls (h : Hw) (n l t : Nat) : Bool × Bool :=
  let x := (h.carrierPhase n t).getD 0
  let s : Bool × Bool := match h.legOut n l with
    | .off => (false, false)
    | .low => (false, true)
    | .high => (true, false)
    | .duty d => (decide (x * 256 < d * (32 * h.carrierPer n)), false)
    | .pwm => h.modulated n l x
  (s.1 != h.on (PST_PSn_CFG_POLH n), s.2 != h.on (PST_PSn_CFG_POLL n))

/-- Valleys of a set's carrier in the current cycle that runs, its T0 among them (R267). -/
def Hw.valleysIn (h : Hw) (n : Nat) : Nat :=
  let two := 2 * h.carrierPer n
  match h.carrierAt0 n with
  | some c => if two = 0 then 0 else (c + h.pst.curPer + two - 1) / two - (c + two - 1) / two
  | none => 0

/-- The free-running counters at a current-cycle T0, `len` TMR cycles behind the last. -/
def Hw.carriersStep (h : Hw) (len : Nat) : Hw :=
  let next := fun (n : Nat) =>
    let two := 2 * h.rd (PST_PSn_PER_PER n)
    if !h.on (PST_PSn_CFG_EN n) || two = 0 then none
    else match h.pst.ctr.getD n none with
      | some c => some ((c + len) % two)
      | none => some 0
  { h with pst := { h.pst with ctr := (List.range 6).map next, valleys := List.replicate 6 0 } }

/-! ## Chopper results (R279) -/

/-- CHOP legs after a bus result: on above ON, off below OFF or where the chopper works no more, once MINON has run out.
`len` TMR cycles have passed since the last result. -/
def Hw.chopper (h : Hw) (bus : Int) (len : Nat) : Hw :=
  let ran := if h.pst.chopOn ≠ 0 then len else 0
  let above := decide (signed 16 (h.rd PST_CHOP_ON) < bus)
  let below := decide (bus < signed 16 (h.rd PST_CHOP_OFF))
  let on' := maskOf 18 fun i =>
    let was := bit h.pst.chopOn i
    h.chopLeg (i / 3) (i % 3) && ((h.chopWorks && (above || (was && !below))) || (was && bit h.pst.minon i))
  let run := maskOf 18 fun i => bit on' i && (bit h.pst.minon i || !bit h.pst.chopOn i)
  let since := if h.pst.chopOn = 0 then 0 else h.pst.chopSince + ran
  { h with pst := { h.pst with
    chopOn := on', minon := run, busLow := below, chopTime := h.pst.chopTime + ran, chopSince := since } }

/-- CHOPPER_MINON_ELAPSED (R279): the leg turns off if the bus has already fallen below OFF, or the chopper works no more;
its on-time is then MINON. -/
def minonElapsed (n l : Nat) (h : Hw) : Hw :=
  let i := 3 * n + l
  let ends := bit h.pst.chopOn i && bit h.pst.minon i && (h.pst.busLow || !h.chopWorks)
  let rest := 40 * h.rd PST_CHOP_CFG_MINON - h.pst.chopSince
  { h with pst := { h.pst with
    minon := setBitN h.pst.minon i false
    chopTime := if ends then h.pst.chopTime + rest else h.pst.chopTime
    chopOn := if ends then setBitN h.pst.chopOn i false else h.pst.chopOn } }

/-! ## Sigma-delta results (R274 to R276, R278) -/

/-- Decimation exponent and clock divider of an input's group (R273, R274). -/
def Hw.decOf (h : Hw) (i : Nat) : Nat := getBits (h.reg PST_SD_DEC) (4 * (i / 6)) 4
def Hw.divOf (h : Hw) (i : Nat) : Nat := getBits (h.reg PST_SDCLK) (8 * (i / 6)) 8

/-- The sinc3 result of a window sum: (S - D^3/2) * 2^(32 - 3 DEC), saturated (R274). -/
def sinc3Of (s dec : Nat) : Int :=
  sat32 (((s : Int) - 2 ^ (3 * dec) / 2) * 2 ^ (32 - 3 * dec))

/-- SINC2_FAST_RESULT (R275, R278, R279) of an enabled input: of 8 modulator clocks. The bus limits are judged with
DCB_CFG.EN; the chopper needs the bus input alone (DESIGN CHOICE, log entry 67). -/
def fastResult (i : Nat) (fast : Word) (h : Hw) : Hw :=
  if !bit (h.rd PST_SD_EN_EN) i then h
  else
    let out := h.ocOutside i fast.toNat
    let c := if out then h.pst.ocCnt.getD i 0 + 1 else 0
    let h1 := { h with pst := { h.pst with ocCnt := h.pst.ocCnt.set i c } }.setReg
      (PST_SDn_FAST i) fast
    let n := i / 4
    let trip := out && decide (max 1 (h.rd PST_OC_CFG_OC_N) ≤ c) && !bit (h.rd PST_TRIP_OC) n && decide (n < h.pwmSets)
    let h2 := h1.cond trip (fun h => (h.tripSet PST_TRIP_OC n).raise PG_PST 9)
    if h.rd PST_DCB_CFG_SRC = i then
      let bus := signed 16 (fast.toNat / 65536)
      let en := h.on PST_DCB_CFG_EN
      let ov := en && decide (signed 16 (h.rd PST_DCB_LIM_OV) < bus)
      let uv := en && decide (bus < signed 16 (h.rd PST_DCB_LIM_UV))
      let h3 := { h2 with pst := { h2.pst with dcbHigh := ov } }
      let h4 := h3.cond ov fun h => (h.tripMapped.irq PG_PST 6).raise PG_PST 11
      (h4.cond uv (fun h => (h.irq PG_PST 7).raise PG_PST 12)).chopper bus (8 * h.divOf i)
    else h2

/-- SD_INPUT_STUCK (R276): FAIL and SDFAIL, the stuck level at full scale, which trips where OCLIM is armed. -/
def inputStuck (i : Nat) (level : Bool) (h : Hw) : Hw :=
  if !bit (h.rd PST_SD_EN_EN) i then h
  else
    let full : Word := if level then 0x7FFFFFFF else 0x80000000
    let h1 := ((h.wr PST_SD_STAT_FAIL (setBitN (h.rd PST_SD_STAT_FAIL) i true)).irq PG_PST 11).raise PG_PST 17
    let h2 := (h1.setReg (PST_SDn_RES i) full).cond (decide (h.rd PST_DCB_CFG_SRC = i)) (·.setReg PST_DCB full)
    fastResult i full { h2 with pst := { h2.pst with ocCnt := h2.pst.ocCnt.set i 15 } }

/-! ## Mains (R280, R281) -/

/-- LOCK and LOSS from frequency and amplitude (R280). -/
def Hw.gridJudge (h : Hw) : Hw :=
  let f := h.nat PST_GRID_FRQ
  let a := h.nat PST_GRID_AMP / 65536
  let fOk := decide (h.rd PST_GRID_LIM_FMIN * 65536 ≤ f) && decide (f ≤ h.rd PST_GRID_LIM_FMAX * 65536)
  let lk := if fOk && decide (h.rd PST_GRID_LIM_AMIN < a) then h.pst.gLock + 1 else 0
  let wk := if a < h.rd PST_GRID_LIM_AMIN then h.pst.gWeak + 1 else 0
  let of := if fOk then 0 else h.pst.gOff + 1
  let loss := decide (2 ≤ wk) || decide (8 ≤ of)
  let h1 := { h with pst := { h.pst with gLock := min lk 256, gWeak := min wk 2, gOff := min of 8 } }.wr
    PST_GRID_STAT_LOCK (b2n (decide (256 ≤ lk)))
  if loss && !h.on PST_GRID_STAT_LOSS then
    ((h1.wr PST_GRID_STAT_LOSS 1).irq PG_PST 8).raise PG_PST 13
  else h1

/-- GRID_TRACKING (R280): the tracking loop's law is not stated, so angle, frequency and amplitude are free values. -/
def Hw.gridTrack (h : Hw) : Hw :=
  h.free fun a h => h.free fun f h => h.free fun m h =>
    (((h.wr PST_GRID_ANG_ANG a.toNat).setReg PST_GRID_FRQ f).setNat PST_GRID_AMP (m.toNat % 2147483648)).gridJudge

/-- ENERGY_ACCUMULATE (R281): s = the sum of three exact products, shifted right by 42. -/
def Hw.energy (h : Hw) : Hw :=
  let p := fun (v i : Field) => h.int (PST_SDn_RES (h.rd v)) * h.int (PST_SDn_RES (h.rd i))
  let s := (p PST_GRID_CFG_A PST_GRID_ISRC_A + p PST_GRID_CFG_B PST_GRID_ISRC_B +
    p PST_GRID_CFG_C PST_GRID_ISRC_C) / 2 ^ 42
  if 0 < s then h.setPair PST_EN_DRAWN_LO (satN 64 (h.pair PST_EN_DRAWN_LO + s.toNat))
  else h.setPair PST_EN_RET_LO (satN 64 (h.pair PST_EN_RET_LO + (-s).toNat))

/-- SINC3_RESULT (R274, R278, R280, R281): results of all enabled inputs in one cycle, the bus, the mains. -/
def sinc3Results (sums : List Nat) (h : Hw) : Hw :=
  let h1 := h.each ((List.range 24).filter (fun i => bit (h.rd PST_SD_EN_EN) i)) fun i h =>
    let d := h.decOf i
    if bit h.pst.badGroup (i / 6) then h.setReg (PST_SDn_RES i) 0
    else h.setInt (PST_SDn_RES i) (sinc3Of (min (sums.getD i 0) (2 ^ (3 * d))) d)
  let h2 := h1.cond (decide (h.rd PST_DCB_CFG_SRC < 24))
    (fun h => h.setReg PST_DCB (h.reg (PST_SDn_RES (h.rd PST_DCB_CFG_SRC))))
  h2.cond (h.hasG && h.on PST_GRID_CFG_EN) (fun h => h.gridTrack.energy)

/-- GRID_LOSS_CLEAR (R280): LOSS clears only while LOCK = 1; PS2 resumes at its next valley. -/
def gridLossClr (who : Who) (w : Word) (h : Hw) : Hw :=
  h.opWrite who PG_PST fun h =>
    if getBits w 1 1 = 1 && h.on PST_GRID_STAT_LOCK then
      { h.wr PST_GRID_STAT_LOSS 0 with pst := { h.pst with gridOff := false } }.refreshSets
    else h

/-- CARRIER_VALLEY (R267, R271): a valley that the set's counter has in this current cycle; a released set resumes
switching. A set with a leg in CHOP or BMOD function carries no three-phase function (R270). -/
def carrierValley (n : Nat) (h : Hw) : Hw :=
  let took := h.pst.valleys.getD n 0
  if !h.on (PST_PSn_CFG_EN n) || decide (h.valleysIn n ≤ took) then h
  else
    let h1 := { h with pst := { h.pst with valleys := h.pst.valleys.set n (took + 1) } }
    if h.setOff n || (List.range 3).any (fun l => h.legFn n l ≠ 0) then h1
    else Hw.refreshSet n { h1 with pst := { h1.pst with resumed := setBitN h1.pst.resumed n true } }

/-- TMR cycles by which the coming current cycle differs from its period: a step of R409, or up to SLEW_MAX cycles of
what R408 still has to correct. -/
def Hw.tickAdjust (h : Hw) : Int :=
  let m : Int := h.ethF (ETH_TBD_CFG_SLEW_MAX 0)
  if h.pst.stretch ≠ 0 then (h.pst.stretch : Int) else max (-m) (min m h.pst.slew)

/-- What the current-cycle T0 does in PST (R22, R265, R280, R408): the time base and GRIDLOSS on PS2. -/
def Hw.pstTick (h : Hw) : Hw :=
  let adj := h.tickAdjust
  let len := ((h.pst.curPer : Int) + adj).toNat
  let h1 := ((h.setPair PST_TB_CNT_LO ((h.pair PST_TB_CNT_LO + len) % 2 ^ 64)).setNat PST_TB_IDX (h.nat PST_TB_IDX + 1)).carriersStep
    len
  { h1 with pst := { h1.pst with
    gridOff := h.hasG && h.on PST_GRID_STAT_LOSS
    slew := if h.pst.stretch ≠ 0 then h.pst.slew else h.pst.slew - adj
    stretch := 0
    lastLen := len } }.refreshSets

/-- CHOP_STAT at a position-cycle T0 (R279). -/
def Hw.chopStat (h : Hw) : Hw :=
  let t := satN 16 h.pst.chopTime
  { (h.wr PST_CHOP_STAT_LAST t).wr PST_CHOP_STAT_MAX (max t (h.rd PST_CHOP_STAT_MAX)) with
    pst := { h.pst with chopTime := 0 } }

/-! ## Brake sequencer (R284, R285) -/

/-- The sequencer works: MACHINE role with BRK_CFG.EN = 1, PST not bolted (R284, R288). -/
def Hw.brkEnabled (h : Hw) : Bool := h.isMachine && h.on PST_BRK_CFG_EN && !h.bolted PG_PST

/-- The circuits as their contacts show them at the T0 latch: bit 1 lifted (R283). -/
def Hw.brkContacts (h : Hw) : Nat :=
  let lv := fun (f : Field) => h.bitAt POS_DIN (h.rd f) != h.on PST_BRK_CFG_FBPOL
  b2n (lv PST_BRK_CFG_FB0) + 2 * b2n (lv PST_BRK_CFG_FB1)

/-- The enabled contacts. -/
def Hw.brkMask (h : Hw) : Nat := 1 + 2 * h.rd PST_BRK_CFG_FB1EN

/-- Entry of a state: the state-change interrupt. -/
def Hw.brkGo (h : Hw) (s : Nat) : Hw := (h.wr PST_BRK_STAT_STATE s).irq PG_PST 9

/-- Entry of CLOSING: RUN = 0, the lift request and BMOD end. -/
def Hw.brkClose (h : Hw) : Hw :=
  let h1 := ((h.brkGo 5).wr PST_BRK_STAT_RUN 0).wr PST_BRK_STAT_HOLDD 0
  { h1 with pst := { h1.pst with lift := false, bmod := 0, settled := false } }

/-- BRKFLT with a CAUSE (R284, R340); while it stands, another CAUSE arrives with a class of its own. -/
def Hw.brkFault (h : Hw) (cause : Nat) : Hw :=
  let h1 := h.wr PST_BRK_STAT_CAUSE cause
  if h.bitAt (BLK_FAULT PG_PST) 14 && h.rd PST_BRK_STAT_CAUSE ≠ cause then
    h1.pushEntry ((h1.faultClass PG_PST 14).getD 3) PG_PST 14
  else h1.raise PG_PST 14

/-- A start request of AX0 (R284, R285). -/
def Hw.brkStart (h : Hw) : Hw :=
  if !h.brkEnabled || h.on PST_BRK_STAT_RUN then h
  else
    let st := h.rd PST_BRK_STAT_STATE
    let h1 := h.wr PST_BRK_STAT_START 1
    if st = 0 then { (h1.wr PST_BRK_STAT_FORCED 0).wr PST_BRK_STAT_CAUSE 0 with pst := { h1.pst with drive := true } }
    else if st = 5 ∨ st = 6 then { h1 with pst := { h1.pst with keepStart := true } }
    else h1

/-- A sequencer that does not work stays APPLIED with RUN = 0, and asks the Ward for nothing (R284). -/
def Hw.brkRest (h : Hw) : Hw :=
  let h1 := (((h.btAbort.wr PST_BRK_STAT_STATE 0).wr PST_BRK_STAT_RUN 0).wr PST_BRK_STAT_START 0).wr PST_BRK_STAT_HOLDD 0
  { h1 with pst := { h1.pst with bmod := 0, drive := false, lift := false, keepStart := false, settled := false } }

/-- BRAKE_SEQUENCER at a T0 (R284): the rows whose condition is a level. In a unit that replays, the Ward's grants are the
active's: the sequencer follows the replayed start, while its own safe outputs stay de-energised (R353, R360; log
entry 67). -/
def Hw.brkT0 (h : Hw) : Hw :=
  if !h.brkEnabled then h.brkRest.wr PST_BRK_STAT_FB h.brkContacts
  else
    let fb := h.brkContacts
    let en := h.brkMask
    let st := h.rd PST_BRK_STAT_STATE
    let h := h.wr PST_BRK_STAT_FB fb
    let test := h.on PST_BT_STAT_BUSY
    if st = 0 then
      if (h.on PST_BRK_STAT_START || test) && h.pst.drive && (h.rdn.replaying || !h.stoActive) then h.brkGo 1 else h
    else if st = 3 then
      let h1 := if (h.rdn.replaying || decide (h.rd SIS_OUT_STAT_OUT &&& maskBRK = maskBRK)) && h.pst.bmod = 0 then
        { h with pst := { h.pst with bmod := 1 } } else h
      if test then h1
      else if fb &&& en = en then h1.brkGo 4 else h1
    else if st = 4 then
      if test then h
      else if fb &&& en ≠ en then h.brkClose.brkFault 2
      else if h.on (PRF_AXn_STAT_STILL 0) then h.brkClose else h
    else if st = 5 then
      if fb &&& en = 0 then { h with pst := { h.pst with settled := true } } else h
    else h

/-- TMAG elapsed: MAGNETISE to PRETORQUE; a brake test lifts its circuit instead (R286 steps 1 and 2). -/
def tmagElapsed (h : Hw) : Hw :=
  if h.rd PST_BRK_STAT_STATE ≠ 1 then h
  else if h.on PST_BT_STAT_BUSY then { h.brkGo 3 with pst := { h.pst with lift := true, bmod := 0 } }
  else h.brkGo 2

/-- TPRE elapsed: PRETORQUE to LIFTING with the LIFT request. -/
def tpreElapsed (h : Hw) : Hw :=
  if h.rd PST_BRK_STAT_STATE ≠ 2 then h else { h.brkGo 3 with pst := { h.pst with lift := true, bmod := 0 } }

/-- The brake test fails (R287): reference 0 at once, the other circuit applied, FAIL and BTFAIL. -/
def Hw.btFail (h : Hw) : Hw :=
  let h1 := ((((h.wr PST_BT_STAT_BUSY 0).wr PST_BT_STAT_FAIL 1).wr PST_BT_STAT_STEP 0).setNat PST_BT_IREF 0).irq
    PG_PST 10
  ({ h1.brkGo 6 with pst := { h1.pst with lift := false, bmod := 0 } }).raise PG_PST 15

/-- TLIFT elapsed first: CLOSING with CAUSE LIFT, the start request dropped; in a brake test the circuit has
misbehaved. -/
def tliftElapsed (h : Hw) : Hw :=
  if h.rd PST_BRK_STAT_STATE ≠ 3 then h
  else if h.on PST_BT_STAT_BUSY then h.btFail
  else
    let h1 := (h.brkClose.wr PST_BRK_STAT_START 0).brkFault 1
    { h1 with pst := { h1.pst with keepStart := false, axStop := true } }

/-- TSTART elapsed in OPEN: RUN = 1 and the profile may begin. -/
def tstartElapsed (h : Hw) : Hw :=
  if h.rd PST_BRK_STAT_STATE = 4 && !h.on PST_BT_STAT_BUSY then
    (h.wr PST_BRK_STAT_RUN 1).wr PST_BRK_STAT_START 0
  else h

/-- TPICK elapsed: BMOD at HOLD_D. -/
def tpickElapsed (h : Hw) : Hw :=
  if h.rd PST_BRK_STAT_STATE = 4 then { h.wr PST_BRK_STAT_HOLDD 1 with pst := { h.pst with bmod := 2 } } else h

/-- TSET elapsed after every contact has applied: RELEASE. -/
def tsetElapsed (h : Hw) : Hw :=
  if h.rd PST_BRK_STAT_STATE = 5 && h.pst.settled then h.brkGo 6 else h

/-- TDROP elapsed first: CLOSING stands with CAUSE STUCK. -/
def tdropElapsed (h : Hw) : Hw :=
  if h.rd PST_BRK_STAT_STATE = 5 && !h.pst.settled then h.brkFault 3 else h

/-- The brake test is over with APPLIED (R286): PASS, as nothing has cut it short. -/
def Hw.btPass (h : Hw) : Hw :=
  h.cond (h.on PST_BT_STAT_BUSY && decide (h.rd PST_BT_STAT_STEP = 3)) fun h =>
    (((h.wr PST_BT_STAT_BUSY 0).wr PST_BT_STAT_PASS 1).wr PST_BT_STAT_STEP 0).irq PG_PST 10

/-- TRAMP elapsed: APPLIED, DRIVE withdrawn; a kept start request starts again (R285). -/
def trampElapsed (h : Hw) : Hw :=
  if h.rd PST_BRK_STAT_STATE ≠ 6 then h
  else
    let again := h.pst.keepStart
    { (h.brkGo 0).btPass.wr PST_BRK_STAT_START (b2n again) with
      pst := { h.pst with drive := again, keepStart := false, settled := false } }

/-! ## Brake test (R286, R287) -/

/-- The RW fields of PST_BT_CTL. -/
def Hw.btFields (h : Hw) (w : Word) : Hw :=
  ((h.wr PST_BT_CTL_SRC (getBits w 8 3)).wr PST_BT_CTL_DIR (getBits w 5 1)).wr PST_BT_CTL_CIRC (getBits w 4 1)

/-- BRAKE_TEST_START (R286): agent 0, in PROOF at standstill, the sequencer in APPLIED, a test order authenticated;
otherwise nothing changes. -/
def btStart (who : Who) (w : Word) (h : Hw) : Hw :=
  if who ≠ .agent 0 then h.ack.blockFault PG_PST 16
  else
    let h := h.ack
    if getBits w 0 1 = 0 then h.btFields w
    else if h.mode = 0xA && h.bitAt SIS_COND 6 && h.brkEnabled && h.rd PST_BRK_STAT_STATE = 0 && h.sis.proofOrder &&
        !h.on PST_BT_STAT_BUSY then
      let h1 := h.btFields w
      let h2 := (h1.setNat PST_BT_STAT 0).wr PST_BT_STAT_BUSY 1
      { h2.setNat PST_BT_IREF 0 with pst := { h2.pst with drive := true, btT := 0 } }
    else h

/-- The tested circuit's contact and the other's, as bits of FB. -/
def Hw.btCirc (h : Hw) : Nat := h.rd PST_BT_CTL_CIRC

/-- The reference of the brake test after `t` T0s of a ramp of BT_RAMP, up to BT_TQ or down from it, with the sign of DIR
(R286). -/
def Hw.btRef (h : Hw) (t : Nat) (down : Bool) : Int :=
  let total := h.rd PST_BT_RAMP_RAMP * 400000
  let now := min total (t * h.pst.curPer * h.pst.posDiv)
  let up : Int := if total = 0 then h.int PST_BT_TQ else h.int PST_BT_TQ * now / total
  let v := if down then h.int PST_BT_TQ - up else up
  if h.on PST_BT_CTL_DIR then -v else v

/-- The next T0 of a ramp. -/
def Hw.btRamp (h : Hw) (down : Bool) : Hw :=
  let t := h.pst.btT + 1
  { h.setInt PST_BT_IREF (h.btRef t down) with pst := { h.pst with btT := t } }

/-- Step 5 of a brake test (R286): the reference ramps to 0, over BT_RAMP too (log entry 11); at 0 the other circuit is
applied and the sequencer passes RELEASE. -/
def Hw.btDown (h : Hw) : Hw :=
  let h1 := h.btRamp true
  if h1.nat PST_BT_IREF = 0 then { h1.brkGo 6 with pst := { h1.pst with lift := false, bmod := 0 } } else h1

/-- The brake test at a T0 (R286 steps 2 to 5, R287): lift, ramp, hold and end are watched. -/
def Hw.btT0 (h : Hw) : Hw :=
  if !h.on PST_BT_STAT_BUSY then h
  else
    let st := h.rd PST_BRK_STAT_STATE
    let fb := h.rd PST_BRK_STAT_FB
    let c := h.btCirc
    let own := bit fb c
    let other := bit fb (1 - c)
    let ext := h.pos.ext.getD (h.rd PST_BT_CTL_SRC) 0
    if st = 3 then
      if own then h.btFail
      else if other then
        let h1 := (h.brkGo 4).wr PST_BT_STAT_STEP 1
        { h1 with pst := { h1.pst with btStart := ext, btT := 0 } }
      else h
    else if st = 4 then
      let slip := satN 16 (ext - h.pst.btStart).natAbs
      let h1 := h.wr PST_BT_STAT_SLIPMAX (max slip (h.rd PST_BT_STAT_SLIPMAX))
      if own || !other || decide (h.rd PST_BT_CFG_SLIP < h1.rd PST_BT_STAT_SLIPMAX) then h1.btFail
      else if h1.rd PST_BT_STAT_STEP = 1 then h1.btRamp false
      else if h1.rd PST_BT_STAT_STEP = 3 then h1.btDown
      else h1
    else h

/-- BRAKE_TEST_RAMP_END (R286): the reference holds at BT_TQ. -/
def btRampEnd (h : Hw) : Hw :=
  if h.on PST_BT_STAT_BUSY && h.rd PST_BT_STAT_STEP = 1 then
    let v := h.int PST_BT_TQ
    (h.setInt PST_BT_IREF (if h.on PST_BT_CTL_DIR then -v else v)).wr PST_BT_STAT_STEP 2
  else h

/-- BRAKE_TEST_HOLD_END (R286): the end begins, unless SLIPMAX exceeds SLIP. -/
def btHoldEnd (h : Hw) : Hw :=
  if h.on PST_BT_STAT_BUSY && h.rd PST_BT_STAT_STEP = 2 then
    if decide (h.rd PST_BT_CFG_SLIP < h.rd PST_BT_STAT_SLIPMAX) then h.btFail
    else { h.wr PST_BT_STAT_STEP 3 with pst := { h.pst with btT := 0 } }
  else h

/-- A running brake test is cut short by ABORT (R287): the actions of a failure, with ABORTED and no BTFAIL. -/
def Hw.btCut (h : Hw) : Hw :=
  if h.on PST_BT_STAT_BUSY then { h.btAbort.brkGo 6 with pst := { h.btAbort.pst with lift := false, bmod := 0 } } else h

/-- BRAKE_TEST_ABORT (R287): a write of PST_BT_CTL with ABORT = 1; agent 0 alone. Its RW fields are stored; START beside
ABORT starts nothing (DESIGN CHOICE, log entry 67). -/
def btAbortW (who : Who) (w : Word) (h : Hw) : Hw :=
  if who ≠ .agent 0 then h.ack.blockFault PG_PST 16 else h.ack.btCut.btFields w

/-! ## What a swap of PST brings in (R265 to R267, R274, R288) -/

/-- The time base the swap would set is in range (R265). -/
def Hw.tbOk (h : Hw) : Bool :=
  let c := h.rd PST_TB_CFG_CUR_PER
  let d := h.rd PST_TB_CFG_POS_DIV
  decide (10000 ≤ c) && decide (1 ≤ d) && decide (25000 ≤ c * d)

/-- TB_PHASE is within R17: at least 30,000 ns and at most the position-cycle period less 20,000 ns. -/
def Hw.phaseOk (h : Hw) : Bool :=
  decide (30000 ≤ h.rd PST_TB_PHASE_PHASE) &&
    decide (2 * (h.rd PST_TB_PHASE_PHASE + 20000) ≤ 5 * h.pst.curPer * h.pst.posDiv)

/-- A set whose configuration is invalid: PHS not below PER, or a CHOP or BMOD function on two legs (R267, R288). -/
def Hw.setInvalid (h : Hw) (n : Nat) : Bool :=
  let per := if h.on (PST_PSn_CFG_LOCK n) then h.pst.curPer else h.rd (PST_PSn_PER_PER n)
  let uses := fun f => ((List.range 6).flatMap fun k => (List.range 3).filter fun l => h.legFn k l = f).length
  decide (per ≤ h.rd (PST_PSn_PHS_PHS n)) || (!h.on (PST_PSn_CFG_LOCK n) && decide (h.rd (PST_PSn_PER_PER n) < 1000)) ||
    (List.range 3).any (fun l => h.legFn n l ≠ 0 && decide (1 < uses (h.legFn n l)))

/-- A clock group that is refused (R274, R288). -/
def Hw.groupInvalid (h : Hw) (k : Nat) : Bool :=
  let div := h.divOf (6 * k)
  let dec := h.decOf (6 * k)
  decide (div % 2 = 1) || decide (div < 16) || decide (64 < div) || decide (dec < 2) || decide (5 < dec) ||
    decide (38000 < (3 * 2 ^ dec - 3) * div * 25)

/-- PST after a swap: new periods only at POINT = POSITION; invalid parts set CFGREJ and are held. -/
def Hw.pstSwap (h : Hw) : Hw :=
  let changed := decide (h.rd PST_TB_CFG_CUR_PER ≠ h.pst.curPer) || decide (h.rd PST_TB_CFG_POS_DIV ≠ h.pst.posDiv)
  let take := changed && h.tbOk && h.rd (BLK_HINGE_POINT PG_PST) = 2
  let h1 := if take then { h with pst := { h.pst with curPer := h.rd PST_TB_CFG_CUR_PER, posDiv := h.rd PST_TB_CFG_POS_DIV } }
    else h
  let h2 := if h1.phaseOk then { h1 with pst := { h1.pst with tbPhase := h1.rd PST_TB_PHASE_PHASE } } else h1
  let bs := maskOf 6 h2.setInvalid
  let bg := maskOf 4 h2.groupInvalid
  let duty := decide (256 < h2.rd PST_BRK_MOD_PICK_D) || decide (256 < h2.rd PST_BRK_MOD_HOLD_D)
  let bad := (changed && !take) || (h1.isMachine && !h1.phaseOk) || decide (bs ≠ 0) || decide (bg ≠ 0) || duty
  let h3 := { h2 with pst := { h2.pst with badSet := bs, badGroup := bg, badDuty := duty } }
  (h3.cond bad (·.blockFault PG_PST 8)).refreshSets

end Sys2Proof.Machine
end

