-- ==== Sys2Proof/Machine/Engine.lean ====
section
/-! DEFINITION. The control engine: core states, tasks and their ticks, output timing, overruns, solo running and loading
programs (R199 to R219). -/

namespace Sys2Proof.Machine

/-! ## Access -/

def Hw.core (h : Hw) (c : Nat) : Core := h.tce.getD c Core.init
def Hw.setCore (h : Hw) (c : Nat) (x : Core) : Hw := { h with tce := h.tce.set c x }

/-- Core states (R219). -/
def coreReset : Nat := 0
def coreHalt : Nat := 1
def coreWait : Nat := 2
def coreBack : Nat := 3
def coreTask : Nat := 4

def Hw.coreSt (h : Hw) (c : Nat) : Nat := h.rd (TCE_STAT_STATE c)
def Hw.coreGo (h : Hw) (c s : Nat) : Hw := h.wr (TCE_STAT_STATE c) s

/-- Program memory of a core on the fabric (R28, R199). -/
def progBase (c : Nat) : Nat := 0x31000000 + 0x100000 * c

/-- The core that carries the tasks of a page: its own, or the one that runs solo (R212). -/
def Hw.carrier (h : Hw) (page : Nat) : Nat := if h.on (TCE_STAT_SOLOACT (1 - page)) then 1 - page else page

/-- Entry of HALT, with its interrupt. -/
def Hw.haltCore (h : Hw) (c : Nat) : Hw := (h.coreGo c coreHalt).irq (PG_TCE c) 2

/-- Everything in flight lands before a handler or a task starts, or after END (R235, R247); `landAll` is the order of
R233 over every issue cycle that is left. -/
def landOne (x : Core) (f : Flight) : Core :=
  let x := { x with sw := x.sw ||| f.sticky }
  match f.what with
  | .none => x
  | .flags v => { x with sw := x.sw / 16 * 16 + v % 16 }
  | .put v =>
    if f.code < 0x10 then { x with d := x.d.set f.code (BitVec.ofNat 32 v) }
    else if f.code < 0x18 then { x with a := x.a.set (f.code - 0x10) (BitVec.ofNat 24 v) }
    else if f.code < 0x20 then { x with o := x.o.set (f.code - 0x18) (BitVec.ofNat 24 v) }
    else if f.code < 0x28 then { x with b := x.b.set (f.code - 0x20) (BitVec.ofNat 24 v) }
    else if f.code < 0x30 then { x with l := x.l.set (f.code - 0x28) (BitVec.ofNat 24 v) }
    else if f.code = 0x30 then { x with lc := v % 65536 }
    else if f.code = 0x31 then { x with loops := { x.loops with ls := v % 16384 } }
    else if f.code = 0x32 then { x with loops := { x.loops with le := v % 16384 } }
    else if f.code = 0x33 then { x with sw := v &&& 0x10F0F }
    else if f.code = 0x34 then { x with loops := { x.loops with dep := v % 4 } }
    else if f.code = 0x35 then { x with loops := { x.loops with e0 := { x.loops.e0 with c := v % 65536 } } }
    else if f.code = 0x36 then
      { x with loops := { x.loops with e0 := { x.loops.e0 with s := v % 16384, e := v / 65536 % 16384 } } }
    else if f.code = 0x37 then { x with loops := { x.loops with e1 := { x.loops.e1 with c := v % 65536 } } }
    else if f.code = 0x38 then
      { x with loops := { x.loops with e1 := { x.loops.e1 with s := v % 16384, e := v / 65536 % 16384 } } }
    else if f.code = 0xB1 then { x with gov := { x.gov with ls := v % 16384 } }
    else if f.code = 0xB2 then { x with gov := { x.gov with le := v % 16384 } }
    else if f.code = 0xB4 then { x with gov := { x.gov with dep := v % 4 } }
    else if f.code = 0xB5 then { x with gov := { x.gov with e0 := { x.gov.e0 with c := v % 65536 } } }
    else if f.code = 0xB6 then
      { x with gov := { x.gov with e0 := { x.gov.e0 with s := v % 16384, e := v / 65536 % 16384 } } }
    else if f.code = 0xB7 then { x with gov := { x.gov with e1 := { x.gov.e1 with c := v % 65536 } } }
    else if f.code = 0xB8 then
      { x with gov := { x.gov with e1 := { x.gov.e1 with s := v % 16384, e := v / 65536 % 16384 } } }
    else x
  | .view sel v =>
    let n := f.code - 0x40
    let old := (x.acc.getD n 0).toNat
    let new : Nat := if sel = 0 then old / 2 ^ 32 * 2 ^ 32 + v % 2 ^ 32
      else if sel = 1 then old / 2 ^ 64 * 2 ^ 64 + v % 2 ^ 32 * 2 ^ 32 + old % 2 ^ 32
      else if sel = 2 then v % 256 * 2 ^ 64 + old % 2 ^ 64
      else ((signed 32 v * 2 ^ 31) % 2 ^ 72).toNat
    { x with acc := x.acc.set n (BitVec.ofNat 72 new) }
  | .acc op p =>
    let n := f.code - 0x40
    let old := (x.acc.getD n 0).toInt
    let s := if op = 0 then p else if op = 1 then old + p else old - p
    let ov := decide (s < -(2 ^ 71)) || decide (2 ^ 71 ≤ s)
    { x with acc := x.acc.set n (BitVec.ofInt 72 s), sw := x.sw ||| (if ov then 0x200 else 0) }

/-- The results that land in one cycle, in issue order: of two on one register the later-issued is kept and WCOL sets
(R233); a move to sw lands before the sticky bits of the others (R223). -/
def landCycle (x : Core) (fs : List Flight) : Core :=
  let isReg := fun (f : Flight) => f.what ≠ .none
  let beaten := fun (l : List Flight) (f : Flight) => isReg f && l.any fun g => isReg g && g.code = f.code
  let kept : List (Flight × Bool) := (List.range fs.length).filterMap fun i =>
    (fs[i]?).map fun f => (f, beaten (fs.drop (i + 1)) f)
  let win := (kept.filter (fun p => !p.2)).map (·.1)
  let lost := (kept.filter (fun p => p.2)).map (·.1)
  let order := win.filter (fun f => f.code = 0x33) ++ win.filter (fun f => f.code ≠ 0x33)
  let y := order.foldl landOne x
  { y with sw := lost.foldl (fun w f => w ||| f.sticky) y.sw ||| (if lost.isEmpty then 0 else 0x800) }

/-- One issue cycle passes: what is due lands. -/
def Core.landNext (x : Core) : Core :=
  let fs := x.flight.map fun f => { f with left := f.left - 1 }
  landCycle { x with flight := fs.filter (fun f => f.left ≠ 0) } (fs.filter (fun f => f.left = 0))

/-- Everything lands. The longest latency is 4. -/
def Core.drain (x : Core) : Core := { x.landNext.landNext.landNext.landNext with bypass := none }

/-- No branch, handler or resumption is in progress. -/
def Core.clean (x : Core) : Core :=
  { x with delay := 0, target := none, retSlots := false, saved := none, resumed := false, bypass := none }

/-! ## Starting and ending instances (R204, R205, R206, R221) -/

/-- Fields of a descriptor. -/
def Hw.taskOn (h : Hw) (r : TaskRef) : Bool := h.on (TCE_TASKk_CFG_EN r.page r.k) && !bit ((h.core r.page).held ||| (h.core r.page).clash) r.k
def Hw.taskFixed (h : Hw) (r : TaskRef) : Bool := !h.on (TCE_TASKk_CFG_ASAP r.page r.k)

/-- An instance starts on core `c`: pc, sw, the background saved, RUN. -/
def Hw.startTask (h : Hw) (c : Nat) (r : TaskRef) : Hw :=
  let x := (h.core c).drain
  let bg := if h.coreSt c = coreBack then some (x.pc, x.sw) else x.bg
  let pc := if r.page = c then h.rd (TCE_TASKk_ENTRY_ENTRY r.page r.k) else h.rd (TCE_TASKk_ENTRY_SENTRY r.page r.k)
  let x1 := { x.clean with
    pc := pc
    sw := 65536 * h.rd (TCE_TASKk_CFG_IEN r.page r.k)
    run := some r
    pend := x.pend.filter (· ≠ r)
    bg := bg }
  let h1 := ((h.setCore c x1).coreGo c coreTask).wr (TCE_STAT_CURTASK c) r.k
  ((h1.wr (TCE_TASKk_STAT_RUN r.page r.k) 1).wr (TCE_TASKk_STAT_PEND r.page r.k) 0).setNat (TCE_PC c) pc

/-- The pending task that goes first: lowest PRIO, then the own page, then the lower number (R205). -/
def Hw.nextTask (h : Hw) (c : Nat) : Option TaskRef :=
  let key := fun (r : TaskRef) => 64 * h.rd (TCE_TASKk_CFG_PRIO r.page r.k) + (if r.page = c then 0 else 32) + r.k
  (h.core c).pend.foldl (fun b r => match b with
    | none => some r
    | some q => if key r < key q then some r else b) none

/-- The background starts from TCE_BGPC where it is enabled (R202). -/
def Hw.coreIdle (h : Hw) (c : Nat) : Hw :=
  if h.coreSt c = coreWait && h.on (TCE_BGPC_BGEN c) then
    let pc := h.rd (TCE_BGPC_BGPC c)
    ((h.setCore c { (h.core c).clean with pc := pc }).coreGo c coreBack).setNat (TCE_PC c) pc
  else h

/-- A pre-empted background resumes, or the core waits. -/
def Hw.resumeBack (h : Hw) (c : Nat) : Hw :=
  let x := h.core c
  match x.bg with
  | some (pc, sw) => ((h.setCore c { x with pc := pc, sw := sw, bg := none }).coreGo c coreBack).setNat (TCE_PC c) pc
  | none => (h.coreGo c coreWait).coreIdle c

/-- Pending instances are dropped. -/
def Hw.dropPending (h : Hw) (c : Nat) : Hw :=
  let h1 := h.each (h.core c).pend fun r h => h.wr (TCE_TASKk_STAT_PEND r.page r.k) 0
  h1.setCore c { h1.core c with
    pend := []
    overrun := (h.core c).overrun.filter (· ∉ (h.core c).pend)
    crossed := (h.core c).crossed.filter (· ∉ (h.core c).pend) }

/-- What follows the end of an instance (R202, R205). -/
def Hw.afterTask (h : Hw) (c : Nat) : Hw :=
  if (h.core c).haltReq then
    let h1 := h.dropPending c
    (h1.setCore c { h1.core c with haltReq := false, bg := none }).haltCore c
  else match h.nextTask c with
    | some r => h.startTask c r
    | none => h.resumeBack c

/-- An instance ends with END (R206, R210, R247). -/
def Hw.endInstance (h : Hw) (c time : Nat) : Hw :=
  let x := (h.core c).drain
  match x.run with
  | none => h
  | some r =>
    let late := decide (r ∈ x.crossed)
    let fixed := h.taskFixed r
    let good := if fixed then !late else decide (r ∉ x.overrun)
    let x1 := { x.clean with
      run := none
      armed := if fixed && !late then r :: x.armed.filter (· ≠ r) else x.armed
      crossed := x.crossed.filter (· ≠ r)
      overrun := x.overrun.filter (· ≠ r) }
    let t := satN 16 time
    let h1 := (((h.setCore c x1).wr (TCE_TASKk_STAT_RUN r.page r.k) 0).wr (TCE_TASKk_TIME_LAST r.page r.k) t).wr
      (TCE_TASKk_TIME_MAX r.page r.k) (max t (h.rd (TCE_TASKk_TIME_MAX r.page r.k)))
    let h2 := h1.cond (fixed && late) fun h =>
      ((h.bump (TCE_LATE_LATE c) 1).wr (TCE_TASKk_STAT_LATE r.page r.k) 1).irq (PG_TCE c) 1
    (h2.cond good (·.wr (TCE_OVR_CONSEC c) 0)).afterTask c

/-- END of background code: the core waits and the background starts again (R247). -/
def Hw.endBack (h : Hw) (c : Nat) : Hw :=
  ((h.setCore c (h.core c).drain.clean).coreGo c coreWait).coreIdle c

/-- The core halts on a fault of its program (R202): the running instance goes no further, dispatch stays on. -/
def Hw.haltFault (h : Hw) (c b : Nat) (stat : Field) : Hw :=
  let x := h.core c
  let h1 := match x.run with
    | some r => h.wr (TCE_TASKk_STAT_RUN r.page r.k) 0
    | none => h
  let h2 := h1.setCore c { x.drain.clean with run := none, bg := none, crossed := x.crossed.filter (fun r => x.run ≠ some r) }
  ((((h2.dropPending c).wr stat 1).wr (TCE_CTL_GO c) 0).haltCore c).raise (PG_TCE c) b

/-! ## Ticks (R203, R204, R209 to R211) -/

/-- Ticks come at all: the Ward lets dispatch run (R108, R211) and the block runs. -/
def Hw.dispatchOn (h : Hw) (c : Nat) : Bool :=
  (h.core c).dispatch && h.running (PG_TCE c) && h.mode ≠ 0xC && !(h.mode = 0xB && h.sis.stopDone) && h.mode ≠ 0xD &&
    h.mode ≠ 2 && h.mode ≠ 3

/-- An instance of a task runs or waits on a core. -/
def Core.has (x : Core) (r : TaskRef) : Bool := x.run = some r || r ∈ x.pend

/-- The running or waiting instance of a task has met its next tick (R210). -/
def Core.overran (x : Core) (r : TaskRef) : Core :=
  if x.has r then { x with overrun := r :: x.overrun.filter (· ≠ r) } else x

/-- A new instance of a task begins with no mark of an earlier one. -/
def Core.newInstance (x : Core) (r : TaskRef) : Core :=
  { x with crossed := x.crossed.filter (· ≠ r), overrun := x.overrun.filter (· ≠ r) }

/-- An overrun (R209, R210). -/
def Hw.overrunOf (h : Hw) (c : Nat) (r : TaskRef) : Hw :=
  let h1 := (((h.bump (TCE_OVR_TOTAL c) 1).bump (TCE_TASKk_OVR_CNT r.page r.k) 1).wr (TCE_TASKk_STAT_OVR r.page r.k) 1).irq
    (PG_TCE c) 0
  let n := satN 4 (h1.rd (TCE_OVR_CONSEC c) + 1)
  let h2 := (h1.wr (TCE_OVR_CONSEC c) n).each [0, 1] fun k h => h.setCore k ((h.core k).overran r)
  h2.cond (decide (h2.rd (TCE_OVRCFG_OVR_LIMIT c) ≤ n)) (·.raise (PG_TCE c) 8)

/-- TASK_TICK: a tick that is due starts its task, leaves it pending or overruns; an instance that the partner still runs
since a solo switch is the task's previous one (R209, R212). The tick of a position task comes with the set-points of its
cycle (R203, R208; log entry 62). A background inside its delay slots issues them first. -/
def tickTask (page k : Nat) (h : Hw) : Hw :=
  let r : TaskRef := ⟨page, k⟩
  let c := h.carrier page
  let x := h.core c
  if r ∉ x.due then h
  else
    let pos := h.rd (TCE_TASKk_CFG_TRIG page k) = 1 || h.rd (TCE_TASKk_CFG_TRIG page k) = 3
    let h1 := (h.setCore c { x with due := x.due.filter (· ≠ r) }).cond pos Hw.publishSet
    if !h1.dispatchOn c then h1
    else
      let st := h1.coreSt c
      if (h.core 0).has r || (h.core 1).has r || st = coreReset || st = coreHalt then h1.overrunOf c r
      else
        let h2 := h1.each [0, 1] fun i h => h.setCore i ((h.core i).newInstance r)
        if st = coreTask || (st = coreBack && x.delay ≠ 0) then
          (h2.setCore c { h2.core c with pend := x.pend ++ [r] }).wr (TCE_TASKk_STAT_PEND page k) 1
        else h2.startTask c r

/-- Position cycles counted from the start of the time base. -/
def Hw.posIndex (h : Hw) : Nat := h.nat PST_TB_IDX / h.pst.posDiv

/-- A normal instance of a task opens at this T0: of the current cycle, or of the position cycle (R203). -/
def Hw.opensAt (h : Hw) (pos : Bool) (r : TaskRef) : Bool :=
  let t := h.rd (TCE_TASKk_CFG_TRIG r.page r.k)
  let div := h.rd (TCE_TASKk_CFG_DIV r.page r.k) + 1
  let ph := h.rd (TCE_TASKk_CFG_PHASE r.page r.k)
  h.taskOn r && (if pos then t = 1 || (t = 3 && h.posIndex % div = ph) else t = 0 || (t = 2 && h.nat PST_TB_IDX % div = ph))

/-- The tasks a core carries. -/
def Hw.carried (h : Hw) (c : Nat) : List TaskRef :=
  ([0, 1].filter fun p => h.carrier p = c).flatMap fun p => (List.range 16).map fun k => ⟨p, k⟩

/-- The count of normal instances since the solo switch. -/
def soloCount (l : List (TaskRef × Nat)) (r : TaskRef) : Nat := ((l.find? (·.1 = r)).map (·.2)).getD 0

/-- Of the normal instances of a task, this one runs: in solo one in SDIV, counted from the switch (R212). -/
def Hw.instanceRuns (h : Hw) (c : Nat) (r : TaskRef) : Bool :=
  !h.on (TCE_STAT_SOLOACT c) || soloCount (h.core c).soloCnt r % (h.rd (TCE_TASKk_CFG_SDIV r.page r.k) + 1) = 0

/-- An instance of a task opens on its core at this T0. -/
def Hw.instanceOpens (h : Hw) (c : Nat) (pos : Bool) (r : TaskRef) : Bool := h.opensAt pos r && h.instanceRuns c r

/-- Normal instances of tasks come up on core `c`: those that run become due, and in solo all are counted. -/
def Hw.openOn (h : Hw) (c : Nat) (rs : List TaskRef) : Hw :=
  let x := h.core c
  let now := rs.filter (h.instanceRuns c)
  h.setCore c { x with
    due := x.due ++ now.filter (· ∉ x.due)
    soloCnt := if h.on (TCE_STAT_SOLOACT c) then
        rs.map (fun r => (r, soloCount x.soloCnt r + 1)) ++ x.soloCnt.filter (fun e => e.1 ∉ rs)
      else [] }

/-- The period loads of the groups of an instance that is armed (R19, R206). -/
def Hw.loadGroups (h : Hw) (r : TaskRef) : Hw :=
  let ps := h.rd (TCE_TASKk_OUT_PS r.page r.k)
  let ax := h.rd (TCE_TASKk_OUT_AX r.page r.k)
  let h1 := h.each (h.setsOf ps) Hw.loadSet
  h1.each ((List.range 4).filter fun n => bit ax n) fun n h => h.setReg (PRF_AXn_LANG n) (h.reg (PRF_AXn_LANG n + 0x8000))

/-- A period boundary of a task on a core that holds an instance of it (R206): an armed load is made, but for a bolted
core; an instance that still runs or waits has passed its boundary. -/
def crossOn (r : TaskRef) (k : Nat) (h : Hw) : Hw :=
  let x := h.core k
  let h1 := h.cond (decide (r ∈ x.armed) && !h.bolted (PG_TCE k)) (·.loadGroups r)
  h1.setCore k { x with
    armed := x.armed.filter (· ≠ r)
    crossed := if x.has r && h.taskFixed r then r :: x.crossed.filter (· ≠ r) else x.crossed }

/-- The period boundaries of the tasks a core carries (R206, R212): the instance may be the partner's of before a solo
switch. -/
def boundary (c : Nat) (pos : Bool) (h : Hw) : Hw :=
  h.each ((h.carried c).filter fun r => h.instanceOpens c pos r) fun r h => h.each [0, 1] (crossOn r)

/-- Ticks of the instances that open at this T0, under the descriptors in force after it (R211). -/
def openTicks (c : Nat) (pos : Bool) (h : Hw) : Hw :=
  if !h.dispatchOn c then
    let h1 := h.dropPending c
    h1.setCore c { h1.core c with due := [] }
  else h.openOn c ((h.carried c).filter fun r => h.opensAt pos r)

/-- TCE at a current-cycle T0 before swaps, and after them. -/
def Hw.tceLoad (h : Hw) (pos : Bool) : Hw := h.each [0, 1] fun c h => boundary c pos h
def Hw.tceOpen (h : Hw) (pos : Bool) : Hw := h.each [0, 1] fun c h => openTicks c pos h

/-- Ticks that are due move to the core that carries their page from now on; the other starts no new task (R212). -/
def Hw.handOver (h : Hw) (page dst : Nat) : Hw :=
  let src := h.core (1 - dst)
  let mine := src.due.filter fun r => r.page = page
  let h1 := (h.setCore (1 - dst) { src with due := src.due.filter fun r => r.page ≠ page }).setCore dst
    { h.core dst with due := (h.core dst).due ++ mine }
  let lost := (h1.core (1 - dst)).pend.filter fun r => r.page = page
  let h2 := h1.each lost fun r h => h.wr (TCE_TASKk_STAT_PEND r.page r.k) 0
  h2.setCore (1 - dst) { h2.core (1 - dst) with pend := (h2.core (1 - dst)).pend.filter (· ∉ lost) }

/-- The solo switch and the return at a position-cycle T0 (R212 to R214). The solo cap is the Ward's firmware's: agent 0
writes PRF_WCAP (R187, R213; log entry 41). -/
def soloT0 (c : Nat) (h : Hw) : Hw :=
  match (h.core c).soloReq with
  | none => h
  | some on =>
    let h1 := h.setCore c { h.core c with soloReq := none, soloCnt := [] }
    if on = h.on (TCE_STAT_SOLOACT c) then h1
    else ((h1.wr (TCE_STAT_SOLOACT c) (b2n on)).irq (PG_TCE c) 4).handOver (1 - c) (if on then c else 1 - c)

/-- At a position-cycle T0, before the ticks it opens: the solo switch, and dispatch that GO has ordered (R209, R212). -/
def Hw.tceSwitch (h : Hw) : Hw :=
  h.each [0, 1] fun c h =>
    let h1 := soloT0 c h
    let x := h1.core c
    h1.setCore c { x with dispatch := x.dispatch || x.enabling, enabling := false }

/-- The load of the cores in the position cycle that ends (R219). -/
def Hw.tcePosition (h : Hw) : Hw :=
  h.each [0, 1] fun c h =>
    let x := h.core c
    let n := satN 16 (x.cycles / 16)
    let h2 := (h.wr (TCE_BUSY_LAST c) n).wr (TCE_BUSY_MAX c) (max n (h.rd (TCE_BUSY_MAX c)))
    h2.setCore c { x with cycles := 0 }

/-! ## Control registers (R202, R212, R203) -/

/-- GO written 1. -/
def Hw.coreStart (h : Hw) (c : Nat) : Hw :=
  if h.coreSt c ≠ coreHalt then h
  else if h.on (TCE_STAT_AUTH c) && h.on (BLK_CTL_EN (PG_TCE c)) then
    ((h.setCore c { h.core c with enabling := true, haltReq := false, bg := none }).wr (TCE_CTL_GO c) 1).coreGo c coreWait
      |>.coreIdle c
  else h.blockFault (PG_TCE c) 14

/-- GO written 0: the running instance finishes first. In RESET and HALT nothing changes (R202): a dispatch that a halt
has left on stays. -/
def Hw.coreStop (h : Hw) (c : Nat) : Hw :=
  let h1 := (h.wr (TCE_CTL_GO c) 0).setCore c { h.core c with dispatch := false, enabling := false, due := [] }
  let st := h.coreSt c
  if st ≤ coreHalt then h
  else if st = coreTask then
    let h2 := h1.dropPending c
    h2.setCore c { h2.core c with haltReq := true }
  else if st = coreWait ∨ st = coreBack then
    (h1.setCore c { (h1.core c).drain.clean with bg := none }).haltCore c
  else h1

/-- SOLO written. -/
def Hw.soloWrite (h : Hw) (c : Nat) (on : Bool) : Hw :=
  (h.wr (TCE_CTL_SOLO c) (b2n on)).setCore c { h.core c with soloReq := some on }

/-- A write of TCE_CTL; one with SOLO = 1 while the partner carries both pages changes nothing (R212). -/
def tceCtlWrite (who : Who) (c : Nat) (w : Word) (h : Hw) : Hw :=
  h.agent0 who (PG_TCE c) 15 fun h =>
    let go := getBits w 0 1 = 1
    let solo := getBits w 8 1 = 1
    if solo && h.on (TCE_STAT_SOLOACT (1 - c)) then h.blockFault (PG_TCE c) 13
    else
      let h1 := if go then h.coreStart c else h.coreStop c
      h1.cond (solo != h1.on (TCE_CTL_SOLO c)) (·.soloWrite c solo)

/-- TCE_BGPC written: a waiting core enters a background that it enables (R202). -/
def bgWrite (who : Who) (c : Nat) (w : Word) (h : Hw) : Hw :=
  h.cfgWrite who (PG_TCE c) fun h => (h.setReg (TCE_BGPC c) (w &&& 0x80003FFF)).coreIdle c

/-- TCE_SOFTWARE_TRIGGER: ticks of the SW tasks named, in solo one in SDIV of them (R203, R212). -/
def tceTrigger (who : Who) (c : Nat) (w : Word) (h : Hw) : Hw :=
  h.opWrite who (PG_TCE c) fun h =>
    let cc := h.carrier c
    let rs := ((List.range 16).filter fun k => bit w.toNat k && h.rd (TCE_TASKk_CFG_TRIG c k) = 4).map fun k => (⟨c, k⟩ : TaskRef)
    h.cond (h.dispatchOn cc) (·.openOn cc (rs.filter h.taskOn))

/-! ## Programs (R201, R215) -/

/-- TCE_PCAUTH.START. -/
def tceAuthGo (who : Who) (c : Nat) (w : Word) (h : Hw) : Hw :=
  h.opWrite who (PG_TCE c) fun h =>
    h.cond (getBits w 0 1 = 1) (·.wr (TCE_PCAUTH_BUSY c) 1)

/-- A program write is carried out only in RESET or HALT with no check running. -/
def Hw.programOpen (h : Hw) (c : Nat) : Bool := decide (h.coreSt c ≤ 1) && !h.on (TCE_PCAUTH_BUSY c)

/-- A fabric write to program memory (R201). -/
def Dev.programStore (d : Dev) (c a : Nat) (bs : List Byte) : Dev :=
  if d.hw.programOpen c then { hw := d.hw.ack.wr (TCE_STAT_AUTH c) 0, mem := memWriteBytes d.mem a bs }
  else { d with hw := d.hw.ack.blockFault (PG_TCE c) 12 }

/-! ## Reset of a core, swap, bolt (R202, R217) -/

/-- CPR_AGT_RST bit set: RESET, registers 0; dispatch stays as it was, so ticks count as overruns (R211); loads that
ended instances have armed are still made (R206). -/
def Hw.resetCore (h : Hw) (c : Nat) : Hw :=
  let x := h.core c
  let h1 := match x.run with
    | some r => h.wr (TCE_TASKk_STAT_RUN r.page r.k) 0
    | none => h
  let h2 := h1.dropPending c
  ((h2.setCore c { Core.init with
    dispatch := x.dispatch, enabling := x.enabling, due := x.due, armed := x.armed, soloReq := x.soloReq
    soloCnt := x.soloCnt, cycles := x.cycles, held := x.held, clash := x.clash }).coreGo c coreReset).setNat
    (TCE_PC c) 0

/-- A core after a LOGIC pattern: every register 0, HALT; dispatch and what the page has ordered stay (R214, R500). -/
def Hw.logicCore (h : Hw) (c : Nat) : Hw :=
  let x := h.core c
  (((h.setCore c { Core.init with
    dispatch := x.dispatch, due := x.due, soloReq := x.soloReq, soloCnt := x.soloCnt, cycles := x.cycles
    held := x.held, clash := x.clash }).wr (TCE_CTL_GO c) 0).coreGo c coreHalt).setNat (TCE_PC c) 0

/-- CPR_AGT_RST bit cleared: HALT with pc 0, dispatch off. -/
def Hw.releaseCore (h : Hw) (c : Nat) : Hw :=
  if h.coreSt c ≠ coreReset then h
  else ((h.setCore c { h.core c with dispatch := false, enabling := false, due := [] }).wr (TCE_CTL_GO c) 0).haltCore c

/-- The output groups that a task names (R206). -/
def Hw.groupsOf (h : Hw) (r : TaskRef) : Nat := h.rd (TCE_TASKk_OUT_PS r.page r.k) + 64 * h.rd (TCE_TASKk_OUT_AX r.page r.k)

/-- A task names a group that a task of page `p` names too (R217). -/
def Hw.groupTaken (h : Hw) (p : Nat) (r : TaskRef) : Bool :=
  (List.range 16).any fun k => decide ((⟨p, k⟩ : TaskRef) ≠ r) && decide (h.groupsOf ⟨p, k⟩ &&& h.groupsOf r ≠ 0)

/-- A task whose descriptor is invalid within its page, enabled or not (R217). -/
def Hw.taskInvalid (h : Hw) (r : TaskRef) : Bool :=
  let t := h.rd (TCE_TASKk_CFG_TRIG r.page r.k)
  let asap := h.on (TCE_TASKk_CFG_ASAP r.page r.k)
  decide (4 < t) || (t = 4 && !asap) || decide (h.rd (TCE_TASKk_CFG_DIV r.page r.k) < h.rd (TCE_TASKk_CFG_PHASE r.page r.k)) ||
    (asap && h.groupsOf r ≠ 0) || h.groupTaken r.page r

/-- TCE after a swap of a page: its invalid tasks are held disabled, and the tasks of both pages that name one group;
OVR_LIMIT = 0 concerns all of the page. -/
def Hw.tceSwap (h : Hw) (c : Nat) : Hw :=
  let lim := h.rd (TCE_OVRCFG_OVR_LIMIT c) = 0
  let bad := maskOf 16 fun k => lim || h.taskInvalid ⟨c, k⟩
  let clash := fun (p : Nat) => maskOf 16 fun k => h.groupTaken (1 - p) ⟨p, k⟩
  let h1 := (h.setCore c { h.core c with held := bad, clash := clash c }).setCore (1 - c)
    { h.core (1 - c) with clash := clash (1 - c) }
  h1.cond (decide (bad ≠ 0) || decide (clash c ≠ 0)) (·.blockFault (PG_TCE c) 13)

/-- The Ward grants the bolt of a core only while the other carries both pages, or in a mode with the PWM off (R108,
R213). -/
def Hw.tceBoltable (h : Hw) (c : Nat) : Bool := h.on (TCE_STAT_SOLOACT (1 - c)) || h.haltMode

/-- Soft reset of the page: the core is reset, and released where CPR does not hold it. -/
def Hw.tceBlockReset (h : Hw) (c : Nat) : Hw :=
  let h1 := h.setCore c Core.init
  if bit (h1.rd CPR_AGT_RST_AGT) (4 + c) then h1 else h1.coreGo c coreHalt

end Sys2Proof.Machine
end

