-- ==== Sys2Proof/Machine/Mailbox.lean ====
section
/-! DEFINITION. Mailbox channels, doorbells and latches (R423 to R437). -/

namespace Sys2Proof.Machine

/-! ## Who asks (R423, R425, R426) -/

/-- The keyway changes nothing in MLB or LAT: NOTSIS, bit `b` of the page. -/
def Hw.notKeyway (h : Hw) (who : Who) (p b : Nat) (f : Hw → Hw) : Hw :=
  if who = .keyway then h.ack.blockFault p b else h.opWrite who p f

/-- Only agent `n` of the eight may do this: NOTPARTY for another. -/
def Hw.party (h : Hw) (who : Who) (n : Nat) (f : Hw → Hw) : Hw :=
  h.notKeyway who PG_MLB 8 fun h => if who.num = n then f h else h.blockFault PG_MLB 9

/-! ## Doorbells (R427, R428) -/

/-- Doorbell bits of agent `a` set. -/
def Hw.ring (h : Hw) (a bits : Nat) : Hw := h.setNat (MLB_DBa a) (h.nat (MLB_DBa a) ||| bits)

/-- MLB_DBa_PEND. -/
def Hw.dbPend (h : Hw) (a : Nat) : Word := h.reg (MLB_DBa a) &&& ~~~ h.reg (MLB_DBa_MASK a)

/-- The doorbell line of agent `a` is driven (R428). -/
def Hw.doorbell (h : Hw) (a : Nat) : Bool := h.dbPend a ≠ 0

/-- DOORBELL_RING: a write of MLB_DBa_SET. -/
def bellRing (who : Who) (a : Nat) (w : Word) (h : Hw) : Hw := h.notKeyway who PG_MLB 8 (·.ring a w.toNat)

/-- DOORBELL_CLEAR: a W1C write of MLB_DBa. -/
def bellClear (who : Who) (a : Nat) (w : Word) (h : Hw) : Hw :=
  h.party who a fun h => h.setReg (MLB_DBa a) (h.reg (MLB_DBa a) &&& ~~~ w)

/-- DOORBELL_MASK_WRITE. -/
def bellMask (who : Who) (a : Nat) (w : Word) (h : Hw) : Hw := h.party who a (·.setReg (MLB_DBa_MASK a) w)

/-! ## Channels (R424 to R426) -/

def chanEmpty : Nat := 0
def chanPosted : Nat := 1
def chanAcked : Nat := 2

/-- State, sender and receiver of a channel. -/
def Hw.chan (h : Hw) (n : Nat) : Nat := h.rd (MLBn_STAT_STATE n)
def Hw.snd (h : Hw) (n : Nat) : Nat := h.rd (MLBn_CFG_SND n)
def Hw.rcv (h : Hw) (n : Nat) : Nat := h.rd (MLBn_CFG_RCV n)

/-- The present epoch of agent `a` (R429). -/
def Hw.epoch (h : Hw) (a : Nat) : Nat := getBits (h.reg (MLB_EPOCH0 + 4 * (a / 4))) (8 * (a % 4)) 8

/-- MLB_CONFIG_WRITE (R424). -/
def chanConfig (who : Who) (n : Nat) (w : Word) (h : Hw) : Hw :=
  h.agent0 who PG_MLB 8 fun h =>
    if h.chan n ≠ chanEmpty then h.blockFault PG_MLB 10
    else if getBits w 16 3 = getBits w 24 3 then h.blockFault PG_MLB 12
    else h.setReg (MLBn_CFG n) (w &&& 0x87071F1F#32)

/-- The channel becomes EMPTY: STAT and ACK clear. -/
def Hw.chanClear (h : Hw) (n : Nat) : Hw := (h.setReg (MLBn_STAT n) 0).setReg (MLBn_ACK n) 0

/-- POST from EMPTY or ACKED. -/
def Hw.chanPost (h : Hw) (n : Nat) : Hw :=
  (((h.chanClear n).wr (MLBn_STAT_STATE n) chanPosted).wr (MLBn_STAT_EPOCH n) (h.epoch (h.snd n))).ring (h.rcv n)
    (2 ^ h.rd (MLBn_CFG_RDB n))

/-- A write of MLBn_CTL (R426): POST, WITHDRAW or TAKE; anything else is SEQ. -/
def chanControl (who : Who) (n : Nat) (w : Word) (h : Hw) : Hw :=
  h.party who (h.snd n) fun h =>
    let s := h.chan n
    let op := getBits w 0 3
    if op = 1 ∧ ((s = chanEmpty ∧ h.on (MLBn_CFG_EN n)) ∨ (s = chanAcked ∧ !h.on (MLBn_STAT_SND_STALE n))) then h.chanPost n
    else if (op = 2 ∧ s = chanPosted) ∨ (op = 4 ∧ s = chanAcked) then h.chanClear n
    else h.blockFault PG_MLB 11

/-- The acknowledge itself. -/
def Hw.chanAck (h : Hw) (n code : Nat) : Hw :=
  ((((h.wr (MLBn_ACK_VALID n) 1).wr (MLBn_ACK_EPOCH n) (h.rd (MLBn_STAT_EPOCH n))).wr (MLBn_ACK_CODE n) code).wr
    (MLBn_STAT_STATE n) chanAcked).ring (h.snd n) (2 ^ h.rd (MLBn_CFG_ADB n))

/-- MLB_ACK: a write of MLBn_ACK. -/
def chanAckWrite (who : Who) (n : Nat) (w : Word) (h : Hw) : Hw :=
  h.party who (h.rcv n) fun h =>
    if h.chan n = chanPosted then h.chanAck n (getBits w 0 8) else h.blockFault PG_MLB 11

/-- MLB_PAYLOAD_WRITE (R425). -/
def payloadWrite (who : Who) (n k : Nat) (w : Word) (h : Hw) : Hw :=
  h.party who (h.snd n) fun h =>
    if h.chan n = chanPosted then h.blockFault PG_MLB 10 else h.setReg (MLBn_D n k) w

/-- MLB_PAYLOAD_READ (R425). The keyway sees what agent 0 would see and sets no RD (R423). -/
def payloadRead (who : Who) (n k : Nat) (h : Hw) : Hw :=
  let a := if who = .keyway then 0 else who.num
  let v := h.answer [h.reg (MLBn_D n k)]
  if a = h.snd n then v
  else if a = h.rcv n then
    if h.chan n = chanEmpty then h.answer [0]
    else v.cond (decide (who ≠ .keyway)) (·.wr (MLBn_STAT_RD n) 1)
  else if a = 0 then v
  else (h.answer [0]).blockFault PG_MLB 9

/-- A message to agent 0 is unread (R425, R111). -/
def Hw.unread (h : Hw) : Bool :=
  (List.range 16).any fun n => h.rcv n = 0 && h.chan n = chanPosted && !h.on (MLBn_STAT_RD n)

/-- MLB_MINE for a reader (R436). -/
def Hw.mine (h : Hw) (a : Nat) : Nat :=
  maskOf 16 (fun n => h.snd n = a && h.chan n ≠ chanEmpty) + 65536 * maskOf 16 (fun n => h.rcv n = a && h.chan n = chanPosted)

/-! ## Latches (R432, R433) -/

/-- The owner of latch `j`, if held. -/
def Hw.latch (h : Hw) (j : Nat) : Option Nat :=
  let v := getBits (h.reg (LAT_OWNi (j / 8))) (4 * (j % 8)) 4
  if v < 8 then none else some (v % 8)

/-- LAT_OWN and LAT_HELD after a change of owner. -/
def Hw.setLatch (h : Hw) (j : Nat) (o : Option Nat) : Hw :=
  (h.wr ⟨LAT_OWNi (j / 8), 4 * (j % 8), 4⟩ (o.elim 0 (8 + ·))).setBitAt (LAT_HELD0 + 4 * (j / 32)) (j % 32) o.isSome

/-- What a read of a latch returns. -/
def latchWord (o : Option Nat) : Word := BitVec.ofNat 32 (o.elim 0 (0x8000 + ·))

/-- LATCH_ACQUIRE: a read of LAT_Lj. -/
def latchRead (who : Who) (j : Nat) (h : Hw) : Hw :=
  let h1 := h.answer [latchWord (h.latch j)]
  if (h.latch j).isSome ∨ who = .keyway then h1 else h1.setLatch j (some who.num)

/-- LATCH_RELEASE: a write of LAT_Lj. -/
def latchWrite (who : Who) (j : Nat) (h : Hw) : Hw :=
  h.notKeyway who PG_LAT 9 fun h =>
    if h.latch j = some who.num then h.setLatch j none else h.blockFault PG_LAT 8

/-- LATCH_FORCE_FREE: a write of LAT_FREE0 or LAT_FREE1. -/
def latchFree (who : Who) (k : Nat) (w : Word) (h : Hw) : Hw :=
  h.agent0 who PG_LAT 9 fun h =>
    h.each ((List.range 32).filter fun b => bit w.toNat b) fun b h => h.setLatch (32 * k + b) none

/-! ## Agent reset (R429, R433) -/

/-- A latch that a reset agent held: released, ORPHAN. -/
def orphan (j : Nat) (h : Hw) : Hw :=
  ((h.setLatch j none).setBitAt (LAT_ORPHAN0 + 4 * (j / 32)) (j % 32) true).irq PG_LAT 0

/-- What the reset of agent `a` does to channel `n`. -/
def chanAgentReset (a n : Nat) (h : Hw) : Hw :=
  let h1 := h.cond (h.rcv n = a && h.chan n = chanPosted) fun h => (h.wr (MLBn_STAT_RCV_RESTARTED n) 1).irq PG_MLB 0
  h1.cond (h.snd n = a && h.chan n ≠ chanEmpty) fun h => (h.wr (MLBn_STAT_SND_STALE n) 1).irq PG_MLB 1

/-- MLB and LAT when agent `a`, 1 to 7, is reset. -/
def Hw.mailAgentReset (h : Hw) (a : Nat) : Hw :=
  let h1 := (h.wr ⟨MLB_EPOCH0 + 4 * (a / 4), 8 * (a % 4), 8⟩ (h.epoch a + 1)).setReg (MLB_DBa_MASK a) 0xFFFFFFFF
  (h1.each (List.range 16) (chanAgentReset a)).each ((List.range 64).filter fun j => h.latch j = some a) orphan

end Sys2Proof.Machine
end

