-- ==== Sys2Proof/Machine/Can.lean ====
section
/-! DEFINITION. The CAN FD controllers: bit timing, rate negotiation, message memory, locks and queues, transmission,
error confinement, network time, wake pattern (R376 to R399). -/

namespace Sys2Proof.Machine

/-! ## Access -/

def Hw.cn (h : Hw) (c : Nat) : CanState := h.can.getD c CanState.init
def Hw.setCn (h : Hw) (c : Nat) (x : CanState) : Hw := { h with can := h.can.set c x }

/-- In a paired unit without the key every controller only listens (R391). -/
def Hw.noKey (h : Hw) : Bool := h.paired && !h.on RDN_KEY_HELD

/-- The controller is on the bus: it runs, INIT = 0, not bus-off; in BOOT the networks are held (R108). -/
def Hw.canLive (h : Hw) (c : Nat) : Bool :=
  !h.absent (PG_CAN c) && h.running (PG_CAN c) && h.mode ≠ 2 && !h.on (CAN_CTL_INIT c) && !h.on (CAN_STAT_BOFF c)

/-- STAT.NOKEY of every controller (R391). -/
def Hw.showKey (h : Hw) : Hw :=
  h.each ((List.range 4).filter fun c => !h.absent (PG_CAN c)) fun c h => h.wr (CAN_STAT_NOKEY c) (b2n h.noKey)

/-- STAT.ACT: the controller is on the bus (R395, R397): it runs, INIT = 0, not bus-off. -/
def Hw.canAct (h : Hw) (c : Nat) : Hw :=
  h.wr (CAN_STAT_ACT c) (b2n (h.running (PG_CAN c) && !h.on (CAN_CTL_INIT c) && !h.on (CAN_STAT_BOFF c)))

/-- It never drives its ball and holds its counters (R379, R390, R391). -/
def Hw.canSilent (h : Hw) (c : Nat) : Bool :=
  h.on (CAN_CTL_LOM c) || h.noKey || h.on (CAN_NEG_STAT_NEGFAIL c)

/-- It sends no object and holds its error counters: silent, or in the quiet phase of R379, in which capability frames
alone go out. -/
def Hw.canCountsHeld (h : Hw) (c : Nat) : Bool := h.canSilent c || h.on (CAN_STAT_QUIET c)

/-- Bit `n` of one of the 128-bit sets at `a`. -/
def Hw.objBit (h : Hw) (a n : Nat) : Bool := h.bitAt (a + 4 * (n / 32)) (n % 32)
def Hw.setObjBit (h : Hw) (a n : Nat) (b : Bool) : Hw := h.setBitAt (a + 4 * (n / 32)) (n % 32) b

def canRx : Nat := 1
def canTx : Nat := 2
def canTt : Nat := 3

/-- Data length of a DLC (R380). -/
def dlcLen (d : Nat) : Nat := [0, 1, 2, 3, 4, 5, 6, 7, 8, 12, 16, 20, 24, 32, 48, 64].getD d 0

/-- LASTW of a DLC (R380). -/
def lastWord (d : Nat) : Nat := 3 + (dlcLen d + 3) / 4

/-- Object 0 belongs to the hardware (R392). -/
def Hw.canMaster (h : Hw) (c : Nat) : Bool := getBits (h.cn c).time 31 1 = 1

/-- Agents may write an object: OWNER 0, not a master's object 0 (R386, R392, R396). -/
def Hw.objFree (h : Hw) (c n : Nat) : Bool := h.rd (CAN_OBJn_W1_OWNER c n) = 0 && !(h.canMaster c && n = 0)

/-- TXRQ of an object, in its set and in W3. -/
def Hw.setTxrq (h : Hw) (c n : Nat) (b : Bool) : Hw :=
  (h.setObjBit (CAN_TXRQ c 0) n b).wr (CAN_OBJn_W3_TXRQ c n) (b2n b)

/-- An object fails (R386, R387): TXFAIL and FAILCAUSE, TXRQ clears. -/
def Hw.txFail (h : Hw) (c n cause : Nat) : Hw :=
  let h1 := ((h.setTxrq c n false).setObjBit (CAN_TXFAIL c 0) n true).wr (CAN_OBJn_W3_TXFAIL c n) 1
  let x := h1.cn c
  let x1 := { x with cancel := x.cancel.filter (· ≠ n), fired := x.fired.filter (· ≠ n) }
  ((h1.setCn c x1).wr (CAN_OBJn_W3_FAILCAUSE c n) cause).irq (PG_CAN c) 4

/-- A drop: LOST of the object and of the controller, LOBJ (R382, R384). -/
def Hw.canDrop (h : Hw) (c n : Nat) : Hw :=
  (((h.wr (CAN_OBJn_W3_LOST c n) 1).wr (CAN_LOST_LOST c) 1).wr (CAN_LOST_LOBJ c) n).irq (PG_CAN c) 8

/-! ## Reception (R381 to R385) -/

/-- The words of a list of bytes, lowest first. -/
def packWords : List (BitVec 8) → List Word
  | a :: b :: c :: d :: l => BitVec.ofNat 32 (ofLE [a, b, c, d]) :: packWords l
  | [] => []
  | l => [BitVec.ofNat 32 (ofLE l)]

/-- A frame as the words an object takes. -/
def canWords (f : CanFrame) (filter : Nat) : CanRx :=
  let w1 := b2n f.rtr * 0x400000 + b2n f.fdf * 0x200000 + b2n f.brs * 0x100000 + b2n f.esi * 0x80000 +
    f.dlc.val * 256 + (if f.rtr then 3 else lastWord f.dlc.val)
  ⟨BitVec.ofNat 32 (b2n f.xtd * 0x20000000 + f.id.toNat), BitVec.ofNat 32 w1, f.stamp,
    packWords ((f.data ++ List.replicate 64 0).take (dlcLen f.dlc.val)), filter⟩

/-- A frame is written into an object (R382). -/
def Hw.objWrite (h : Hw) (c n : Nat) (x : CanRx) : Hw :=
  let old := h.on (CAN_OBJn_W3_NEWDAT c n)
  if old && !h.on (CAN_OBJn_W1_OVW c n) then h.canDrop c n
  else
    let h1 := (h.cond old (·.wr (CAN_OBJn_W3_OVWR c n) 1)).setReg (CAN_OBJn_W0 c n)
      (setBits (h.reg (CAN_OBJn_W0 c n)) 0 30 x.w0.toNat)
    let w1 := setBits (setBits (h1.reg (CAN_OBJn_W1 c n)) 19 4 (getBits x.w1 19 4)) 0 12 (getBits x.w1 0 12)
    let h2 := (h1.setReg (CAN_OBJn_W1 c n) w1).setReg (CAN_OBJn_W2 c n) x.w2
    let h3 := h2.each (x.data.zip (List.range 16)) fun (p : Word × Nat) h => h.setReg (CAN_OBJn_DATA c n p.2) p.1
    let h4 := ((h3.wr (CAN_OBJn_W3_FILTER c n) x.filter).wr (CAN_OBJn_W3_NEWDAT c n) 1).setObjBit (CAN_NEWDAT c 0) n true
    h4.cond (h4.on (CAN_OBJn_W1_IE c n)) (·.irq (PG_CAN c) 2)

/-- The holder as CANn_HOLD shows it. -/
def Hw.setHold (h : Hw) (c : Nat) (x : Option (Nat × CanRx)) : Hw :=
  let h1 := h.setCn c { h.cn c with hold := x }
  (h1.wr (CAN_HOLD_FULL c) (b2n x.isSome)).wr (CAN_HOLD_OBJ c) (x.elim 0 (·.1))

/-- A frame goes to an object: a locked one's goes to the holder, or is dropped (R383, R384). -/
def Hw.objStore (h : Hw) (c n : Nat) (x : CanRx) : Hw :=
  if !h.on (CAN_OBJn_W3_LOCKED c n) then h.objWrite c n x
  else if (h.cn c).hold.isSome then h.canDrop c n
  else h.setHold c (some (n, x))

/-- The lock of an object releases: the holder's frame for it is written in the same cycle (R384). -/
def Hw.objUnlock (h : Hw) (c n : Nat) : Hw :=
  let h1 := (h.wr (CAN_OBJn_W3_LOCKED c n) 0).wr (CAN_OBJn_W3_LOCKAG c n) 0
  let h2 := h1.setCn c { h1.cn c with lastw := (h1.cn c).lastw.filter (fun p => decide (p.1 ≠ n)) }
  match (h2.cn c).hold with
  | some (m, x) => if m = n then (h2.setHold c none).objWrite c n x else h2
  | none => h2

/-- BLK_IRQ.RQk sets while the level of queue `k` is above its watermark (R385). -/
def Hw.queueWatch (h : Hw) (c : Nat) : Hw :=
  (h.cond (decide (h.rd (CAN_RXCFG_Q0WM c) < (h.cn c).q0.length)) (·.irq (PG_CAN c) 0)).cond
    (decide (h.rd (CAN_RXCFG_Q1WM c) < (h.cn c).q1.length)) (·.irq (PG_CAN c) 1)

/-- A frame goes to a queue, or finds it full (R385). -/
def Hw.queuePut (h : Hw) (c k : Nat) (x : CanRx) : Hw :=
  let s := h.cn c
  let q := if k = 0 then s.q0 else s.q1
  if 64 ≤ q.length then
    ((h.setBitAt (CAN_RQ_STAT c) (16 + k) true).blockFault (PG_CAN c) 15).irq (PG_CAN c) 13
  else
    let e := (x.w0 ||| 0x80000000#32) :: x.w1 :: x.w2 :: BitVec.ofNat 32 (256 * x.filter) ::
      (x.data ++ List.replicate 16 0).take 16
    let q1 := q ++ [e]
    let h1 := h.setCn c (if k = 0 then { s with q0 := q1 } else { s with q1 := q1 })
    (h1.wr (if k = 0 then CAN_RQ_STAT_Q0LVL c else CAN_RQ_STAT_Q1LVL c) q1.length).queueWatch c

/-- A filter takes part: enabled, not held, its object of TYPE RX and not a master's object 0 (R381). -/
def Hw.filterOn (h : Hw) (c j : Nat) : Bool :=
  let o := h.rd (CAN_FLTj_ACT_OBJ c j)
  h.on (CAN_FLTj_MATCH_EN c j) && j ∉ (h.cn c).held &&
    (h.rd (CAN_FLTj_ACT_ACT c j) ≠ 0 || (h.rd (CAN_OBJn_W0_TYPE c o) = canRx && !(o = 0 && h.canMaster c)))

/-- Filter `j` matches a frame. -/
def Hw.filterHit (h : Hw) (c : Nat) (f : CanFrame) (j : Nat) : Bool :=
  let m := h.rd (CAN_FLTj_MASK_MASK c j)
  h.filterOn c j && h.on (CAN_FLTj_MATCH_XTD c j) == f.xtd &&
    decide (f.id.toNat &&& m = h.rd (CAN_FLTj_MATCH_ID c j) &&& m)

/-- Deliver a frame to the target of a filter. -/
def Hw.filterDeliver (h : Hw) (c j : Nat) (f : CanFrame) : Hw :=
  let a := h.rd (CAN_FLTj_ACT_ACT c j)
  if a = 0 then h.objStore c (h.rd (CAN_FLTj_ACT_OBJ c j)) (canWords f j)
  else if a = 3 then h
  else h.queuePut c (a - 1) (canWords f j)

/-- The filters decide (R381, R391). A frame through a REPLAY filter is dropped by the standby and sent on by the
active. -/
def Hw.canFilter (h : Hw) (c : Nat) (f : CanFrame) : Hw :=
  if f.rtr && !h.on (CAN_RXCFG_RTRACC c) then h
  else match (List.range 64).find? (h.filterHit c f) with
    | some j =>
      if h.on (CAN_FLTj_ACT_REPLAY c j) && h.noKey then h
      else
        let h1 := h.cond (h.on (CAN_FLTj_ACT_REPLAY c j) && h.paired) fun h =>
          { h with rdn := { h.rdn with canSeen := h.rdn.canSeen ++ [(c, j, f)] } }
        h1.filterDeliver c j f
    | none =>
      let n := h.rd (CAN_RXCFG_NOMATCH c)
      if n = 1 ∨ n = 2 then h.queuePut c (n - 1) (canWords f 0xFF) else h

/-! ## Negotiation (R378, R379) -/

/-- The offered mask: codes 2 to 4 are withdrawn without TDCEN (R377). -/
def Hw.offered (h : Hw) (c : Nat) : Nat := h.rd (CAN_NEG_MASK c) &&& (if h.on (CAN_CTL_TDCEN c) then 31 else 3)

/-- The highest code of a mask, or 0xF. -/
def topRate (m : Nat) : Nat := ((List.range 5).filter (fun k => bit m k)).getLast?.getD 15

/-- The capability frame goes to the internal buffer. -/
def Hw.capSend (h : Hw) (c : Nat) (req : Bool) (rate : Nat) : Hw :=
  if h.canSilent c then h
  else
    let b : List Byte := [BitVec.ofNat 8 (h.rd (CAN_NEG_NODE c)), BitVec.ofNat 8 (h.offered c), BitVec.ofNat 8 rate,
      BitVec.ofNat 8 (b2n req)]
    h.setCn c { h.cn c with capBuf := b }

/-- Negotiation starts (R378 step 1). -/
def Hw.negStart (h : Hw) (c : Nat) : Hw :=
  let h1 := h.setCn c { h.cn c with heard := [], tmo := false }
  let h2 := ((h1.wr (CAN_NEG_STAT_DONE c) 0).wr (CAN_NEG_STAT_RATE c) 15).wr (CAN_NEG_STAT_HEARD c) 0
  h2.capSend c true 15

/-- DONE with a rate; the controller announces it where it decided itself (R378 steps 3 and 4). -/
def Hw.negDone (h : Hw) (c rate : Nat) (announce : Bool) : Hw :=
  let h1 := ((h.wr (CAN_NEG_STAT_RATE c) rate).wr (CAN_NEG_STAT_DONE c) 1).irq (PG_CAN c) 11
  h1.cond announce (·.capSend c false rate)

/-- Every expected node has been heard. -/
def Hw.allHeard (h : Hw) (c : Nat) : Bool :=
  let e := h.rd (CAN_NEG_EXP_EXP c)
  decide (h.rd (CAN_NEG_STAT_HEARD c) &&& e = e)

/-- Step 4: the rate over all masks heard, once TMO has passed and every expected node is heard. -/
def Hw.negDecide (h : Hw) (c : Nat) : Hw :=
  if (h.cn c).tmo && h.allHeard c && !h.on (CAN_NEG_STAT_DONE c) then
    h.negDone c (topRate ((h.cn c).heard.foldl (fun m p => m &&& p.2) (h.offered c))) true
  else h

/-- A frame is a capability frame of the configured base identifier. -/
def Hw.isCapability (h : Hw) (c : Nat) (f : CanFrame) : Bool :=
  !f.xtd && !f.fdf && !f.rtr && f.dlc.val = 4 && decide (h.rd (CAN_NEG_NEG_ID c) ≤ f.id.toNat) &&
    decide (f.id.toNat < h.rd (CAN_NEG_NEG_ID c) + 16)

/-- A capability frame is heard (R378, R379); after NEGFAIL nothing is decided until INIT is written 1. -/
def Hw.negHear (h : Hw) (c : Nat) (f : CanFrame) : Hw :=
  let b := fun i => (f.data.getD i 0).toNat
  let node := f.id.toNat - h.rd (CAN_NEG_NEG_ID c)
  let s := h.cn c
  let s1 := { s with heard := (node, b 1 % 32) :: s.heard.filter (fun p => decide (p.1 ≠ node)),
                     answerDue := s.answerDue || bit (b 3) 0 }
  let h1 := ((h.setCn c s1).wr (CAN_STAT_QUIET c) 0).wr (CAN_NEG_STAT_HEARD c)
    (setBitN (h.rd (CAN_NEG_STAT_HEARD c)) node true)
  let r := b 2
  let none' := decide (r % 16 = 15)
  if h1.on (CAN_NEG_STAT_NEGFAIL c) then h1
  else if h1.on (CAN_NEG_STAT_DONE c) then
    h1.cond (!none' && decide (r ≠ h1.rd (CAN_NEG_STAT_RATE c))) fun h =>
      (h.wr (CAN_NEG_STAT_RATECHG c) 1).irq (PG_CAN c) 12
  else if none' then h1.negDecide c
  else if bit (h1.offered c) r then h1.negDone c r false
  else ((h1.wr (CAN_NEG_STAT_NEGFAIL c) 1).blockFault (PG_CAN c) 11).irq (PG_CAN c) 12

/-- CAN_NEG_START: a write of NEG_STAT (R378, R379). -/
def negStartWrite (who : Who) (c : Nat) (w : Word) (h : Hw) : Hw :=
  h.opWrite who (PG_CAN c) fun h =>
    let h1 := (h.cond (getBits w 29 1 = 1) (·.wr (CAN_NEG_STAT_NEGMISS c) 0)).cond (getBits w 28 1 = 1)
      (·.wr (CAN_NEG_STAT_RATECHG c) 0)
    h1.cond (getBits w 24 1 = 1 && h1.on (CAN_CTL_NEGEN c) && h1.canLive c) (·.negStart c)

/-- CAN_NEG_TIMEOUT: the quiet phase ends; the rate is decided, or NEGMISS sets and step 1 repeats. -/
def negTimeout (c : Nat) (h : Hw) : Hw :=
  if !h.canLive c || !h.on (CAN_CTL_NEGEN c) || h.on (CAN_NEG_STAT_DONE c) || h.on (CAN_NEG_STAT_NEGFAIL c) then h
  else
    let h1 := (h.setCn c { h.cn c with tmo := true }).wr (CAN_STAT_QUIET c) 0
    if h1.allHeard c then h1.negDecide c
    else (h1.wr (CAN_NEG_STAT_NEGMISS c) 1).capSend c true 15

/-- CAN_CAPABILITY_ANSWER (R378 step 2). -/
def capAnswer (c : Nat) (h : Hw) : Hw :=
  if (h.cn c).answerDue && h.canLive c then
    (h.setCn c { h.cn c with answerDue := false }).capSend c false (h.rd (CAN_NEG_STAT_RATE c))
  else h

/-! ## Control (R377) -/

/-- NBT is in range. -/
def Hw.nbtOk (h : Hw) (c : Nat) : Bool :=
  let s1 := h.rd (CAN_NBT_NTSEG1 c) + 1
  let s2 := h.rd (CAN_NBT_NTSEG2 c) + 1
  let div := (h.rd (CAN_NBT_NBRP c) + 1) * (1 + s1 + s2)
  decide (80 ≤ div) && decide (div ≤ 640) && decide (2 ≤ s1) && decide (h.rd (CAN_NBT_NSJW c) + 1 ≤ s2)

/-- DBTk gives exactly the rate of its code. -/
def Hw.dbtOk (h : Hw) (c k : Nat) : Bool :=
  let s1 := h.rd (CAN_DBT_DTSEG1 c k) + 1
  let s2 := h.rd (CAN_DBT_DTSEG2 c k) + 1
  decide ((h.rd (CAN_DBT_DBRP c k) + 1) * (1 + s1 + s2) = [80, 40, 20, 16, 10].getD k 0) &&
    decide (h.rd (CAN_DBT_DSJW c k) + 1 ≤ s2)

/-- INIT = 0 is allowed (R377, R379). -/
def Hw.initOk (h : Hw) (c : Nat) : Bool :=
  let m := h.rd (CAN_NEG_MASK c)
  h.nbtOk c && (List.range 5).all (fun k => !bit m k || h.dbtOk c k) &&
    (h.on (CAN_CTL_NEGEN c) || ((List.range 5).filter (fun k => bit m k)).length = 1) &&
    !(h.on (CAN_CTL_LOM c) && h.canMaster c)

/-- The controller joins the bus after INIT = 0. -/
def Hw.canJoin (h : Hw) (c : Nat) : Hw :=
  let h1 := (h.wr (CAN_CTL_INIT c) 0).canAct c
  if h1.on (CAN_CTL_NEGEN c) then (h1.negStart c).wr (CAN_STAT_QUIET c) 1
  else h1.wr (CAN_NEG_STAT_RATE c) (topRate (h1.rd (CAN_NEG_MASK c)))

/-- CAN_CTL_WRITE: fields other than INIT only while INIT = 1. -/
def canCtl (who : Who) (c : Nat) (w : Word) (h : Hw) : Hw :=
  h.cfgWrite who (PG_CAN c) fun h =>
    let init := getBits w 0 1 = 1
    if h.on (CAN_CTL_INIT c) then
      let h1 := h.setNat (CAN_CTL c) (getBits w 1 4 * 2 + 1)
      if init then h1
      else if h1.initOk c then h1.canJoin c
      else h1.blockFault (PG_CAN c) 8
    else
      let h1 := h.cond (decide (getBits w 1 4 ≠ getBits (h.reg (CAN_CTL c)) 1 4)) (·.blockFault (PG_CAN c) 8)
      h1.cond init fun h =>
        (((h.wr (CAN_CTL_INIT c) 1).wr (CAN_STAT_ACT c) 0).wr (CAN_STAT_QUIET c) 0).wr (CAN_NEG_STAT_NEGFAIL c) 0

/-- A write of NBT, DBTk, NEG: only while INIT = 1. -/
def canTiming (who : Who) (c a : Nat) (w : Word) (mask : Word) (h : Hw) : Hw :=
  h.cfgWrite who (PG_CAN c) fun h =>
    if h.on (CAN_CTL_INIT c) then h.setReg a (w &&& mask) else h.blockFault (PG_CAN c) 8

/-! ## Reads of objects and queues (R383, R385) -/

/-- CAN_OBJECT_LOCK: a read of W0 of an unlocked RX object locks it for the reading agent. The words of an object of SSE or
RDN are read by those alone (R396): a requester reads 0 (DESIGN CHOICE, log entry 67). -/
def objRead0 (who : Who) (c n : Nat) (h : Hw) : Hw :=
  if h.absent (PG_CAN c) || h.rd (CAN_OBJn_W1_OWNER c n) ≠ 0 then h.answer [0]
  else
    let h1 := h.answer [h.reg (CAN_OBJn_W0 c n)]
    match who with
    | .keyway => h1
    | .agent a =>
      if h1.rd (CAN_OBJn_W0_TYPE c n) = canRx && !h1.on (CAN_OBJn_W3_LOCKED c n) && h1.objFree c n then
        let s := h1.cn c
        ((h1.setCn c { s with lastw := (n, h1.rd (CAN_OBJn_W1_LASTW c n)) :: s.lastw }).wr (CAN_OBJn_W3_LOCKED c n) 1).wr
          (CAN_OBJn_W3_LOCKAG c n) a.val
      else h1

/-- The address of word `k` of an object. -/
def objAddr (c n k : Nat) : Nat := CAN_OBJn_W0 c n + 4 * k

/-- CAN_OBJECT_UNLOCK: the locking agent reads LASTW; NEWDAT clears, the lock releases. -/
def objRead (who : Who) (c n k : Nat) (h : Hw) : Hw :=
  if k = 0 then objRead0 who c n h
  else if h.absent (PG_CAN c) || h.rd (CAN_OBJn_W1_OWNER c n) ≠ 0 then h.answer [0]
  else
    let h1 := h.answer [h.reg (objAddr c n k)]
    let mine := h1.on (CAN_OBJn_W3_LOCKED c n) && decide (who ≠ .keyway) &&
      h1.rd (CAN_OBJn_W3_LOCKAG c n) = who.num
    if mine && (h1.cn c).lastw.any (fun p => decide (p = (n, k))) then
      ((h1.wr (CAN_OBJn_W3_NEWDAT c n) 0).setObjBit (CAN_NEWDAT c 0) n false).objUnlock c n
    else h1

/-- CAN_LOCK_TIMEOUT. -/
def lockTimeout (c n : Nat) (h : Hw) : Hw :=
  if h.on (CAN_OBJn_W3_LOCKED c n) then ((h.wr (CAN_LOST_LOCKTO c) 1).irq (PG_CAN c) 8).objUnlock c n else h

/-- A reset of an agent releases its locks (R383). -/
def Hw.canAgentReset (h : Hw) (a : Nat) : Hw :=
  h.each (List.range 4) fun c h => h.each (h.cn c).lastw fun (p : Nat × Nat) h =>
    h.cond (h.rd (CAN_OBJn_W3_LOCKAG c p.1) = a) (·.objUnlock c p.1)

/-- CAN_QUEUE_POP: the head entry goes to the reader's holder; an empty queue reads VALID = 0. -/
def queuePop (who : Who) (c k : Nat) (h : Hw) : Hw :=
  let s := h.cn c
  match if k = 0 then s.q0 else s.q1 with
  | [] => h.answer [0]
  | e :: q =>
    let key := who.num + 16 * k
    let s1 := { s with popped := (key, e) :: s.popped.filter (fun p => decide (p.1 ≠ key)) }
    let h1 := h.setCn c (if k = 0 then { s1 with q0 := q } else { s1 with q1 := q })
    (h1.wr (if k = 0 then CAN_RQ_STAT_Q0LVL c else CAN_RQ_STAT_Q1LVL c) q.length).answer [e.headD 0]

/-- What CANn_RQk_Ww reads for a requester, w above 0. -/
def Hw.queueWord (h : Hw) (who c k w : Nat) : Word :=
  (((h.cn c).popped.find? (fun p => decide (p.1 = who + 16 * k))).map (fun p => p.2.getD w 0)).getD 0

/-! ## Writes of objects (R380, R386, R392) -/

/-- A write of word `k` of an object by an agent. -/
def objPut (who : Who) (c n k : Nat) (w : Word) (h : Hw) : Hw :=
  (if k = 0 ∨ h.rd (CAN_OBJn_W1_OWNER c n) ≠ 0 then h.cfgWrite who (PG_CAN c) else h.opWrite who (PG_CAN c)) fun h =>
    if !h.objFree c n then h.blockFault (PG_CAN c) 14
    else if k = 3 then
      let clr := fun (i : Nat) (f : Field) (h : Hw) => h.cond (getBits w i 1 = 1) (·.wr f 0)
      let h1 := clr 31 (CAN_OBJn_W3_NEWDAT c n) (clr 30 (CAN_OBJn_W3_LOST c n) (clr 29 (CAN_OBJn_W3_OVWR c n)
        (clr 22 (CAN_OBJn_W3_TXOK c n) (clr 21 (CAN_OBJn_W3_TXFAIL c n) h))))
      ((h1.setObjBit (CAN_NEWDAT c 0) n (h1.on (CAN_OBJn_W3_NEWDAT c n))).setObjBit (CAN_TXOK c 0) n
        (h1.on (CAN_OBJn_W3_TXOK c n))).setObjBit (CAN_TXFAIL c 0) n (h1.on (CAN_OBJn_W3_TXFAIL c n))
    else if h.on (CAN_OBJn_W3_TXRQ c n) then h.blockFault (PG_CAN c) 14
    else if k = 1 then
      let v := (w &&& 0xC7F80F00#32) ||| BitVec.ofNat 32 (lastWord (getBits w 8 4))
      h.setReg (CAN_OBJn_W1 c n) v
    else if k = 2 then
      if h.rd (CAN_OBJn_W0_TYPE c n) = canTt then h.setNat (CAN_OBJn_W2 c n) (getBits w 0 16) else h
    else h.setReg (objAddr c n k) w

/-- A W1C write of one of the sets TXOK, TXFAIL, NEWDAT, with the field of W3 it mirrors. -/
def setClear (who : Who) (c i a : Nat) (f : Nat → Field) (w : Word) (h : Hw) : Hw :=
  h.opWrite who (PG_CAN c) fun h =>
    h.each ((List.range 32).filter fun b => getBits w b 1 = 1) fun b h =>
      (h.setObjBit a (32 * i + b) false).wr (f (32 * i + b)) 0

/-! ## Transmission (R386 to R388) -/

/-- An object's TXRQ is set (R386 to R391). -/
def Hw.txOffer (h : Hw) (c n : Nat) : Hw :=
  if h.noKey then h.txFail c n 5
  else if h.on (CAN_STAT_BOFF c) && h.on (CAN_OBJn_W1_OS c n) then h.txFail c n 3
  else ((h.wr (CAN_OBJn_W3_SUSP c n) 0).wr (CAN_OBJn_W3_IDCOLCNT c n) 0).setTxrq c n true

/-- One TXRQ bit set by an agent. -/
def txAsk (c n : Nat) (h : Hw) : Hw :=
  if !h.objFree c n || decide (h.rd (CAN_OBJn_W0_TYPE c n) < canTx) then h.blockFault (PG_CAN c) 14
  else h.txOffer c n

/-- SSE (owner 1) or RDN (owner 2) writes a frame into an object of its own and requests it, under R386: an object that is
not its own, of another TYPE or still pending refuses it (R396). -/
def Hw.ownerSend (h : Hw) (owner c n dlc : Nat) (bytes : List Byte) : Hw :=
  if h.absent (PG_CAN c) then h
  else if h.rd (CAN_OBJn_W1_OWNER c n) ≠ owner ∨ h.rd (CAN_OBJn_W0_TYPE c n) ≠ canTx ∨ h.on (CAN_OBJn_W3_TXRQ c n) then
    h.blockFault (PG_CAN c) 14
  else
    let h1 := h.each ((packWords ((bytes ++ List.replicate 64 0).take 64)).zip (List.range 16)) fun (p : Word × Nat) h =>
      h.setReg (CAN_OBJn_DATA c n p.2) p.1
    ((h1.wr (CAN_OBJn_W1_DLC c n) dlc).wr (CAN_OBJn_W1_LASTW c n) (lastWord dlc)).txOffer c n

/-- CAN_TX_REQUEST. -/
def txRequest (who : Who) (c i : Nat) (w : Word) (h : Hw) : Hw :=
  h.opWrite who (PG_CAN c) fun h =>
    h.each ((List.range 32).filter fun b => getBits w b 1 = 1) fun b h => txAsk c (32 * i + b) h

/-- CAN_TX_CANCEL: a frame on the bus completes first. -/
def txCancel (who : Who) (c i : Nat) (w : Word) (onBus : Option Nat) (h : Hw) : Hw :=
  h.opWrite who (PG_CAN c) fun h =>
    h.each ((List.range 32).filter fun b => getBits w b 1 = 1) fun b h =>
      let n := 32 * i + b
      if !h.on (CAN_OBJn_W3_TXRQ c n) then h
      else if onBus = some n then h.setCn c { h.cn c with cancel := n :: (h.cn c).cancel }
      else h.txFail c n 6

/-- SSE (owner 1) or RDN (owner 2) finds a frame in its RX object and takes it, which frees the object (R396). -/
def Hw.ownerRead (h : Hw) (c n : Nat) : Hw :=
  (h.wr (CAN_OBJn_W3_NEWDAT c n) 0).setObjBit (CAN_NEWDAT c 0) n false

/-- A frame stands in an RX object of its owner. -/
def Hw.ownerHas (h : Hw) (owner c n : Nat) : Bool :=
  h.rd (CAN_OBJn_W1_OWNER c n) = owner && h.rd (CAN_OBJn_W0_TYPE c n) = canRx && h.on (CAN_OBJn_W3_NEWDAT c n)

/-- An object takes part in arbitration: pending, not suspended, a TT object once it has fired (R386, R388, R393). -/
def Hw.entersArb (h : Hw) (c n : Nat) : Bool :=
  let t := h.rd (CAN_OBJn_W0_TYPE c n)
  h.on (CAN_OBJn_W3_TXRQ c n) && !h.on (CAN_OBJn_W3_SUSP c n) && (t = canTx || (t = canTt && n ∈ (h.cn c).fired))

/-- The arbitration field of an object as a number, the earlier bit the higher: the lower number wins (ISO 11898-1). -/
def Hw.arbKey (h : Hw) (c n : Nat) : Nat :=
  let w0 := h.reg (CAN_OBJn_W0 c n)
  let rtr := getBits (h.reg (CAN_OBJn_W1 c n)) 22 1
  if getBits w0 29 1 = 1 then getBits w0 18 11 * 2 ^ 21 + 2 ^ 20 + 2 ^ 19 + getBits w0 0 18 * 2 + rtr
  else getBits w0 0 11 * 2 ^ 21 + rtr * 2 ^ 20

/-- Object `n` is the one that entered arbitration at the SOF: it beats every object that was in arbitration at the last
event of the bus; of those that came later the spec's commands do not tell on which side of the SOF (R386). No frame goes
out while a wake pattern waits on an idle bus (R394), or from a controller that may not send. -/
def Hw.onBus (h : Hw) (c n : Nat) : Bool :=
  h.entersArb c n && !h.canCountsHeld c && !(h.cn c).wupNext &&
    (h.cn c).cand.all fun m => m = n || !h.entersArb c m || decide (h.arbKey c n < h.arbKey c m) ||
      (h.arbKey c n = h.arbKey c m && decide (n < m))

/-- A frame has ended, or the controller has joined: the next SOF finds what is pending now. -/
def Hw.busEvent (h : Hw) (c : Nat) : Hw :=
  h.setCn c { h.cn c with cand := (List.range 128).filter (h.entersArb c), wupNext := (h.cn c).wup }

/-- An object goes out as a CAN FD frame: FDOE = 1 and FDF, never a remote frame (R376). -/
def Hw.sendsFd (h : Hw) (c n : Nat) : Bool :=
  h.on (CAN_CTL_FDOE c) && h.on (CAN_OBJn_W1_FDF c n) && getBits (h.reg (CAN_OBJn_W1 c n)) 22 1 = 0

/-- The bit rate may switch: negotiated, or without negotiation fixed, and not code 0xF (R378, R379). -/
def Hw.brsOk (h : Hw) (c : Nat) : Bool :=
  (!h.on (CAN_CTL_NEGEN c) || h.on (CAN_NEG_STAT_DONE c)) && h.rd (CAN_NEG_STAT_RATE c) ≠ 15

/-- The frame an object sends (R376, R378, R380). -/
def Hw.sentFrame (h : Hw) (c n stamp : Nat) : CanFrame :=
  let w0 := h.reg (CAN_OBJn_W0 c n)
  let w1 := h.reg (CAN_OBJn_W1 c n)
  let fd := h.sendsFd c n
  let len := min (dlcLen (getBits w1 8 4)) (if fd then 64 else 8)
  let rtr := getBits w1 22 1 = 1
  { xtd := getBits w0 29 1 = 1, id := BitVec.ofNat 29 (getBits w0 0 29), rtr := rtr, fdf := fd
    brs := fd && getBits w1 20 1 = 1 && h.brsOk c, esi := fd && (getBits w1 19 1 = 1 || h.on (CAN_STAT_EP c))
    dlc := Fin.ofNat 16 (getBits w1 8 4)
    data := if rtr then [] else ((List.range 16).flatMap fun k => leBytes 4 (h.nat (CAN_OBJn_DATA c n k))).take len
    stamp := BitVec.ofNat 32 stamp }

/-- Error-passive and warning flags, with the interrupt of a change (R389). -/
def Hw.canFlags (h : Hw) (c : Nat) : Hw :=
  let t := h.rd (CAN_ERR_TEC c)
  let ep := decide (127 < t) || h.on (CAN_ERR_RP c)
  let h1 := h.wr (CAN_STAT_EWARN c) (b2n (decide (96 ≤ t) || decide (96 ≤ h.rd (CAN_ERR_REC c)) || h.on (CAN_ERR_RP c)))
  (h1.wr (CAN_STAT_EP c) (b2n ep)).cond (h.on (CAN_STAT_EP c) != ep) (·.irq (PG_CAN c) 5)

/-- TT objects in arbitration fail with MISSED; those with CONT are armed again for the next cycle (R393). -/
def Hw.ttMissed (h : Hw) (c : Nat) : Hw :=
  h.each ((h.cn c).fired.filter fun n => h.on (CAN_OBJn_W3_TXRQ c n)) fun n h =>
    let k := h.on (CAN_OBJn_W1_CONT c n)
    (h.txFail c n 7).cond k (·.setTxrq c n true)

/-- CYCTIME restarts (R392, R393): TT objects still pending fail with MISSED; those with CONT are armed again. -/
def Hw.cycRestart (h : Hw) (c stamp : Nat) : Hw :=
  let h1 := h.ttMissed c
  (h1.setCn c { h1.cn c with fired := [], done := [], cycBase := stamp, counting := true }).wr (CAN_TIME_STAT_CYCTIME c) 0

/-- A reference message is on the bus (R392): every controller takes it. -/
def Hw.refTake (h : Hw) (c cnt stamp : Nat) : Hw :=
  let h1 := ((h.cycRestart c stamp).wr (CAN_TIME_STAT_CYCCNT c) cnt).setNat (CAN_REF_STAMP c) stamp
  ((h1.wr (CAN_TIME_STAT_REFOK c) 1).wr (CAN_TIME_STAT_LOCALT c) 0).irq (PG_CAN c) 9

/-- CAN_TX_COMPLETE: of the object that entered arbitration (R386). -/
def txComplete (c n stamp tdcv : Nat) (h : Hw) : Hw :=
  if !h.canLive c || !h.onBus c n then h
  else
    let s := { h.cn c with sent := some (h.sentFrame c n stamp) }
    let tt := h.rd (CAN_OBJn_W0_TYPE c n) = canTt
    let again := tt && h.on (CAN_OBJn_W1_CONT c n)
    let h1 := h.setCn c { s with cancel := s.cancel.filter (· ≠ n), fired := s.fired.filter (· ≠ n),
                                 refReq := s.refReq && decide (n ≠ 0) }
    let h2 := (((h1.setTxrq c n again).setObjBit (CAN_TXOK c 0) n true).wr (CAN_OBJn_W3_TXOK c n) 1).wr
      (CAN_OBJn_W3_IDCOLCNT c n) 0
    let h3 := (h2.cond (!tt) (·.setNat (CAN_OBJn_W2 c n) stamp)).irq (PG_CAN c) 3
    let h4 := h3.cond (h3.sendsFd c n) (·.wr (CAN_ERR_TDCV c) tdcv)
    let h5 := (h4.cond (!h4.canCountsHeld c) (fun h => h.wr (CAN_ERR_TEC c) (h.rd (CAN_ERR_TEC c) - 1))).canFlags c
    (h5.cond (h5.canMaster c && n = 0) (·.refTake c (getBits (h5.reg (CAN_OBJn_DATA c 0 0)) 0 8) stamp)).busEvent c

/-- CAN_ARBITRATION_LOST. -/
def arbLost (c n : Nat) (h : Hw) : Hw :=
  if !h.canLive c || !h.onBus c n then h
  else if n ∈ (h.cn c).cancel then (h.txFail c n 6).busEvent c
  else if h.on (CAN_OBJn_W1_OS c n) then (h.txFail c n 2).busEvent c
  else h.busEvent c

/-! ## Errors (R388, R389) -/

/-- The controller leaves the bus. -/
def Hw.busOff (h : Hw) (c : Nat) : Hw :=
  let h1 := ((((h.wr (CAN_STAT_BOFF c) 1).wr (CAN_STAT_ACT c) 0).wr (CAN_STAT_BORC c) 0).irq (PG_CAN c) 6).blockFault
    (PG_CAN c) 9
  h1.each ((List.range 128).filter fun n => h1.on (CAN_OBJn_W3_TXRQ c n) && h1.on (CAN_OBJn_W1_OS c n)) fun n h =>
    h.txFail c n 3

/-- The counters take an error; TEC above 255 is bus-off. -/
def Hw.canCount (h : Hw) (c : Nat) (k : CanCount) : Hw :=
  if h.canCountsHeld c then h
  else match k with
    | .none => h
    | .transmitter8 =>
      let t := h.rd (CAN_ERR_TEC c) + 8
      ((h.wr (CAN_ERR_TEC c) (min t 255)).canFlags c).cond (decide (255 < t)) (·.busOff c)
    | .receiver1 =>
      let r := h.rd (CAN_ERR_REC c) + 1
      ((h.wr (CAN_ERR_REC c) (min r 127)).cond (decide (127 < r)) (·.wr (CAN_ERR_RP c) 1)).canFlags c
    | .receiver8 =>
      let r := h.rd (CAN_ERR_REC c) + 8
      ((h.wr (CAN_ERR_REC c) (min r 127)).cond (decide (127 < r)) (·.wr (CAN_ERR_RP c) 1)).canFlags c

/-- An identifier collision of an object (R388). -/
def Hw.collision (h : Hw) (c n : Nat) : Hw :=
  let h1 := (h.bump (CAN_IDCOL_COUNT c) 1).wr (CAN_IDCOL_LOBJ c) n
  if h1.on (CAN_OBJn_W1_OS c n) then h1.txFail c n 4
  else
    let k := h1.rd (CAN_OBJn_W3_IDCOLCNT c n) + 1
    let h2 := h1.wr (CAN_OBJn_W3_IDCOLCNT c n) (min k 3)
    h2.cond (decide (3 ≤ k)) fun h =>
      let h3 := h.setCn c { h.cn c with fired := (h.cn c).fired.filter (· ≠ n) }
      ((((h3.setTxrq c n false).wr (CAN_OBJn_W3_SUSP c n) 1).wr (CAN_OBJn_W3_FAILCAUSE c n) 4).blockFault (PG_CAN c)
        10).irq (PG_CAN c) 7

/-- CAN_BUS_ERROR. -/
def busError (c kind : Nat) (dataPhase : Bool) (tx : Option Nat) (won : Bool) (k : CanCount) (h : Hw) : Hw :=
  if !h.canLive c then h
  else
    let h1 := h.wr (if dataPhase then CAN_ERR_DLEC c else CAN_ERR_LEC c) kind
    let own := tx.filter (h.onBus c)
    let h2 := match own with
      | none => h1
      | some n =>
        if won && decide (kind = 4 ∨ kind = 5) then h1.collision c n
        else if h1.on (CAN_OBJn_W1_OS c n) then h1.txFail c n 1
        else h1
    let h3 := match own with
      | some n => if n ∈ (h2.cn c).cancel && h2.on (CAN_OBJn_W3_TXRQ c n) then h2.txFail c n 6 else h2
      | none => h2
    (h3.canCount c k).busEvent c

/-- CAN_BUSOFF_RECOVERY: 128 sequences of 11 recessive bits have been counted. -/
def busRecover (c : Nat) (h : Hw) : Hw :=
  if h.on (CAN_STAT_BOFF c) then
    let h1 := ((h.wr (CAN_STAT_BOFF c) 0).wr (CAN_STAT_BORC c) 128).irq (PG_CAN c) 6
    (((((h1.wr (CAN_ERR_TEC c) 0).wr (CAN_ERR_REC c) 0).wr (CAN_ERR_RP c) 0).canFlags c).canAct c).busEvent c
  else h

/-- A good reception lowers REC (ISO 11898-1, R389): by 1, or from above 127 to a value from 119 to 127 that the
standard leaves open (log entry 4). -/
def Hw.recGood (h : Hw) (c : Nat) : Hw :=
  if h.canCountsHeld c then h
  else if h.on (CAN_ERR_RP c) then
    (h.free fun v h => (h.wr (CAN_ERR_REC c) (119 + v.toNat % 9)).wr (CAN_ERR_RP c) 0).canFlags c
  else (h.wr (CAN_ERR_REC c) (h.rd (CAN_ERR_REC c) - 1)).canFlags c

/-- A frame is a reference: REFID and XTD alone decide (R392). -/
def Hw.isReference (h : Hw) (c : Nat) (f : CanFrame) : Bool :=
  getBits (h.cn c).refid 31 1 = b2n f.xtd && getBits (h.cn c).refid 0 29 = f.id.toNat

/-- A reference of another node: CYCCNT takes byte 0, which is a free value where the frame carries none (log entry 67);
MASTCOL in a master (R392). -/
def Hw.refHear (h : Hw) (c : Nat) (f : CanFrame) : Hw :=
  let h1 := match f.data with
    | b :: _ => h.refTake c b.toNat f.stamp.toNat
    | [] => h.free fun w h => h.refTake c (w.toNat % 256) f.stamp.toNat
  h1.cond (h1.canMaster c) fun h =>
    ((h.wr (CAN_TIME_STAT_MASTCOL c) 1).blockFault (PG_CAN c) 12).setCn c { h.cn c with refStop := true }

/-- CAN_FRAME_RECEIVE (R378, R381, R392). With FDOE = 0 an FD frame is a form error (R376). -/
def frameReceive (c : Nat) (f : CanFrame) (h : Hw) : Hw :=
  if !h.canLive c then h
  else if f.fdf && !h.on (CAN_CTL_FDOE c) then ((h.wr (CAN_ERR_LEC c) 2).canCount c .receiver1).busEvent c
  else
    let h1 := (h.recGood c).cond (h.on (CAN_CTL_NEGEN c) && h.isCapability c f) (·.negHear c f)
    ((h1.cond (h1.isReference c f) (·.refHear c f)).canFilter c f).busEvent c

/-! ## Network time and wake pattern (R392 to R394) -/

/-- CAN_REFERENCE_REQUEST: object 0 takes the next reference and becomes pending, unless it is suspended (R388). -/
def refRequest (c : Nat) (h : Hw) : Hw :=
  let s := h.cn c
  if !h.canMaster c || s.refStop || !h.canLive c || h.canSilent c || h.on (CAN_OBJn_W3_SUSP c 0) then h
  else
    let cnt := (s.refCnt + 1) % 256
    let x := getBits s.refid 31 1
    let h1 := h.setCn c { s with refReq := true, refCnt := cnt }
    let h2 := (h1.setNat (CAN_OBJn_W0 c 0) (0x80000000 + x * 0x20000000 + getBits s.refid 0 29)).setNat
      (CAN_OBJn_W1 c 0) (0x200 + 4)
    (h2.setNat (CAN_OBJn_DATA c 0 0) (cnt + 256 * getBits s.time 30 1)).setTxrq c 0 true

/-- CAN_TT_FIRE: the object enters arbitration; nothing fires without a reference, real or virtual (R393). -/
def ttFire (c n : Nat) (h : Hw) : Hw :=
  let s := h.cn c
  let dead := !h.on (CAN_TIME_STAT_REFOK c) && !h.on (CAN_TIME_STAT_LOCALT c)
  if h.rd (CAN_OBJn_W0_TYPE c n) = canTt && h.on (CAN_OBJn_W3_TXRQ c n) && n ∉ s.fired && n ∉ s.done && h.canLive c &&
      !dead then
    (h.setCn c { s with fired := n :: s.fired, done := n :: s.done }).wr (CAN_TIME_STAT_CYCTIME c)
      (getBits (h.reg (CAN_OBJn_W2 c n)) 0 16)
  else h

/-- CAN_REF_LOST. -/
def refLost (c : Nat) (h : Hw) : Hw :=
  if !h.canLive c then h
  else
    let h1 := ((h.wr (CAN_TIME_STAT_REFLOST c) 1).wr (CAN_TIME_STAT_REFOK c) 0).irq (PG_CAN c) 10
    if getBits (h1.cn c).time 29 1 = 1 then h1.wr (CAN_TIME_STAT_LOCALT c) 1
    else h1.ttMissed c

/-- CAN_VIRTUAL_REFERENCE: CYCTIME restarts, CYCCNT steps. -/
def virtualRef (c : Nat) (h : Hw) : Hw :=
  if h.on (CAN_TIME_STAT_LOCALT c) && h.canLive c then
    (h.cycRestart c (h.nat PST_TB_CNT_LO)).wr (CAN_TIME_STAT_CYCCNT c) ((h.rd (CAN_TIME_STAT_CYCCNT c) + 1) % 256)
  else h

/-- CAN_WAKE_PATTERN_REQUEST. -/
def wakeAsk (who : Who) (c : Nat) (w : Word) (h : Hw) : Hw :=
  h.opWrite who (PG_CAN c) fun h =>
    if getBits w 0 1 = 1 && !h.on (CAN_CTL_INIT c) && !h.on (CAN_CTL_LOM c) && !h.noKey then
      h.setCn c { h.cn c with wup := true }
    else h

/-- CAN_WAKE_PATTERN_SENT. -/
def wakeSent (c : Nat) (h : Hw) : Hw :=
  if (h.cn c).wup && h.canLive c then
    ((h.setCn c { h.cn c with wup := false }).irq (PG_CAN c) 14).busEvent c
  else h

/-- CYCTIME in µs since the last reference, saturating; it counts whether or not references still come (R392). -/
def Hw.cycTime (h : Hw) (c : Nat) : Hw :=
  let age := (diff32 (h.nat PST_TB_CNT_LO) (h.cn c).cycBase % 4294967296).toNat / 400
  h.cond ((h.cn c).counting && decide (h.rd (CAN_TIME_STAT_CYCTIME c) < 0xFFFF)) (·.wr (CAN_TIME_STAT_CYCTIME c) (satN 16 age))

/-- STAT.BORC counts the recessive sequences of a recovery: how many have passed at a T0 is the bus's to say, a free value
from the last one shown to 127 (R389, log entry 67). -/
def Hw.borcCount (h : Hw) (c : Nat) : Hw :=
  h.cond (h.on (CAN_STAT_BOFF c)) fun h =>
    let b := h.rd (CAN_STAT_BORC c)
    h.free fun w h => h.wr (CAN_STAT_BORC c) (b + w.toNat % (128 - min b 127))

/-- What a T0 shows in the CAN pages. -/
def Hw.canT0 (h : Hw) : Hw :=
  h.each ((List.range 4).filter fun c => !h.absent (PG_CAN c)) fun c h => (h.cycTime c).borcCount c

/-! ## Swap, bolt, PARKED (R395, R397) -/

/-- The TIME set in the registers is invalid. -/
def Hw.timeBad (h : Hw) (c : Nat) : Bool :=
  let m := h.on (CAN_TIME_MASTER c)
  h.rd (CAN_TIME_REF_PER c) = 0 || (m && h.on (CAN_CTL_LOM c)) ||
    (m && h.on (CAN_TIME_ALIGN c) &&
      decide (h.rd (CAN_TIME_REF_PER c) * 400 ≠ h.rd (CAN_TIME_REF_DIV c) * (h.pst.curPer * h.pst.posDiv)))

/-- An enabled filter that names an object that is not of TYPE RX, or a master's object 0. -/
def Hw.filterBad (h : Hw) (c j : Nat) : Bool :=
  let o := h.rd (CAN_FLTj_ACT_OBJ c j)
  h.on (CAN_FLTj_MATCH_EN c j) && h.rd (CAN_FLTj_ACT_ACT c j) = 0 &&
    (h.rd (CAN_OBJn_W0_TYPE c o) ≠ canRx || (o = 0 && h.canMaster c))

/-- The TIME set in the registers comes into force; MASTER written again lets references run (R392). -/
def Hw.timeTaken (h : Hw) (c : Nat) : Hw :=
  h.setCn c { h.cn c with time := h.reg (CAN_TIME c), refid := h.reg (CAN_REFID c), refStop := false }

/-- CAN after a swap: an invalid TIME set leaves the previous one standing; invalid filters are held. -/
def Hw.canSwap (h : Hw) (c : Nat) : Hw :=
  let tb := h.timeBad c
  let h1 := if tb then h else h.timeTaken c
  let bad := (List.range 64).filter (h1.filterBad c)
  ((h1.setCn c { h1.cn c with held := bad }).cond (tb || decide (bad ≠ [])) (·.blockFault (PG_CAN c) 8)).queueWatch c

end Sys2Proof.Machine
end

