-- ==== Sys2Proof/Machine/Jerk.lean ====
section
/-! DEFINITION. The arithmetic of the profile generator (R176, R184, R189): exact integration over one period, the
earliest jerk-limited stop, the choice of the jerk. Units: time in TMR cycles of 2.5 ns, jerk in JMAX LSB; an
acceleration of 1 is one jerk LSB for one cycle, speeds are held in halves and positions in sixths of theirs, so that
R176's three sums are exact integers. -/

namespace Sys2Proof.Machine

/-- One LSB of acceleration, speed and position (R175) in these units. -/
def unitA : Int := 100000000
def unitV : Int := 80000000000000000
def unitP : Int := 24000000000000000000000000

/-- Planned state of an axis. -/
structure Plan where
  p : Int
  v : Int
  a : Int
  deriving DecidableEq, Repr

/-- R176 over `n` cycles at jerk `j`. -/
def Plan.step (s : Plan) (j n : Int) : Plan :=
  { p := s.p + 3 * s.v * n + 3 * s.a * n * n + j * n * n * n
    v := s.v + 2 * s.a * n + j * n * n
    a := s.a + j * n }

def Plan.neg (s : Plan) : Plan := ⟨-s.p, -s.v, -s.a⟩

/-- Integer square root, bit by bit from bit `k - 1`. -/
def isqrtBits (n : Nat) : Nat → Nat → Nat
  | 0, r => r
  | k + 1, r => if (r + 2 ^ k) * (r + 2 ^ k) ≤ n then isqrtBits n k (r + 2 ^ k) else isqrtBits n k r

/-- Floor of the square root of a number below 2^256. -/
def isqrt (n : Nat) : Nat := isqrtBits n 128 0

/-- Speed that remains when the acceleration has run out at full jerk. -/
def Plan.vend (s : Plan) (J : Int) : Int := s.v + s.a * (s.a.natAbs : Int) / J

/-- An exact state, in the units of `Plan`. -/
structure Exact where
  p : Frac
  v : Frac
  a : Frac
  deriving DecidableEq, Repr

def Plan.exact (s : Plan) : Exact := ⟨.ofInt s.p, .ofInt s.v, .ofInt s.a⟩

/-- R176 over a time that need not be whole cycles. -/
def Exact.step (s : Exact) (j : Int) (t : Frac) : Exact :=
  let t2 := Frac.mul t t
  let jt := Frac.mul (.ofInt j) t
  { p := Frac.add (Frac.add s.p (Frac.mul (.ofInt 3) (Frac.mul s.v t))) (Frac.add (Frac.mul (.ofInt 3) (Frac.mul s.a t2))
      (Frac.mul jt t2))
    v := Frac.add s.v (Frac.add (Frac.mul (.ofInt 2) (Frac.mul s.a t)) (Frac.mul jt t))
    a := Frac.add s.a jt }

/-- The times of the earliest stop of a state that moves forward (R178, R184), each in cycles: at jerk `first` to the
largest acceleration, at that acceleration, at the opposite jerk or at J to rest. A braking above a lowered D first comes
down to D at J. Where the braking cannot be brought to 0 before the speed is (a lowered J), the speed passes 0 and the
same rule stops the motion that follows. The last component is the sign of the last jerk. -/
def Plan.stopTimes (s : Plan) (D J : Int) : Int × Frac × Frac × Frac × Int :=
  let excess := J * s.v - s.a * s.a
  if s.a < 0 ∧ excess < 0 then
    if 2 * D * D < -excess then (J, ⟨D - s.a, J⟩, ⟨-excess - 2 * D * D, 2 * J * D⟩, ⟨D, J⟩, -1)
    else
      let ap : Frac := ⟨isqrt ((-excess) * 2 ^ 63).toNat, 2 ^ 32⟩
      (J, Frac.div (Frac.sub ap (.ofInt s.a)) (.ofInt J), ⟨0, 1⟩, Frac.div ap (.ofInt J), -1)
  else if D < -s.a then (J, ⟨-s.a - D, J⟩, ⟨excess, 2 * J * D⟩, ⟨D, J⟩, 1)
  else
    let q := (isqrt ((J * s.v + s.a * s.a) * 2 ^ 63).toNat : Int)
    if D * 2 ^ 32 < q then
      (-J, ⟨s.a + D, J⟩, ⟨J * s.v + s.a * s.a - 2 * D * D, 2 * J * D⟩, ⟨D, J⟩, 1)
    else
      let ap : Frac := if q < -s.a * 2 ^ 32 then .ofInt (-s.a) else ⟨q, 2 ^ 32⟩
      (-J, Frac.div (Frac.add (.ofInt s.a) ap) (.ofInt J), ⟨0, 1⟩, Frac.div ap (.ofInt J), 1)

/-- The earliest jerk-limited stop of a state that moves forward: its time in cycles and its position (R184). -/
def Plan.stopAt (s : Plan) (D J : Int) : Frac × Frac :=
  let (first, t1, t2, t3, last) := s.stopTimes D J
  (Frac.add t1 (Frac.add t2 t3), (((s.exact.step first t1).step 0 t2).step (last * J) t3).p)

/-- The largest number in [lo, hi) that keeps a falling predicate, `lo` where none above it does. -/
def bisect (P : Int → Bool) : Nat → Int → Int → Int
  | 0, lo, _ => lo
  | k + 1, lo, hi =>
    let m := (lo + hi) / 2
    if hi - lo ≤ 1 then lo else if P m then bisect P k m hi else bisect P k lo m

/-- The lowest jerk that keeps the acceleration at or above -D. -/
def jerkFloor (s : Plan) (D J n : Int) : Int := max (-J) (min J (-((s.a + D) / n)))

/-- The jerk of a move forward (R176, R188; log entry 8): the largest that keeps the acceleration at most A, the speed it
leads to at most V and the earliest stop at or before the target. -/
def jerkMove (s : Plan) (V A D J n tgt : Int) : Int :=
  let ok := fun j =>
    let s1 := s.step j n
    decide (s1.a ≤ A) && decide (s1.vend J ≤ V) && Frac.le (s1.stopAt D J).2 (.ofInt tgt)
  let lo := jerkFloor s D J n
  if ok J then J else bisect ok 40 lo J

/-- The jerk of a stop (R185): the lowest that does not lead below speed 0. -/
def jerkStop (s : Plan) (D J n : Int) : Int :=
  let under := fun j => decide ((s.step j n).vend J < 0)
  let lo := jerkFloor s D J n
  if under lo then min J (bisect under 40 lo J + 1) else lo

/-- Sign of the motion: of the speed, or of the acceleration at speed 0 (R184). -/
def Plan.dir (s : Plan) : Int := if s.v ≠ 0 then s.v.sign else s.a.sign

/-- The earliest stop in either direction: time, position. -/
def Plan.stop (s : Plan) (D J : Int) : Frac × Frac :=
  if s.dir < 0 then
    let r := s.neg.stopAt D J
    (r.1, ⟨-r.2.num, r.2.den⟩)
  else s.stopAt D J

/-- Window distance of a speed in position LSB (R189); speeds and limits in their own LSB. -/
def windowDist (v D J : Nat) : Nat :=
  if D * D ≤ 4 * v * J then satN 32 ((Frac.add ⟨2 * v * v, D⟩ ⟨v * D, 2 * J⟩).round.toNat)
  else satN 32 ((isqrt (16 * v * v * v / J) + 1) / 2)

end Sys2Proof.Machine
end

