-- ==== Sys2Proof/Machine/Position.lean ====
section
/-! DEFINITION. Position and speed feedback: quadrature and serial channels, discrete inputs, emulation, the tumbler
check, loss and the fed source (R120 to R147), and the Ward's own position and speed values (R325). -/

namespace Sys2Proof.Machine

/-! ## Access to the channels -/

def Hw.q (h : Hw) (n : Nat) : QChan := h.pos.q.getD n QChan.init
def Hw.setQ (h : Hw) (n : Nat) (c : QChan) : Hw := { h with pos := { h.pos with q := h.pos.q.set n c } }
def Hw.s (h : Hw) (n : Nat) : SChan := h.pos.s.getD n SChan.init
def Hw.setS (h : Hw) (n : Nat) (c : SChan) : Hw := { h with pos := { h.pos with s := h.pos.s.set n c } }

/-- A quadrature channel is enabled and not held (R120, R147). -/
def Hw.qLive (h : Hw) (n : Nat) : Bool := h.on (POS_Qn_CTL_EN n) && !(h.q n).held

/-- It counts: its samples are taken unless the mode holds POS (R108). -/
def Hw.qCounts (h : Hw) (n : Nat) : Bool := h.qLive n && !h.motionHeld

/-- A serial channel is enabled and not held. -/
def Hw.sLive (h : Hw) (n : Nat) : Bool := h.on (POS_Sn_CTL_EN n) && !(h.s n).held

/-- An emulation output. -/
def Hw.em (h : Hw) (k : Nat) : Emu := h.pos.emu.getD k Emu.init
def Hw.setEm (h : Hw) (k : Nat) (e : Emu) : Hw := { h with pos := { h.pos with emu := h.pos.emu.set k e } }

/-- CPR = 0 names a wrap at 2^32 (R123). -/
def cprOf (n : Nat) : Nat := if n = 0 then 4294967296 else n

/-- CNT and REV of an extended count (R123). -/
def QChan.cnt (c : QChan) : Nat := (c.ext % (c.cpr : Int)).toNat
def QChan.rev (c : QChan) : Int := c.ext / (c.cpr : Int)

/-- The extended count with REV wrapped in two's complement (R123). -/
def QChan.at (c : QChan) (e : Int) : QChan :=
  { c with ext := signed 32 (e / (c.cpr : Int) % 4294967296).toNat * c.cpr + e % (c.cpr : Int) }

/-! ## Decoding (R121, R122, R126, R128) -/

/-- The place of a pair of levels in the up sequence 00, 10, 11, 01. -/
def quadPlace (a b : Bool) : Nat := if a then (if b then 2 else 1) else if b then 3 else 0

/-- What a filtered transition is: none, up, down or illegal. -/
inductive QuadStep where
  | none
  | up
  | down
  | illegal
  deriving DecidableEq, Repr

/-- SWAPAB exchanges A and B, which turns the sequence round (R121). -/
def quadStep (c : QChan) (swap a b : Bool) : QuadStep :=
  match (quadPlace a b + 4 - quadPlace c.a c.b) % 4 with
  | 0 => .none
  | 1 => if swap then .down else .up
  | 3 => if swap then .up else .down
  | _ => .illegal

/-- One count of a decoder: a direction change empties the ring but for its newest edge, the first count in the new
direction (R128). -/
def QChan.count (c : QChan) (down : Bool) (stamp : Nat) : QChan :=
  let c1 := c.at (if down then c.ext - 1 else c.ext + 1)
  let turned := c.down != down
  { c1 with down := down, reversed := c.reversed || turned, edge := true,
            ring := ⟨stamp, c1.ext⟩ :: (if turned then [] else c.ring.take 63) }

/-- The level that the majority of the newest `n` samples shows; bit 0 is the newest (R120). -/
def majority (n : Nat) (w : BitVec 5) : Bool :=
  decide (n / 2 < ((List.range n).filter fun i => w.getLsbD i).length)

/-- How many of the last five samples, `step` cycles apart, came after the enable; the newest did. -/
def QChan.since (c : QChan) (stamp step : Nat) : Nat :=
  1 + ([1, 2, 3, 4].filter fun i => decide (c.before + i * step < stamp)).length

/-- The filter window: older samples than the enable's first count as that sample (R120). -/
def window (k : Nat) (w : BitVec 5) : BitVec 5 := BitVec.ofNat 5 (maskOf 5 fun i => w.getLsbD (min i (k - 1)))

/-- At its first sample since the enable a channel takes the levels of the enable's first sample (R120). -/
def QChan.begin (c : QChan) (k : Nat) (a b : BitVec 5) : QChan :=
  if c.first && decide (k < 5) then { c with a := a.getLsbD (k - 1), b := b.getLsbD (k - 1), first := false }
  else { c with first := false }

/-- A decoder takes a transition. -/
def QChan.take (c : QChan) (swap a b : Bool) (stamp : Nat) : QChan :=
  let c' := match quadStep c swap a b with
    | .none => c
    | .up => c.count false stamp
    | .down => c.count true stamp
    | .illegal => { c with illegal := c.illegal + 1 }
  { c' with a := a, b := b }

/-- An emulation output takes one source count (R137): the divider, the backlog, its overflow. -/
def emuCount (k : Nat) (up : Bool) (h : Hw) : Hw :=
  let e := h.em k
  let n : Int := h.rd (POS_EMUk_RATIO_N k)
  let m : Int := h.rd (POS_EMUk_RATIO_M k)
  let r0 := if up then e.r + n else e.r - n
  let r := if up then (if m ≤ r0 then r0 - m else r0) else (if r0 < 0 then r0 + m else r0)
  let b := if up then (if m ≤ r0 then e.backlog + 1 else e.backlog) else (if r0 < 0 then e.backlog - 1 else e.backlog)
  let beyond := decide (255 < b.natAbs)
  let b' := if beyond then e.backlog else b
  ((h.setEm k { e with r := r, backlog := b' }).wr (POS_EMUk_STAT_BACKLOG k) (b' % 512).toNat).cond beyond
    (·.wr (POS_EMUk_STAT_OVF k) 1)

/-- An emulation output is live: enabled, not held, POS not bolted (R138). -/
def Hw.emuLive (h : Hw) (k : Nat) : Bool := h.on (POS_EMUk_CTL_EN k) && !(h.em k).held && !h.bolted PG_POS

/-- The live emulation outputs that follow a channel. -/
def Hw.emusOf (h : Hw) (n : Nat) : List Nat :=
  (List.range 2).filter fun k => h.emuLive k && h.rd (POS_EMUk_CTL_SRC k) = n

/-- The Ward's own decoder takes the samples (R325): 3 of them, 20 ns apart, whatever POS_Qn_CTL says; more than 4 illegal
transitions in one window of its channel set MENCLOST. -/
def Hw.wardQuad (h : Hw) (n : Nat) (a b : BitVec 5) (stamp : Nat) : Hw :=
  if n < 2 then
    let c := h.sis.wq.getD n QChan.init
    let c' := c.take false (majority 3 a) (majority 3 b) (stamp - 16)
    { h with sis := { h.sis with wq := h.sis.wq.set n c' } }.cond
      (h.rd SIS_MENC_SRC = n && decide (4 < c'.illegal) && decide (c.illegal < c'.illegal)) (·.raise PG_SIS 15)
  else h

/-- QUAD_COUNT (R120, R121, R122, R137). A channel that is off takes the levels of the newest sample and counts nothing;
samples from before the enable are out of the window; an edge is stamped less the filter delay (R128); the transition
beyond QILL_LIMIT is a feedback fault at once. -/
def quadTake (n : Nat) (a b : BitVec 5) (stamp : Nat) (h : Hw) : Hw :=
  let h0 := h.wardQuad n a b stamp
  if !h0.qCounts n then
    h0.setQ n { h0.q n with a := a.getLsbD 0, b := b.getLsbD 0, before := max (h0.q n).before stamp, first := true }
  else
    let step := h0.rd (POS_Qn_CTL_FDIV n) + 1
    let k := (h0.q n).since stamp step
    let c := (h0.q n).begin k a b
    let w := if h0.on (POS_Qn_CTL_FMAJ n) then 5 else 3
    let fa := majority w (window k a)
    let fb := majority w (window k b)
    let sw := h0.on (POS_Qn_CTL_SWAPAB n)
    let c' := c.take sw fa fb (stamp - step * (w / 2 + 1))
    let h1 := h0.setQ n c'
    match quadStep c sw fa fb with
    | .none => h1
    | .illegal =>
      let h2 := ((h1.setNat (POS_Qn_ILLEG n) (min 65535 (h1.nat (POS_Qn_ILLEG n) + 1))).wr (POS_Qn_STAT_ILL n) 1).irq
        PG_POS (4 * n + 1)
      h2.cond (decide (h2.rd (POS_Qn_IDXCFG_QILL_LIMIT n) < c'.illegal)) (·.wr (POS_Qn_STAT_QFLT n) 1)
    | _ =>
      let h2 := h1.setNat (POS_Qn_CNT_LIVE n) c'.cnt
      let h3 := if c.down != c'.down then (h2.wr (POS_Qn_STAT_DIR n) (b2n c'.down)).irq PG_POS (4 * n) else h2
      h3.each (h3.emusOf n) fun k h => emuCount k (!c'.down) h

/-- A and B of a channel as AON sees them while the parked watch runs (R70): from its snapshot on it counts up and down,
and 2 where both changed; the direction of that is not stated (a free value). -/
def Hw.parkedCount (h : Hw) (n : Nat) (a b : Bool) : Hw :=
  if (h.cpr.parkAt || h.mode = 3) && h.on CPR_PW_CFG_EN && n = h.rd CPR_PW_CFG_SRC then
    let put := fun (k : Int) (h : Hw) =>
      let m := h.cpr.pwCount + k
      { h with cpr := { h.cpr with pwA := a, pwB := b, pwCount := m } }.wr CPR_PW_STAT_MOVED (satN 16 m.natAbs)
    match quadStep { QChan.init with a := h.cpr.pwA, b := h.cpr.pwB } false a b with
    | .none => h
    | .up => put 1 h
    | .down => put (-1) h
    | .illegal => h.free fun w h => put (if w.toNat % 2 = 0 then 2 else -2) h
  else h

/-- A and B of a channel are sampled: by the parked watch in AON, and by POS and the Ward where their clocks run. -/
def quadEvent (n : Nat) (a b : BitVec 5) (stamp : Nat) (h : Hw) : Hw :=
  let h1 := h.parkedCount n (majority 3 a) (majority 3 b)
  if h1.fabricOn then quadTake n a b stamp h1 else h1

/-- ILLEGAL_WINDOW_END (R121, R325): the counts of the 1 ms windows start again. -/
def illegalEnd (n : Nat) (h : Hw) : Hw :=
  let h1 := h.setQ n { h.q n with illegal := 0 }
  if n < 2 then
    { h1 with sis := { h1.sis with wq := h1.sis.wq.set n { h1.sis.wq.getD n QChan.init with illegal := 0 } } }
  else h1

/-! ## Index (R124 to R127) -/

/-- The deviation d of a count from the expected index count (R125). -/
def indexDev (c : QChan) (exp : Nat) : Int :=
  let C : Int := c.cpr
  ((c.cnt : Int) - exp + C / 2) % C - C / 2

/-- The filtered index of a channel takes a level, and EMUk_Z with it (R124, R137). -/
def Hw.indexLevel (h : Hw) (n : Nat) (level : Bool) : Hw :=
  (h.setQ n { h.q n with z := level }).each ((h.emusOf n).filter fun k => h.on (POS_EMUk_CTL_IDXEN k)) fun k h =>
    h.setEm k { h.em k with z := level }

/-- INDEX_EVENT (R124 to R127): an edge into the active level. -/
def indexTake (n : Nat) (level : Bool) (since : Nat) (illegal : Bool) (h0 : Hw) : Hw :=
  let h := h0.indexLevel n level
  let m := h.rd (POS_Qn_CTL_IDX_MODE n)
  let edge := (h0.q n).z != level && level != h.on (POS_Qn_CTL_IDXPOL n)
  if !h.qCounts n || !edge || m = 0 || m = 3 then h
  else if illegal then h.wr (POS_Qn_STAT_IDXSKIP n) 1
  else
    let c := h.q n
    let d := indexDev c (h.nat (POS_Qn_IDXEXP n))
    let h1 := h.setInt (POS_Qn_IDXDEV n) d
    let window := c.reversed && decide (since ≤ 2)
    let first := m = 2 && !h.on (POS_Qn_STAT_IDXREF n)
    let near := decide (d.natAbs ≤ h.rd (POS_Qn_IDXCFG_IDX_TOL n))
    let snap := fun (h : Hw) =>
      let c' := c.at (c.ext - d)
      (h.setQ n c').setNat (POS_Qn_CNT_LIVE n) c'.cnt
    let err := fun (h : Hw) =>
      ((h.wr (POS_Qn_STAT_IDXERR n) 1).irq PG_POS (4 * n + 3)).cond (h.on (POS_Qn_CTL_IDX_FAULT n))
        (·.wr (POS_Qn_STAT_QFLT n) 1)
    if first then
      if window then h1.wr (POS_Qn_STAT_IDXSKIP n) 1 else (snap h1).wr (POS_Qn_STAT_IDXREF n) 1
    else if !near then err h1
    else if window then h1.wr (POS_Qn_STAT_IDXSKIP n) 1
    else (snap h1).cond (decide (d ≠ 0)) (fun h => (h.wr (POS_Qn_STAT_IDXCOR n) 1).irq PG_POS (4 * n + 2))

/-- COUNT_PRESET (R127). -/
def presetWrite (who : Who) (n : Nat) (w : Word) (h : Hw) : Hw :=
  h.opWrite who PG_POS fun h => h.setQ n { h.q n with preset := some w.toNat }

/-! ## Speed (R128, R129) -/

/-- Speed from a ring at a T0, as a rational number of counts per second, with SPDZERO and SPDSHORT. Stamps are in
2.5 ns units, the window in µs, the age limit in ms. -/
def edgeSpeed (ring : List Edge) (t0 winUs tmaxMs : Nat) : Int × Nat × Bool × Bool :=
  match ring.filter (fun e => decide (e.stamp ≤ t0)) with
  | [] => (0, 1, true, true)
  | e :: es =>
    let age := t0 - e.stamp
    let far := es.find? (fun f => decide (winUs * 400 ≤ e.stamp - f.stamp))
    let f := far.getD (es.getLastD e)
    let de := e.ext - f.ext
    let dt := e.stamp - f.stamp
    let short := far.isNone
    if tmaxMs * 400000 < age then (0, 1, true, short)
    else if dt = 0 ∨ de = 0 then (0, 1, false, short)
    else if de.natAbs * age ≤ dt then (de * 400000000, dt, false, short)
    else ((if de < 0 then -400000000 else 400000000), age, false, short)

/-! ## Serial channels (R130 to R134) -/

/-- Gray to binary over `w` bits. -/
def grayDecode (w n : Nat) : Nat := (List.range w).foldl (fun a i => a ^^^ (n >>> i)) 0 % 2 ^ w

/-- Speed over SWIN + 1 good frames (R134), in raw LSB per second. DESIGN CHOICE (log entry 55): a speed beyond 32 bits
saturates. -/
def serialSpeed (frames : List (Nat × Bool)) (swin len per : Nat) : Option Int :=
  let w := frames.take (swin + 1)
  if w.length = swin + 1 && w.all (·.2) then
    let d := signed len ((w.headD (0, true)).1 + 2 ^ len - (w.getLastD (0, true)).1)
    some (sat32 (roundDiv (d * 400000000) (swin * per)))
  else none

/-- The CRC of R131 over bits given first to last: polynomial `poly` of width `w`, start value 0. -/
def bissCrc (poly w : Nat) (bits : List Bool) : Nat :=
  bits.foldl (fun c b => (2 * c) % 2 ^ w ^^^ (if (c.testBit (w - 1)) != b then poly % 2 ^ w else 0)) 0

/-- The lowest `n` bits of a number, highest first. -/
def msbFirst (n v : Nat) : List Bool := (List.range n).map fun i => v.testBit (n - 1 - i)

/-- What a frame fails by (R130, R131, R133): a CRC or parity error, no Start in time, a slave error. Without Start nothing
follows it. PAR 0b11 names no parity; what it judges is a free value. -/
structure FrameFault where
  crc : Bool
  tout : Bool
  nerr : Bool
  deriving DecidableEq, Repr

def Hw.frameFault (h : Hw) (n : Nat) (rx : SerialRx) (free : Word) : FrameFault :=
  let len := h.rd (POS_Sn_CTL_LEN n)
  let bits := msbFirst len rx.data.toNat
  if h.on (POS_Sn_CTL_PROTO n) then
    let w := h.rd (POS_Sn_CRC_WIDTH n)
    let got := if h.on (POS_Sn_CRC_INV n) then 2 ^ w - 1 - rx.crc.toNat % 2 ^ w else rx.crc.toNat % 2 ^ w
    let sum := bissCrc (h.rd (POS_Sn_CRC_POLY n)) w (bits ++ [rx.nE, rx.nW])
    if rx.start.elim true fun t => decide (h.rd (POS_Sn_TIM_TOUT n) < t) then ⟨false, true, false⟩
    else ⟨w ≠ 0 && sum ≠ got, false, !rx.nE⟩
  else
    let odd := (bits.filter id).length % 2 = 1
    let p := h.rd (POS_Sn_CTL_PAR n)
    let bad := if p = 0 then false else if p = 1 then rx.parity != odd else if p = 2 then rx.parity == odd
      else free.toNat % 2 = 1
    ⟨bad, false, false⟩

/-- A frame of channel `n` has ended with these faults (R133, R134). DESIGN CHOICE (log entry 55): WARN, which no write
clears, falls at the next good frame without a warning. DESIGN CHOICE (log entry 67): a frame that fails leaves it as it
stands, whatever its nW. -/
def Hw.serialTake (h : Hw) (n : Nat) (rx : SerialRx) (x : FrameFault) : Hw :=
  let len := h.rd (POS_Sn_CTL_LEN n)
  let raw0 := rx.data.toNat % 2 ^ len
  let raw := if h.on (POS_Sn_CTL_GRAY n) && !h.on (POS_Sn_CTL_PROTO n) then grayDecode len raw0 else raw0
  let good := !(x.crc || x.tout || x.nerr)
  let c := h.s n
  let fr := (raw, good) :: c.frames.take 15
  let h0 := h.setS n { c with frames := fr }
  let h1 := if n = 0 then { h0 with sis := { h0.sis with wS0 := (raw, good) :: h0.sis.wS0.take 15, wS0new := true } } else h0
  let h2 := if good then
      (((h1.setPair (POS_Sn_POS_LO n) raw).wr (POS_Sn_STAT_VALID n) 1).wr (POS_Sn_STAT_FAILCNT n) 0).wr
        (POS_Sn_STAT_WARN n) (b2n (h.on (POS_Sn_CTL_PROTO n) && !rx.nW))
    else
      let k := satN 3 (h1.rd (POS_Sn_STAT_FAILCNT n) + 1)
      let h := ((h1.wr (POS_Sn_STAT_VALID n) 0).wr (POS_Sn_STAT_FAILCNT n) k).irq PG_POS (24 + n)
      let h := h.cond x.crc fun h => (h.wr (POS_Sn_STAT_CRCERR n) 1).bump ⟨POS_Sn_ERRCNT n, 0, 16⟩ 1
      let h := h.cond x.tout fun h => (h.wr (POS_Sn_STAT_TOUTERR n) 1).bump ⟨POS_Sn_ERRCNT n, 16, 16⟩ 1
      let h := h.cond x.nerr (·.wr (POS_Sn_STAT_NERR n) 1)
      if k = 3 then
        let h := h.wr (POS_Sn_STAT_LOST n) 1
        if h.isCar then { h with pos := { h.pos with lostNext := setBitN h.pos.lostNext n true } }
        else { h with pos := { h.pos with lostDue := setBitN h.pos.lostDue n true } }
      else h
  match serialSpeed fr (h.rd (POS_Sn_FRM_SWIN n)) len (h.pst.curPer * h.pst.posDiv) with
  | some v => (h2.setInt (POS_Sn_SPD n) v).wr (POS_Sn_STAT_SPDSTALE n) 0
  | none => h2.wr (POS_Sn_STAT_SPDSTALE n) 1

/-- The channel negotiates its rate (R132). -/
def Hw.negotiates (h : Hw) (n : Nat) : Bool := h.on (POS_Sn_CTL_PROTO n) && h.on (POS_Sn_CTL_NEGO n)

/-- SERIAL_FRAME_END (R133): frames of a negotiation are not latched, but count in it (R132). -/
def serialEnd (n : Nat) (rx : SerialRx) (h : Hw) : Hw :=
  if !h.sLive n || h.motionHeld then h
  else if h.negotiates n && !h.on (POS_Sn_STAT_NEGDONE n) then
    let x := h.frameFault n rx 0
    h.setS n { h.s n with tried := ((h.s n).tried ++ [!(x.crc || x.tout)]).take 136 }
  else if !h.on (POS_Sn_CTL_PROTO n) && h.rd (POS_Sn_CTL_PAR n) = 3 then
    h.free fun w h => h.serialTake n rx (h.frameFault n rx w)
  else h.serialTake n rx (h.frameFault n rx 0)

/-- Bit time of a CLKSEL code in ns (R130). -/
def bitTime (r : Nat) : Nat := [100, 200, 400, 800, 1600, 3200, 6400, 10000].getD r 10000

/-- One rate of a negotiation over the verdicts of its frames (R132): it holds at 8 good ones in a row, and is given up as
soon as these cannot come any more within 16; with the verdicts it has not used. -/
def tryRate : Nat → Nat → List Bool → Option (Bool × List Bool)
  | _, _, [] => none
  | good, sent, v :: l =>
    let g := if v then good + 1 else 0
    if g = 8 then some (true, l)
    else if 16 < sent + 1 + (8 - g) then some (false, l)
    else tryRate g (sent + 1) l

/-- The rates of a negotiation in turn (R132): one that does not fit is skipped without a frame; where the frames have not
come as commands, `passes` gives the verdict. -/
def tryRates (fits : Nat → Bool) (passes : Nat) : List Nat → List Bool → Option Nat
  | [], _ => none
  | r :: rs, l =>
    if !fits r then tryRates fits passes rs l
    else match tryRate 0 0 l with
      | some (true, _) => some r
      | some (false, l') => tryRates fits passes rs l'
      | none => if bit passes r then some r else tryRates fits passes rs []

/-- SERIAL_NEGOTIATION_DONE (R132): a line delay above 2.0 µs fails it; else the first rate from the requested one on whose
frame fits FRMMAX and at which 8 consecutive frames pass, the first 8 frames having measured the line; none fails it. -/
def negotiated (n passes ldly : Nat) (h : Hw) : Hw :=
  if !h.sLive n || h.motionHeld || !h.negotiates n || h.on (POS_Sn_STAT_NEGDONE n) || h.on (POS_Sn_STAT_NEGFAIL n) then h
  else
    let h1 := h.setNat (POS_Sn_LDLY n) ldly
    let bits := 4 + h.rd (POS_Sn_CTL_LEN n) + h.rd (POS_Sn_CRC_WIDTH n)
    let fits := fun r => decide (h.rd (POS_Sn_CTL_CLKSEL n) ≤ r) &&
      decide (ldly * 5 + 2 * bits * bitTime r ≤ 20 * h.rd (POS_Sn_FRM_FRMMAX n))
    match if 800 < ldly then none else tryRates fits passes (List.range 8) ((h.s n).tried.drop 8) with
    | some r => (h1.wr (POS_Sn_STAT_NEGDONE n) 1).wr (POS_Sn_STAT_RATE n) r
    | none => h1.wr (POS_Sn_STAT_NEGFAIL n) 1

/-- SERIAL_LOST_CLEAR (R133): a W1C write; LOST clears only if the last 16 frames were good. -/
def serialClear (who : Who) (n : Nat) (w : Word) (h : Hw) : Hw :=
  h.opWrite who PG_POS fun h =>
    let fr := (h.s n).frames
    let ok := decide (16 ≤ fr.length) && fr.all (·.2)
    let c := fun (i : Nat) (f : Field) (h : Hw) => h.cond (getBits w i 1 = 1) (·.wr f 0)
    let h1 := c 18 (POS_Sn_STAT_NERR n) (c 17 (POS_Sn_STAT_TOUTERR n) (c 16 (POS_Sn_STAT_CRCERR n) h))
    h1.cond (getBits w 1 1 = 1 && ok) (·.wr (POS_Sn_STAT_LOST n) 0)

/-! ## Discrete inputs and capture (R135, R136) -/

/-- An input's level after POL. -/
def Hw.dinLevel (h : Hw) (i : Nat) : Bool := bit h.pos.din i != h.bitAt POS_DIN_POL i

/-- An input that is sampled at 50 MHz (R135). -/
def Hw.dinFast (h : Hw) (i : Nat) : Bool := decide (i < 8) && bit (h.rd POS_DIN_FILT_FAST) i

/-- A level seen in `seen` consecutive samples passes the filter of its input (R135): DFILT of them, 0 acting as 1; at a
FAST input two of the last three, so that one sample is enough after a single one of the other level. -/
def Hw.dinPasses (h : Hw) (i : Nat) (level : Bool) (seen : Nat) : Bool :=
  if h.dinFast i then
    decide (2 ≤ seen) || (decide (seen = 1) && bit h.cpr.din i != level && h.pos.dinRun.getD i 0 = 1)
  else decide (max 1 (h.rd POS_DIN_FILT_DFILT) ≤ seen)

/-- The stamp of a taken level (R136): the time base of its sample less the filter delay, in whole µs, or in whole 20 ns at
a FAST input; low 32 bits. DEDUCED (log entry 67): the delay of DFILT samples is DFILT samples of 1 µs, as that of the
majority of 3 is 2. -/
def Hw.dinStamp (h : Hw) (i stamp : Nat) : Nat :=
  let t := h.pos.t0 + (stamp + 4294967296 - h.pos.t0 % 4294967296) % 4294967296
  let unit := if h.dinFast i then 8 else 400
  let delay := if h.dinFast i then 2 else max 1 (h.rd POS_DIN_FILT_DFILT)
  (t - delay * unit) / unit * unit % 4294967296

/-- DIN_EDGE (R135, R136): the ball takes a level; POS takes it once its filter passes it, while its clock runs and no mode
holds it (R108). -/
def dinTake (i : Nat) (level : Bool) (stamp seen : Nat) (h0 : Hw) : Hw :=
  let live := h0.fabricOn && !h0.motionHeld
  let changed := decide (bit h0.pos.din i ≠ level) && live && h0.dinPasses i level seen
  let h : Hw := { h0 with
    cpr := { h0.cpr with din := setBitN h0.cpr.din i level }
    pos := { h0.pos with
      dinRun := if live then h0.pos.dinRun.set i seen else h0.pos.dinRun
      din := if changed then setBitN h0.pos.din i level else h0.pos.din } }
  if changed && h.bitAt POS_DIN_EDGEEN i then
    let src := h.rd POS_DIN_CAPSRC_SRC
    let cnt := if src < 6 then toU32 (h.q src).ext else 0
    let e : Capture := ⟨i, h.dinLevel i, h.dinStamp i stamp, cnt⟩
    let h2 := if 16 ≤ h.pos.capMap.length then h.bump MAP_LRN_STAT_OVF 1
      else { h with pos := { h.pos with capMap := h.pos.capMap ++ [e] } }
    if 32 ≤ h2.pos.dcap.length then h2.wr POS_DCAP_STAT_DOVF 1
    else
      let l := h2.pos.dcap ++ [e]
      ({ h2 with pos := { h2.pos with dcap := l } }.wr POS_DCAP_STAT_LEVEL l.length).irq PG_POS 29
  else h

/-- DCAP_POP (R136): the read of POS_DCAP_W0 pops the head into the reader's holder. -/
def capPop (who : Who) (h : Hw) : Hw :=
  match h.pos.dcap with
  | [] => h.answer [0]
  | e :: l =>
    let w0 : Word := BitVec.ofNat 32 (0x80000000 + 256 * b2n e.level + e.din)
    let ws := [w0, BitVec.ofNat 32 e.stamp, BitVec.ofNat 32 e.count]
    let h1 := { h with pos := { h.pos with
      dcap := l, capHold := (who.num, ws) :: h.pos.capHold.filter (fun x => decide (x.1 ≠ who.num)) } }
    (h1.wr POS_DCAP_STAT_LEVEL l.length).answer [w0]

/-- What POS_DCAP_W1 and W2 read for a requester. -/
def Hw.capWord (h : Hw) (who i : Nat) : Word :=
  ((h.pos.capHold.find? (fun x => decide (x.1 = who))).map (fun x => x.2.getD i 0)).getD 0

/-- EMU_STEP (R137): one count toward zero backlog. -/
def emuStepOut (k : Nat) (h : Hw) : Hw :=
  let e := h.em k
  if !h.emuLive k || h.motionHeld || e.backlog = 0 then h
  else
    let up := decide (0 < e.backlog)
    let b := if up then e.backlog - 1 else e.backlog + 1
    (h.setEm k { e with backlog := b, phase := (e.phase + (if up then 1 else 3)) % 4 }).wr (POS_EMUk_STAT_BACKLOG k)
      (b % 512).toNat

/-- TUMBLER_ALIGN (R141). -/
def alignWrite (who : Who) (w : Word) (h : Hw) : Hw :=
  h.opWrite who PG_POS fun h => h.cond (getBits w 0 1 = 1) fun h => { h with pos := { h.pos with alignReq := true } }

/-- LOOP_RETURN (R143): judged at the next T0. DESIGN CHOICE (log entry 67): the self-clearing bit never reads 1. -/
def returnWrite (who : Who) (w : Word) (h : Hw) : Hw :=
  h.opWrite who PG_POS fun h => h.cond (getBits w 16 1 = 1) fun h => { h with pos := { h.pos with returnReq := true } }

/-- The source is named in POS_LOOP or a leg (R142). -/
def Hw.srcNamed (h : Hw) (c : Nat) : Bool :=
  h.rd POS_LOOP_PRI = c || h.rd POS_LOOP_ALT = c || h.rd POS_LOOP_MENC = c ||
    (List.range 3).any (fun i => h.rd (POS_TUM_SEL_SEL i) = c)

/-- The TMR cycles of 2.5 ns that `n` position cycles take (R16). -/
def Hw.posTicks (h : Hw) (n : Nat) : Nat := n * (h.pst.curPer * h.pst.posDiv)

/-- The counts of a source exceed FRZ_T (R142). -/
def Hw.frozenDue (h : Hw) (c : Nat) : Bool :=
  h.srcNamed c && (decide (h.rd POS_FRZ_CFG_FRZ_T * 400000 < h.posTicks (h.pos.frzA.getD c 0)) ||
    decide (h.rd POS_FRZ_CFG_FRZ_T * 400000 < h.posTicks (h.pos.frzB.getD c 0)))

/-- SOURCE_FROZEN (R142): the flag of a source that has stood still for FRZ_T while motion is commanded or seen; the fault
is raised at the T0. DESIGN CHOICE (log entry 67): FROZEN, for whose end the spec gives no condition, stands until POS is
reset. -/
def freezeSource (c : Nat) (h : Hw) : Hw :=
  if !h.frozenDue c then h
  else
    let h1 := { h with pos := { h.pos with frozen := setBitN h.pos.frozen c true } }
    if c < 6 then h1.wr (POS_Qn_STAT_FROZEN c) 1
    else if 8 ≤ c ∧ c < 12 then h1.wr (POS_Sn_STAT_FROZEN (c - 8)) 1
    else h1

/-! ## The T0 latch (R23, R24, R25, R127, R129) -/

/-- A quadrature channel at T0: values, speed, then a preset. DESIGN CHOICE (log entry 55): LEDGE reads 0 while the ring is
empty; SPD rounds ties toward plus infinity; a preset at or above CPR is taken modulo CPR. -/
def latchQ (n : Nat) (h : Hw) : Hw :=
  let c := h.q n
  let h1 := if h.qLive n then
      let (num, den, zero, short) := edgeSpeed c.ring (h.pair PST_TB_CNT_LO) (h.rd (POS_Qn_SPDCFG_SPD_MINWIN n))
        (h.rd (POS_Qn_SPDCFG_SPD_TMAX n))
      let h := (((h.setNat (POS_Qn_CNT n) c.cnt).setInt (POS_Qn_REV n) c.rev).setInt (POS_Qn_SPD n)
        (sat32 (roundDiv (num * 64) den))).setNat (POS_Qn_LEDGE n) (c.ring.head?.elim 0 (·.stamp))
      let h := (h.wr (POS_Qn_STAT_SPDZERO n) (b2n zero)).wr (POS_Qn_STAT_SPDSHORT n) (b2n short)
      { h with pos := { h.pos with ext := h.pos.ext.set n c.ext } }
    else h
  match c.preset with
  | none => h1
  | some v =>
    let c' := { c with ext := ((v % c.cpr : Nat) : Int), ring := [], preset := none }
    ((h1.setQ n c').setNat (POS_Qn_CNT_LIVE n) c'.cnt).wr (POS_Qn_STAT_IDXREF n) 0

/-- Extrapolation of a car sample to a T0 on the same 802.1AS time (R25): speed LSB 2^-10 mm/s, position LSB 2^-12 mm. -/
def extrapolate (c : CarSample) (t : Nat) : Nat :=
  ((c.pos : Int) + roundDiv (c.spd * 4 * ((t : Int) - c.stamp)) 1000000000) % 4294967296 |>.toNat

/-- The car source at T0 (R24, R27, R142): a new valid frame replaces the extrapolated one; a late or invalid one counts
a failure; the 16th consecutive good frame ends LOST. Frames that a parked CAR unit does not send are no failure (R113). -/
def Hw.latchCar (h : Hw) : Hw :=
  if !h.isMachine then h
  else
    let t := h.pair (ETH_T0_STAMP_LO 0)
    let fresh := h.pos.csNew
    let ok := fresh.elim false (·.valid)
    let cur := if ok then fresh else h.pos.csCur
    let good := if ok then h.pos.csGood + 1 else 0
    let parked := h.otherParks && fresh.isNone
    let fails := if ok then (if h.pos.csLost && decide (good < 16) then h.rd POS_CS_STAT_FAILCNT else 0)
      else if parked then h.rd POS_CS_STAT_FAILCNT else satN 3 (h.rd POS_CS_STAT_FAILCNT + 1)
    let lost := if ok then h.pos.csLost && decide (good < 16) else h.pos.csLost || (!parked && decide (3 ≤ fails))
    let h1 := { h with pos := { h.pos with csNew := none, csCur := cur, csGood := min good 16, csLost := lost } }
    let h2 := (h1.wr POS_CS_STAT_FAILCNT fails).wr POS_CS_STAT_LATE (b2n fresh.isNone)
    let h3 := h2.cond fresh.isSome (·.wr POS_CS_STAT_VALID (b2n ok))
    match cur with
    | some c => h3.setNat POS_CS_POS (extrapolate c t)
    | none => h3

/-- Latch of the discrete inputs (R135). -/
def Hw.latchDin (h : Hw) : Hw := h.setNat POS_DIN (maskOf 32 h.dinLevel)

/-- Everything POS latches at T0; a bolted or stopped POS holds its registers (R145). -/
def Hw.posLatch (h : Hw) : Hw :=
  if h.running PG_POS && !h.motionHeld then (h.each (List.range 6) latchQ).latchDin.latchCar else h

/-! ## Tumbler legs (R139 to R141) -/

/-- The value X_i of a source (R139); a serial source of a MACHINE unit is extrapolated to this T0. -/
def Hw.srcValue (h : Hw) (c : Nat) : Int :=
  if c < 6 then h.pos.ext.getD c 0
  else if 8 ≤ c ∧ c < 12 then
    let n := c - 8
    let raw : Int := h.pair (POS_Sn_POS_LO n)
    if h.isMachine then
      (raw + roundDiv (h.int (POS_Sn_SPD n) * (h.pst.curPer * h.pst.posDiv : Nat)) 400000000) % 2 ^ h.rd (POS_Sn_CTL_LEN n)
    else raw
  else if c = 12 then (h.nat POS_CS_POS : Int)
  else 0

/-- Scaling of a leg (R139): OFS + s * ((X * GAIN) >> 14) modulo 2^32. -/
def Hw.legScale (h : Hw) (i : Nat) (x : Int) : Nat :=
  let y := x * (h.nat (POS_TUM_GAIN i) : Int) / 16384
  let s := if h.on (POS_TUM_SEL_NEG i) then -y else y
  toU32 ((h.nat (POS_TUM_OFS i) : Int) + s)

def Hw.legPos (h : Hw) (i : Nat) : Nat := h.legScale i (h.srcValue (h.rd (POS_TUM_SEL_SEL i)))

/-- The legs whose FAIL stands for a source (R140). -/
def Hw.tumFailed (h : Hw) (c : Nat) : Bool :=
  (List.range 3).any fun i => bit (h.rd POS_TUM_STAT_FAIL) i && h.rd (POS_TUM_SEL_SEL i) = c

/-- Health of a source apart from the tumbler check (R142). -/
def Hw.srcAlive (h : Hw) (c : Nat) : Bool :=
  !bit h.pos.frozen c &&
  if c < 6 then h.qLive c && !h.on (POS_Qn_STAT_QFLT c)
  else if 8 ≤ c ∧ c < 12 then
    h.sLive (c - 8) && (!h.on (POS_Sn_STAT_LOST (c - 8)) || bit h.pos.lostNext (c - 8)) &&
      (!(h.on (POS_Sn_CTL_PROTO (c - 8)) && h.on (POS_Sn_CTL_NEGO (c - 8))) || h.on (POS_Sn_STAT_NEGDONE (c - 8)))
  else if c = 12 then h.isMachine && !h.pos.csHeld && h.pos.csCur.isSome && !h.pos.csLost
  else false

/-- Health of a source (R142). -/
def Hw.srcHealthy (h : Hw) (c : Nat) : Bool := h.srcAlive c && !h.tumFailed c

/-- A leg takes part: it names a source that is otherwise healthy, and it is not held. -/
def Hw.legOk (h : Hw) (i : Nat) : Bool := h.srcHealthy (h.rd (POS_TUM_SEL_SEL i)) && !bit h.pos.legHeld i

/-- A pair of legs differs by more than TOL_ABS + TOL_PPM * T / 10^6, in µm (R140); a position LSB is 1000/4096 µm. -/
def Hw.legDiffers (h : Hw) (i j : Nat) : Bool :=
  let d := (diff32 (h.nat (POS_TUM_POS i)) (h.nat (POS_TUM_POS j))).natAbs
  decide ((h.rd POS_TUM_TOL_TOL_ABS * 1000000 + h.rd POS_TUM_PPM_TOL_PPM * h.nat POS_TUM_TRAVEL) * 4096 <
    d * 1000 * 1000000)

/-- TUMBLER_CHECK (R140): a disagreement that does not count yet is none for the culprit. -/
def Hw.tumCheck (h : Hw) : Hw :=
  let ok := (List.range 3).filter h.legOk
  let h0 := h.wr POS_TUM_STAT_ACTIVE ok.length
  if !h.on POS_TUM_CFG_EN || decide (ok.length < 2) then
    { h0.wr POS_TUM_STAT_DIS 0 with pos := { h0.pos with disCnt := [0, 0, 0] } }
  else
    let dis := fun i j => h.legOk i && h.legOk j && h.legDiffers i j
    let d01 := dis 0 1
    let d02 := dis 0 2
    let d12 := dis 1 2
    let cnt := List.zipWith (fun (n : Nat) (d : Bool) => if d then min (n + 1) 15 else 0) h.pos.disCnt [d01, d02, d12]
    let n := h.rd POS_TUM_CFG_TUM_N
    let held := fun k (d : Bool) => d && decide (n ≤ cnt.getD k 0)
    let p01 := held 0 d01
    let p02 := held 1 d02
    let p12 := held 2 d12
    let h1 := { h0 with pos := { h0.pos with disCnt := cnt } }.wr POS_TUM_STAT_DIS
      (b2n (d01 || d02) + 2 * b2n (d01 || d12) + 4 * b2n (d02 || d12))
    if !(p01 || p02 || p12) then h1
    else
      let three := ok.length = 3
      let culprit := if three && p01 && p02 && !p12 then some 0 else if three && p01 && p12 && !p02 then some 1
        else if three && p02 && p12 && !p01 then some 2 else none
      let fail := h1.rd POS_TUM_STAT_FAIL
      match culprit with
      | some i => ((h1.wr POS_TUM_STAT_FAIL (setBitN fail i true)).irq PG_POS 28).raise PG_POS 11
      | none =>
        let m := maskOf 3 fun i => bit fail i || (h1.rd (POS_TUM_SEL_SEL i) ≠ 0xF &&
          h1.rd (POS_TUM_SEL_SEL i) ≠ h1.rd POS_LOOP_MENC)
        (((h1.wr POS_TUM_STAT_FAIL m).wr POS_TUM_STAT_UNKNOWN 1).irq PG_POS 28).raise PG_POS 11

/-- Alignment at a T0 (R141): OFS_1 and OFS_2 put p_1 and p_2 on p_0; refused while a pair lies beyond TOL_ABS. -/
def Hw.tumAlign (h : Hw) : Hw :=
  let ok := (List.range 3).filter h.legOk
  let far := ok.any fun i => ok.any fun j =>
    decide (h.rd POS_TUM_TOL_TOL_ABS * 4096 < (diff32 (h.nat (POS_TUM_POS i)) (h.nat (POS_TUM_POS j))).natAbs * 1000)
  if far then (h.wr POS_TUM_STAT_ALNREJ 1).irq PG_POS 28
  else
    let p0 := h.nat (POS_TUM_POS 0)
    let h1 := h.each ([1, 2].filter fun i => h.rd (POS_TUM_SEL_SEL i) ≠ 0xF) fun i h =>
      let d := diff32 p0 (h.nat (POS_TUM_POS i))
      (h.setInt (POS_TUM_OFS i) (h.int (POS_TUM_OFS i) + d)).setNat (POS_TUM_POS i) p0
    { h1.setNat POS_TUM_TRAVEL 0 with pos := { h1.pos with travel := 0 } }

/-- 50 ms, the standstill of R141 and R169. -/
def restTicks : Nat := 20000000

/-- How many T0s span 50 ms. -/
def Hw.restSpan (h : Hw) : Nat := restTicks / max 1 (h.posTicks 1) + 1

/-- A trail of positions, newest first, over the last 50 ms, with position `p` put in front. -/
def Hw.trailPut (h : Hw) (l : List Nat) (p : Nat) : List Nat := (p :: l).take h.restSpan

/-- The trail spans 50 ms and all of it lies within less than 10 µm of its newest position (log entry 56). -/
def Hw.trailRests (h : Hw) (l : List Nat) : Bool :=
  decide (h.restSpan ≤ l.length) && l.all fun x => decide ((diff32 (l.headD 0) x).natAbs * 1000 < 10 * 4096)

/-- The commanded speed of the car (R142, R169): PRF's set-point, or in the CAR role that of the last machine frame. -/
def Hw.carCommand (h : Hw) : Int := if h.isCar then h.peer.mach.elim 0 (·.vcmd) else h.int (PRF_AXn_SP_SPD 0)

/-- A leg's scaled change since the last T0 exceeds FRZ_V, in mm/s. -/
def Hw.legFast (h : Hw) (i : Nat) : Bool :=
  decide (h.rd POS_FRZ_CFG_FRZ_V * 4096 * h.posTicks 1 <
    (diff32 (h.nat (POS_TUM_POS i)) (h.pos.legLast.getD i 0)).natAbs * 400000000)

/-- What a source shows at this T0: a count, a raw position, the car position. -/
def Hw.srcShows (h : Hw) (c : Nat) : Int :=
  if c < 6 then h.pos.ext.getD c 0
  else if 8 ≤ c ∧ c < 12 then (h.pair (POS_Sn_POS_LO (c - 8)) : Int)
  else if c = 12 then (h.nat POS_CS_POS : Int)
  else 0

/-- The freeze conditions of R142 at a T0, after the legs have their positions: the counts go on or start again, and the
sources whose count exceeds FRZ_T freeze. -/
def Hw.freezeT0 (h : Hw) : Hw :=
  let cmd := decide (h.rd POS_FRZ_CFG_FRZ_V * 1024 < h.carCommand.natAbs)
  let a := (List.range 13).map fun c =>
    if cmd && h.srcShows c = h.pos.frzVal.getD c 0 then min (h.pos.frzA.getD c 0 + 1) 1000000 else 0
  let b := (List.range 6).map fun c =>
    let mine := (List.range 3).any fun i => h.rd (POS_TUM_SEL_SEL i) = c
    let other := (List.range 3).any fun i => h.rd (POS_TUM_SEL_SEL i) ≠ c && h.legOk i && h.legFast i
    if mine && other && !(h.q c).edge then min (h.pos.frzB.getD c 0 + 1) 1000000 else 0
  let h1 := { h with pos := { h.pos with
    q := h.pos.q.map fun c : QChan => { c with edge := false }
    frzA := a, frzB := b, frzVal := (List.range 13).map h.srcShows
    legLast := (List.range 3).map fun i => h.nat (POS_TUM_POS i) } }
  h1.each (List.range 13) freezeSource

/-- Leg positions, travel, freeze, check and alignment at a T0 (R139 to R142). DESIGN CHOICE (log entry 67): the travel of L0
is the length of its path, not its displacement. -/
def Hw.tumblers (h : Hw) : Hw :=
  let h1 := (h.each (List.range 3) fun i h => h.setNat (POS_TUM_POS i) (h.legPos i)).freezeT0
  let p0 := h1.nat (POS_TUM_POS 0)
  let moved := h1.pos.legPrev.elim 0 (fun p => (diff32 p0 p).natAbs)
  let trav := h1.pos.travel + moved
  let h2 := { h1 with pos := { h1.pos with
    travel := trav
    legPrev := some p0
    trail := h1.trailPut h1.pos.trail p0 } }.setNat POS_TUM_TRAVEL (trav * 1000 / 4096)
  let h3 := h2.tumCheck
  let go := h3.pos.alignReq || (h3.on POS_TUM_CFG_AUTOALN && h3.trailRests h3.pos.trail)
  let h4 := h3.cond go Hw.tumAlign
  { h4 with pos := { h4.pos with alignReq := false } }

/-! ## Fed source (R142 to R144) -/

/-- The leg of a source. -/
def Hw.legOf (h : Hw) (c : Nat) : Option Nat := (List.range 3).find? fun i => h.rd (POS_TUM_SEL_SEL i) = c

/-- The position a source would feed, without LOOP_OFS. -/
def Hw.srcPos (h : Hw) (c : Nat) : Nat := (h.legOf c).elim 0 fun i => h.nat (POS_TUM_POS i)

/-- POS_HEALTH and the faults that reach the Ward at this T0 (R142, R145). DESIGN CHOICE (log entry 67): the loss of the car
source sets no SLOST, which R142 states for the Sn sources. -/
def Hw.posHealth (h : Hw) : Hw :=
  let q := maskOf 6 h.srcHealthy
  let s := maskOf 4 fun n => h.srcHealthy (8 + n)
  let h1 := ((h.wr POS_HEALTH_Q q).wr POS_HEALTH_S s).wr POS_HEALTH_CS (b2n (h.srcHealthy 12))
  let h2 := h1.each (List.range 6) fun n h => h.wr (POS_Qn_STAT_OK n) (b2n (bit q n))
  let qf := (List.range 6).any fun n => h2.on (POS_Qn_STAT_QFLT n)
  let h3 := h2.cond qf (·.raise PG_POS 8)
  let h4 := h3.cond (decide (h3.pos.lostDue ≠ 0)) (·.raise PG_POS 9)
  let h5 := h4.cond (decide (h4.pos.frozen ≠ 0)) (·.raise PG_POS 10)
  { h5 with pos := { h5.pos with lostDue := 0 } }

/-- A change of the fed source (R143): LOOP_OFS continues the last good speed, and stands where no source is left; the
state and the recorder event. -/
def Hw.feedFrom (h : Hw) (st src : Nat) (align : Bool) : Hw :=
  let old := h.nat POS_LOOP_STAT
  let ofs := if st = 4 then h.nat POS_LOOP_OFS
    else if align then toU32 (2 * (h.pos.fed1 : Int) - h.pos.fed2 - h.srcPos src) else 0
  let h1 := (((h.setNat POS_LOOP_OFS ofs).wr POS_LOOP_STAT_STATE st).wr POS_LOOP_STAT_CUR src).wr POS_LOOP_STAT_SWITCHED
    (b2n (decide (2 ≤ st)))
  h1.cond (decide (2 ≤ st) || decide (2 ≤ getBits (BitVec.ofNat 32 old) 0 3)) fun h =>
    h.recWard 0x0020 false [old, h.nat POS_LOOP_STAT, ofs]

/-- FED_SOURCE_SWITCH (R143), then the fed position of the cycle. DESIGN CHOICE (log entry 67): after a swap of POS_LOOP the
transitions are judged by the sources it names now, while POS_LOOP_STAT.CUR is fed until one of them is taken. -/
def Hw.fedSource (h : Hw) : Hw :=
  let pri := h.rd POS_LOOP_PRI
  let alt := h.rd POS_LOOP_ALT
  let men := h.rd POS_LOOP_MENC
  let okP := pri ≠ 0xF && h.srcHealthy pri
  let okA := alt ≠ 0xF && alt ≠ men && h.srcHealthy alt
  let okM := men ≠ 0xF && h.srcHealthy men
  let st := h.rd POS_LOOP_STAT_STATE
  let good := if okP then min (h.pos.priGood + 1) 256 else 0
  let now := h.rd POS_LOOP_STAT_CUR
  let fed := if now ≠ 0xF && h.srcHealthy now && (h.legOf now).isSome then toU32 ((h.srcPos now : Int) + h.nat POS_LOOP_OFS)
    else h.pos.fed1
  let near := decide ((diff32 (h.srcPos pri) fed).natAbs * 1000 ≤ h.rd POS_TUM_TOL_TOL_ABS * 4096)
  let back := h.pos.returnReq && h.mode = 4 && decide (256 ≤ good) && near
  let menc := fun (h : Hw) => (h.feedFrom 3 men true).raise PG_POS 13
  let none' := fun (h : Hw) => (h.feedFrom 4 0xF true).raise PG_POS 14
  let h1 := { h with pos := { h.pos with priGood := good, returnReq := false } }
  let h2 :=
    if st = 0 then (if okP then h1.feedFrom 1 pri false else h1)
    else if st ≠ 4 && !okP && !okA && !okM then none' h1
    else if 2 ≤ st && back then h1.feedFrom 1 pri false
    else if st = 1 then
      if okP then h1 else if okA then (h1.feedFrom 2 alt true).raise PG_POS 12 else if okM then menc h1 else none' h1
    else if st = 2 then (if okA then h1 else if okM then menc h1 else h1)
    else if st = 3 then (if okM then h1 else none' h1)
    else h1
  let cur := h2.rd POS_LOOP_STAT_CUR
  let valid := cur ≠ 0xF && h2.srcHealthy cur && (h2.legOf cur).isSome
  let p := if valid then toU32 ((h2.srcPos cur : Int) + h2.nat POS_LOOP_OFS) else h2.nat POS_LOOP_POS
  { h2.setNat POS_LOOP_POS p with pos := { h2.pos with
    fedValid := valid, fed1 := if valid then p else h2.pos.fed1, fed2 := if valid then h2.pos.fed1 else h2.pos.fed2 } }

/-- The losses of this T0's frames count at the next T0, after those frames have ended (R142). -/
def Hw.lostTurn (h : Hw) : Hw := { h with pos := { h.pos with lostDue := h.pos.lostNext, lostNext := 0 } }

/-- All of POS at a T0 after the latch; a bolted POS reads POS_HEALTH 0 and gives no valid feed (R145). -/
def Hw.posT0 (h : Hw) : Hw :=
  let h1 := if h.running PG_POS && !h.motionHeld then h.tumblers.posHealth.fedSource.lostTurn
    else { h.setNat POS_HEALTH 0 with pos := { h.pos with fedValid := false } }
  { h1 with pos := { h1.pos with t0 := h.pair PST_TB_CNT_LO } }

/-! ## The Ward's own values (R325) -/

/-- A car value, good or failed, at a T0: CARLOST. -/
def Hw.wardCarCount (h : Hw) (good : Bool) : Hw :=
  let g := if good then min (h.sis.carGood + 1) 16 else 0
  let b := if good then 0 else min (h.sis.carBad + 1) 3
  let lost := if good then h.sis.carLost && decide (g < 16) else h.sis.carLost || decide (3 ≤ b)
  { h with sis := { h.sis with carGood := g, carBad := b, carLost := lost } }

/-- WSPD: the speed of the machine encoder, (counts/s * MGAIN) >> 16; an invalid SRC reads 0 and sets MENCLOST (R350). -/
def Hw.wardSpeed (h : Hw) : Hw :=
  let src := h.rd SIS_MENC_SRC
  if 2 ≤ src then (h.setNat SIS_WSPD 0).raise PG_SIS 15
  else
    let c := h.sis.wq.getD src QChan.init
    let (num, den, _, _) := edgeSpeed c.ring (h.pair PST_TB_CNT_LO) (h.rd SIS_SPDCFG_SPD_WIN) (h.rd SIS_SPDCFG_SPD_TMAX)
    h.setInt SIS_WSPD (sat32 (roundDiv (num * (h.nat SIS_MGAIN : Int)) (den * 65536)))

/-- CARLOST holds (R325). -/
def Hw.carHeldLost (h : Hw) : Hw := { h with sis := { h.sis with carLost := true, carGood := 0 } }

/-- WPOS and WSPD_C: in the MACHINE role from the Ward's holder copy, in the CAR role from its own S0 receiver, one
frame back, scaled by the leg that names S0; a T0 without a frame counts as a failed one. -/
def Hw.wardCar (h : Hw) : Hw :=
  if h.isMachine then
    let fresh := h.sis.wCarNew
    let ok := fresh.elim false (·.valid)
    let cur := if ok then fresh else h.sis.wCar
    let h1 := { h with sis := { h.sis with wCar := cur, wCarNew := none } }.wardCarCount ok
    match cur with
    | some c => (h1.setNat SIS_WPOS (extrapolate c (h.pair (ETH_T0_STAMP_LO 0)))).setInt SIS_WSPD_C c.spd
    | none => h1
  else
    let fr := h.sis.wS0cur
    let l := if h.sis.wS0new then h.sis.wS0 else (0, false) :: h.sis.wS0.take 15
    let h1 := { h with sis := { h.sis with wS0 := l, wS0cur := l, wS0new := false } }
    match h.legOf 8 with
    | none => h1.carHeldLost
    | some i =>
      match fr with
      | (raw, true) :: _ =>
        let h2 := (h1.wardCarCount true).setNat SIS_WPOS (h.legScale i raw)
        match serialSpeed fr 4 (h.rd (POS_Sn_CTL_LEN 0)) (h.pst.curPer * h.pst.posDiv) with
        | some v =>
          let y := roundDiv (v * (h.nat (POS_TUM_GAIN i) : Int)) 65536
          h2.setInt SIS_WSPD_C (sat32 (if h.on (POS_TUM_SEL_NEG i) then -y else y))
        | none => h2
      | _ => h1.wardCarCount false

/-! ## What a swap of POS brings in (R120, R123, R147) -/

/-- A code names a source. -/
def validSrc (h : Hw) (c : Nat) : Bool := c < 6 || (8 ≤ c && c < 12) || (c = 12 && !h.isCar) || c = 0xF

/-- Invalid quadrature channel: IDX_MODE 0b11, CPR 1 to 3 while enabled, or SPD_TMAX * 1000 not above SPD_MINWIN. -/
def Hw.qInvalid (h : Hw) (n : Nat) : Bool :=
  h.rd (POS_Qn_CTL_IDX_MODE n) = 3 ||
  (h.on (POS_Qn_CTL_EN n) && decide (1 ≤ h.nat (POS_Qn_CPR n)) && decide (h.nat (POS_Qn_CPR n) ≤ 3)) ||
  decide (h.rd (POS_Qn_SPDCFG_SPD_TMAX n) * 1000 ≤ h.rd (POS_Qn_SPDCFG_SPD_MINWIN n))

/-- Invalid serial channel: WIDTH above 16 or LEN outside 8 to 40 (R131). -/
def Hw.sInvalid (h : Hw) (n : Nat) : Bool :=
  decide (16 < h.rd (POS_Sn_CRC_WIDTH n)) || decide (h.rd (POS_Sn_CTL_LEN n) < 8) || decide (40 < h.rd (POS_Sn_CTL_LEN n))

/-- Invalid emulation output: N = 0 or N above M, or no such source (R137). -/
def Hw.emuInvalid (h : Hw) (k : Nat) : Bool :=
  h.rd (POS_EMUk_RATIO_N k) = 0 || decide (h.rd (POS_EMUk_RATIO_M k) < h.rd (POS_EMUk_RATIO_N k)) ||
    decide (6 ≤ h.rd (POS_EMUk_CTL_SRC k))

/-- Invalid leg: no such source. -/
def Hw.legInvalid (h : Hw) (i : Nat) : Bool := !validSrc h (h.rd (POS_TUM_SEL_SEL i))

/-- POS_LOOP names a source without a leg, or no source. -/
def Hw.loopInvalid (h : Hw) : Bool :=
  [POS_LOOP_PRI, POS_LOOP_ALT, POS_LOOP_MENC].any fun f =>
    !validSrc h (h.rd f) || (h.rd f ≠ 0xF && (h.legOf (h.rd f)).isNone)

/-- A source in POS_LOOP without a leg (R147). -/
def Hw.loopless (h : Hw) (c : Nat) : Bool :=
  [POS_LOOP_PRI, POS_LOOP_ALT, POS_LOOP_MENC].any (fun f => h.rd f = c) && (h.legOf c).isNone

/-- A quadrature channel enabled, or its CPR changed (R120, R123, R124): a channel that becomes enabled starts with a window
that its first sample fills, an empty ring and no reference; a changed CPR reduces CNT and keeps REV. -/
def takeQ (n : Nat) (h : Hw) : Hw :=
  let c := h.q n
  let C := cprOf (h.nat (POS_Qn_CPR n))
  let on := h.qLive n
  let start := on && !c.started
  let c1 := if C ≠ c.cpr then { c with cpr := C, ext := c.rev * C + (c.cnt % C : Nat) } else c
  let c2 := if start then
      { c1 with ring := [], illegal := 0, reversed := false, first := true
                before := max c.before (h.pair PST_TB_CNT_LO - 1) }
    else c1
  ((h.setQ n { c2 with started := on }).cond (decide (C ≠ c.cpr)) (·.setNat (POS_Qn_CNT_LIVE n) c2.cnt)).cond
    (start || decide (C ≠ c.cpr)) (·.wr (POS_Qn_STAT_IDXREF n) 0)

/-- A serial channel enabled (R132, R134, R147): its window is empty, its speed 0, its negotiation starts, or the requested
rate is in use. -/
def takeS (n : Nat) (h : Hw) : Hw :=
  let c := h.s n
  let on := h.sLive n
  let h1 := if on && !c.started then
      (((h.setS n { c with frames := [], tried := [] }).setNat (POS_Sn_SPD n) 0).wr (POS_Sn_STAT_NEGDONE n) 0).wr
        (POS_Sn_STAT_NEGFAIL n) 0
    else h
  (h1.setS n { h1.s n with started := on }).cond (on && !h.negotiates n)
    (·.wr (POS_Sn_STAT_RATE n) (h.rd (POS_Sn_CTL_CLKSEL n)))

/-- An emulation output enabled, or its fields changed (R137): enabled, it starts without offset; r is taken modulo M; with
IDXEN a live output's Z copies the index of its source. -/
def takeEmu (k : Nat) (h : Hw) : Hw :=
  let e := h.em k
  let on := h.on (POS_EMUk_CTL_EN k) && !e.held
  let m : Int := h.rd (POS_EMUk_RATIO_M k)
  let start := on && !e.started
  let e1 := if start then { e with r := 0, backlog := 0 } else { e with r := if m = 0 then e.r else e.r % m }
  let z := if h.emuLive k && h.on (POS_EMUk_CTL_IDXEN k) then (h.q (h.rd (POS_EMUk_CTL_SRC k))).z else e.z
  (h.setEm k { e1 with started := on, z := z }).cond start (·.wr (POS_EMUk_STAT_BACKLOG k) 0)

/-- What a swap, or a write of the active register, enables and changes. -/
def Hw.takeChannels (h : Hw) : Hw :=
  ((h.each (List.range 6) takeQ).each (List.range 4) takeS).each (List.range 2) takeEmu

/-- POS takes its new configuration (R120, R123, R137, R147): what is invalid is held disabled, then what is enabled or
changed takes effect. -/
def Hw.posSwap (h : Hw) : Hw :=
  let h1 := h.each (List.range 6) fun n h => h.setQ n { h.q n with held := h.qInvalid n || h.loopless n }
  let h2 := h1.each (List.range 4) fun n h => h.setS n { h.s n with held := h.sInvalid n || h.loopless (8 + n) }
  let h3 := (h2.each (List.range 2) fun k h => h.setEm k { h.em k with held := h.emuInvalid k }).takeChannels
  let bad := (List.range 6).any h3.qInvalid || (List.range 4).any h3.sInvalid || (List.range 2).any h3.emuInvalid ||
    (List.range 3).any h3.legInvalid || h3.loopInvalid
  { h3 with pos := { h3.pos with legHeld := maskOf 3 h3.legInvalid, csHeld := h3.loopless 12 } }.cond bad (·.blockFault PG_POS 15)

end Sys2Proof.Machine
end

