-- ==== Sys2Proof/Machine/Map.lean ====
section
/-! DEFINITION. The hoistway map: lookup, directory, reload, learning, rebuild, import (R148 to R173). -/

namespace Sys2Proof.Machine

/-! ## Cells and places (R148, R149, R162) -/

def Hw.homeBase (h : Hw) (k : Nat) : Nat := (if h.env.part = 44 then 0x82000000 else 0x84000000) + 0x10000 * k
def poolBase (s : Nat) : Nat := 0x83000000 + 0x10000 * s

/-- State codes of a directory entry (R173). -/
def dirLoaded : Nat := 1
def dirBad : Nat := 2

/-- Where a page is read (R153). -/
def Hw.pagePlace (h : Hw) (k : Nat) : Nat :=
  if h.on (MAP_DIRn_LOC k) then poolBase (h.rd (MAP_DIRn_SLOT k)) else h.homeBase k

/-- COR of a cell word, LSB 4 µm. -/
def cellCor (w : Nat) : Int := signed 14 (w / 4)

/-- The 32-bit generation of a page (R163). -/
def Hw.pgen (h : Hw) (k : Nat) : Nat := ((h.map.pgen.find? (fun x => decide (x.1 = k))).map (·.2)).getD 0

def Hw.setPgen (h : Hw) (k g : Nat) : Hw :=
  { h with map := { h.map with pgen := (k, g % 4294967296) :: h.map.pgen.filter (fun x => decide (x.1 ≠ k)) } }.wr
    (MAP_DIRn_PGEN k) g

/-- The listed directory entries in state LOADED among pages `lo` to `hi`. -/
def Hw.loadedIn (h : Hw) (lo hi : Nat) : Nat :=
  (h.regs.filter fun e => decide (MAP_DIRn lo ≤ e.1) && decide (e.1 ≤ MAP_DIRn hi) &&
    decide (getBits e.2 30 2 = dirLoaded)).length

def Hw.countLoaded (h : Hw) : Hw :=
  let n := h.loadedIn 0 (h.mapPages - 1)
  let all := decide (n = h.mapPages) && decide (h.rd MAP_STAT_LOADED ≠ n)
  (h.wr MAP_STAT_LOADED n).cond all (·.irq PG_MAP 0)

/-! ## Coarse correction (R160, R164) -/

/-- The enabled landings in index order: number, LPOS, COR. None while the table is not strictly rising. -/
def Hw.landings (h : Hw) : List (Nat × Nat × Int) :=
  if h.map.lndBad then []
  else ((List.range 256).filter fun n => h.bitAt (MAP_LNDn_ATTR n) 0).map fun n =>
    (n, h.nat (MAP_LNDn_POS n), cellCor (h.nat (MAP_LNDn_COR n) % 65536))

/-- Whether positions rise strictly. -/
def rising : List (Nat × Nat × Int) → Bool
  | a :: b :: l => decide (a.2.1 < b.2.1) && rising (b :: l)
  | _ => true

/-- 128 times the coarse correction at raw position `p`, before rounding. -/
def coarseFrac : List (Nat × Nat × Int) → Nat → Frac
  | [], _ => ⟨0, 1⟩
  | [a], _ => ⟨128 * a.2.2, 1⟩
  | a :: b :: l, p =>
    if p < a.2.1 then ⟨128 * a.2.2, 1⟩
    else if p < b.2.1 then
      ⟨128 * (a.2.2 * ((b.2.1 : Int) - p) + b.2.2 * ((p : Int) - a.2.1)), (b.2.1 : Int) - a.2.1⟩
    else coarseFrac (b :: l) p

/-! ## Lookup (R150 to R156) -/

/-- What a lookup sees of one cell: 128 times its correction, coarse, LEARNED, CONF. -/
structure CellSeen where
  c : Frac
  coarse : Bool
  learned : Bool
  conf : Bool

/-- Cell `i` by its page's directory entry; `ecc` for an uncorrectable error on the read. The coarse correction is no stored
cell: it shows neither UNLEARNED nor LOWCONF (log entry 11). -/
def Dev.cell (d : Dev) (i : Nat) (ecc : Bool) : CellSeen :=
  let k := i / 32768
  if d.hw.rd (MAP_DIRn_STATE k) = dirLoaded && !ecc then
    let w := memNat d.mem (d.hw.pagePlace k + 2 * (i % 32768)) 2
    ⟨⟨128 * cellCor w, 1⟩, false, bit w 1, bit w 0⟩
  else ⟨coarseFrac d.hw.landings (i * 128), true, true, true⟩

/-- MAP_LOOKUP at a T0 (R150 to R152): beside the last cell of the map stands a cell that equals it, above the last page no
cell is read. -/
def Dev.mapLookup (eccLo eccHi : Bool) (d : Dev) : Dev :=
  let h := d.hw
  let p := h.nat POS_LOOP_POS
  let i := p / 128
  let f := p % 128
  let k := p / 4194304
  let last := h.mapPages * 32768 - 1
  let top := h.mapPages * 4194304 - 1
  let above := decide (h.mapPages ≤ k)
  let two := !above && f ≠ 0 && decide (i < last)
  let a := if above then ⟨⟨0, 1⟩, true, true, true⟩ else d.cell i eccLo
  let b := if two then d.cell (i + 1) eccHi else a
  let cc := (Frac.add (Frac.mul ⟨128 - f, 128⟩ a.c) (Frac.mul ⟨f, 128⟩ b.c)).round
  let delta : Int := if above then 0 else (32 * cc + 125) / 250
  let q : Int := (p : Int) + delta
  let sat := decide (q < 0) || decide ((top : Int) < q) || above
  let q' := (max 0 (min q top)).toNat
  let h1 := (((h.setNat MAP_POS q').setNat MAP_RAW p).setInt MAP_CORR delta).wr MAP_STAT_VALID 1
  let h2 := ((h1.wr MAP_STAT_COARSE (b2n (a.coarse || b.coarse))).wr MAP_STAT_UNLEARNED
    (b2n (!a.learned || !b.learned))).wr MAP_STAT_LOWCONF (b2n (!a.conf || !b.conf))
  let h3 := (h2.wr MAP_STAT_RANGE (b2n sat)).cond sat (·.raise PG_MAP 10)
  let hit := (if eccLo && !above then [k] else []) ++ (if eccHi && two then [(i + 1) / 32768] else [])
  let h4 := h3.cond (decide (hit ≠ [])) fun h =>
    { h.raise PG_MAP 9 with map := { h.map with unload := h.map.unload ++ hit.filter (fun k => k ∉ h.map.unload) } }
  { d with hw := { h4 with map := { h4.map with prevPage := k } } }

/-- CAPREQ, with its interrupt at a change (R161, R171). -/
def Hw.capReq (h : Hw) (b : Bool) : Hw := (h.wr MAP_STAT_CAPREQ (b2n b)).cond (h.on MAP_STAT_CAPREQ != b) (·.irq PG_MAP 5)

/-- MAP_STOPWIN and CAPREQ at a T0 from PRF_DCAP of the cycle before (R161, R177). -/
def Hw.stopWindow (h : Hw) : Hw :=
  let p := h.nat POS_LOOP_POS
  let dist := h.nat PRF_DCAP
  let lo := min ((p - dist) / 4194304) (h.mapPages - 1)
  let hi := min ((p + dist) / 4194304) (h.mapPages - 1)
  let req := decide (h.loadedIn lo hi < hi - lo + 1)
  let h1 := (h.wr MAP_STOPWIN_LO lo).wr MAP_STOPWIN_HI hi
  h1.capReq req

/-! ## Directory changes at a T0 (R154, R168, R169, R538) -/

/-- The car moves in the sense of R169. -/
def Hw.mapMoving (h : Hw) : Bool := decide (h.carCommand ≠ 0) || !h.trailRests h.map.trail

/-- The travel of the fed position over the last 50 ms. -/
def Hw.mapTravel (h : Hw) : Hw := { h with map := { h.map with trail := h.trailPut h.map.trail (h.nat POS_LOOP_POS) } }

/-- What shows of the pool: swaps that are pending, and a rebuild that waits for a free slot (R168, R173). -/
def Hw.poolShow (h : Hw) : Hw :=
  let n := (h.map.pool.filter fun u => decide (u.stage = .pending)).length
  let free := (List.range 128).any fun s => !(h.map.pool.any (fun u => decide (u.slot = s)) ||
    h.map.imports.any (fun e => decide (e.2 = s)) ||
    (List.range h.mapPages).any (fun k => h.on (MAP_DIRn_LOC k) && decide (h.rd (MAP_DIRn_SLOT k) = s)))
  (h.wr MAP_REB_STAT_PEND n).wr MAP_STAT_POOLWAIT (b2n (h.map.rbCur.isSome && !free))

/-- Pool slots and directory bits of a page are given up. -/
def Hw.freePage (k : Nat) (h : Hw) : Hw :=
  let h1 := ((h.wr (MAP_DIRn_SWAPREQ k) 0).wr (MAP_DIRn_DEFERRED k) 0).wr (MAP_DIRn_LOC k) 0
  { h1 with map := { h1.map with pool := h1.map.pool.filter (fun u => decide (u.page ≠ k)) } }

/-- A new content of page `k` in slot `s` becomes visible (R155, R163). -/
def Hw.landSlot (k s : Nat) (h : Hw) : Hw :=
  let h1 := (((h.freePage k).wr (MAP_DIRn_LOC k) 1).wr (MAP_DIRn_SLOT k) s).wr (MAP_DIRn_STATE k) dirLoaded
  let h2 := ((h1.setPgen k (h.pgen k + 1)).wr (MAP_DIRn_DIRTY k) 1).irq PG_MAP 2
  { h2 with map := { h2.map with pool := h2.map.pool ++ [PoolUse.mk s k .landed] } }

/-- One pending page swap: deferred near a moving car, otherwise landed. -/
def mapSwapOne (u : PoolUse) (h : Hw) : Hw :=
  let near := decide (u.page ≤ h.map.prevPage + 2) && decide (h.map.prevPage ≤ u.page + 2)
  if h.mapMoving && near then h.wr (MAP_DIRn_DEFERRED u.page) 1 else h.landSlot u.page u.slot

/-- A copied slot is given up: its page returns home, unless a newer slot has landed (R154 step 4, R168). -/
def Hw.homeSlot (u : PoolUse) (h : Hw) : Hw :=
  { h.cond (h.rd (MAP_DIRn_SLOT u.page) = u.slot) (·.wr (MAP_DIRn_LOC u.page) 0) with
    map := { h.map with pool := h.map.pool.filter fun v => decide (v ≠ u) } }

/-- Steps 3 and 4 of R154, and the pages of R156 before them. -/
def Hw.mapSwaps (h : Hw) : Hw :=
  let gone := h.map.unload
  let h1 := { h with map := { h.map with unload := [], rlQueue := h.map.rlQueue ++ gone.filter (· ∉ h.map.rlQueue) } }
  let h2 := h1.each gone fun k h => (h.freePage k).wr (MAP_DIRn_STATE k) 0
  let pend := h2.map.pool.filter (fun u => decide (u.stage = .pending))
  let h3 := h2.each pend mapSwapOne
  let deferred := h3.map.pool.any (fun u => decide (u.stage = .pending))
  let h4 := h3.cond deferred (·.bump MAP_DEFER_DEFCYC 1)
  h4.each (h4.map.pool.filter (fun u => decide (u.stage = .copied))) Hw.homeSlot

/-- One completion (R157, R159). -/
def mapComplete (e : Nat × Option Nat) (h : Hw) : Hw :=
  let h1 := h.freePage e.1
  match e.2 with
  | some g => (h1.setPgen e.1 g).wr (MAP_DIRn_STATE e.1) dirLoaded
  | none => (((h1.wr (MAP_DIRn_STATE e.1) dirBad).irq PG_MAP 1).raise PG_MAP 8).recWard 0x0021 false [e.1]

/-- Step 5 of R154: completions and imports. -/
def Hw.mapArrivals (h : Hw) : Hw :=
  let h1 := { h with map := { h.map with done := [], imports := [] } }
  let h2 := h1.each h.map.done mapComplete
  (h2.each h.map.imports fun e h => h.landSlot e.1 e.2).countLoaded.poolShow

/-! ## Reload (R157) -/

/-- Pages around `k`, nearest first, up before down; `k` may lie above the last page (R151). -/
def nearestFirst (k n : Nat) : List Nat :=
  (if k < n then [k] else []) ++ (List.range (max n k)).flatMap fun d =>
    (if k + (d + 1) < n then [k + (d + 1)] else []) ++ (if d + 1 ≤ k ∧ k - (d + 1) < n then [k - (d + 1)] else [])

/-- The first reload after EN = 1, a START, and the order once the feed is valid. The page in flight stays first. -/
def Hw.mapReload (h : Hw) : Hw :=
  let start := h.map.rlStart || !h.map.sawEn
  let h1 := { h with map := { h.map with sawEn := true, rlStart := false } }
  let asc := (List.range h.mapPages).filter fun k => h.rd (MAP_DIRn_STATE k) = 0 && k ∉ h.map.rlQueue
  let nf := !h.on MAP_CTL_ORDER
  let h2 := if start then
      { h1 with map := { h1.map with rlQueue := h1.map.rlQueue ++ asc, rlSort := nf } }
    else h1
  let h3 := if h2.map.rlSort && h2.pos.fedValid then
      let order := nearestFirst (h2.nat POS_LOOP_POS / 4194304) h2.mapPages
      let q := match h2.map.rlQueue with
        | [] => []
        | k :: l => if start && h.map.rlQueue.isEmpty then order.filter (· ∈ h2.map.rlQueue)
                    else k :: order.filter (· ∈ l)
      { h2 with map := { h2.map with rlQueue := q, rlSort := false } }
    else h2
  ((h3.wr MAP_STAT_RELOADING (b2n (decide (h3.map.rlQueue ≠ [])))).wr MAP_RELOAD_BUSY
    (b2n (decide (h3.map.rlQueue ≠ [])))).wr MAP_RELOAD_NEXT (h3.map.rlQueue.headD 0)

/-- The bolt values of MAP: the raw position passes on, COARSE and CAPREQ (R171). -/
def Hw.mapBolt (h : Hw) : Hw :=
  let h1 := ((h.setReg MAP_POS (h.reg POS_LOOP_POS)).setReg MAP_RAW (h.reg POS_LOOP_POS)).setNat MAP_CORR 0
  ((h1.wr MAP_STAT_COARSE 1).capReq true).wr MAP_STAT_VALID (b2n h.pos.fedValid)

/-- MAP at a position-cycle T0 (R154). Bolted, it passes the raw position on (R171); it is held in BOOT and PROVISION
(R108). -/
def Dev.mapT0 (eccLo eccHi : Bool) (d : Dev) : Dev :=
  let h := d.hw.mapTravel
  if h.bolted PG_MAP then { d with hw := h.mapBolt }
  else if h.running PG_MAP && !h.motionHeld then
    let h1 := h.mapSwaps.mapArrivals.mapReload
    if h1.pos.fedValid then
      let d1 := Dev.mapLookup eccLo eccHi { d with hw := h1 }
      { d1 with hw := d1.hw.stopWindow }
    else { d with hw := (h1.wr MAP_STAT_VALID 0).capReq true }
  else
    let off := { h with map := { h.map with sawEn := h.map.sawEn && h.on (BLK_CTL_EN PG_MAP) } }
    { d with hw := (off.wr MAP_STAT_VALID 0).capReq true }

/-- GENMIS (R170, R171): the generation of the last car frame differs from MAP_GEN. -/
def Hw.genCheck (h : Hw) : Hw :=
  let mis := h.isMachine && h.peer.car.isSome && h.rd MAP_PEER_GEN_GEN ≠ h.rd MAP_GEN_GEN
  (h.wr MAP_STAT_GENMIS (b2n mis)).cond (mis && !h.on MAP_STAT_GENMIS) (·.irq PG_MAP 4)

/-- A write of MAP_GEN: an operating register (R170, R171). -/
def genWrite (who : Who) (w : Word) (h : Hw) : Hw :=
  h.opWrite who PG_MAP fun h => (h.wr MAP_GEN_GEN (getBits w 0 16)).genCheck

/-! ## The page in flight (R158, R159, R162, R163) -/

def flashBase : Nat := 0x100000000

/-- A copy of page `k` with its trailer, if it is valid and authenticates: generation and plaintext. -/
def Dev.flashPage (d : Dev) (k bank trl : Nat) : Option (Nat × List Byte) :=
  let t := flashBase + trl + 64 * k
  let tb := memReadBytes d.mem t 64
  if memNat d.mem t 2 = k && bit (memNat d.mem (t + 2) 2) 0 then
    (d.hw.stored 1).bind fun mk =>
      (Config.gcmOpen mk ((tb.drop 12).take 12) (tb.take 12)
        (memReadBytes d.mem (flashBase + bank + 65536 * k) 65536) ((tb.drop 24).take 16)).map
        (fun data => (memNat d.mem (t + 4) 4, data.take 65536))
  else none

/-- MAP_PAGE_LOADED: the newer of the good copies goes home in DRAM; the reload waits while the flash is busy (R480). -/
def mapLoaded (d : Dev) : Dev :=
  let h := d.hw
  match if h.laneRuns then h.map.rlQueue else [] with
  | [] => d
  | k :: q =>
    let trl := h.nat MAP_FLASH_TRL
    let a := d.flashPage k (h.nat MAP_FLASH_A) trl
    let b := d.flashPage k (h.nat MAP_FLASH_B) (trl + 0x10000)
    let best : Option (Nat × List Byte) := match a, b with
      | some x, some y => if 0 ≤ diff32 x.1 y.1 then some x else some y
      | some x, none => some x
      | none, y => y
    let h1 := { h with map := { h.map with rlQueue := q, done := h.map.done ++ [(k, best.map Prod.fst)] } }
    let h2 := h1.wr MAP_RELOAD_NEXT (q.headD 0)
    { hw := h2, mem := match best with | some x => memWriteBytes d.mem (h.homeBase k) x.2 | none => d.mem }

/-- MAP_RELOAD_START. -/
def reloadWrite (who : Who) (w : Word) (h : Hw) : Hw :=
  h.opWrite who PG_MAP fun h =>
    h.cond (getBits w 0 1 = 1) fun h => { h.wr MAP_RELOAD_BUSY 1 with map := { h.map with rlStart := true } }

/-- A pool slot is in use (R170). -/
def Hw.slotUsed (h : Hw) (s : Nat) : Bool :=
  h.map.pool.any (fun u => decide (u.slot = s)) || h.map.imports.any (fun e => decide (e.2 = s)) ||
    (List.range h.mapPages).any (fun k => h.on (MAP_DIRn_LOC k) && decide (h.rd (MAP_DIRn_SLOT k) = s))

/-- A word of the directory as it reads: SLOT is stored with the IMPORT (R173), while the page stays where it is until it
lands at the next T0 (R170). -/
def Hw.dirWord (h : Hw) (k : Nat) (w : Word) : Word :=
  (h.map.imports.reverse.find? fun e => e.1 = k).elim w fun e => setBits w 16 7 e.2

/-- A write of MAP_DIRn: DIRTY W1C, RELOAD, IMPORT with SLOT (R159, R163, R170, R466). -/
def dirWrite (who : Who) (k : Nat) (w : Word) (h : Hw) : Hw :=
  h.opWrite who PG_MAP fun h =>
    if h.mapPages ≤ k then h
    else
      let s := getBits w 16 7
      let h1 := h.cond (getBits w 27 1 = 1) (·.wr (MAP_DIRn_DIRTY k) 0)
      let h2 := h1.cond (getBits w 25 1 = 1 && k ∉ h1.map.rlQueue) fun h =>
        ({ h with map := { h.map with rlQueue := h.map.rlQueue ++ [k] } }.wr MAP_RELOAD_BUSY 1).wr MAP_STAT_RELOADING 1
      if getBits w 24 1 = 0 then h2
      else if h2.slotUsed s || !h2.bitAt (SEC_POOL_AUTH (s / 32)) (s % 32) then h2.blockFault PG_MAP 12
      else { h2 with map := { h2.map with imports := h2.map.imports ++ [(k, s)] } }

/-! ## Learning (R165, R166) -/

/-- A mark record in memory; one that the bus does not reach is no record (R7, R29). -/
def markAt (h : Hw) (i : Nat) : Nat := h.nat MAP_MARK_BASE + 32 * i
def Hw.markReached (h : Hw) (i : Nat) : Bool := h.busRam (markAt h i) 32

/-- The mark of an edge nearest to `pe`, of those with its DIN, LEVEL and DIR that are enabled. -/
def Dev.findMark (d : Dev) (e : Capture) (down : Bool) (pe : Int) : Option Nat :=
  let sel := (List.range (d.hw.rd MAP_MARK_CNT_CNT)).filter fun i =>
    let c := memNat d.mem (markAt d.hw i + 4) 4
    decide (c % 32 = e.din) && (bit c 5 == e.level) && (bit c 6 == down) && bit c 7 && d.hw.markReached i
  let dist := fun i => ((memNat d.mem (markAt d.hw i) 4 : Int) - pe).natAbs
  let best := sel.foldl (fun (b : Option Nat) i => match b with
    | none => some i
    | some j => if dist i < dist j then some i else some j) none
  best.filter fun i => decide (dist i ≤ d.hw.rd MAP_LRN_CFG_MATCH_WIN * 4096)

/-- MAP_LEARN_ENTRY (R166): once the T0 after the edge has latched its position. -/
def learnEntry (d : Dev) : Dev :=
  let h := d.hw
  match h.pos.capMap with
  | [] => d
  | e :: q =>
    let per := h.pst.endPer
    let since := diff32 h.pos.t0 e.stamp
    if since ≤ 0 then d
    else
      let h1 := { h with pos := { h.pos with capMap := q } }
      let use := h.mode = 9 && h.on MAP_CTL_LEARN && h.rd POS_LOOP_STAT_STATE = 1 && h.running PG_MAP
      if !use then { d with hw := h1 }
      else
        let p0 : Int := h.pos.fed2
        let p1 : Int := h.pos.fed1
        let pe := p0 + (Frac.round ⟨(p1 - p0) * ((per : Int) - since), max 1 (per : Int)⟩)
        match d.findMark e (decide (p1 < p0)) pe with
        | none => { d with hw := h1.bump MAP_LRN_STAT_UNMATCHED 1 }
        | some i =>
          let a := markAt h i
          let dev := (memNat d.mem a 4 : Int) - pe
          let sum := signed 64 (memNat d.mem (a + 16) 8) + dev
          let ssq := memNat d.mem (a + 24) 8 + dev.natAbs * dev.natAbs
          let n := satN 16 (memNat d.mem (a + 8) 2 + 1)
          let m1 := memSetNat d.mem (a + 8) 2 n
          let m2 := memSetNat m1 (a + 16) 8 (sum % 2 ^ 64).toNat
          { hw := h1.bump MAP_LRN_STAT_MATCHED 1, mem := memSetNat m2 (a + 24) 8 (satN 64 ssq) }

/-! ## Rebuild (R167, R168) -/

/-- A qualifying mark: raw place r = TRUE - SUM/N, mean deviation, N, SSQ. -/
structure MarkStat where
  r : Frac
  mean : Frac
  n : Nat
  ssq : Nat

def Dev.markStat (d : Dev) (i : Nat) : MarkStat :=
  let a := markAt d.hw i
  let n := memNat d.mem (a + 8) 2
  let mean : Frac := ⟨signed 64 (memNat d.mem (a + 16) 8), max 1 (n : Int)⟩
  ⟨Frac.sub (.ofInt (memNat d.mem a 4)) mean, mean, n, memNat d.mem (a + 24) 8⟩

/-- Insertion by raw place. -/
def insertMark (x : MarkStat) : List MarkStat → List MarkStat
  | [] => [x]
  | y :: l => if Frac.le y.r x.r then y :: insertMark x l else x :: y :: l

/-- The qualifying marks in raw order. -/
def Dev.marks (d : Dev) : List MarkStat :=
  (((List.range (d.hw.rd MAP_MARK_CNT_CNT)).map d.markStat).filter (fun s => decide (1 ≤ s.n))).foldr insertMark []

/-- The table is sorted by TRUE, non-decreasing (R165), and can be read whole (R7). -/
def Dev.marksSorted (d : Dev) : Bool :=
  (List.range (d.hw.rd MAP_MARK_CNT_CNT)).all d.hw.markReached && (List.range (d.hw.rd MAP_MARK_CNT_CNT - 1)).all fun i =>
    decide (memNat d.mem (markAt d.hw i) 4 ≤ memNat d.mem (markAt d.hw (i + 1)) 4)

/-- The mark is confident: N and SD against CONF_N and CONF_SD * 4.096 LSB. -/
def MarkStat.sure (s : MarkStat) (confN confSd : Nat) : Bool :=
  decide (confN ≤ s.n) &&
    Frac.le (Frac.sub ⟨s.ssq, max 1 (s.n : Int)⟩ (Frac.mul s.mean s.mean)) ⟨(confSd * 4096) ^ 2, 1000000⟩

/-- The adjacent pair whose span holds point `x`. -/
def spanOf : List MarkStat → Frac → Option (MarkStat × MarkStat)
  | a :: b :: l, x =>
    if Frac.le a.r x && Frac.le x b.r && !Frac.le b.r a.r then some (a, b) else spanOf (b :: l) x
  | _, _ => none

/-- The new word of a cell at point `x` (R167). -/
def rebuildCell (h : Hw) (ms : List MarkStat) (x old : Nat) : Nat :=
  match spanOf ms (.ofInt x) with
  | none => old
  | some (lo, hi) =>
    let t := Frac.add lo.mean (Frac.div (Frac.mul (Frac.sub hi.mean lo.mean) (Frac.sub (.ofInt x) lo.r))
      (Frac.sub hi.r lo.r))
    let t4 := max (-8192) (min 8191 ((Frac.add (Frac.mul (.ofInt 125) t) (.ofInt 1024)).num /
      (2048 * (Frac.add (Frac.mul (.ofInt 125) t) (.ofInt 1024)).den)))
    let oc := cellCor old
    let cor := oc + (t4 - oc) / 2 ^ h.rd MAP_LRN_CFG_ALPHA
    let cn := h.rd MAP_LRN_CFG_CONF_N
    let cs := h.rd MAP_LRN_SD_CONF_SD
    (cor % 16384).toNat * 4 + 2 + b2n (lo.sure cn cs && hi.sure cn cs)

/-- The 65,536 bytes of a rebuilt page. -/
def Dev.rebuiltPage (d : Dev) (k : Nat) : List Byte :=
  let ms := d.marks
  let base := d.hw.pagePlace k
  (List.range 32768).flatMap fun o =>
    leBytes 2 (rebuildCell d.hw ms ((k * 32768 + o) * 128) (memNat d.mem (base + 2 * o) 2))

/-- The lowest free slot. -/
def Hw.freeSlot (h : Hw) : Option Nat := (List.range 128).find? fun s => !h.slotUsed s

/-- The rebuild goes to the next page it can work on: UNLOADED and BAD pages are skipped with REBERR, a page whose swap
is pending is waited for. At the end, IRQ bit 3. -/
def rebuildNext : Nat → Nat → Hw → Hw
  | 0, _, h => ((h.wr MAP_REB_STAT_BUSY 0).irq PG_MAP 3)
  | fuel + 1, k, h =>
    if h.map.rbLast < k ∨ h.map.rbStop then
      { ((h.wr MAP_REB_STAT_BUSY 0).wr MAP_STAT_POOLWAIT 0).irq PG_MAP 3 with
        map := { h.map with rbCur := none, rbStop := false } }
    else if h.rd (MAP_DIRn_STATE k) ≠ dirLoaded then rebuildNext fuel (k + 1) (h.blockFault PG_MAP 12)
    else
      Hw.poolShow { h.wr MAP_REB_STAT_CUR k with map := { h.map with rbCur := some k } }

/-- A write of MAP_REB_CTL: FIRST, LAST, START, CANCEL (R168). -/
def rebuildWrite (who : Who) (w : Word) (d : Dev) : Dev :=
  let f := fun (h : Hw) =>
    let h1 := (h.wr MAP_REB_CTL_FIRST (getBits w 0 10)).wr MAP_REB_CTL_LAST (getBits w 16 10)
    let h2 := h1.cond (getBits w 30 1 = 1) fun h =>
      let out := h.map.pool.filter (fun u => decide (u.stage = .pending))
      let h' := h.each out fun u h => (h.wr (MAP_DIRn_SWAPREQ u.page) 0).wr (MAP_DIRn_DEFERRED u.page) 0
      Hw.poolShow { h' with map := { h'.map with
          pool := h'.map.pool.filter (fun u => decide (u.stage ≠ .pending))
          rbStop := h'.map.rbCur.isSome } }
    let legal := decide (4 ≤ h.mode ∧ h.mode ≤ 0xA) && h2.map.rbCur.isNone
    if getBits w 31 1 = 0 ∨ getBits w 30 1 = 1 then h2
    else if !legal then h2
    else if !d.marksSorted then h2.blockFault PG_MAP 12
    else
      let h3 := { h2.wr MAP_REB_STAT_BUSY 1 with
        map := { h2.map with rbLast := min (getBits w 16 10) (h.mapPages - 1), rbStop := false } }
      rebuildNext (h.mapPages + 1) (getBits w 0 10) h3
  { d with hw := d.hw.opWrite who PG_MAP f }

/-- MAP_REBUILD_PAGE_DONE: the page stands in its slot, SWAPREQ sets, the rebuild goes on. It waits for a free slot and
for a swap of the same page; a page that is UNLOADED or BAD by then is skipped with REBERR. -/
def rebuildDone (d : Dev) : Dev :=
  let h := d.hw
  match h.map.rbCur with
  | none => d
  | some k =>
    if h.rd (MAP_DIRn_STATE k) ≠ dirLoaded then
      { d with hw := (rebuildNext (h.mapPages + 1) (k + 1) (h.blockFault PG_MAP 12)).poolShow }
    else if h.map.pool.any (fun u => decide (u.page = k) && decide (u.stage = .pending)) then d
    else match h.freeSlot with
      | none => { d with hw := h.wr MAP_STAT_POOLWAIT 1 }
      | some s =>
        let m := memWriteBytes d.mem (poolBase s) (d.rebuiltPage k)
        let h0 := h.wr (MAP_DIRn_SWAPREQ k) 1
        let h1 := { h0 with map := { h0.map with pool := h0.map.pool ++ [PoolUse.mk s k .pending] } }
        { hw := (rebuildNext (h.mapPages + 1) (k + 1) h1).poolShow, mem := m }

/-- The first landed slot becomes copied. -/
def markCopied : List PoolUse → List PoolUse
  | [] => []
  | u :: l => if u.stage = .landed then { u with stage := .copied } :: l else u :: markCopied l

/-- MAP_WRITEBACK_DONE: slot and home are identical; the page returns home at the next T0. -/
def writebackDone (d : Dev) : Dev :=
  match d.hw.map.pool.find? (fun u => decide (u.stage = .landed)) with
  | none => d
  | some u =>
    { hw := { d.hw with map := { d.hw.map with pool := markCopied d.hw.map.pool } },
      mem := memWriteBytes d.mem (d.hw.homeBase u.page) (memReadBytes d.mem (poolBase u.slot) 65536) }

/-! ## Swap, PARKED, soft reset -/

/-- MAP after a swap (R164): a table that does not rise counts as having no enabled landing. -/
def Hw.mapSwap (h : Hw) : Hw :=
  let h0 := { h with map := { h.map with lndBad := false } }
  let bad := !rising h0.landings
  { h0 with map := { h0.map with lndBad := bad } }.cond bad (·.blockFault PG_MAP 11)

/-- The rebuild stops at PARKED entry; pending swaps stay (R168). -/
def Hw.mapPark (h : Hw) : Hw :=
  Hw.poolShow { h.wr MAP_REB_STAT_BUSY 0 with map := { h.map with rbCur := none, rbStop := false } }

/-! ## Protected map regions (R31, R466) -/

/-- The active map in DRAM. -/
def Hw.mapRegion (h : Hw) : Nat × Nat :=
  if h.env.part = 44 then (0x82000000, 0x83000000) else (0x84000000, 0x88000000)

/-- A pool slot that the directory points at, or whose swap is pending. -/
def Hw.slotGuarded (h : Hw) (s : Nat) : Bool :=
  h.map.pool.any (fun u => decide (u.slot = s) && (u.stage = .pending || u.stage = .landed)) ||
    (List.range h.mapPages).any (fun k => h.on (MAP_DIRn_LOC k) && decide (h.rd (MAP_DIRn_SLOT k) = s))

/-- The pool slots that `n` bytes from `a` touch. -/
def poolSlots (a n : Nat) : List Nat :=
  (List.range 128).filter fun s => decide (poolBase s < a + n) && decide (a < poolBase s + 65536)

/-- A write of `n` bytes at `a` meets the protection of R466. -/
def Hw.mapGuard (h : Hw) (a n : Nat) : Bool :=
  h.map.protOn &&
    ((decide (h.mapRegion.1 < a + n) && decide (a < h.mapRegion.2)) || (poolSlots a n).any h.slotGuarded)

/-- A bit of SEC_POOL_AUTH. -/
def Hw.setPoolAuth (h : Hw) (s : Nat) (b : Bool) : Hw := h.setBitAt (SEC_POOL_AUTH (s / 32)) (s % 32) b

/-- Bytes into memory; a written pool slot loses its POOL_AUTH bit. -/
def Dev.store (d : Dev) (a : Nat) (b : List Byte) : Dev :=
  { hw := d.hw.each (poolSlots a b.length) fun s h => h.setPoolAuth s false, mem := memWriteBytes d.mem a b }

/-- A block writes bytes over the bus: a write outside the part's memories ends in a bus error and stores nothing (R7,
R29), one to a protected map region is refused (R466). -/
def Dev.blockStore (d : Dev) (a : Nat) (b : List Byte) : Dev :=
  if !d.hw.busRam a b.length then d
  else if d.hw.mapGuard a b.length then { d with hw := d.hw.blockFault PG_SEC 9 }
  else d.store a b

/-- A block reads bytes over the bus; what it takes from a read that ends in a bus error the spec leaves open: free bytes
(R7, R29; log entry 63). -/
def Dev.blockLoad (d : Dev) (a n : Nat) : List Byte × Dev :=
  if d.hw.busRam a n then (memReadBytes d.mem a n, d)
  else ((d.hw.draw ((n + 3) / 4)).1.take n, { d with hw := (d.hw.draw ((n + 3) / 4)).2 })

end Sys2Proof.Machine
end

