-- ==== Sys2Proof/Machine/Profile.lean ====
section
/-! DEFINITION. The motion profile: commands, caps, set-points, standstill, stall, step generators, gearing (R174 to
R198). -/

namespace Sys2Proof.Machine

/-! ## Axes -/

def Hw.axis (h : Hw) (n : Nat) : Axis := h.prf.ax.getD n Axis.init
def Hw.setAxis (h : Hw) (n : Nat) (x : Axis) : Hw := { h with prf := { h.prf with ax := h.prf.ax.set n x } }

def Axis.plan (x : Axis) : Plan := ⟨x.p, x.v, x.a⟩
def Axis.withPlan (x : Axis) (s : Plan) : Axis := { x with p := s.p, v := s.v, a := s.a }

def typeCar : Nat := 0
def typeDoor : Nat := 1

/-- The axis is on. -/
def Hw.axOn (h : Hw) (n : Nat) : Bool := h.on (PRF_AXn_CFG_EN n) && !(h.axis n).held
def Hw.axCar (h : Hw) (n : Nat) : Bool := h.axOn n && h.rd (PRF_AXn_CFG_TYPE n) = typeCar

/-- Limits of an axis in the generator's units. -/
def Hw.lim (h : Hw) (n : Nat) : Int × Int × Int × Int :=
  ((if n = 0 && h.axCar 0 then h.int PRF_VCAP else h.int (PRF_AXn_VMAX n)) * unitV, h.int (PRF_AXn_AMAX n) * unitA,
   h.int (PRF_AXn_DMAX n) * unitA, h.int (PRF_AXn_JMAX n))

/-- The period of the cycle that begins, and of the one that has ended, in TMR cycles (R265). -/
def Hw.period (h : Hw) : Nat := h.pst.curPer * h.pst.posDiv
def Hw.endPeriod (h : Hw) : Nat := h.pst.endPer

/-- A rounded set-point. -/
def setPoint (x : Int) (unit : Int) : Int := Frac.round ⟨x, unit⟩

/-- Set-point position of an axis, position LSB. -/
def Axis.pos (x : Axis) : Nat := toU32 (setPoint x.p unitP)

/-! ## Commands (R180 to R186) -/

/-- A command for the next T0; the last before it counts. -/
def Hw.prfCommand (h : Hw) (n op tgt seq who : Nat) : Hw :=
  h.setAxis n { h.axis n with cmd := some ⟨op, tgt, seq, who⟩ }

/-- A write of PRF_AXn_CMD: the target is TGT as it stands now (log entry 9). A standby answers MODE (R360). -/
def cmdWrite (who : Who) (n : Nat) (w : Word) (h : Hw) : Hw :=
  h.opWrite who PG_PRF fun h =>
    if h.standby then (h.setNat (PRF_AXn_RES n) (0x10000 + 256 * getBits w 8 8 + 3)).irq PG_PRF (4 + n)
    else h.prfCommand n (getBits w 0 4) (h.nat (PRF_AXn_TGT n)) (getBits w 8 8) who.num

/-- The door that has handed axis `n` to software (R183, R293). -/
def Hw.axHanded (h : Hw) (n : Nat) : Bool :=
  (List.range 2).any fun d => h.on (DOR_Dn_CFG_EN d) && h.rd (DOR_Dn_CFG_AXIS d) = n && h.rd (DOR_Dn_STAT_STATE d) = 9

/-- The axis would follow the car as a tandem machine, and the part has no tandem gearing (R6). -/
def Hw.noTandem (h : Hw) (n : Nat) : Bool :=
  n ≠ 0 && h.rd (PRF_AXn_GR_CFG_MSRC n) = 0 && h.rd (PRF_AXn_CFG_TYPE 0) = typeCar && !h.hasG

/-- What refuses a command before its own rules: the result code (R182, R183, R190, R194). -/
def Hw.cmdGate (h : Hw) (n : Nat) (c : PrfCmd) : Option Nat :=
  let m := h.mode
  let t := h.rd (PRF_AXn_CFG_TYPE n)
  let geared := decide ((h.axis n).mode = .geared)
  if c.op = 0 ∨ 8 < c.op then some 9
  else if !h.axOn n || (c.op = 5 && h.noTandem n) then some 3
  else
    let gate : Option Nat :=
      if t = typeCar then
        if c.who ≠ 0 ∧ h.rd POS_LOOP_STAT_STATE = 2 then some 8
        else if m = 5 ∨ m = 8 then none
        else if m = 6 ∨ m = 7 ∨ m = 9 ∨ m = 0xA then (if c.who = 0 then none else some 3)
        else if m = 0xB then (if c.op = 2 ∨ c.op = 4 then none else some 3)
        else some 3
      else if t = typeDoor then (if c.who = 16 ∨ h.axHanded n then none else some 6)
      else if h.haltMode then some 3
      else none
    match gate with
    | some k => some k
    | none => if geared && (c.op = 1 || c.op = 2 || c.op = 3) then some 5 else none

/-- VMAX, AMAX, DMAX or JMAX is 0. -/
def Hw.limZero (h : Hw) (n : Nat) : Bool :=
  h.nat (PRF_AXn_VMAX n) = 0 || h.nat (PRF_AXn_AMAX n) = 0 || h.nat (PRF_AXn_DMAX n) = 0 || h.nat (PRF_AXn_JMAX n) = 0

/-- Standstill ends: PST resumes switching (R191). -/
def Hw.unstill (h : Hw) (n : Nat) : Hw :=
  let h1 := { h.wr (PRF_AXn_STAT_STILL n) 0 with prf := { h.prf with coilsOff := setBitN h.prf.coilsOff n false } }
  h1.each ((List.range 6).filter fun k => h1.on (PST_PSn_CFG_AXEN k) && h1.rd (PST_PSn_CFG_AXIS k) = n) fun k h =>
    h.wr (PST_PSn_STAT_STILL k) 0

/-- A move to `tgt` begins; AX0 waits at rest, with MOVING = 0, for the brake sequencer's RUN (R284). While RUN = 0 a
motion that is in progress is a start request too. -/
def Hw.startMove (h : Hw) (n tgt : Nat) (rev : Bool) : Hw :=
  let x := h.axis n
  let waits := n = 0 && h.axCar 0 && h.brkEnabled && !h.on PST_BRK_STAT_RUN
  let mode := if x.mode = .move || x.mode = .stop then AxMode.move else if waits then .wait else .move
  let h1 := (h.unstill n).setAxis n { x with mode := mode, tgt := tgt, abort := false, leave := false, has := true }
  let h2 := ((((h1.wr (PRF_AXn_STAT_MOVING n) (b2n (decide (mode ≠ .wait)))).wr (PRF_AXn_STAT_STOPPED n) 0).wr (PRF_AXn_STAT_DONE n) 0).wr
    (PRF_AXn_STAT_REVERSING n) (b2n rev)).wr (PRF_AXn_STAT_LANDING n) 0
  h2.cond waits Hw.brkStart

/-- The axis goes to its earliest jerk-limited stop; a gear ends first. -/
def Hw.brakeAxis (h : Hw) (n : Nat) (abort leave : Bool) : Hw :=
  let x := h.axis n
  let h1 := h.setAxis n { x with mode := .stop, abort := abort, leave := leave, gear := none }
  (((h1.wr (PRF_AXn_STAT_MOVING n) 0).wr (PRF_AXn_STAT_DONE n) 0).wr (PRF_AXn_STAT_REVERSING n) 0).wr
    (PRF_AXn_STAT_GEARED n) 0

/-- A stop that R185 lists, with STOPPED and PRF_REMAIN, or an ABORT, which R185 does not list (log entry 42). -/
def Hw.stopAxis (h : Hw) (n : Nat) (abort : Bool) : Hw :=
  let h2 := h.brakeAxis n abort false
  let h3 := h2.wr (PRF_AXn_STAT_STOPPED n) 1
  if abort then h2.setNat (PRF_AXn_REMAIN n) 0
  else h3.setNat (PRF_AXn_REMAIN n) (toU32 ((h.nat (PRF_AXn_ATGT n) : Int) - (h.axis n).pos))

/-- The target is behind the axis (R184). -/
def Hw.behind (h : Hw) (n tgt : Nat) : Bool :=
  let s := (h.axis n).plan
  let (_, _, D, J) := h.lim n
  let e := (s.stop D J).2
  if s.dir = 0 then false
  else if 0 < s.dir then !Frac.le e (.ofInt (tgt * unitP)) else !Frac.le (.ofInt (tgt * unitP)) e

/-- The master's position (R194, R198), and whether the master is valid. -/
def Hw.master (h : Hw) (n : Nat) : Nat × Bool :=
  let c := h.rd (PRF_AXn_GR_CFG_MSRC n)
  if c < 4 then (h.nat (PRF_AXn_SP_POS c), h.axOn c && !h.noTandem n)
  else if c = 4 then (h.nat MAP_POS, h.on MAP_STAT_VALID)
  else if 8 ≤ c ∧ c < 14 then (toU32 (h.pos.ext.getD (c - 8) 0), h.srcHealthy (c - 8))
  else (0, false)

/-- The effect of an admitted command, and its result code (R181 to R186, R194, R195). -/
def Hw.cmdDo (h : Hw) (n : Nat) (c : PrfCmd) : Hw × Nat :=
  let x := h.axis n
  let idle := decide (x.mode = .idle)
  if (c.op = 1 ∨ c.op = 2 ∨ c.op = 3 ∨ c.op = 4) ∧ h.limZero n then (h, 7)
  else if c.op = 1 then
    if c.tgt < h.nat (PRF_AXn_PLIM_LO n) ∨ h.nat (PRF_AXn_PLIM_HI n) < c.tgt then (h, 2)
    else
      let b := h.behind n c.tgt
      if b && !h.on (PRF_AXn_CFG_REVERSE_ALLOW n) then (h, 1)
      else (((h.setNat (PRF_AXn_ATGT n) c.tgt).setNat (PRF_AXn_REMAIN n) 0).startMove n c.tgt b, 0)
  else if c.op = 2 then (h.stopAxis n false, 0)
  else if c.op = 3 then
    if !idle then (h, 5)
    else if h.nat (PRF_AXn_REMAIN n) = 0 ∧ x.pos = h.nat (PRF_AXn_ATGT n) then (h, 4)
    else (h.startMove n (h.nat (PRF_AXn_ATGT n)) false, 0)
  else if c.op = 4 then (h.stopAxis n true, 0)
  else if c.op = 5 then
    if !idle then (h, 5)
    else
      let g : Gear := ⟨true, 0, .ofInt x.pos, ⟨0, 1⟩, ⟨0, 1⟩, none⟩
      (((h.unstill n).setAxis n { x with mode := .geared, gear := some g }).wr (PRF_AXn_STAT_GEARED n) 1, 0)
  else if c.op = 6 then
    if x.mode ≠ .geared then (h, 5)
    else
      let h1 := (h.brakeAxis n false true).wr (PRF_AXn_STAT_GRPEND n) 0
      (h1.wr (PRF_AXn_STAT_MSTLOST n) 0, 0)
  else if c.op = 7 then
    if !idle then (h, 5)
    else
      let h1 := ((h.setNat (PRF_AXn_ATGT n) 0).setNat (PRF_AXn_REMAIN n) 0).setAxis n
        { x with p := c.tgt * unitP, v := 0, a := 0, has := false }
      ((h1.wr (PRF_AXn_STAT_STOPPED n) 0).wr (PRF_AXn_STAT_DONE n) 0, 0)
  else if h.on (PRF_AXn_STAT_GRPEND n) then (h, 5)
  else (h.wr (PRF_AXn_STAT_GRPEND n) 1, 0)

/-- The command of an axis at its T0: result and REJ (R180, R182). -/
def takeCmd (n : Nat) (h : Hw) : Hw :=
  match (h.axis n).cmd with
  | none => h
  | some c =>
    let h1 := h.setAxis n { h.axis n with cmd := none }
    let (h2, code) := match h1.cmdGate n c with
      | some k => (h1, k)
      | none => h1.cmdDo n c
    ((h2.setNat (PRF_AXn_RES n) (0x10000 + 256 * c.seq + code)).cond (decide (code ≠ 0)) (·.irq PG_PRF (4 + n)))

/-! ## Caps and mode (R105, R106, R185, R187) -/

def cap25 : Int := 0x271000

/-- MODE_VRATED is at most 20.0 m/s (R106). -/
def ratedMax : Nat := 0x1388000

/-- The mode cap of a mode the car may move in (R106, R350). -/
def Hw.modeCap (h : Hw) (m : Nat) : Nat :=
  if m = 5 then min (h.nat SIS_CAP_RATED) ratedMax
  else if m = 6 then h.nat SIS_CAP_INSP
  else if m = 7 then h.nat SIS_CAP_RESC
  else if m = 8 then min (if h.nat SIS_CAP_FIRE = 0 then h.nat SIS_CAP_RATED else h.nat SIS_CAP_FIRE) ratedMax
  else if m = 9 then h.nat SIS_CAP_LEARN
  else if m = 0xA then (if h.sis.overspeed then 0x186A000 else 0x9D800)
  else 0

/-- The mode change as PRF takes it: MCAP; INSPECTION, RESCUE, SAFE-STOP and modes without drive stop the car axis and
the AUX axes that may not move (log entry 10). SAFE-STOP keeps the cap it came with. -/
def Hw.prfMode (h : Hw) : Hw :=
  let m := h.mode
  if m = h.prf.mode then
    if m = 0xA then h.setNat PRF_MCAP (h.modeCap m) else h
  else
    let h1 := { h with prf := { h.prf with mode := m } }
    let h2 := if m = 0xB then h1 else h1.setNat PRF_MCAP (h.modeCap m)
    h2.each (List.range 4) fun n h =>
      let t := h.rd (PRF_AXn_CFG_TYPE n)
      let act := decide ((h.axis n).mode ≠ .idle ∧ (h.axis n).mode ≠ .stop)
      let drops := if t = typeCar then m = 6 || m = 7 || m = 0xB || !driveMode m
        else t ≠ typeDoor && !driveMode m
      h.cond (act && drops) (·.stopAxis n false)

/-- The effective cap of a CAR axis and what limits it (R187); 0 without one. -/
def Hw.prfCaps (h : Hw) : Hw :=
  if !h.axCar 0 then
    (((h.setNat PRF_VCAP 0).setNat PRF_VCAP_SRC 0).wr (PRF_AXn_STAT_CAPPED 0) 0).cond (decide (h.int PRF_VCAP ≠ 0))
      (·.irq PG_PRF 12)
  else
    let coarse := if h.on MAP_STAT_CAPREQ then some cap25 else none
    let fb := if h.rd POS_LOOP_STAT_STATE = 2 then some cap25 else none
    let caps := [some (h.int (PRF_AXn_VMAX 0)), some (h.int PRF_MCAP), coarse, fb, some (h.int PRF_WCAP)]
    let c := (caps.filterMap id).foldl min (h.int (PRF_AXn_VMAX 0))
    let src := maskOf 5 fun i => decide (caps.getD i none = some c)
    let h1 := ((h.setInt PRF_VCAP c).setNat PRF_VCAP_SRC src).wr (PRF_AXn_STAT_CAPPED 0)
      (b2n (decide (c < h.int (PRF_AXn_VMAX 0))))
    h1.cond (decide (h.int PRF_VCAP ≠ c)) (·.irq PG_PRF 12)

/-- The cap without the coarse-map cap, for PRF_DCAP (R189). -/
def Hw.windowCap (h : Hw) : Int :=
  let c := min (h.int (PRF_AXn_VMAX 0)) (min (h.int PRF_MCAP) (h.int PRF_WCAP))
  if h.rd POS_LOOP_STAT_STATE = 2 then min c cap25 else c

/-! ## The plan (R176 to R179, R184, R185) -/

/-- The axis comes to rest at `p`: arrival at a target, or the end of a stop (R176, R181, R185, R190). -/
def Hw.arrive (h : Hw) (n : Nat) (p : Int) : Hw :=
  let x := h.axis n
  let ended := { x with p := p, v := 0, a := 0, j := 0, mode := .idle }
  let sp := toU32 (setPoint p unitP)
  let h1 := (h.setAxis n ended).wr (PRF_AXn_STAT_MOVING n) 0
  let rem := toU32 ((h.nat (PRF_AXn_ATGT n) : Int) - sp)
  if x.mode = .stop then
    if x.abort then
      (((h1.setAxis n { ended with has := true }).setNat (PRF_AXn_ATGT n) sp).wr (PRF_AXn_STAT_DONE n) 1).irq PG_PRF n
    else if x.leave then h1
    else h1.setNat (PRF_AXn_REMAIN n) rem
  else ((h1.setNat (PRF_AXn_REMAIN n) rem).wr (PRF_AXn_STAT_DONE n) 1).irq PG_PRF n

/-- The step allowed at arrival: 64 position LSB (R176). -/
def snap : Int := 64 * unitP

/-- The jerk of the coming cycle, or the arrival in it. Without a DMAX the axis brings its acceleration to 0 at JMAX and
goes on (R178); without a JMAX its jerk is 0. -/
def planAxis (n : Nat) (h : Hw) : Hw :=
  let x := h.axis n
  let (V, A, D, J) := h.lim n
  let t : Int := h.period
  let s := x.plan
  if (x.mode ≠ .move ∧ x.mode ≠ .stop) ∨ J ≤ 0 ∨ t ≤ 0 then h
  else if D ≤ 0 then
    h.setAxis n { x with j := if 0 < s.dir then jerkFloor s 0 J t else if s.dir < 0 then -(jerkFloor s.neg 0 J t) else 0 }
  else
    let (time, place) := s.stop D J
    let near := Frac.le time (.ofInt t)
    let rev := h.on (PRF_AXn_STAT_REVERSING n)
    let tgt : Int := x.tgt * unitP
    let brakes := x.mode = .stop || rev
    if near && x.mode = .stop then h.arrive n place.round
    else if near && rev then
      let rest : Plan := ⟨place.round, 0, 0⟩
      let fwd := decide (rest.p ≤ tgt)
      let j := if fwd then jerkMove rest V A D J t tgt else -(jerkMove rest.neg V A D J t (-tgt))
      (h.setAxis n { x.withPlan rest with j := j }).wr (PRF_AXn_STAT_REVERSING n) 0
    else if near && !brakes && decide ((place.round - tgt).natAbs ≤ snap.natAbs) then h.arrive n tgt
    else
      let fwd := if s.dir ≠ 0 then decide (0 < s.dir) else decide (s.p ≤ tgt)
      let j := if brakes then (if fwd then jerkStop s D J t else -(jerkStop s.neg D J t))
        else if fwd then jerkMove s V A D J t tgt else -(jerkMove s.neg V A D J t (-tgt))
      h.setAxis n { x with j := j }

/-- The planned state at this T0 (R177). -/
def integrateAxis (n : Nat) (h : Hw) : Hw :=
  let x := h.axis n
  if x.mode = .move ∨ x.mode = .stop then h.setAxis n { x.withPlan (x.plan.step x.j h.endPeriod) with j := 0 } else h

/-- Set-points of an axis that is not geared (R177, R185). -/
def publishAxis (n : Nat) (h : Hw) : Hw :=
  let x := h.axis n
  if x.mode = .geared then h
  else
    let sp := x.pos
    let h1 := ((h.setNat (PRF_AXn_SP_POS n) sp).setInt (PRF_AXn_SP_SPD n) (sat32 (setPoint x.v unitV))).setInt
      (PRF_AXn_SP_ACC n) (sat32 (setPoint x.a unitA))
    h1.cond (decide (x.mode = .stop) && !x.abort && !x.leave)
      (·.setNat (PRF_AXn_REMAIN n) (toU32 ((h.nat (PRF_AXn_ATGT n) : Int) - sp)))

/-- LIMHIT: the set-point stands at a PLIM, or beyond (R198). -/
def limitAxis (n : Nat) (h : Hw) : Hw :=
  let sp := h.nat (PRF_AXn_SP_POS n)
  h.wr (PRF_AXn_STAT_LIMHIT n)
    (b2n (h.axOn n && (decide (sp ≤ h.nat (PRF_AXn_PLIM_LO n)) || decide (h.nat (PRF_AXn_PLIM_HI n) ≤ sp))))

/-- An idle CAR axis with its brake applied stands where the car is, on or off, before the commands of the T0 (R179). -/
def Hw.anchorCar (h : Hw) : Hw :=
  let x := h.axis 0
  if h.isMachine && h.rd (PRF_AXn_CFG_TYPE 0) = typeCar && x.mode = .idle && h.rd PST_BRK_STAT_STATE = 0 then
    h.setAxis 0 { x with p := h.nat MAP_POS * unitP, v := 0, a := 0 }
  else h

/-- LANDING_SUPERSEDE (R190): on a switch to ALTERNATE while AX0 moves, the nearest landing at or beyond p_e; without one
the car stops at p_e. A car that stops for SAFE-STOP or for a Ward cap of 0 stops on (log entry 59). -/
def Hw.supersede (h : Hw) : Hw :=
  let alt := decide (h.rd POS_LOOP_STAT_STATE = 2)
  let h1 := { h with prf := { h.prf with alt := alt } }
  let x := h.axis 0
  let (_, _, D, J) := h.lim 0
  let moves := x.mode = .move || (x.mode = .stop && h.mode ≠ 0xB && h.int PRF_WCAP ≠ 0)
  if !alt || h.prf.alt || !h.axCar 0 || !moves || x.plan.dir = 0 then h1
  else
    let up := decide (0 < x.plan.dir)
    let e := (x.plan.stop D J).2
    let ok := if D ≤ 0 ∨ J ≤ 0 then [] else h.landings.filter fun l =>
      if up then Frac.le e (.ofInt (l.2.1 * unitP)) else Frac.le (.ofInt (l.2.1 * unitP)) e
    match if up then ok.head? else ok.getLast? with
    | none => h1.cond (decide (x.mode = .move)) (·.stopAxis 0 false)
    | some l =>
      let h2 := (h1.setAxis 0 { x with mode := .move, tgt := l.2.1, abort := false, leave := false }).wr (PRF_AXn_STAT_LANDING 0) 1
      let h3 := ((h2.wr (PRF_AXn_STAT_REVERSING 0) 0).wr (PRF_AXn_STAT_MOVING 0) 1).wr (PRF_AXn_STAT_STOPPED 0) 0
      (h3.wr PRF_LND_LANDING l.1).wr PRF_LND_VALID 1

/-- A distance register: 0 from rest; without a DMAX and a JMAX no stop is defined, and the value is free (R189, log
entry 4). -/
def Hw.setDistance (h : Hw) (a : Nat) (still defined : Bool) (d : Nat) : Hw :=
  if defined then h.setNat a d
  else if still then h.setNat a 0
  else h.free fun w h => h.setReg a w

/-- PRF_DCAP and PRF_DSTOP (R189). In the CAR role DSTOP is the machine frame's (`machineFrame`). -/
def Hw.distances (h : Hw) : Hw :=
  if h.isCar then h.setNat PRF_DCAP 0
  else
    let D := h.nat (PRF_AXn_DMAX 0)
    let J := h.nat (PRF_AXn_JMAX 0)
    let v := max h.windowCap.toNat (h.int (PRF_AXn_SP_SPD 0)).natAbs
    let s := (h.axis 0).plan
    let ok := decide (D ≠ 0 ∧ J ≠ 0)
    let e := satN 32 (setPoint ((s.stop (D * unitA) J).2.round - s.p) unitP).natAbs
    (h.setDistance PRF_DCAP (v = 0) ok (windowDist v D J)).setDistance PRF_DSTOP (s.v = 0 && s.a = 0) ok e

/-! ## Gearing (R194, R195) -/

/-- A ratio register as an exact quotient. -/
def ratioOf (w : Word) : Frac := ⟨signed 16 w.toNat, max 1 (getBits w 16 16 : Int)⟩

/-- Lowest terms, so that the remainder of R194 stays small. -/
def Frac.lower (f : Frac) : Frac :=
  let g : Int := Nat.gcd f.num.natAbs f.den.natAbs
  if g = 0 then f else ⟨f.num / g, f.den / g⟩

/-- Slave travel at master travel `s` beyond GR_AT, in the direction of the crossing (R195). -/
def blendAt (r0 r1 : Frac) (len s : Int) : Frac :=
  if s ≤ 0 then Frac.mul r0 (.ofInt s)
  else
    let c := min s len
    let inner := if len = 0 then ⟨0, 1⟩
      else Frac.add (Frac.mul r0 (.ofInt c)) (Frac.mul (Frac.sub r1 r0) ⟨c * c, 2 * len⟩)
    Frac.add inner (Frac.mul r1 (.ofInt (s - c)))

/-- How many geared axes stand between axis `n` and a master that is none, itself counted. -/
def Hw.gearDepth (h : Hw) : Nat → Nat → Nat
  | 0, _ => 0
  | k + 1, n =>
    if (h.axis n).mode ≠ .geared then 0
    else 1 + (if h.rd (PRF_AXn_GR_CFG_MSRC n) < 4 then h.gearDepth k (h.rd (PRF_AXn_GR_CFG_MSRC n)) else 0)

/-- The geared axes, every master before its slaves. -/
def Hw.gearOrder (h : Hw) : List Nat :=
  [1, 2, 3, 4].flatMap fun d => (List.range 4).filter fun n => h.gearDepth 4 n = d

/-- One cycle of a geared axis, whose first is that of its engagement (R194); the ratio change is committed in the cycle of
the crossing (R195, R196). -/
def gearAxis (n : Nat) (h : Hw) : Hw :=
  let x := h.axis n
  match x.mode, x.gear with
  | .geared, some g0 =>
    let (m, ok) := h.master n
    let g := if g0.fresh then { g0 with fresh := false, mast := m } else g0
    let flt := h.on (PRF_AXn_GR_CFG_LIMFLT n)
    let fault := fun (b : Nat) (h : Hw) => if flt then h.raise PG_PRF b else h.blockFault PG_PRF b
    let d : Int := if ok then diff32 m g.mast else 0
    let r0 := ratioOf (h.reg (PRF_AXn_GR_RATIO n))
    let r1 := ratioOf (h.reg (PRF_AXn_GR_NEXT n))
    let len : Int := h.nat (PRF_AXn_GR_BLEND n)
    let toAt := diff32 (h.nat (PRF_AXn_GR_AT n)) g.mast
    let crosses := h.on (PRF_AXn_STAT_GRPEND n) && g.blend.isNone && decide (d ≠ 0) &&
      (decide (0 ≤ toAt ∧ toAt ≤ d) || decide (d ≤ toAt ∧ toAt ≤ 0))
    let bl := if crosses then
        some (Blend.mk d.sign ((d - toAt) * d.sign) (Frac.add g.pos (Frac.mul r0 (.ofInt toAt))))
      else g.blend.map fun b => { b with s := b.s + d * b.sgn }
    let pos := match bl with
      | some b => Frac.add b.base (Frac.mul (.ofInt b.sgn) (blendAt r0 r1 len b.s))
      | none => Frac.add g.pos (Frac.mul r0 (.ofInt d))
    let landed := bl.elim false (fun b => decide (len ≤ b.s))
    let dp := (Frac.sub pos g.pos).lower
    let t : Int := max 1 (h.endPeriod : Int)
    let spd := Frac.round ⟨dp.num * 100000000, dp.den * t⟩
    let dd := Frac.sub dp g.d1
    let acc := Frac.round ⟨dd.num * 40000000000000000, dd.den * t * t⟩
    let g' : Gear := ⟨false, if ok then m else g.mast, pos.lower, dp, g.d1, if landed then none else bl⟩
    let vUnits := Frac.round ⟨dp.num * 100000000 * unitV, dp.den * t⟩
    let aUnits := Frac.round ⟨dd.num * 40000000000000000 * unitA, dd.den * t * t⟩
    let x' := { x with gear := some g', p := Frac.round ⟨pos.num * unitP, pos.den⟩, v := vUnits, a := aUnits }
    let h1 := ((h.setAxis n x').setNat (PRF_AXn_SP_POS n) (toU32 pos.round)).setInt (PRF_AXn_SP_SPD n) (sat32 spd)
    let h2 := (h1.setInt (PRF_AXn_SP_ACC n) (sat32 acc)).wr (PRF_AXn_STAT_MSTLOST n) (b2n !ok)
    let h3 := h2.cond (!ok) (fault 11)
    let beyond := decide (h.int (PRF_AXn_VMAX n) < spd.natAbs) || decide (h.int (PRF_AXn_AMAX n) < acc.natAbs)
    let h4 := (h3.cond beyond (fault 10)).cond crosses (·.irq PG_PRF 13)
    h4.cond landed fun h =>
      (h.setReg (PRF_AXn_GR_RATIO n) (h.reg (PRF_AXn_GR_NEXT n))).wr (PRF_AXn_STAT_GRPEND n) 0
  | _, _ => h

/-! ## Standstill and stall (R191, R192) -/

/-- AXIS_STANDSTILL: the mode goes to the sets that follow the axis. -/
def axisRests (n : Nat) (h : Hw) : Hw :=
  if h.running PG_PRF && (h.axis n).mode = .idle && h.int (PRF_AXn_SP_SPD n) = 0 && h.int (PRF_AXn_SP_ACC n) = 0 &&
      !h.on (PRF_AXn_STAT_STILL n) then
    let h1 := h.wr (PRF_AXn_STAT_STILL n) 1
    h1.each ((List.range 6).filter fun k => h1.on (PST_PSn_CFG_AXEN k) && h1.rd (PST_PSn_CFG_AXIS k) = n) fun k h =>
      Hw.refreshSet k (h.wr (PST_PSn_STAT_STILL k) 1)
  else h

/-- The count of LANG above STALL_ANG at a T0 (R192). -/
def stallCount (n : Nat) (h : Hw) : Hw :=
  let x := h.axis n
  let slow := decide ((h.int (PRF_AXn_SP_SPD n)).natAbs < h.nat (PRF_AXn_STALL_VMIN n))
  let beyond := decide (h.rd (PRF_AXn_STALL_ANG n) < h.rd (PRF_AXn_LANG_LANG n))
  let c := if h.rd (PRF_AXn_CFG_TYPE n) = typeCar || slow || !beyond then 0 else min (x.stallCnt + 1) 16
  h.setAxis n { x with stallCnt := c }

/-- AXIS_STALL: STALL sets and STALL_ACT applies once the count has reached STALL_N. -/
def axisStalls (n : Nat) (h : Hw) : Hw :=
  let x := h.axis n
  if x.stallCnt = 0 ∨ x.stallCnt < h.rd (PRF_AXn_STALL_N n) then h
  else
    let h0 := { h with dor := { h.dor with stallEv := setBitN h.dor.stallEv n true } }
    let h1 := (h0.wr (PRF_AXn_STAT_STALL n) 1).irq PG_PRF (8 + n)
    let act := h.rd (PRF_AXn_STALL_ACT n)
    if act = 1 then
      (h1.cond (decide (x.mode ≠ .idle ∧ x.mode ≠ .stop)) (·.stopAxis n false)).raise PG_PRF 9
    else if act = 2 then
      let h3 := h1.setAxis n { x with v := 0, a := 0, j := 0, mode := .idle, gear := none }
      let h4 := (((h3.setNat (PRF_AXn_SP_SPD n) 0).setNat (PRF_AXn_SP_ACC n) 0).wr (PRF_AXn_STAT_STILL n) 1).wr
        (PRF_AXn_STAT_MOVING n) 0
      let h5 := (h4.wr (PRF_AXn_STAT_GEARED n) 0).wr (PRF_AXn_STAT_REVERSING n) 0
      let h6 := { h5 with prf := { h5.prf with coilsOff := setBitN h5.prf.coilsOff n true } }
      (h6.each ((List.range 6).filter fun k => h6.on (PST_PSn_CFG_AXEN k) && h6.rd (PST_PSn_CFG_AXIS k) = n) fun k h =>
        Hw.refreshSet k (h.wr (PST_PSn_STAT_STILL k) 1)).raise PG_PRF 9
    else h1

/-! ## Step generators (R193) -/

def Hw.stp (h : Hw) (k : Nat) : StepGen := h.prf.stp.getD k StepGen.init
def Hw.setStp (h : Hw) (k : Nat) (g : StepGen) : Hw := { h with prf := { h.prf with stp := h.prf.stp.set k g } }

/-- A generator works. -/
def Hw.stpLive (h : Hw) (k : Nat) : Bool :=
  h.on (PRF_STPk_CTL_EN k) && !(h.stp k).held && h.running PG_PRF && !h.doorsHeld

/-- v_eff at `tau` cycles after the latest set-point's T0, in speed LSB. -/
def Hw.stepSpeed (h : Hw) (k tau : Nat) : Frac :=
  let n := h.rd (PRF_STPk_CTL_AXIS k)
  let v := h.int (PRF_AXn_SP_SPD n)
  let a := h.int (PRF_AXn_SP_ACC n)
  let t : Int := tau
  let p := Frac.add (.ofInt (h.nat (PRF_AXn_SP_POS n))) (Frac.add ⟨v * t, 100000000⟩ ⟨a * t * t, 80000000000000000⟩)
  let e := Frac.sub p (.ofInt ((h.nat (PRF_STPk_LEN k) : Int) * h.int (PRF_STPk_CNT k)))
  Frac.add (Frac.add (.ofInt v) ⟨a * t, 400000000⟩) ⟨e.num * 100000000, e.den * max 1 (h.period : Int)⟩

/-- The interval is computed: clamp, SLOW, direction; the DIR ball is high on the way down, inverted by DIRPOL (log entry
60). -/
def stepCompute (k tau : Nat) (h : Hw) : Hw :=
  let ve := h.stepSpeed k tau
  let g := h.stp k
  let len := h.nat (PRF_STPk_LEN k)
  let num := len * 100000000 * ve.den.natAbs
  let i := if ve.num = 0 then 0 else (num + ve.num.natAbs - 1) / ve.num.natAbs
  if ve.num = 0 ∨ 4294967295 < i then (h.setStp k { g with armed := false }).wr (PRF_STPk_STAT_SLOW k) 1
  else
    let clamp := decide (i < 2000)
    let h1 := ((h.setStp k { g with armed := true, down := decide (ve.num < 0), dir := decide (ve.num < 0) != h.on (PRF_STPk_CTL_DIRPOL k) }).wr (PRF_STPk_STAT_SLOW k) 0).setNat
      (PRF_STPk_IVAL k) (max i 2000)
    h1.cond clamp fun h => (h.wr (PRF_STPk_STAT_STPSAT k) 1).irq PG_PRF 14

/-- STEP_ISSUE. -/
def stepPulse (k tau : Nat) (h : Hw) : Hw :=
  if h.stpLive k && (h.stp k).armed then
    stepCompute k tau (h.setInt (PRF_STPk_CNT k) (h.int (PRF_STPk_CNT k) + (if (h.stp k).down then -1 else 1)))
  else h

/-! ## The T0 and the rest of the block -/

/-- A disabled or held axis stands where it is. -/
def dropAxis (n : Nat) (h : Hw) : Hw :=
  let x := h.axis n
  if h.axOn n then h
  else ((h.setAxis n { x with v := 0, a := 0, j := 0, mode := .idle, gear := none }).wr (PRF_AXn_STAT_MOVING n) 0).wr
    (PRF_AXn_STAT_GEARED n) 0

/-- AX0 goes on from its wait once the sequencer shows RUN, and stops where the sequencer has dropped the start (R284). -/
def Hw.brakeFollow (h : Hw) : Hw :=
  let x := h.axis 0
  let h1 := if x.mode = .wait && (h.on PST_BRK_STAT_RUN || !h.brkEnabled) then
    (h.setAxis 0 { x with mode := .move }).wr (PRF_AXn_STAT_MOVING 0) 1 else h
  if h1.pst.axStop then
    let h2 := { h1 with pst := { h1.pst with axStop := false } }
    h2.cond (decide ((h2.axis 0).mode = .move ∨ (h2.axis 0).mode = .wait)) (·.stopAxis 0 false)
  else h1

/-- The outputs of a bolted PRF (R196). -/
def Hw.prfBolt (h : Hw) : Hw :=
  let h1 := h.each (List.range 4) fun n h => (h.setNat (PRF_AXn_SP_SPD n) 0).setNat (PRF_AXn_SP_ACC n) 0
  let h2 := (h1.setNat PRF_DCAP 0xFFFFFFFF).setNat PRF_DSTOP 0xFFFFFFFF
  { h2 with prf := { h2.prf with spOld := [] } }

/-- The set-point registers with their words. -/
def Hw.setPoints (h : Hw) : List (Nat × Word) :=
  (List.range 4).flatMap fun n => [PRF_AXn_SP_POS n, PRF_AXn_SP_SPD n, PRF_AXn_SP_ACC n].map fun a => (a, h.reg a)

/-- PROFILE_STEP: all of PRF at a position-cycle T0, in the order of R180 (R177, R196). The set-point registers read the
previous cycle's words until the set-points are published (R208). -/
def Hw.prfT0 (h : Hw) : Hw :=
  if h.bolted PG_PRF then h.prfBolt
  else if !h.running PG_PRF || h.doorsHeld then h
  else
    let old := h.setPoints
    let h1 := ((h.each (List.range 4) dropAxis).prfMode.prfCaps.brakeFollow.each (List.range 4) integrateAxis).anchorCar
    let h3 := (h1.each (List.range 4) takeCmd).supersede
    let h4 := h3.cond (decide (h3.int PRF_WCAP = 0) && decide ((h3.axis 0).mode = .move ∨ (h3.axis 0).mode = .wait ∨ (h3.axis 0).mode = .geared) &&
      h3.axCar 0) (·.stopAxis 0 false)
    let h5 := (h4.each (List.range 4) planAxis).each (List.range 4) publishAxis
    let h6 := ((h5.each h5.gearOrder gearAxis).each (List.range 4) limitAxis).each (List.range 4) stallCount
    let h7 := h6.distances.each ((List.range 2).filter h6.stpLive) fun k h => stepCompute k 0 h
    { h7 with prf := { h7.prf with spOld := old } }

/-- WARD_CAP_WRITE (R187, R196): agent 0 alone. -/
def wardCap (who : Who) (w : Word) (h : Hw) : Hw := h.agent0 who PG_PRF 12 fun h => h.setReg PRF_WCAP w

/-- An axis whose configuration R196 calls invalid; gearing to the car without [G] among them (R6; log entry 61). -/
def Hw.axInvalid (h : Hw) (n : Nat) : Bool :=
  let t := h.rd (PRF_AXn_CFG_TYPE n)
  let m := h.rd (PRF_AXn_GR_CFG_MSRC n)
  let carSlave := t = 2 && m < 4 && h.rd (PRF_AXn_CFG_TYPE m) = typeCar
  t = 3 || (t = typeCar && (n ≠ 0 || !h.isMachine)) || decide (0x186A000 < h.nat (PRF_AXn_VMAX n)) ||
    decide (0x1F4000 < h.nat (PRF_AXn_AMAX n)) || decide (0x1F4000 < h.nat (PRF_AXn_DMAX n)) ||
    (t = typeCar && decide (0xFA000 < h.nat (PRF_AXn_JMAX n))) || h.rd (PRF_AXn_STALL_ACT n) = 3 ||
    ((t = typeCar || carSlave) && h.rd (PRF_AXn_CFG_STILL n) ≠ 2) || h.rd (PRF_AXn_GR_RATIO_DEN n) = 0 || m = n || h.noTandem n ||
    (decide (4 < m ∧ m < 8) || m = 14)

/-- A step generator whose configuration is invalid (R193). -/
def Hw.stpInvalid (h : Hw) (k : Nat) : Bool :=
  let su := if h.rd (PRF_STPk_CTL_SETUP k) = 0 then 100 else h.rd (PRF_STPk_CTL_SETUP k)
  h.rd (PRF_AXn_CFG_TYPE (h.rd (PRF_STPk_CTL_AXIS k))) = typeCar || decide (5000 ≤ h.rd (PRF_STPk_CTL_PW k) * 20 + su * 10)

/-- PRF after a swap (R196): a disabled generator's fields are judged too. -/
def Hw.prfSwap (h : Hw) : Hw :=
  let h1 := h.each (List.range 4) fun n h => h.setAxis n { h.axis n with held := h.axInvalid n }
  let h2 := h1.each (List.range 2) fun k h => h.setStp k { h.stp k with held := h.stpInvalid k }
  h2.cond ((List.range 4).any h.axInvalid || (List.range 2).any h.stpInvalid)
    (·.blockFault PG_PRF 8)

end Sys2Proof.Machine
end

