-- ==== Sys2Proof/Machine/Doors.lean ====
section
/-! DEFINITION. Doors, the clamp, obstruction, the door zone, contacts (R291 to R308, R314 to R316). -/

namespace Sys2Proof.Machine

/-! ## Access -/

def Hw.dr (h : Hw) (n : Nat) : Door := h.dor.door.getD n Door.init
def Hw.setDr (h : Hw) (n : Nat) (x : Door) : Hw := { h with dor := { h.dor with door := h.dor.door.set n x } }

/-- Door states (R316). -/
def Hw.dst (h : Hw) (n : Nat) : Nat := h.rd (DOR_Dn_STAT_STATE n)

/-- A door is enabled. -/
def Hw.doorOn (h : Hw) (n : Nat) : Bool := h.isCar && h.on (DOR_Dn_CFG_EN n)

/-- The PRF axis of a door. -/
def Hw.dAxis (h : Hw) (n : Nat) : Nat := h.rd (DOR_Dn_CFG_AXIS n)

/-- A door enters a state: STAT, interrupt, the UNLOCK request of the states that end it. -/
def Hw.doorGo (h : Hw) (n s : Nat) : Hw :=
  if h.dst n = s then h
  else ((h.wr (DOR_Dn_STAT_STATE n) s).wr (DOR_Dn_STAT_NUDGE n) (b2n (decide (s = 6)))).irq PG_DOR n

def Hw.setUnlock (h : Hw) (n : Nat) (b : Bool) : Hw := { h with dor := { h.dor with unlock := setBitN h.dor.unlock n b } }

/-- A PRF command of DOR (R296); the spec gives it no SEQ (log entry 4). -/
def Hw.doorPrf (h : Hw) (n op tgt : Nat) : Hw :=
  h.free fun w h => h.prfCommand (h.dAxis n) op tgt (w.toNat % 256) 16

/-- The car stands: the machine frame's brake applied and |VMEAS| below 10 mm/s (R294). -/
def Hw.carStill (h : Hw) : Bool := h.peer.mach.elim false fun m => bit m.state 5 && decide (m.vmeas.natAbs < 10240)

/-- The landing's attribute bit matches door `n` (R294); a table that does not rise has no enabled landing (R164). -/
def Hw.landingHas (h : Hw) (l n : Nat) : Bool := !h.map.lndBad && h.on (MAP_LNDn_ATTR_EN l) && h.bitAt (MAP_LNDn_ATTR l) (1 + n)

/-- The car stands in the door zone of a landing with this door. -/
def Hw.doorZone (h : Hw) (n : Nat) : Bool := h.on DOR_DZ_STAT_IN && h.landingHas (h.rd DOR_DZ_STAT_LANDING) n

/-- Every enabled monitor of kind `k` of door `n` shows `closed`. -/
def Hw.contacts (h : Hw) (n k : Nat) (closed : Bool) : Bool :=
  (List.range 8).all fun i => !h.on (DOR_CTk_CFG_EN i) || h.rd (DOR_CTk_CFG_KIND i) ≠ k || h.rd (DOR_CTk_CFG_DOOR i) ≠ n ||
    h.on (DOR_CTk_STAT_LEVEL i) == closed

/-- The Ward's grant of a door: its lock output is energised. -/
def Hw.grant (h : Hw) (n : Nat) : Bool := bit (h.rd SIS_OUT_STAT_OUT) (4 + n)

/-! ## Position, door zone (R292, R306) -/

def Hw.doorX (h : Hw) (n : Nat) : Int :=
  let y := h.pos.ext.getD (h.rd (DOR_Dn_CFG_QSRC n)) 0 * (h.nat (DOR_Dn_SCALE n) : Int) / 16384
  h.int (DOR_Dn_OFS n) + (if h.on (DOR_Dn_CFG_NEG n) then -y else y)

/-- The speed of R292 at a current-cycle T0. -/
def Hw.doorV (h : Hw) (n : Nat) : Int :=
  let q := h.rd (DOR_Dn_CFG_QSRC n)
  let (num, den, _, _) := edgeSpeed (h.q q).ring (h.pair PST_TB_CNT_LO) (h.rd (POS_Qn_SPDCFG_SPD_MINWIN q))
    (h.rd (POS_Qn_SPDCFG_SPD_TMAX q))
  let y := sat32 (roundDiv (num * 64) den) * (h.nat (DOR_Dn_SCALE n) : Int) / 4194304
  if h.on (DOR_Dn_CFG_NEG n) then -y else y

/-- The enabled landing nearest a position, the lower index between equals: number and LPOS. -/
def nearestLanding (p : Nat) : List (Nat × Nat × Int) → Option (Nat × Nat)
  | [] => none
  | a :: l => match nearestLanding p l with
    | none => some (a.1, a.2.1)
    | some b => if ((p : Int) - a.2.1).natAbs ≤ ((p : Int) - b.2).natAbs then some (a.1, a.2.1) else some b

/-- DOR_DZ_* at a T0 (R306). A bolted DOR reads IN = 0 (R314). -/
def Hw.doorZoneT0 (h : Hw) : Hw :=
  let p := h.nat MAP_POS
  match if h.on MAP_STAT_VALID then nearestLanding p h.landings else none with
  | none => { ((h.wr DOR_DZ_STAT_VALID 0).wr DOR_DZ_STAT_IN 0).wr DOR_DZ_STAT_DZMIS 0 with dor := { h.dor with dzCnt := 0 } }
  | some (l, lp) =>
    let d : Int := (p : Int) - lp
    let half := h.rd (MAP_LNDn_ATTR_DZ_HALF l)
    let slack := h.rd DOR_DZ_CFG_DZ_SLACK
    let seen := h.bitAt POS_DIN (h.rd DOR_DZ_CFG_DZS_DIN)
    let bad := h.on DOR_DZ_CFG_DZS_EN &&
      ((seen && decide ((half + slack) * 4096 < d.natAbs)) || (!seen && decide (d.natAbs < (half - slack) * 4096)))
    let c := if bad then min (h.dor.dzCnt + 1) 8 else 0
    let h1 := (((h.setInt DOR_DZ_DIST d).wr DOR_DZ_STAT_VALID 1).wr DOR_DZ_STAT_LANDING l).wr DOR_DZ_STAT_IN
      (b2n (decide (d.natAbs ≤ half * 4096)))
    let h2 := { h1 with dor := { h1.dor with dzCnt := c } }.wr DOR_DZ_STAT_DZMIS (b2n (decide (c = 8)))
    h2.cond (decide (c = 8) && decide (h.dor.dzCnt < 8)) fun h => (h.irq PG_DOR 7).raise PG_DOR 16

/-! ## Contacts (R307, R308) -/

/-- The speed the contact checks use: VMEAS in the CAR role, WSPD in the MACHINE role. -/
def Hw.carSpeed (h : Hw) : Nat :=
  if h.isCar then (h.peer.mach.elim 0 (·.vmeas)).natAbs else (h.int SIS_WSPD).natAbs

/-- The state of door `n` in the last car frame (R413). -/
def Hw.carDoor (h : Hw) (n : Nat) : Option Nat := h.peer.car.map fun c => getBits (BitVec.ofNat 32 c.door) (4 * n) 4

/-- The door of a monitor is that of the car frame (R307): a LANDING_LOCK monitor in the MACHINE role. -/
def Hw.farDoor (h : Hw) (k : Nat) : Bool := !h.isCar && h.rd (DOR_CTk_CFG_KIND k) = 2

/-- The related door of a monitor is CLOSED, as this unit or the car frame shows it. -/
def Hw.relatedClosed (h : Hw) (k : Nat) : Bool :=
  let n := h.rd (DOR_CTk_CFG_DOOR k)
  if h.farDoor k then h.carDoor n = some 0 else h.dst n = 0 && h.doorOn n

/-- No MOVE waits for a later T0 any more. -/
def Hw.noLater (h : Hw) (n : Nat) : Hw := h.setDr n { h.dr n with later := none }

/-- A door goes to FAULT for its contacts (R296): ABORT, the UNLOCK request withdrawn. -/
def Hw.doorFault (h : Hw) (n : Nat) : Hw :=
  if h.doorOn n && h.dst n ≠ 11 then (((h.noLater n).doorGo n 11).setUnlock n false).doorPrf n 4 0 else h

/-- What a monitor of the kinds 0 to 2 reports while it reads open: UNEXP, CTOPEN. -/
def contactCheck (k : Nat) (h : Hw) : Hw :=
  if !h.on (DOR_CTk_CFG_EN k) || h.rd (DOR_CTk_CFG_KIND k) = 3 || h.on (DOR_CTk_STAT_LEVEL k) then h
  else
    let unexp := h.relatedClosed k && !h.on (DOR_CTk_STAT_UNEXP k)
    let ctopen := decide (10240 ≤ h.carSpeed) && !h.on DOR_DZ_STAT_IN
    let h1 := h.cond unexp fun h => (h.wr (DOR_CTk_STAT_UNEXP k) 1).irq PG_DOR 6
    h1.cond ctopen fun h =>
      ((h.wr (DOR_CTk_STAT_CTOPEN k) 1).raise PG_DOR 11).doorFault (h.rd (DOR_CTk_CFG_DOOR k))

/-- CONTACT_LEVEL_CHANGE. -/
def contactLevel (k : Nat) (closed : Bool) (rejected : Nat) (h : Hw) : Hw :=
  if !h.on (DOR_CTk_CFG_EN k) || h.bolted PG_DOR then h
  else
    let h1 := (h.bump (DOR_CTk_STAT_CHAT k) rejected).cond (decide (0 < rejected)) (·.irq PG_DOR 6)
    contactCheck k (h1.wr (DOR_CTk_STAT_LEVEL k) (b2n closed))

/-- CONTACT_BYPASS: closed though the door stands more than BYP_GAP open. The car frame carries the state of a door and not
its position: between CLOSED or UNLOCKING and OPEN, how far it stands open is a free value in the MACHINE role (log entry
67). -/
def contactBypassed (k : Nat) (h : Hw) : Hw :=
  let n := h.rd (DOR_CTk_CFG_DOOR k)
  let found := fun (h : Hw) => ((h.wr (DOR_CTk_STAT_BYPASS k) 1).raise PG_DOR 10).doorFault n
  if !(h.on (DOR_CTk_CFG_EN k) && h.rd (DOR_CTk_CFG_KIND k) ≠ 3 && h.on (DOR_CTk_STAT_LEVEL k)) then h
  else if h.farDoor k then
    match h.carDoor n with
    | none | some 0 | some 1 => h
    | some 3 => found h
    | some _ => h.free fun w h => h.cond (w.toNat % 2 = 1) found
  else h.cond (decide ((h.rd DOR_BYP_CFG_BYP_GAP * 4096 : Int) < h.int (DOR_Dn_POS n)) && h.doorOn n) found

/-! ## The clamp (R298 to R300) -/

/-- F² of the three inputs of the set, times `forceScale`, in (0.1 N)²; the comparisons of R299 and R300 are exact. -/
def Hw.forceSq (h : Hw) (n : Nat) : Nat :=
  let s := h.rd (DOR_Dn_CFG_SET n)
  let kf := h.rd (DOR_Dn_KF_KF n)
  if 6 ≤ s then 0
  else 2 * kf * kf * ((List.range 3).map fun k => (h.int (PST_SDn_RES (4 * s + k))).natAbs ^ 2).sum

def forceScale : Nat := 3 * 2 ^ 62

/-- F as the register shows it: rounded to nearest (log entry 11). -/
def forceShown (q : Nat) : Nat := (isqrt (4 * q / forceScale) + 1) / 2

/-- E times `energyScale`, in mJ. -/
def Hw.energyNum (h : Hw) (n : Nat) (v : Int) : Nat := h.rd (DOR_Dn_KF_MASS n) * v.natAbs ^ 2

def energyScale : Nat := 20000 * 2 ^ 20

/-- E as the register shows it: rounded to nearest, ties up (log entry 11). -/
def energyShown (e : Nat) : Nat := (2 * e + energyScale) / (2 * energyScale)

/-- The set of a door is held off, or released (R300). -/
def Hw.cutSet (h : Hw) (n : Nat) (off : Bool) : Hw :=
  { h with pst := { h.pst with clampOff := setBitN h.pst.clampOff (h.rd (DOR_Dn_CFG_SET n)) off } }.refreshSets

/-- DOR evaluates the door's speed at a current-cycle T0 (R292, R298). -/
def speedDoor (n : Nat) (h : Hw) : Hw := h.cond (h.doorOn n) fun h => h.setInt (DOR_Dn_SPD n) (h.doorV n)

/-- DOR is held (R108): BOOT, PROVISION, and DEADBOLT without the OTP option DB_DOOR. -/
def Hw.dorHeld (h : Hw) : Bool := h.motionHeld || (h.mode = 0xC && !h.env.dbDoor)

/-- CLAMP_UPDATE and CLAMP_CUT of one door in a current cycle, 2,300 ns after its T0: from the results of that T0 and the
speed latched there; a door held by its configuration has its clamp. A cut that stands counts as CLAMP (R302). -/
def clampDoor (n : Nat) (h : Hw) : Hw :=
  if !h.doorOn n then h
  else
    let v := h.int (DOR_Dn_SPD n)
    let st := h.dst n
    let armed := st = 4 || st = 6 || st = 7 || decide (v < -10240)
    let f2 := h.forceSq n
    let e := h.energyNum n v
    let elim := if st = 6 then h.rd (DOR_Dn_ECLAMP_ENUDGE n) else h.rd (DOR_Dn_ECLAMP_EMAX n)
    let fmax := h.rd (DOR_Dn_CLAMP_FMAX n)
    let beyond := armed && (decide (fmax ^ 2 * forceScale < f2) || decide (elim * energyScale < e) ||
      (st = 6 && decide (h.rd (DOR_Dn_NUDGE_NUDGE_V n) * 1024 < v.natAbs)))
    let g := h.rd (DOR_Dn_G_G n)
    let g' := if !armed then 256 else if beyond then g - h.rd (DOR_Dn_GAIN_GDN n)
      else if 64 * f2 ≤ 49 * fmax ^ 2 * forceScale ∧ 8 * e ≤ 7 * elim * energyScale then min 256 (g + h.rd (DOR_Dn_GAIN_GUP n)) else g
    let x := h.dr n
    let fc := if armed && decide (h.rd (DOR_Dn_CLAMP_FCUT n) ^ 2 * forceScale < f2) then min (x.fcut + 1) 2 else 0
    let gc := if beyond && decide (g' = 0) then min (x.gcut + 1) 255 else 0
    let cut := !h.on (DOR_Dn_STAT_CUT n) && (decide (2 ≤ fc) || decide (h.rd (DOR_Dn_GAIN_CUT_N n) ≤ gc ∧ 0 < gc))
    let h1 := (h.wr (DOR_Dn_G_G n) g').wr (DOR_Dn_STAT_CLAMPING n) (b2n (decide (g' < 256)))
    let fs := satN 16 (forceShown f2)
    let es := satN 16 (energyShown e)
    let h2 := (h1.wr (DOR_Dn_FEST_F n) fs).wr (DOR_Dn_FEST_PEAK n) (max fs (h.rd (DOR_Dn_FEST_PEAK n)))
    let h3 := (h2.wr (DOR_Dn_EKIN_E n) es).wr (DOR_Dn_EKIN_PEAK n) (max es (h.rd (DOR_Dn_EKIN_PEAK n)))
    let h4 := h3.setDr n { x with fcut := fc, gcut := gc, clampSeen := x.clampSeen || beyond || cut || h.on (DOR_Dn_STAT_CUT n) }
    let h5 := h4.cond (beyond && !x.clampSeen) (·.irq PG_DOR (4 + n))
    let h6 := h5.cond cut fun h => ((h.wr (DOR_Dn_STAT_CUT n) 1).raise PG_DOR 9).cutSet n true
    h6.cond (st = 9 && h6.on (DOR_Dn_STAT_CUT n) && !cut && decide (0 ≤ v)) fun h =>
      (h.wr (DOR_Dn_STAT_CUT n) 0).cutSet n false

/-- Both doors at a current-cycle T0, and 2,300 ns after it. -/
def Hw.doorSpeeds (h : Hw) : Hw := if h.running PG_DOR && !h.dorHeld then h.each [0, 1] speedDoor else h
def Hw.clampT0 (h : Hw) : Hw := if h.running PG_DOR && !h.dorHeld then h.each [0, 1] clampDoor else h

/-- CMP' of a leg of a door's set (R299); other sets compare with CMP itself. -/
def Hw.cmpInForce (h : Hw) (set cmp : Nat) : Int :=
  match [0, 1].find? (fun n => h.doorOn n && h.rd (DOR_Dn_CFG_SET n) = set) with
  | some n =>
    let per : Int := if h.on (PST_PSn_CFG_LOCK set) then h.pst.curPer else h.rd (PST_PSn_PER_PER set)
    8 * per + ((cmp : Int) - 8 * per) * h.rd (DOR_Dn_G_G n) / 256
  | none => cmp

/-! ## Obstruction (R302) -/

/-- A light curtain: interrupted, faulty. -/
def Hw.curtain (h : Hw) (k : Nat) : Bool × Bool :=
  if k = 0 then (h.bitAt POS_DIN (h.rd DOR_LC0_CFG_DIN), h.on DOR_LC0_CFG_FEN && h.bitAt POS_DIN (h.rd DOR_LC0_CFG_FDIN))
  else (h.bitAt POS_DIN (h.rd DOR_LC1_CFG_DIN), h.on DOR_LC1_CFG_FEN && h.bitAt POS_DIN (h.rd DOR_LC1_CFG_FDIN))

/-- DOR_OBS_STAT at a T0. -/
def Hw.obsStat (h : Hw) : Hw :=
  let vis := fun (f : Nat → Field) => if h.hasV then b2n (h.on (f 0)) + 2 * b2n (h.on (f 1)) else 0
  (((h.wr DOR_OBS_STAT_LCBEAM (b2n (h.curtain 0).1 + 2 * b2n (h.curtain 1).1)).wr DOR_OBS_STAT_LCFLT
    (b2n (h.curtain 0).2 + 2 * b2n (h.curtain 1).2)).wr DOR_OBS_STAT_VCROSS (vis VIS_Rk_STAT_CROSS)).wr
    DOR_OBS_STAT_VSTALE (vis VIS_Rk_STAT_STALE)

/-- Active sources of a door, in the layout of DOR_Dn_OBS with CLAMP at bit 6, and whether one of them is faulty. -/
def Hw.sources (h : Hw) (n fobs : Nat) : Nat × Bool :=
  let en := h.nat (DOR_Dn_OBS n) % 64
  let lc := fun k => bit (h.rd DOR_OBS_STAT_LCBEAM) k || bit (h.rd DOR_OBS_STAT_LCFLT) k
  let vs := fun k => h.hasV && (bit (h.rd DOR_OBS_STAT_VCROSS) k || bit (h.rd DOR_OBS_STAT_VSTALE) k)
  let st := h.on (PRF_AXn_STAT_STALL (h.dAxis n)) && decide (h.int (DOR_Dn_SPD n) < 0)
  let act := b2n (decide (h.rd (DOR_Dn_FOBSCFG_FOBS_N n) ≤ fobs ∧ 0 < fobs)) + 2 * b2n (lc 0) + 4 * b2n (lc 1) +
    8 * b2n (vs 0) + 16 * b2n (vs 1) + 32 * b2n st
  let bad := (List.range 2).any fun k => (bit en (1 + k) && bit (h.rd DOR_OBS_STAT_LCFLT) k) ||
    (bit en (3 + k) && h.hasV && bit (h.rd DOR_OBS_STAT_VSTALE) k)
  (act &&& en ||| (if (h.dr n).clampSeen then 64 else 0), bad)

/-! ## Sequencer actions (R296) -/

/-- MOVE of the door axis; while its ungear stop runs (R304) the MOVE waits for the end of that. -/
def Hw.doorMove (h : Hw) (n : Nat) (open' : Bool) : Hw :=
  let t := if open' then h.nat (DOR_Dn_OPEN n) else 0
  match (h.dr n).later with
  | some (_, true) => h.setDr n { h.dr n with later := some (t, true) }
  | _ => (h.noLater n).doorPrf n 1 t

def Hw.goClosing (h : Hw) (n : Nat) : Hw := (h.doorGo n 4).doorMove n false
def Hw.goNudging (h : Hw) (n : Nat) : Hw := (h.doorGo n 6).doorMove n false

/-- OPEN taken: UNLOCKING from CLOSED; from HALTED OPENING if the grant still stands; the dwell starts anew. -/
def Hw.goOpen (h : Hw) (n : Nat) : Hw :=
  let h1 := (h.setUnlock n true).setDr n { h.dr n with hold := false, retry := false }
  if h.dst n = 8 ∧ h.grant n then (h1.doorGo n 2).doorMove n true else h1.doorGo n 1

/-- A reversal: MOVE to OPEN_POS, REVCNT + 1; the UNLOCK request stands again (log entry 11). A cut clears at the T0 at which
PRF takes that MOVE (R300). -/
def Hw.goReverse (h : Hw) (n : Nat) (count : Bool) : Hw :=
  let h1 := ((h.doorGo n 5).doorMove n true).setUnlock n true
  let h2 := (h1.cond count (·.bump (DOR_Dn_STAT_REVCNT n) 1)).irq PG_DOR (2 + n)
  h2.setDr n { h2.dr n with cutMove := (h2.dr n).later.isNone }

/-- CLOSE by the dwell, by command or by R295: nudging once REVCNT has reached NUDGE_N. In UNLOCKING the request is
withdrawn (log entry 11); an ADVANCE ends its gear first. -/
def Hw.closeDoor (h : Hw) (n : Nat) : Hw :=
  let s := h.dst n
  let nn := h.rd (DOR_Dn_CFG_NUDGE_N n)
  if s = 1 then (h.doorGo n 0).setUnlock n false
  else if s = 2 ∨ s = 8 then h.goClosing n
  else if s = 3 then (if nn ≠ 0 ∧ nn ≤ h.rd (DOR_Dn_STAT_REVCNT n) then h.goNudging n else h.goClosing n)
  else if s = 10 then
    let h1 := (h.doorGo n 4).doorPrf n 6 0
    h1.setDr n { h1.dr n with later := some (0, true) }
  else h

/-- STOP. -/
def Hw.haltDoor (h : Hw) (n : Nat) : Hw := ((h.noLater n).doorGo n 8).doorPrf n 4 0

/-- The mode column of R294: 0 accepted, 1 MODE, for OPEN, the closing commands and HANDOVER. -/
def Hw.doorModeOk (h : Hw) (n op : Nat) : Bool :=
  let m := h.mode
  let db := m = 0xC && h.env.dbDoor
  if op = 1 then
    m = 4 || m = 5 || m = 0xB || db ||
      (m = 8 && (!h.on (DOR_Dn_CFG_FFCP n) || h.bitAt POS_DIN (h.rd (DOR_Dn_CFG_FFBTN n))))
  else if op = 7 ∨ op = 8 then m = 4 || m = 5
  else (decide (4 ≤ m) && decide (m ≤ 0xB)) || db

/-- The result code of a command (R293, R294, R297). -/
def Hw.doorCode (h : Hw) (n : Nat) (c : DoorCmd) : Nat :=
  let s := h.dst n
  if c.op = 0 ∨ 9 < c.op then 8
  else if !h.doorOn n || (h.dr n).held then 6
  else if c.op = 9 ∧ c.who ≠ 0 then 7
  else if s = 11 ∧ c.op ≠ 9 then 5
  else if !h.doorModeOk n c.op then 1
  else if c.op = 1 then (if !h.carStill then 3 else if !h.doorZone n then 2 else 0)
  else if (c.op = 2 ∨ c.op = 5) ∧ s = 5 then 4
  else if c.op = 7 then
    (if s = 9 then 4 else if (s = 0 ∨ s = 3 ∨ s = 8) ∧ h.int (DOR_Dn_SPD n) = 0 then 0 else 3)
  else 0

/-- The effect of an accepted command. -/
def Hw.doorDo (h : Hw) (n : Nat) (c : DoorCmd) : Hw :=
  let s := h.dst n
  let x := h.dr n
  if c.op = 1 then
    if s = 0 ∨ s = 8 then (h.setDr n { x with stalls := 0 }).goOpen n else h
  else if c.op = 2 then h.closeDoor n
  else if c.op = 3 then h.setDr n { x with hold := true }
  else if c.op = 4 then h.setDr n { x with hold := false }
  else if c.op = 5 then (if s = 2 ∨ s = 3 ∨ s = 8 then h.goNudging n else h)
  else if c.op = 6 then (if s = 0 ∨ s = 11 ∨ s = 9 then h else h.haltDoor n)
  else if c.op = 7 then h.doorGo n 9
  else if c.op = 8 then (if s = 9 then h.doorGo n 8 else h)
  else (if s = 11 then h.doorGo n 8 else h)

/-- The command of a door at its T0. -/
def Hw.takeDoorCmd (h : Hw) (n : Nat) : Hw :=
  match (h.dr n).cmd with
  | none => h
  | some c =>
    let h1 := h.setDr n { h.dr n with cmd := none }
    let k := h1.doorCode n c
    let h2 := if k = 0 then h1.doorDo n c else h1
    ((h2.setNat (DOR_Dn_RES n) (0x10000 + 256 * c.seq + k)).cond (k = 7) (·.raise PG_DOR 15))

/-- A write of DOR_Dn_CMD (R293). A standby answers MODE (R360). -/
def doorWrite (who : Who) (n : Nat) (w : Word) (h : Hw) : Hw :=
  h.opWrite who PG_DOR fun h =>
    if h.standby then h.setNat (DOR_Dn_RES n) (0x10000 + 256 * getBits w 8 8 + 1)
    else h.setDr n { h.dr n with cmd := some ⟨getBits w 0 4, getBits w 8 8, who.num⟩ }

/-! ## Advance opening (R304) -/

/-- Distance to the sill of landing `l`. -/
def Hw.sillDist (h : Hw) (l : Nat) : Int := (h.nat MAP_POS : Int) - h.nat (MAP_LNDn_POS l)

/-- CLOSED to ADVANCE. -/
def Hw.advanceStart (h : Hw) (n : Nat) : Hw :=
  match h.peer.mach with
  | none => h
  | some m =>
    let d := h.sillDist m.land
    let go := h.mode = 5 && h.on (DOR_Dn_CFG_ADV n) && m.landValid && h.landingHas m.land n && h.on MAP_STAT_VALID &&
      decide (h.rd DOR_ADV_CFG_ADV_DIST < h.rd (MAP_LNDn_ATTR_DZ_HALF m.land)) &&
      decide (d.natAbs ≤ h.rd DOR_ADV_CFG2_ADV_ARM * 4096) && decide (d * m.vmeas < 0)
    if !go then h
    else
      let a := h.dAxis n
      let h1 := ((h.wr (PRF_AXn_GR_CFG_MSRC a) 4).setNat (PRF_AXn_GR_RATIO a) 0x10000).doorPrf n 5 0
      (h1.setDr n { h1.dr n with advL := m.land, advIn := false, advArmed := false }).doorGo n 10

/-- One T0 of ADVANCE. DESIGN CHOICE (log entry 67): outside SERVICE, the only mode of R304, it ends as for a changed target
where the car does not stand. -/
def Hw.advanceStep (h : Hw) (n : Nat) : Hw :=
  let x := h.dr n
  let l := x.advL
  let d := h.sillDist l
  let half := h.rd (MAP_LNDn_ATTR_DZ_HALF l) * 4096
  let inside := decide (d.natAbs ≤ half)
  let v := h.peer.mach.elim 0 (·.vmeas)
  let fast := decide (h.rd DOR_ADV_CFG_ADV_VMAX * 1024 < v.natAbs)
  let other := h.peer.mach.elim true fun m => !m.landValid || m.land ≠ l
  if h.carStill && h.mode = 5 then
    let h1 := (h.doorGo n 2).doorPrf n 6 0
    h1.setDr n { h1.dr n with later := some (h1.nat (DOR_Dn_OPEN n), false), stalls := 0 }
  else if (inside && fast) || (!inside && x.advIn) || other || h.mode ≠ 5 then
    let h1 := (((h.doorGo n 4).doorPrf n 6 0).wr (DOR_Dn_STAT_ADVABORT n) 1).irq PG_DOR 8
    h1.setDr n { h1.dr n with later := some (0, true) }
  else
    let h1 := (h.setDr n { x with advIn := x.advIn || inside }).cond inside (·.setUnlock n true)
    let down := decide (v < 0)
    let u : Int := h.rd DOR_ADV_CFG_ADV_DIST * 4096
    let lp : Int := h.nat (MAP_LNDn_POS l)
    let gat := if down then lp + u else lp - u
    let ahead := if down then decide (gat < h.nat MAP_POS) else decide ((h.nat MAP_POS : Int) < gat)
    if h.grant n && ahead && !x.advArmed then
      let a := h.dAxis n
      let num : Int := h.rd DOR_ADV_RATIO_ADV_NUM
      let ratio := h.rd DOR_ADV_RATIO_ADV_DEN * 65536 + ((if down then -num else num) % 65536).toNat
      let h2 := ((h1.setNat (PRF_AXn_GR_NEXT a) ratio).setNat (PRF_AXn_GR_AT a) (toU32 gat)).setNat (PRF_AXn_GR_BLEND a)
        (h.rd DOR_ADV_CFG2_ADV_BLEND * 4096)
      (h2.doorPrf n 8 0).setDr n { h2.dr n with advArmed := true }
    else h1

/-! ## One door at a T0 (R296, R297) -/

/-- The axis of a door is TYPE DOOR with EN and REVERSE_ALLOW (R297). -/
def Hw.doorAxisOk (h : Hw) (n : Nat) : Bool :=
  let a := h.dAxis n
  h.rd (PRF_AXn_CFG_TYPE a) = typeDoor && h.on (PRF_AXn_CFG_EN a) && h.on (PRF_AXn_CFG_REVERSE_ALLOW a)

/-- Mode effects (R295) and the release of the firefighter button (R294). -/
def Hw.doorMode (h : Hw) (n : Nat) : Hw :=
  let m := h.mode
  let s := h.dst n
  let h1 := if m = h.dor.mode ∨ s = 0 then h
    else if m = 6 ∨ m = 7 ∨ m = 9 ∨ m = 0xA then
      (if s = 9 then (h.doorGo n 8).closeDoor n else if s = 11 then h else h.closeDoor n)
    else if m = 2 ∨ m = 0xC ∨ m = 0xD then (if s = 11 then h else h.haltDoor n)
    else h
  let now := h1.bitAt POS_DIN (h1.rd (DOR_Dn_CFG_FFBTN n))
  let h2 := if h1.mode = 8 && h1.on (DOR_Dn_CFG_FFCP n) && (h1.dr n).button && !now && (h1.dst n = 1 || h1.dst n = 2) then
      h1.closeDoor n
    else h1
  h2.setDr n { h2.dr n with button := now }

/-- The rows of the state table whose condition is a level, after commands have had their turn. -/
def Hw.doorRows (h : Hw) (n src : Nat) : Hw :=
  let s := h.dst n
  let x := h.dr n
  let pos := h.int (DOR_Dn_POS n)
  let tol := h.rd (DOR_Dn_TOL_POS_TOL n)
  let opened := h.int (DOR_Dn_OPEN n)
  let done := h.on (PRF_AXn_STAT_DONE (h.dAxis n))
  let g := h.grant n
  let lost := x.granted && !g && bit h.dor.unlock n
  let stall := bit h.dor.stallEv (h.dAxis n)
  if (s = 2 ∨ s = 3 ∨ s = 5) ∧ lost then (h.wr (DOR_Dn_STAT_DLKLOST n) 1).goClosing n
  else if s = 0 then h.advanceStart n
  else if s = 1 then (if g && h.contacts n 1 false then (h.doorGo n 2).doorMove n true else h)
  else if s = 2 ∧ stall then
    if x.stalls = 0 then
      let h1 := (h.doorGo n 8).wr (DOR_Dn_STAT_STALLOPEN n) 1
      h1.setDr n { x with stalls := 1, retry := true }
    else (h.doorGo n 11).raise PG_DOR 13
  else if (s = 2 ∨ s = 5) ∧ decide ((pos - opened).natAbs * 1000 ≤ tol * 4096) ∧ done then
    (h.doorGo n 3).setDr n { x with cutMove := false }
  else if (s = 4 ∧ src ≠ 0) ∨ ((s = 6 ∨ s = 7) ∧ src &&& 0x61 ≠ 0) then h.goReverse n true
  else if (s = 4 ∨ s = 6) ∧ pos ≤ (h.rd (DOR_Dn_TOL_LOCK_GAP n) * 4096 : Nat) then h.doorGo n 7
  else if s = 7 then
    if decide (pos * 1000 ≤ (tol * 4096 : Nat)) && done && h.contacts n 0 true then
      let h1 := h.setUnlock n false
      if h1.contacts n 1 true then
        ((h1.doorGo n 0).wr (DOR_Dn_STAT_REVCNT n) 0).setDr n { h1.dr n with lockTries := 0 }
      else h1
    else h
  else if s = 10 then h.advanceStep n
  else h

/-- A MOVE of R304 whose time has come. -/
def Hw.doorLater (h : Hw) (n : Nat) : Hw :=
  match (h.dr n).later with
  | none => h
  | some (t, idle) =>
    if idle && (h.axis (h.dAxis n)).mode ≠ .idle then h
    else
      let h1 := h.doorPrf n 1 t
      h1.setDr n { h1.dr n with later := none, cutMove := (h1.dr n).cutMove || h1.dst n = 5 }

/-- DOOR_SEQUENCER for one door: position, faults and mode, STOP before obstruction, obstruction before other commands
(R297). While DOR is held the mode change alone acts, and commands answer MODE (R108, R294, R295). A door of a MACHINE unit
is held as an invalid one (R316). -/
def doorT0 (n : Nat) (h : Hw) : Hw :=
  if !h.on (DOR_Dn_CFG_EN n) then (match (h.dr n).cmd with | none => h | some _ => h.takeDoorCmd n)
  else
    let h1 := h.setInt (DOR_Dn_POS n) (h.doorX n)
    let x := h1.dr n
    let beyond := decide ((h1.rd (DOR_Dn_FOBSCFG_FOBS_TH n) : Int) < signed 16 (h1.rd (DOR_Dn_FOBS_FOBS n)))
    let fobs := if beyond then min (x.fobs + 1) 16 else 0
    let (src, bad) := h1.sources n fobs
    let h2 := ((h1.wr (DOR_Dn_STAT_OBSSRC n) src).wr (DOR_Dn_STAT_OBS n) (b2n (decide (src ≠ 0)))).wr
      (DOR_Dn_STAT_UNLOCKED n) (b2n (h1.grant n))
    let h3 := (h2.setDr n { x with fobs := fobs, clampSeen := false }).cond bad (·.raise PG_DOR 14)
    let h4 := h3.cond x.cutMove fun h =>
      ((h.wr (DOR_Dn_STAT_CUT n) 0).setDr n { h.dr n with cutMove := false }).cutSet n false
    if x.held || h4.isMachine || !h4.doorAxisOk n then
      let h5 := (h4.doorGo n 8).cond (!h4.doorAxisOk n) (·.blockFault PG_DOR 8)
      (h5.setDr n { h5.dr n with held := true }).takeDoorCmd n |>.setDr n { h5.dr n with held := x.held, cmd := none }
    else
      let h5 := (h4.cond (!h4.dorHeld) (·.doorLater n)).doorMode n
      let stop := ((h5.dr n).cmd.elim false fun c => c.op = 6)
      let h6 := if h5.dorHeld then h5.takeDoorCmd n
        else if stop then (h5.takeDoorCmd n).doorRows n src else (h5.doorRows n src).takeDoorCmd n
      h6.setDr n { h6.dr n with granted := h6.grant n }

/-- All of DOR at a position-cycle T0. -/
def Hw.dorT0 (h : Hw) : Hw :=
  if h.bolted PG_DOR then h.wr DOR_DZ_STAT_IN 0
  else if !h.running PG_DOR then h
  else
    let h1 := (h.doorZoneT0.obsStat.each (List.range 8) contactCheck).each [0, 1] doorT0
    let allClosed := [0, 1].all fun n => !h1.doorOn n || h1.dst n = 0
    let level := h1.carStill && decide ((h1.int DOR_DZ_DIST).natAbs ≤ h1.rd DOR_RLV_CFG_RLV_DONE * 4096)
    let h2 := h1.cond (h1.on DOR_RLV_STAT_REQ && (allClosed || level)) fun h => (h.wr DOR_RLV_STAT_REQ 0).irq PG_DOR 9
    { h2 with dor := { h2.dor with mode := h2.mode, stallEv := 0 } }

/-! ## Timers (R296, R305)

DEDUCED (log entry 67): the command of a timer is its turn, the last, in the evaluation of a T0 (R297); it follows the
POSITION_CYCLE_T0 of that T0, and finds the door as faults, mode, STOP, obstruction and commands have left it. -/

/-- A timer acts on a door that DOR runs; one whose axis does not fit stays HALTED (R297). -/
def Hw.doorRuns (h : Hw) (n : Nat) : Bool :=
  h.doorOn n && h.running PG_DOR && !(h.dr n).held && h.doorAxisOk n && !h.dorHeld

def unlockExpired (n : Nat) (h : Hw) : Hw :=
  if h.doorRuns n && h.dst n = 1 then ((h.doorGo n 0).setUnlock n false).raise PG_DOR 12 else h

/-- An LC or VIS source of the door is active. -/
def Hw.heldOpen (h : Hw) (n : Nat) : Bool := decide (h.rd (DOR_Dn_STAT_OBSSRC n) &&& 0x1E ≠ 0)

def dwellExpired (n : Nat) (h : Hw) : Hw :=
  if h.doorRuns n && h.dst n = 3 && !(h.dr n).hold && !h.heldOpen n then h.closeDoor n else h

def nudgeExpired (n : Nat) (h : Hw) : Hw :=
  if h.doorRuns n && h.dst n = 3 && h.heldOpen n && h.rd (DOR_Dn_TIM1_NUDGE_T n) ≠ 0 then h.goNudging n else h

def lockExpired (n : Nat) (h : Hw) : Hw :=
  if h.doorRuns n && h.dst n = 7 then
    let x := h.dr n
    if x.lockTries < h.rd (DOR_Dn_CFG_LOCK_RETRY n) then
      ((h.setDr n { x with lockTries := x.lockTries + 1 }).goReverse n false).raise PG_DOR 12
    else (h.doorGo n 11).raise PG_DOR 12
  else h

/-- OPEN is tried again where the rules of R294 still take it. -/
def retryExpired (n : Nat) (h : Hw) : Hw :=
  if h.doorRuns n && h.dst n = 8 && (h.dr n).retry then
    if h.doorCode n ⟨1, 0, 0⟩ = 0 then h.goOpen n else h.setDr n { h.dr n with retry := false }
  else h

def relevelAsk (h : Hw) : Hw :=
  let someOpen := [0, 1].any fun n => h.doorOn n && h.dst n ≠ 0
  if h.isCar && h.running PG_DOR && someOpen && h.carStill && h.on DOR_DZ_STAT_IN && !h.on DOR_RLV_STAT_REQ &&
      decide (h.rd DOR_RLV_CFG_RLV_TOL * 4096 < (h.int DOR_DZ_DIST).natAbs) then
    ((h.wr DOR_RLV_STAT_REQ 1).wr DOR_RLV_STAT_LANDING (h.rd DOR_DZ_STAT_LANDING)).irq PG_DOR 9
  else h

/-! ## Swap and bolt (R314, R316) -/

/-- A door whose configuration is invalid. -/
def Hw.doorInvalid (h : Hw) (n : Nat) : Bool :=
  let o := 1 - n
  let same := fun (f : Nat → Field) => h.rd (f n) = h.rd (f o)
  h.on (DOR_Dn_CFG_EN n) &&
    (h.isMachine || h.rd (DOR_Dn_KF_MASS n) = 0 || h.rd (DOR_Dn_KF_KF n) = 0 || h.rd (DOR_Dn_GAIN_GDN n) = 0 ||
     decide (h.pwmSets ≤ h.rd (DOR_Dn_CFG_SET n)) || decide (6 ≤ h.rd (DOR_Dn_CFG_QSRC n)) ||
     (h.on (DOR_Dn_CFG_EN o) && (same DOR_Dn_CFG_AXIS || same DOR_Dn_CFG_SET || same DOR_Dn_CFG_QSRC)))

/-- The sets that DOR holds off: those of enabled doors that are cut, or of all of them while DOR is bolted (R300, R314). -/
def Hw.dorSets (h : Hw) (off : Bool) : Hw :=
  let held := fun n s => h.doorOn n && h.rd (DOR_Dn_CFG_SET n) = s && (off || h.on (DOR_Dn_STAT_CUT n))
  { h with pst := { h.pst with clampOff := maskOf 6 fun s => held 0 s || held 1 s } }.refreshSets

def Hw.dorSwap (h : Hw) : Hw :=
  let h1 := (h.each [0, 1] fun n h => h.setDr n { h.dr n with held := h.doorInvalid n }).dorSets (h.bolted PG_DOR)
  h1.cond (h.doorInvalid 0 || h.doorInvalid 1) (·.blockFault PG_DOR 8)

/-- A bolt holds the sets of the enabled doors off; its end releases them. -/
def Hw.dorBolt (h : Hw) (off : Bool) : Hw := (h.dorSets off).wr DOR_DZ_STAT_IN 0

end Sys2Proof.Machine
end

