-- ==== Sys2Proof/Machine/Network.lean ====
section
/-! DEFINITION. Ethernet ports, the 802.1AS time engine with the discipline of the time base, and the SkoveSafe layer
(R400 to R422). -/

namespace Sys2Proof.Machine

/-! ## Ports (R400 to R403) -/

def Hw.port (h : Hw) (c : Nat) : EthPort := h.eth.port.getD c ⟨false, none, [], [], false⟩
def Hw.setPort (h : Hw) (c : Nat) (p : EthPort) : Hw := { h with eth := { h.eth with port := h.eth.port.set c p } }

/-- The port works: it runs and the part has it; in BOOT the networks are held (R108). -/
def Hw.portLive (h : Hw) (c : Nat) : Bool := !h.absent (PG_ETH c) && h.running (PG_ETH c) && h.mode ≠ 2

/-- A transmitted frame is dropped (R402, R404). -/
def Hw.txDrop (h : Hw) (c k : Nat) : Hw := h.bump (ETH_TXCNT_DROP c) k

/-- LINK as the PCS and the PHY leave it (R400); a loss discards what is queued (R402). -/
def Hw.linkUpdate (h : Hw) (c : Nat) : Hw :=
  let p := h.port c
  let up := p.pcs && p.retrain.isNone && (h.ethF (ETH_CFG_AUTO c) = 0 || h.on (ETH_STAT_PHYLINK c)) && h.portLive c
  let h1 := (h.wr (ETH_STAT_LINK c) (b2n up)).cond (h.on (ETH_STAT_LINK c) != up) (·.irq (PG_ETH c) 0)
  if up then h1 else (h1.txDrop c p.txq.length).setPort c { p with txq := [] }

/-- The port goes over to a mode, unless it uses it or goes over to it already: the link drops and the SerDes retrains
(R401). -/
def Hw.retrain (h : Hw) (c m : Nat) : Hw :=
  if (h.port c).retrain.getD (h.rd (ETH_STAT_MODE c)) = m then h
  else (((h.setPort c { h.port c with retrain := some m, pcs := false }).linkUpdate c).irq (PG_ETH c) 4)

/-- ETH_LINK_CHANGE: the PCS gains or loses lock. -/
def linkChange (c : Nat) (locked : Bool) (h : Hw) : Hw :=
  if !h.portLive c then h
  else
    let p := h.port c
    let h1 := (h.setPort c { p with pcs := locked }).linkUpdate c
    h1.cond (p.pcs && !locked) (·.blockFault (PG_ETH c) 9)

/-- PHY_POLL and PHY_INTERRUPT: the status register resolves link and mode (R401). -/
def phyRead (c : Nat) (value : Option (BitVec 16)) (h : Hw) : Hw :=
  if !h.portLive c || h.ethF (ETH_CFG_AUTO c) = 0 then h
  else match value with
    | none => h.blockFault (PG_ETH c) 10
    | some v =>
      let link := bit v.toNat (h.ethF (ETH_MDIO_MAP_LPOS c))
      let f := v.toNat / 2 ^ h.ethF (ETH_MDIO_MAP_FPOS c) % 4
      let m := h.ethF (ETH_MDIO_MAP_RMAP c) / 4 ^ f % 4
      let h1 := (h.wr (ETH_STAT_PHYLINK c) (b2n link)).linkUpdate c
      h1.cond link (·.retrain c m)

/-- ETH_RETRAIN_DONE. -/
def retrainDone (c : Nat) (h : Hw) : Hw :=
  match (h.port c).retrain with
  | none => h
  | some m => ((h.setPort c { h.port c with retrain := none }).wr (ETH_STAT_MODE c) m).linkUpdate c

/-- MDIO_COMMAND: a write of ETHn_MDIO_CMD; START while no operation runs. -/
def mdioWrite (who : Who) (c : Nat) (w : Word) (h : Hw) : Hw :=
  h.opWrite who (PG_ETH c) fun h =>
    let h1 := h.cond (getBits w 30 1 = 1) (·.wr (ETH_MDIO_CMD_ERR c) 0)
    if h1.on (ETH_MDIO_CMD_BUSY c) then h1
    else
      let h2 := ((h1.wr (ETH_MDIO_CMD_OP c) (getBits w 20 2)).wr (ETH_MDIO_CMD_DEVAD c) (getBits w 8 5)).wr
        (ETH_MDIO_CMD_PHYAD c) (getBits w 0 5)
      h2.cond (getBits w 24 1 = 1) (·.wr (ETH_MDIO_CMD_BUSY c) 1)

/-- MDIO_DONE. -/
def mdioEnd (c : Nat) (data : Option (BitVec 16)) (h : Hw) : Hw :=
  if !h.on (ETH_MDIO_CMD_BUSY c) then h
  else
    let h1 := (h.wr (ETH_MDIO_CMD_BUSY c) 0).irq (PG_ETH c) 3
    match data with
    | none => (h1.wr (ETH_MDIO_CMD_ERR c) 1).blockFault (PG_ETH c) 10
    | some v => h1.cond (h.rd (ETH_MDIO_CMD_OP c) = 3) (·.setNat (ETH_MDIO_DATA c) v.toNat)

/-! ## Rings (R403) -/

/-- Address of descriptor `i` of a ring register. -/
def Hw.descAt (h : Hw) (ring i : Nat) : Nat := h.nat ring / 4096 * 4096 + 16 * (i % 256)

/-- The destination addresses a port accepts. -/
def Hw.dstOk (h : Hw) (c : Nat) (dst : BitVec 48) : Bool :=
  let own := h.ethF ⟨ETH_MAC_LO c, 0, 32⟩ + 4294967296 * h.ethF (ETH_MAC_HI_ADDR c)
  dst.toNat = own || dst.toNat = 0xFFFFFFFFFFFF || dst.toNat = 0x0180C200000E

/-- A port carries frames of 64 bytes up to MTU, FCS included (R400). -/
def Hw.carries (h : Hw) (c len : Nat) : Bool := decide (64 ≤ len + 4 ∧ len + 4 ≤ h.ethF (ETH_CFG_MTU c))

/-- ETH_FRAME_RECEIVE (R400, R402, R403): SkoveSafe, RDN and time messages go to their engines, whose rows take them;
every other frame goes to the receive ring. -/
def ethReceive (c : Nat) (f : EthFrame) (d : Dev) : Dev :=
  let h := d.hw
  let len := 14 + f.payload.length
  if !h.portLive c || !h.on (ETH_STAT_LINK c) || !f.fcsOk || !h.dstOk c f.dst || f.etype.toNat = 0x8808 ||
      !h.carries c len then d
  else if f.etype.toNat = h.ethF ⟨ETH_ETYPE c, 0, 16⟩ ∨ f.etype.toNat = h.rd RDN_HB2_ETH_ETYPE ∨ f.etype.toNat = 0x88F7 then
    { d with hw := h.bump (ETH_RXCNT_OK c) 1 }
  else
    let i := h.rd (ETH_RXIDX_HEAD c)
    let a := h.descAt (ETH_RXRING c) i
    let flags := memNat d.mem (a + 6) 2
    if decide (h.rd (ETH_RXRING_BUFSZ c) * 64 < len) || !h.busRam a 16 || flags % 2 = 0 || i = h.rd (ETH_RXIDX_TAIL c) then
      let h1 := h.bump (ETH_RXCNT_ERR c) 1
      { d with hw := h1.cond (decide (len ≤ h.rd (ETH_RXRING_BUFSZ c) * 64)) (·.blockFault (PG_ETH c) 11) }
    else
      let bytes := (leBytes 6 f.dst.toNat).reverse ++ (leBytes 6 f.src.toNat).reverse ++
        (leBytes 2 f.etype.toNat).reverse ++ f.payload
      let buf := memNat d.mem a 4
      let d1 := d.blockStore buf bytes
      let d2 := d1.blockStore (a + 4) (leBytes 2 len ++ leBytes 2 (flags / 4 * 4 + 2 * b2n (!h.busRam buf bytes.length)) ++
        leBytes 8 f.stamp.toNat)
      { d2 with hw := ((d2.hw.wr (ETH_RXIDX_HEAD c) ((i + 1) % 256)).bump (ETH_RXCNT_OK c) 1).irq (PG_ETH c) 1 }

/-- ETH_RING_INDEX_WRITE: software's TAIL; HEAD is the hardware's. -/
def ringIndex (who : Who) (c : Nat) (tx : Bool) (w : Word) (h : Hw) : Hw :=
  h.opWrite who (PG_ETH c) fun h => h.wr (if tx then ETH_TXIDX_TAIL c else ETH_RXIDX_TAIL c) (getBits w 0 8)

/-! ## Gates and transmission (R404) -/

/-- TMR cycles a frame of `len` bytes before FCS takes with preamble, FCS and gap, in a mode. -/
def wireTime (mode len : Nat) : Nat :=
  let bits := (max len 60 + 4 + 20) * 8
  let per := [100, 50, 25, 10].getD mode 10
  (bits * 4 + per - 1) / per

/-- The gate list of a port as intervals of one cycle: GATES and duration, the last one lasting until the cycle ends. -/
def gateSpans (cycle : Nat) : List (Nat × Nat) → Nat → List (Nat × Nat)
  | [], _ => []
  | [(g, _)], used => [(g, cycle - used)]
  | (g, d) :: l, used => if cycle ≤ used + d then [(g, cycle - used)] else (g, d) :: gateSpans cycle l (used + d)

def Hw.spans (h : Hw) (c : Nat) : List (Nat × Nat) :=
  let p := h.port c
  let cycle := h.pst.curPer * h.pst.posDiv
  if p.gated && decide (p.gates ≠ []) then gateSpans cycle p.gates 0 else [(255, cycle)]

/-- TMR cycles until the gate of a queue closes, from `t` cycles into a list of intervals; 0 where it is closed. -/
def openFor (q : Nat) : List (Nat × Nat) → Nat → Nat
  | [], _ => 0
  | (g, d) :: l, t =>
    if d ≤ t then openFor q l (t - d)
    else if bit g q then (d - t) + (match l with | [] => 0 | (g', _) :: _ => if bit g' q then openFor q l 0 else 0)
    else 0

/-- The longest opening of a queue in a cycle. -/
def widest (q : Nat) : List (Nat × Nat) → Nat
  | [] => 0
  | (g, d) :: l => max (if bit g q then openFor q ((g, d) :: l) 0 else 0) (widest q l)

/-- The next APC frame of the transmit ring: index, queue, length. -/
def Dev.apcNext (d : Dev) (c : Nat) : Option (Nat × Nat × Nat) :=
  let h := d.hw
  let i := h.rd (ETH_TXIDX_HEAD c)
  let a := h.descAt (ETH_TXRING c) i
  let flags := memNat d.mem (a + 6) 2
  if i ≠ h.rd (ETH_TXIDX_TAIL c) ∧ h.busRam a 16 ∧ flags % 2 = 1 then some (i, flags / 256 % 8, memNat d.mem (a + 4) 2) else none

/-- The APC's descriptor goes back to software with its stamp. -/
def Dev.apcDone (d : Dev) (c i : Nat) (err : Bool) : Dev :=
  let a := d.hw.descAt (ETH_TXRING c) i
  let flags := memNat d.mem (a + 6) 2
  let d1 := d.blockStore (a + 6) (leBytes 2 (flags / 4 * 4 + 2 * b2n err) ++ leBytes 8 (d.hw.pair (ETH_PTP_NS_LO 0)))
  { d1 with hw := d1.hw.wr (ETH_TXIDX_HEAD c) ((i + 1) % 256) }

/-- The frames that wait, by queue: a hardware frame (some place in its list) or the APC's. -/
def Dev.waiting (d : Dev) (c : Nat) : List (Nat × Nat × Option Nat) :=
  let own := ((d.hw.port c).txq.zip (List.range (d.hw.port c).txq.length)).map fun e => (e.1.queue, e.1.len, some e.2)
  own ++ ((d.apcNext c).elim [] fun x => [(x.2.1, x.2.2, none)])

/-- The oldest waiting frame of a queue. -/
def Dev.head (d : Dev) (c q : Nat) : Option (Nat × Nat × Option Nat) := (d.waiting c).find? fun e => e.1 = q

/-- The frame that may start at `t`: of the queues with a frame first in line that ends before its gate closes, the highest.
DESIGN CHOICE (log entry 67): a frame that has to wait for a window keeps back its own queue alone. -/
def Dev.startable (d : Dev) (c t : Nat) : Option (Nat × Nat × Option Nat) :=
  let sp := d.hw.spans c
  ([7, 6, 5, 4, 3, 2, 1, 0].filterMap (d.head c)).find? fun e =>
    decide (e.2.1 + 4 ≤ d.hw.ethF (ETH_CFG_MTU c)) &&
      decide (wireTime (d.hw.rd (ETH_STAT_MODE c)) e.2.1 ≤ openFor e.1 sp t)

/-- ETH_FRAME_TRANSMIT. -/
def ethTransmit (c t : Nat) (d : Dev) : Dev :=
  if !d.hw.portLive c then d
  else if !d.hw.on (ETH_STAT_LINK c) then
    match d.apcNext c with
    | some x => let d1 := d.apcDone c x.1 true; { d1 with hw := d1.hw.txDrop c 1 }
    | none => d
  else match d.startable c t with
    | none => d
    | some (_, _, own) =>
      let d1 := match own with
        | some k => { d with hw := d.hw.setPort c { d.hw.port c with txq := (d.hw.port c).txq.eraseIdx k } }
        | none => (d.apcNext c).elim d fun x => d.apcDone c x.1 false
      { d1 with hw := (d1.hw.bump (ETH_TXCNT_OK c) 1).irq (PG_ETH c) 2 }

/-- GATE_CYCLE_DROP at the end of a cycle, then the gate list of the next (R404). DESIGN CHOICE (log entry 67): a frame
above MTU, which no port carries (R400), goes like one that fits no window. -/
def Dev.gateT0 (d : Dev) : Dev :=
  [0, 1].foldl (fun d c =>
    if !d.hw.portLive c then d
    else
      let sp := d.hw.spans c
      let fits := fun (q len : Nat) =>
        decide (len + 4 ≤ d.hw.ethF (ETH_CFG_MTU c)) && decide (wireTime (d.hw.rd (ETH_STAT_MODE c)) len ≤ widest q sp)
      let p := d.hw.port c
      let keep := p.txq.filter fun e => fits e.queue e.len
      let h1 := (d.hw.txDrop c (p.txq.length - keep.length)).setPort c { p with txq := keep }
      let d1 := { d with hw := h1 }
      let d2 := match d1.apcNext c with
        | some x => if fits x.2.1 x.2.2 then d1 else
            let e := d1.apcDone c x.1 true
            { e with hw := e.hw.txDrop c 1 }
        | none => d1
      let n := max 1 (min 16 (d.hw.ethF (ETH_GCL_CFG_N c)))
      let gl := (List.range n).map fun i => (d.hw.ethF (ETH_GCLi_GATES c i), d.hw.ethF (ETH_GCLi_DUR c i))
      { d2 with hw := d2.hw.setPort c { d2.hw.port c with gates := gl, gated := d.hw.ethF (ETH_GCL_CFG_EN c) = 1 } }) d

/-- A frame of the hardware is queued at a port under its EtherType (R402, R404). -/
def Hw.ethQueue (h : Hw) (c q etype len : Nat) : Hw :=
  if !h.portLive c then h
  else if !h.on (ETH_STAT_LINK c) then h.txDrop c 1
  else h.setPort c { h.port c with txq := (h.port c).txq ++ [⟨q, len, etype⟩] }

/-! ## Time (R405 to R409) -/

/-- The clock is grandmaster (R406). -/
def Hw.gmActive (h : Hw) : Bool :=
  let g := h.ethF (ETH_PTP_CFG_GMSEL 0)
  g = 1 || (g = 2 && (h.on RDN_KEY_HELD || !h.paired))

/-- PTP_NS goes on by the current cycle that has just ended, at the corrected rate; a grandmaster's rate is its own. -/
def Hw.ptpTick (h : Hw) : Hw :=
  let rate : Int := if h.gmActive then 0 else h.int (ETH_PTP_RATE 0)
  let n := ((h.pst.lastLen * 5 : Nat) * (1000000000 + rate)).toNat + h.eth.frac
  { h.setPair (ETH_PTP_NS_LO 0) ((h.pair (ETH_PTP_NS_LO 0) + n / 2000000000) % 2 ^ 64) with
    eth := { h.eth with frac := n % 2000000000 } }

/-- The phase of this unit's T0 (R408). -/
def Hw.phase (h : Hw) : Nat := if h.isMachine then h.pst.tbPhase else 0

/-- LOCKED with the interrupt of a change. -/
def Hw.setLocked (h : Hw) (b : Bool) : Hw :=
  (h.wr (ETH_TBD_STAT_LOCKED 0) (b2n b)).cond (h.on (ETH_TBD_STAT_LOCKED 0) != b) (·.irq (PG_ETH 0) 5)

/-- GMACT, and LOCKED of a grandmaster (R409). -/
def Hw.showGm (h : Hw) : Hw :=
  (h.wr (ETH_TBD_STAT_GMACT 0) (b2n h.gmActive)).cond h.gmActive (·.setLocked true)

/-- The stamp of a position-cycle T0 (R408); a grandmaster's clock starts at the phase of its T0. -/
def Hw.stampT0 (h : Hw) : Hw :=
  let h0 := if h.gmActive && !h.eth.started then h.setPair (ETH_PTP_NS_LO 0) h.phase else h
  { h0.setPair (ETH_T0_STAMP_LO 0) (h0.pair (ETH_PTP_NS_LO 0)) with eth := { h0.eth with started := true } }

/-- TIME_BASE_SLEW and TIME_BASE_STEP at a position-cycle T0 (R406, R408, R409). -/
def Hw.timeT0 (h : Hw) : Hw :=
  let t2 : Int := (5 * h.pst.curPer * h.pst.posDiv : Nat)
  let r2 : Int := (2 * ((h.pair (ETH_PTP_NS_LO 0) : Int) - h.phase)) % t2
  let e2 : Int := if 2 * r2 < t2 then r2 else r2 - t2
  let h2 := (h.setInt (ETH_T0_ERR 0) (e2 / 2)).showGm
  if h.gmActive then { h2 with pst := { h2.pst with slew := 0 } }
  else
    let a2 := e2.natAbs
    let tol := h2.ethF (ETH_TBD_CFG_LOCK_TOL 0)
    let i := if a2 ≤ 2 * tol then min 64 (h2.eth.inTol + 1) else 0
    let o := if 8 * tol < a2 then min 8 (h2.eth.outTol + 1) else 0
    let step := decide (2000 < a2) && !h2.on (ETH_TBD_STAT_LOCKED 0) && h2.ethF (ETH_TBD_CFG_STEP_EN 0) = 1 && h.haltMode
    let h3 := { h2 with eth := { h2.eth with inTol := i, outTol := o } }
    let h4 := if step then
        { h3.wr (ETH_TBD_STAT_STEPPED 0) 1 with pst := { h3.pst with slew := 0, stretch := (roundDiv ((t2 - e2) % t2) 5).toNat } }
      else { h3 with pst := { h3.pst with slew := -(e2.sign * roundDiv a2 5) } }
    if h4.on (ETH_TBD_STAT_LOCKED 0) then h4.cond (decide (8 ≤ o)) (·.setLocked false)
    else h4.cond (decide (64 ≤ i)) (·.setLocked true)

/-- PTP_SYNC_SEND: a grandmaster queues Sync and Follow_Up. -/
def syncSend (c : Nat) (h : Hw) : Hw := if h.gmActive then (h.ethQueue c 6 0x88F7 58).ethQueue c 6 0x88F7 90 else h

/-- PTP_SYNC_RECEIVE (R407): on a slave, from the port that PTPPORT names. -/
def syncReceive (c : Nat) (offset : Int) (h : Hw) : Hw :=
  if h.gmActive || h.ethF (ETH_PTP_CFG_PTPPORT 0) ≠ c || !h.portLive c then h
  else
    let h1 := h.setInt (ETH_PTP_OFS 0) offset
    if 1000 < offset.natAbs then
      h1.setPair (ETH_PTP_NS_LO 0) (((h1.pair (ETH_PTP_NS_LO 0) : Int) - offset) % 2 ^ 64).toNat
    else h1.setInt (ETH_PTP_RATE 0) (sat32 (h1.int (ETH_PTP_RATE 0) - offset * 2 ^ h1.ethF (ETH_PTP_CFG_SYNC_LOG 0)))

/-- PTP_PDELAY: the link delay, and the frames of the exchange. -/
def pdelay (c : Nat) (delay : Word) (h : Hw) : Hw :=
  if !h.portLive c then h
  else (h.ethQueue c 6 0x88F7 68).cond (h.ethF (ETH_PTP_CFG_PTPPORT 0) = c) (·.setReg (ETH_PTP_PDLY 0) delay)

/-- PTP_SYNC_LOST (R407, R409). -/
def syncLost (h : Hw) : Hw :=
  if h.gmActive then h
  else { ((h.wr (ETH_TBD_STAT_SYNCLOST 0) 1).irq (PG_ETH 0) 6).setLocked false with eth := { h.eth with inTol := 0 } }

/-! ## SkoveSafe: producing (R411 to R413) -/

def Hw.conn (h : Hw) (k : Nat) : SseConn := h.sse.getD k SseConn.init
def Hw.setConn (h : Hw) (k : Nat) (x : SseConn) : Hw := { h with sse := h.sse.set k x }

/-- ASCII text as bytes. -/
def ascii (s : String) : List Byte := s.toList.map fun c => BitVec.ofNat 8 c.toNat

/-- Key and salt that a producer with installation key `ik` draws for a VID at a boot (R468). -/
def skoveKey (ik nonce : List Byte) (vid : Nat) : List Byte × List Byte :=
  let b := Config.hkdf ik nonce (ascii "SKOVE" ++ leBytes 4 vid) 35
  (b.take 32, (b.drop 32).take 3)

/-- The key and salt of a connection: a producer's own, a consumer's from the exchange (R468). -/
def Hw.connKey (h : Hw) (k : Nat) : Option (List Byte × List Byte) :=
  if h.on (SSE_Ck_CFG_DIR k) then (h.stored 2).map fun ik => skoveKey ik h.sec.bootNonce (h.nat (SSE_Ck_VID k))
  else (h.conn k).key

/-- A connection works: enabled, not held, with a key (R410, R420). -/
def Hw.connLive (h : Hw) (k : Nat) : Bool :=
  h.on (SSE_Ck_CFG_EN k) && !(h.conn k).held && (h.connKey k).isSome && h.running PG_SSE && h.mode ≠ 2

/-- The landing TGT names and its VALID (R413). -/
def Hw.target (h : Hw) : Nat × Bool :=
  let s := fun (f : Field) => h.on f
  let hit := if s (PRF_AXn_STAT_LANDING 0) then some (h.rd PRF_LND_LANDING)
    else (h.landings.find? fun l => decide (l.2.1 = h.nat (PRF_AXn_ATGT 0))).map (·.1)
  let runs := s (PRF_AXn_STAT_MOVING 0) || s (PRF_AXn_STAT_REVERSING 0) || s (PRF_AXn_STAT_DONE 0) ||
    (s (PRF_AXn_STAT_STOPPED 0) && decide (h.nat (PRF_AXn_REMAIN 0) ≠ 0))
  (hit.getD 0, hit.isSome && runs && (h.axis 0).has)

/-- The machine frame's payload (KIND 2). -/
def Hw.machinePayload (h : Hw) : List Byte :=
  let t := h.target
  leBytes 4 (h.nat (PRF_AXn_SP_SPD 0)) ++ leBytes 4 (h.nat SIS_WSPD) ++ leBytes 4 (h.nat PRF_DSTOP) ++
    leBytes 4 (t.1 + 256 * b2n t.2) ++
    leBytes 1 (h.mode + 16 * b2n h.sis.parkReady + 32 * b2n (h.bitAt SIS_COND 5)) ++
    leBytes 1 (h.rd PST_BRK_STAT_STATE) ++ [0, 0]

/-- The speed of S0 scaled by its leg (R325, R413). DESIGN CHOICE (log entry 55): without a leg whose source is S0 the frame
carries 0, as its position does. -/
def Hw.carFrameSpeed (h : Hw) : Int :=
  match h.legOf 8 with
  | none => 0
  | some i =>
    let y := sat32 (roundDiv (h.int (POS_Sn_SPD 0) * (h.nat (POS_TUM_GAIN i) : Int)) 65536)
    if h.on (POS_TUM_SEL_NEG i) then -y else y

/-- The car frame's payload (KIND 1). VALID needs a good last frame of S0 and a healthy fed source (R27, R144). -/
def Hw.carPayload (h : Hw) : List Byte :=
  let door := h.dst 0 + 16 * h.dst 1 + 256 * h.rd DOR_DZ_STAT_LANDING + 65536 * h.rd DOR_DZ_STAT_IN +
    131072 * h.rd DOR_RLV_STAT_REQ + 16777216 * h.rd DOR_RLV_STAT_LANDING
  leBytes 4 (h.srcPos 8) ++ leBytes 4 (toU32 h.carFrameSpeed) ++ leBytes 4 (h.nat SIS_WPOS) ++
    leBytes 4 (h.nat SIS_WSPD_C) ++ leBytes 2 (h.nat SIS_COND) ++
    leBytes 1 (h.mode + 16 * b2n h.sis.parkReady + 32 * b2n (h.on (POS_Sn_STAT_VALID 0) && h.pos.fedValid) +
      64 * b2n (!h.sis.carLost)) ++ [0] ++
    leBytes 4 door ++ leBytes 2 (h.nat MAP_GEN) ++ [0, 0]

/-- The bytes a CRC covers (R411). -/
def skoveCrc (vid : Nat) (hdr payload : List Byte) : Nat := crc32c (leBytes 4 vid ++ hdr ++ payload)

/-- A whole frame: header, payload, CRC, tag. -/
def skoveBytes (h : Hw) (k ctr : Nat) (subset : Bool) (tstamp : Nat) (payload : List Byte) : List Byte :=
  let ver := leBytes 1 (1 + 16 * b2n subset)
  let hdr := ver ++ leBytes 1 (payload.length / 4) ++ leBytes 2 (h.rd (SSE_Ck_CID_CID k)) ++
    leBytes 4 ctr ++ leBytes 4 tstamp
  let body := hdr ++ payload ++ leBytes 4 (skoveCrc (h.nat (SSE_Ck_VID k)) hdr payload)
  let (key, salt) := (h.connKey k).getD ([], [])
  body ++ ((Config.gcmSeal key (salt ++ ver ++ leBytes 8 ctr) body []).2 ++ List.replicate 12 0).take 12

/-- The smallest CAN FD DLC that holds `n` bytes (R411). -/
def canDlc (n : Nat) : Nat := ((List.range 16).find? fun d => decide (n ≤ dlcLen d)).getD 15

/-- The frame goes to the connection's CAN object (R396, R410, R411). -/
def Hw.skoveCan (h : Hw) (k : Nat) (bytes : List Byte) : Hw :=
  h.ownerSend 1 (h.rd (SSE_Ck_CFG_CANCTL k)) (h.rd (SSE_Ck_CID_CANOBJ k)) (canDlc bytes.length) bytes

/-- The buffer of a connection in use (R412). -/
def Hw.skoveBuf (h : Hw) (k : Nat) : Nat :=
  if h.on (SSE_Ck_STAT_BUFCUR k) then h.nat (SSE_Ck_BUFB k) else h.nat (SSE_Ck_BUFA k)

/-- The payload a producer sends: what the hardware forms, or its buffer (R412, R413). -/
def Dev.skovePayload (d : Dev) (k : Nat) : List Byte × Dev :=
  let kind := d.hw.rd (SSE_Ck_CFG_KIND k)
  if kind = 1 then (d.hw.carPayload, d)
  else if kind = 2 then (d.hw.machinePayload, d)
  else d.blockLoad (d.hw.skoveBuf k) (4 * d.hw.rd (SSE_Ck_CFG_LEN k))

/-- SKOVESAFE_PRODUCE (R412): in every PERIOD-th position cycle, to every bound path at once. -/
def skoveProduce (k : Nat) (d : Dev) : Dev :=
  let h := d.hw
  let x := h.conn k
  if !h.connLive k || !h.on (SSE_Ck_CFG_DIR k) || decide (x.cyc < max 1 (h.rd (SSE_Ck_CFG_PERIOD k))) then d
  else
    let (pay, d0) := { d with hw := h.cond x.bsel fun h =>
      (h.wr (SSE_Ck_STAT_BUFCUR k) (1 - h.rd (SSE_Ck_STAT_BUFCUR k))).wr (SSE_Ck_CTL_BSEL k) 0 }.skovePayload k
    let h0 := d0.hw
    let kind := h0.rd (SSE_Ck_CFG_KIND k)
    let ts := h0.nat (ETH_T0_STAMP_LO 0)
    let bytes := skoveBytes h0 k x.ctr false ts pay
    let paths := h0.rd (SSE_Ck_CFG_PATHS k)
    let h1 := (h0.cond (bit paths 0) (·.ethQueue 0 7 (h0.ethF ⟨ETH_ETYPE 0, 0, 16⟩) (14 + bytes.length))).cond
      (bit paths 1) (·.ethQueue 1 7 (h0.ethF ⟨ETH_ETYPE 1, 0, 16⟩) (14 + bytes.length))
    let can := bit paths 2 && decide (x.ctr % max 1 (h0.rd (SSE_Ck_CFG_CANDIV k)) = 0)
    let h2 := h1.cond can fun h =>
      h.skoveCan k (if kind = 1 then skoveBytes h k x.ctr true ts (pay.take 24) else bytes)
    let x1 : SseConn := { x with ctr := x.ctr + 1, cyc := 0, bsel := false, out := bytes }
    { d0 with hw := (h2.setNat (SSE_Ck_SEQ k) x.ctr).setConn k x1 }

/-- SSE_BUFFER_SWITCH: a write of SSE_Ck_CTL. -/
def bufferSwitch (who : Who) (k : Nat) (w : Word) (h : Hw) : Hw :=
  h.opWrite who PG_SSE fun h =>
    h.cond (getBits w 0 1 = 1) fun h => (h.wr (SSE_Ck_CTL_BSEL k) 1).setConn k { h.conn k with bsel := true }

/-! ## SkoveSafe: consuming (R414 to R416) -/

/-- Working paths as SSE_PATH shows them. -/
def Hw.pathView (h : Hw) : Hw :=
  h.wr SSE_PATH_OK (maskOf 3 fun p => (List.range 64).any fun k => h.on (SSE_Ck_CFG_EN k) && bit (h.rd (SSE_Ck_STAT_PATHOK k)) p)


/-- A connection's bit in the expiry words, and in the Ward's own copy, where it is a fault: not where the frames of a unit
that has parked stop (R113). -/
def Hw.setExpired (h : Hw) (k : Nat) (b : Bool) : Hw :=
  let o := 4 * (k / 32)
  let kind := h.rd (SSE_Ck_CFG_KIND k)
  ((h.wr (SSE_Ck_STAT_EXP k) (b2n b)).setBitAt (SSE_WD_LO + o) (k % 32) b).cond
    (!(b && h.otherParks && (kind = 1 || kind = 2))) (·.setBitAt (SIS_SSWD_LO + o) (k % 32) b)

/-- The 64-bit nanosecond count near PTP_NS whose low word is given. -/
def Hw.ptpNear (h : Hw) (lo : Nat) : Nat :=
  let b := h.pair (ETH_PTP_NS_LO 0)
  ((b : Int) + diff32 lo (b % 4294967296)).toNat

/-- Little-endian fields of a payload. -/
def u32At (p : List Byte) (i : Nat) : Nat := ofLE ((p.drop i).take 4)
def u16At (p : List Byte) (i : Nat) : Nat := ofLE ((p.drop i).take 2)

/-- PARK_READY of the other role's last frames (R111). -/
def PeerState.parks (p : PeerState) (state : Nat) : Nat := if bit state 4 then min 8 (p.parkRun + 1) else 0

/-- A car frame as it came. -/
def Hw.carFrame (h : Hw) (p : List Byte) (tstamp : Nat) : CarFrame :=
  { pos := u32At p 0, spd := signed 32 (u32At p 4), wpos := u32At p 8, wspd := signed 32 (u32At p 12), cond := u16At p 16,
    state := (p.getD 18 0).toNat, door := u32At p 20,
    mapgen := if 26 ≤ p.length then u16At p 24 else h.rd MAP_PEER_GEN_GEN, stamp := h.ptpNear tstamp }

/-- A car frame fills the car-source holder and MAP_PEER_GEN (R413). -/
def Hw.takeCar (h : Hw) (p : List Byte) (tstamp : Nat) : Hw :=
  let f := h.carFrame p tstamp
  let h1 := { h with
    pos := { h.pos with csNew := some ⟨f.pos, f.spd, f.stamp, bit f.state 5⟩ }
    peer := { h.peer with car := some f, carNew := true, parkRun := h.peer.parks f.state } }
  h1.cond (decide (26 ≤ p.length)) fun h => (h.wr MAP_PEER_GEN_GEN f.mapgen).genCheck

/-- A machine frame as the CAR unit keeps it (R114, R189, R327, R413); a bolted PRF keeps its bolt value (R196). -/
def Hw.takeMachine (h : Hw) (p : List Byte) : Hw :=
  let st := (p.getD 16 0).toNat
  let f : MachFrame :=
    { vcmd := signed 32 (u32At p 0), vmeas := signed 32 (u32At p 4), dstop := u32At p 8, land := u32At p 12 % 256,
      landValid := bit (u32At p 12) 8, state := st, brk := (p.getD 17 0).toNat }
  let h1 := { h with peer := { h.peer with mach := some f, parkRun := h.peer.parks st } }
  h1.cond (!h.bolted PG_PRF) (·.setNat PRF_DSTOP f.dstop)

/-- The Ward's own copy of an accepted frame, and SIS_CARSAFE (R325, R331, R413). -/
def Hw.wardTake (h : Hw) (k : Nat) (p : List Byte) (tstamp : Nat) : Hw :=
  let kind := h.rd (SSE_Ck_CFG_KIND k)
  if kind = 1 then
    let f := h.carFrame p tstamp
    { h.setNat SIS_CARSAFE (f.state + 65536 * f.cond) with
      sis := { h.sis with wCarNew := some ⟨f.wpos, f.wspd, f.stamp, bit f.state 6⟩ } }
  else if kind = 2 then h.wr ⟨SIS_CARSAFE, 0, 8⟩ (p.getD 16 0).toNat
  else h

/-- An accepted payload reaches its user beside the Ward (R413, R416). -/
def Dev.deliver (d : Dev) (k : Nat) (p : List Byte) (tstamp : Nat) : Dev :=
  let h := d.hw
  let kind := h.rd (SSE_Ck_CFG_KIND k)
  if kind = 1 then { d with hw := h.takeCar p tstamp }
  else if kind = 2 then { d with hw := h.takeMachine p }
  else d.blockStore (h.skoveBuf k) (p.take (4 * h.rd (SSE_Ck_CFG_LEN k)))

/-- A dropped frame (R414). -/
def Hw.skoveDrop (h : Hw) (k : Nat) : Hw := (h.bump (SSE_Ck_CNT1_REJ k) 1).irq PG_SSE 2

/-- The counter a SEQ stands for (R415). -/
def inferCounter (last : Option Nat) (seq : Nat) : Int :=
  match last with
  | none => seq
  | some l =>
    let d := diff32 seq (l % 4294967296)
    (l : Int) + (if d = -2147483648 then 2147483648 else d)

/-- What the sequence check finds. -/
inductive SeqCheck where
  | new (gap : Nat)
  | dup
  | old
  deriving DecidableEq, Repr

/-- R415. -/
def SseConn.seqCheck (x : SseConn) (seq : Nat) : SeqCheck :=
  match x.last with
  | none => .new 1
  | some l =>
    let c := inferCounter x.last seq
    if x.first then .new 1
    else if (l : Int) < c then .new (c - l).toNat
    else if c = l then .dup
    else if 1 ≤ (l : Int) - c ∧ (l : Int) - c ≤ 32 ∧ bit x.seen ((l : Int) - c - 1).toNat then .dup
    else .old

/-- The path has brought a frame. -/
def Hw.pathGood (h : Hw) (k path : Nat) : Hw :=
  (h.wr (SSE_Ck_STAT_PATHOK k) (setBitN (h.rd (SSE_Ck_STAT_PATHOK k)) path true)).pathView

/-- What acceptance does beside delivery (R414 to R416). -/
def Hw.skoveAccept (h : Hw) (k seq gap : Nat) : Hw :=
  let x := h.conn k
  let c := (inferCounter x.last seq).toNat
  let seen := if x.first then 0 else ((x.seen * 2 + 1) * 2 ^ (min gap 33 - 1)) % 4294967296
  let run := if gap = 1 || x.first then x.run + 1 else 1
  let clears := h.on (SSE_Ck_STAT_EXP k) && decide (2 ≤ run)
  let h1 := h.setConn k { x with last := some c, seen := seen, first := false, run := min run 2, at_ := h.pair PST_TB_CNT_LO }
  let h2 := ((h1.bump (SSE_Ck_CNT0_ACC k) 1).setNat (SSE_Ck_SEQ k) seq).wr (SSE_Ck_AGE_SINCE k) 0
  let h3 := h2.cond (decide (1 < gap)) fun h => (h.bump (SSE_Ck_CNT1_LOST k) (gap - 1)).wr (SSE_Ck_STAT_LOSTSEQ k) 1
  h3.cond clears fun h => ((h.setExpired k false).wr (SSE_Ck_STAT_SUBACT k) 0).irq PG_SSE 3

/-- A frame on the CAN path comes out of the RX object of a connection: which connections it may be for (R396, R410). -/
def Hw.skoveHas (h : Hw) (path k : Nat) : Bool :=
  path ≠ 2 || h.ownerHas 1 (h.rd (SSE_Ck_CFG_CANCTL k)) (h.rd (SSE_Ck_CID_CANOBJ k))

/-- SSE has read the object (R396). -/
def Hw.skoveRead (h : Hw) (path k : Nat) : Hw :=
  h.cond (path = 2) (·.ownerRead (h.rd (SSE_Ck_CFG_CANCTL k)) (h.rd (SSE_Ck_CID_CANOBJ k)))

/-- SKOVESAFE_FRAME_RECEIVE: the checks of R414 in order. A standby whose inputs are replayed keeps its own frames for
the comparison and its Ward (R331, R360). -/
def skoveReceive (path : Nat) (f : SkoveFrame) (now : Nat) (d : Dev) : Dev :=
  let h := d.hw
  let pay := f.payload
  match (List.range 64).find? fun k =>
      h.connLive k && !h.on (SSE_Ck_CFG_DIR k) && h.rd (SSE_Ck_CID_CID k) = f.cid.toNat && h.skoveHas path k with
  | none =>
    if !h.running PG_SSE || !(List.range 64).any (h.skoveHas path) then d
    else
      let h1 := ((List.range 64).find? (h.skoveHas path)).elim h (h.skoveRead path)
      { d with hw := (h1.bump SSE_UNK_CNT 1).irq PG_SSE 2 }
  | some k =>
    let h := h.skoveRead path k
    let d := { d with hw := h }
    let hdr := leBytes 1 (1 + 16 * b2n f.subset) ++ leBytes 1 (pay.length / 4) ++ leBytes 2 f.cid.toNat ++
      leBytes 4 f.seq.toNat ++ leBytes 4 f.tstamp.toNat
    let age := diff32 now f.tstamp.toNat
    let timed := h.on (ETH_TBD_STAT_LOCKED 0)
    if !f.tagOk then
      { d with hw := (((h.skoveDrop k).wr (SSE_Ck_STAT_AUTHE k) 1).bump SSE_ERR_AUTHERR 1).blockFault PG_SSE 9 }
    else if skoveCrc (h.nat (SSE_Ck_VID k)) hdr pay ≠ f.crc.toNat then
      { d with hw := (((h.skoveDrop k).wr (SSE_Ck_STAT_CRCE k) 1).bump SSE_ERR_CRCERR 1).blockFault PG_SSE 10 }
    else match (h.conn k).seqCheck f.seq.toNat with
      | .dup => { d with hw := (h.bump (SSE_Ck_CNT0_DUP k) 1).pathGood k path }
      | .old => { d with hw := (h.skoveDrop k).wr (SSE_Ck_STAT_OLD k) 1 }
      | .new gap =>
        if timed && (decide (age < -10000) || decide ((h.rd (SSE_Ck_TIM_MAXAGE k) * 1000 : Nat) < age)) then
          { d with hw := (h.skoveDrop k).wr (SSE_Ck_STAT_STALE k) 1 }
        else
          let h1 := ((h.wr (SSE_Ck_STAT_UNTIMED k) (b2n (!timed))).skoveAccept k f.seq.toNat gap).pathGood k path
          let h2 := h1.wr (SSE_Ck_AGE_AGE k) (satN 16 (age.toNat / 1000))
          let h3 := h2.cond h2.paired fun h => { h with rdn := { h.rdn with sseSeen := h.rdn.sseSeen ++ [(k, f.seq.toNat, pay, f.tstamp.toNat)] } }
          let h4 := h3.wardTake k pay f.tstamp.toNat
          if h4.rdn.replaying then { d with hw := h4 }
          else ({ d with hw := h4 }).deliver k pay f.tstamp.toNat

/-- A CAR unit whose machine frame expires goes to SAFE-STOP (R116), unless the other unit parks (R113). -/
def Hw.machineGone (h : Hw) (k : Nat) : Hw :=
  if h.isCar && h.rd (SSE_Ck_CFG_KIND k) = 2 && !h.otherParks && decide (4 ≤ h.mode ∧ h.mode ≤ 0xA) then h.trigStop .machineFrame
  else h

/-- SKOVESAFE_WATCHDOG_EXPIRY. -/
def skoveExpire (k : Nat) (d : Dev) : Dev :=
  let h := d.hw
  let x := h.conn k
  if !h.on (SSE_Ck_CFG_EN k) || h.on (SSE_Ck_CFG_DIR k) || x.held || x.last.isNone || h.on (SSE_Ck_STAT_EXP k) then d
  else
    let h1 := (((h.setExpired k true).irq PG_SSE 0).setConn k { x with first := true, run := 0 }).machineGone k
    if h.rd (SSE_Ck_CFG_KIND k) = 0 && h.on (SSE_Ck_CFG_SUBST k) then
      let (rec, d1) := { d with hw := h1.wr (SSE_Ck_STAT_SUBACT k) 1 }.blockLoad (h.nat (SSE_Ck_SUB k)) (4 * h.rd (SSE_Ck_CFG_LEN k))
      d1.blockStore (h.skoveBuf k) rec
    else { d with hw := h1 }

/-- SKOVESAFE_PATH_TIMEOUT. -/
def skovePath (k path : Nat) (h : Hw) : Hw :=
  if bit (h.rd (SSE_Ck_STAT_PATHOK k)) path then
    ((h.wr (SSE_Ck_STAT_PATHOK k) (setBitN (h.rd (SSE_Ck_STAT_PATHOK k)) path false)).pathView.irq PG_SSE 1).blockFault
      PG_SSE 11
  else h

/-- The Ward's connection has accepted a frame since it was enabled, and has not expired (R327). -/
def Hw.cfok (h : Hw) : Bool :=
  let k := h.rd SIS_CARCONN_CONN
  h.on (SSE_Ck_CFG_EN k) && (h.conn k).last.isSome && !h.on (SSE_Ck_STAT_EXP k) &&
    !bit (h.nat (SIS_SSWD_LO + 4 * (k / 32))) (k % 32)

/-- SSE at a position-cycle T0: cycles of the producers, SINCE of the consumers. -/
def Hw.sseT0 (h : Hw) : Hw :=
  h.each ((List.range 64).filter fun k => h.on (SSE_Ck_CFG_EN k)) fun k h =>
    let x := h.conn k
    let h1 := h.setConn k { x with cyc := min 16 (x.cyc + 1) }
    h1.cond (x.last.isSome && !h.on (SSE_Ck_CFG_DIR k)) fun h =>
      h.wr (SSE_Ck_AGE_SINCE k) (satN 16 ((h.pair PST_TB_CNT_LO - x.at_) / 4000))

/-! ## Swap, bolt, PARKED (R417, R420) -/

/-- The configuration registers of a port. -/
def ethCfgAddrs (c : Nat) : List Nat :=
  [ETH_CFG c, ETH_MAC_LO c, ETH_MAC_HI c, ETH_PEER_LO c, ETH_PEER_HI c, ETH_ETYPE c, ETH_MDIO_RES c, ETH_MDIO_MAP c,
   ETH_GCL_CFG c] ++ (List.range 16).map (ETH_GCLi c) ++ (if c = 0 then [ETH_PTP_CFG 0, ETH_TBD_CFG 0] else [])

/-- The set in the registers of a port is invalid. -/
def Hw.ethInvalid (h : Hw) (c : Nat) : Bool :=
  decide (h.rd (ETH_CFG_MTU c) < 64) || decide (9216 < h.rd (ETH_CFG_MTU c)) || h.nat (ETH_ETYPE c) = 0x88F7 ||
    h.nat (ETH_ETYPE c) = h.rd RDN_HB2_ETH_ETYPE ||
    (c = 0 && ((h.on (ETH_PTP_CFG_PTPPORT 0) && !h.hasE2) || h.rd (ETH_TBD_CFG_SLEW_MAX 0) = 0))

/-- ETH after a swap: an invalid set leaves the previous one standing. With AUTO = 0, MODE applies (R401). -/
def Hw.ethSwap (h : Hw) (c : Nat) : Hw :=
  if h.ethInvalid c then h.blockFault (PG_ETH c) 8
  else
    let l := (ethCfgAddrs c).map fun a => (a, h.reg a)
    let old := h.eth.force.filter fun e => !(decide (e.1 ∈ ethCfgAddrs c))
    let h1 := { h with eth := { h.eth with force := l ++ old } }
    (h1.cond (!h1.on (ETH_CFG_AUTO c)) (·.retrain c (h1.rd (ETH_CFG_MODE c)))).cond (c = 0) Hw.showGm

/-- A write of a ring register: BUFSZ = 0 is invalid and the previous value stands. -/
def ringWrite (who : Who) (c a : Nat) (w : Word) (h : Hw) : Hw :=
  h.cfgWrite who (PG_ETH c) fun h =>
    if getBits w 0 8 = 0 then h.blockFault (PG_ETH c) 8 else h.setReg a (w &&& 0xFFFFF0FF#32)

/-- Bolted: the link is down and the rings stop. -/
def Hw.ethBolt (h : Hw) (c : Nat) : Hw := (h.setPort c { h.port c with pcs := false }).linkUpdate c

/-- PARKED ends the lock (R409). -/
def Hw.timePark (h : Hw) : Hw := { h.setLocked false with eth := { h.eth with inTol := 0, outTol := 0 } }

/-- Payload length of a KIND in bytes (R413). -/
def kindLen (k : Nat) : Nat := if k = 1 then 28 else if k = 2 then 20 else 0

/-- A connection whose configuration R420 calls invalid. -/
def Hw.connInvalid (h : Hw) (k : Nat) : Bool :=
  let kind := h.rd (SSE_Ck_CFG_KIND k)
  let dir := h.rd (SSE_Ck_CFG_DIR k)
  let len := 4 * h.rd (SSE_Ck_CFG_LEN k)
  let paths := h.rd (SSE_Ck_CFG_PATHS k)
  let makes := if h.isCar then 1 else 2
  let canLen := 28 + (if kind = 1 then 24 else len)
  let others := (List.range 64).filter fun j => j ≠ k && h.on (SSE_Ck_CFG_EN j)
  h.on (SSE_Ck_CFG_EN k) &&
    (kind = 3 || ((kind = 1 || kind = 2) && (dir = 1) != (kind = makes)) ||
     (kind ≠ 0 && others.any fun j => h.rd (SSE_Ck_CFG_KIND j) = kind && h.rd (SSE_Ck_CFG_DIR j) = dir) ||
     decide (256 < len) || decide (len < kindLen kind) || (bit paths 2 && decide (64 < canLen)) ||
     (dir = 0 && others.any fun j => h.rd (SSE_Ck_CFG_DIR j) = 0 && h.rd (SSE_Ck_CID_CID j) = h.rd (SSE_Ck_CID_CID k)) ||
     h.rd (SSE_Ck_TIM_WD k) = 0 || (bit paths 1 && h.absent (PG_ETH 1)) ||
     (bit paths 2 && h.absent (PG_CAN (h.rd (SSE_Ck_CFG_CANCTL k)))))

/-- SSE after a swap: invalid connections are held, one without a key sets KEYERR, a newly enabled one starts afresh. -/
def Hw.sseSwap (h : Hw) : Hw :=
  let bad := (List.range 64).filter h.connInvalid
  let h1 := h.each (List.range 64) fun k h =>
    let x := h.conn k
    let on := h.on (SSE_Ck_CFG_EN k)
    let y := if on && !x.on then { x with last := none, seen := 0, first := true, run := 0, cyc := 16 } else x
    let h := h.setConn k { y with on := on, held := k ∈ bad }
    let h := h.cond (on && !x.on) (·.setExpired k false)
    let ke := on && (h.connKey k).isNone
    (h.wr (SSE_Ck_STAT_KEYERR k) (b2n ke)).cond ke (·.blockFault PG_SSE 12)
  h1.cond (decide (bad ≠ [])) (·.blockFault PG_SSE 8)

end Sys2Proof.Machine
end

