-- ==== Sys2Proof/Machine/StopQueue.lean ====
section
/-! DEFINITION. The stop queue (R490 to R499). Bitmaps are numbered 0 CAR, 1 UP, 2 DN; a direction is 1 up, 2 down. -/

namespace Sys2Proof.Machine

/-! ## Bitmaps and requests (R490) -/

/-- Word `k` of bitmap `m` after the last T0. -/
def stqWord (m k : Nat) : Nat := STQ_CARk k + 0x60 * m

/-- A bitmap as a number of 256 bits. -/
def Hw.calls (h : Hw) (m : Nat) : Nat := (List.range 8).foldl (fun a k => a + h.nat (stqWord m k) * 2 ^ (32 * k)) 0

def Hw.setCalls (h : Hw) (m b : Nat) : Hw := h.each (List.range 8) fun k h => h.setNat (stqWord m k) (b / 2 ^ (32 * k))

/-- The requester of a bitmap's bits is kept for the command record (R359). -/
def Hw.callsBy (h : Hw) (who : Who) (m : Nat) : Hw :=
  { h with stq := { h.stq with who := h.stq.who.set m (h.stq.who.getD m 0 ||| 2 ^ who.num) } }

/-- STQ_SET_REQUEST: kept for the next T0; dropped with ROLE in the MACHINE role (R495), and in a standby (R360). -/
def callSet (who : Who) (m k : Nat) (w : Word) (h : Hw) : Hw :=
  h.opWrite who PG_STQ fun h =>
    if h.isMachine then h.cond (decide (w ≠ 0)) (·.blockFault PG_STQ 9)
    else if h.standby then h
    else { h.callsBy who m with stq := { (h.callsBy who m).stq with
      set := h.stq.set.set m (h.stq.set.getD m 0 ||| w.toNat * 2 ^ (32 * k)) } }

/-- STQ_CLEAR_REQUEST. -/
def callClear (who : Who) (m k : Nat) (w : Word) (h : Hw) : Hw :=
  h.opWrite who PG_STQ fun h =>
    if h.standby then h
    else { h.callsBy who m with stq := { (h.callsBy who m).stq with
      clr := h.stq.clr.set m (h.stq.clr.getD m 0 ||| w.toNat * 2 ^ (32 * k)) } }

/-! ## Landings ahead (R493) -/

/-- The bitmap of the enabled landings. -/
def Hw.enabledMask (h : Hw) : Nat := h.landings.foldl (fun a l => a ||| 2 ^ l.1) 0

/-- The bits of `a` that `b` lacks. -/
def without (a b : Nat) : Nat := a ^^^ (a &&& b)

/-- The last machine frame, while its connection has not expired. -/
def Hw.liveMach (h : Hw) : Option MachFrame :=
  if (List.range 64).any fun k => h.on (SSE_Ck_CFG_EN k) && h.rd (SSE_Ck_CFG_KIND k) = 2 && !h.on (SSE_Ck_CFG_DIR k) &&
      !h.on (SSE_Ck_STAT_EXP k) then h.peer.mach
  else none

/-- The enabled landings ahead of the car in direction `d`, with their distance. -/
def Hw.ahead (h : Hw) (d : Nat) : List (Nat × Int) :=
  let p : Int := h.nat MAP_POS
  let s : Int := if d = 1 then 1 else -1
  let m : Int := h.stq.margin * 4096 + (h.peer.mach.elim 0 (·.dstop) : Nat)
  if d = 0 then [] else (h.landings.map fun l => (l.1, s * ((l.2.1 : Int) - p))).filter fun x => decide (m ≤ x.2)

/-- The bitmap of the hall calls in direction `d`; the other direction. -/
def Hw.hall (h : Hw) (d : Nat) : Nat := if d = 1 then h.calls 1 else if d = 2 then h.calls 2 else 0
def turn (d : Nat) : Nat := if d = 1 then 2 else if d = 2 then 1 else 0

def Hw.anyCall (h : Hw) : Nat := h.calls 0 ||| h.calls 1 ||| h.calls 2

/-- A call lies ahead in direction `d`. -/
def Hw.callAhead (h : Hw) (d : Nat) : Bool := (h.ahead d).any fun x => bit h.anyCall x.1

/-- The nearest, or the farthest, of the landings ahead that `b` marks. -/
def pick (l : List (Nat × Int)) (b : Nat) (near : Bool) : Option Nat :=
  ((l.filter fun x => bit b x.1).foldl (fun o x => match o with
    | none => some x
    | some y => if (near && decide (x.2 < y.2)) || (!near && decide (y.2 < x.2)) then some x else some y) none).map (·.1)

/-- call_here of R493. -/
def Hw.callHere (h : Hw) (l d : Nat) : Bool :=
  bit (h.calls 0) l || bit (h.hall d) l || (bit (h.hall (turn d)) l && !h.callAhead d)

/-- The direction of the nearest call by |LPOS - p|; up where two are as near. -/
def Hw.nearestCallDir (h : Hw) : Nat :=
  let p : Int := h.nat MAP_POS
  let l := ((h.landings.filter fun l => bit h.anyCall l.1).map fun l => (l.2.1 : Int) - p)
  let best := l.foldl (fun (o : Option Int) x => match o with
    | none => some x
    | some y => if x.natAbs < y.natAbs ∨ (x.natAbs = y.natAbs ∧ 0 ≤ x) then some x else some y) none
  match best with
  | none => 0
  | some x => if 0 ≤ x then 1 else 2

/-- What the computation of R493 finds: the preferred direction, and the stop with AT and REV. -/
structure NextStop where
  dir : Nat
  stop : Option (Nat × Bool × Bool)
  deriving DecidableEq, Repr

/-- One pass of the search in direction `d`: the landing and REV. -/
def Hw.searchDir (h : Hw) (d : Nat) : Option (Nat × Bool) :=
  match pick (h.ahead d) (h.calls 0 ||| h.hall d) true with
  | some n => some (n, false)
  | none => (pick (h.ahead d) (h.hall (turn d)) false).map fun n => (n, true)

/-- The computation of R493 for a given PDIR. -/
def Hw.nextStop (h : Hw) (pdir : Nat) : NextStop :=
  match h.liveMach with
  | none => ⟨pdir, none⟩
  | some m =>
    let moving := decide (10240 ≤ m.vcmd.natAbs)
    if !h.on MAP_STAT_VALID || h.landings.isEmpty then ⟨pdir, none⟩
    else if !moving && h.anyCall = 0 then ⟨0, none⟩
    else
      let d := if moving then (if 0 < m.vcmd then 1 else 2) else if pdir = 0 then h.nearestCallDir else pdir
      let l := h.rd DOR_DZ_STAT_LANDING
      if !moving && h.on DOR_DZ_STAT_IN && h.callHere l d then ⟨d, some (l, true, false)⟩
      else match h.searchDir d with
        | some (n, r) => ⟨d, some (n, false, r)⟩
        | none =>
          if moving then ⟨d, none⟩
          else match h.searchDir (turn d) with
            | some (n, r) => ⟨turn d, some (n, false, r)⟩
            | none => ⟨d, none⟩

/-! ## One T0 (R492) -/

/-- Set requests of this mode are dropped with HELDW (R494). -/
def stqHeld (m : Nat) : Bool := m ≠ 4 && m ≠ 5 && m ≠ 8

/-- Step 1: the bitmaps a mode entry clears. -/
def Hw.stqMode (h : Hw) : Hw :=
  if h.mode ≠ h.stq.mode && (h.mode = 8 || h.mode = 0xC || h.mode = 0xD || h.mode = 2) then
    ((h.setCalls 0 0).setCalls 1 0).setCalls 2 0
  else h

/-- Step 2: calls at landings that are not enabled (R491). -/
def Hw.stqTable (h : Hw) : Hw := h.each [0, 1, 2] fun m h => h.setCalls m (h.calls m &&& h.enabledMask)

/-- A door of this unit has just left CLOSED for UNLOCKING, or ADVANCE for OPENING. -/
def Hw.doorLeft (h : Hw) : Bool :=
  [0, 1].any fun n => (h.stq.door.getD n 0 = 0 && h.dst n = 1) || (h.stq.door.getD n 0 = 10 && h.dst n = 2)

/-- Step 3: the arrival (R496). -/
def Hw.stqArrive (h : Hw) : Hw :=
  if h.doorLeft && h.carStill && h.on DOR_DZ_STAT_IN then
    let l := h.rd DOR_DZ_STAT_LANDING
    let d := h.rd STQ_NEXT_PDIR
    let drop := fun (m : Nat) (h : Hw) => h.setCalls m (setBitN (h.calls m) l false)
    let h1 := h.wr STQ_STAT_ARRLND l
    h1.cond (h1.on STQ_CFG_ARRCLR) fun h =>
      let back := !h.callAhead d
      let h2 := drop 0 h
      (if d = 0 then drop 2 (drop 1 h2) else (drop d h2).cond back (drop (turn d))).irq PG_STQ 4
  else h

/-- A set request that R497 answers: bit `l` of bitmap `m`. -/
def Hw.answered (h : Hw) (m l : Nat) : Bool :=
  let d := h.rd STQ_NEXT_PDIR
  h.carStill && h.on DOR_DZ_STAT_IN && h.rd DOR_DZ_STAT_LANDING = l &&
    [0, 1].any (fun n => h.doorOn n && decide (1 ≤ h.dst n) && decide (h.dst n ≤ 3)) &&
    (m = 0 || m = d || d = 0 || !h.callAhead d)

/-- Step 5 for one bitmap: held, rejected, answered or taken (R491, R494, R497). -/
def stqSet (m : Nat) (h : Hw) : Hw :=
  let req := h.stq.set.getD m 0
  if req = 0 then h
  else if stqHeld h.mode || (h.mode = 8 && m ≠ 0) then (h.wr STQ_STAT_HELDW 1).blockFault PG_STQ 10
  else
    let en := h.enabledMask
    let ans := (List.range 256).foldl (fun a l => if bit (req &&& en) l && h.answered m l then a ||| 2 ^ l else a) 0
    let h1 := h.cond (decide (without req en ≠ 0)) fun h => (h.wr STQ_STAT_CALLREJ 1).irq PG_STQ 3
    let h2 := h1.cond (decide (ans ≠ 0)) fun h => (h.wr STQ_STAT_ANSWER 1).irq PG_STQ 2
    let only := h.mode = 8 && h.on STQ_CFG_FFONE && decide (req &&& en ≠ 0)
    let keep := if only then h.calls m &&& req else h.calls m
    h2.setCalls m (keep ||| without (req &&& en) ans)

/-- Step 6 and what STQ publishes (R493, R499). -/
def Hw.stqPublish (h : Hw) : Hw :=
  let old := h.reg STQ_NEXT
  let r := if stqHeld h.mode then ⟨h.rd STQ_NEXT_PDIR, none⟩ else h.nextStop (h.rd STQ_NEXT_PDIR)
  let h1 := (h.wr STQ_NEXT_PDIR r.dir).wr STQ_NEXT_VALID (b2n r.stop.isSome)
  let h2 := match r.stop with
    | none => h1
    | some (n, at', rev) => ((h1.wr STQ_NEXT_LANDING n).wr STQ_NEXT_AT (b2n at')).wr STQ_NEXT_REV (b2n rev)
  let h3 := h2.cond (decide (h2.reg STQ_NEXT ≠ old)) (·.irq PG_STQ 0)
  let empty := decide (h3.anyCall = 0)
  let h4 := (h3.cond (empty && !h.on STQ_STAT_EMPTY) (·.irq PG_STQ 1)).wr STQ_STAT_EMPTY (b2n empty)
  let diff := r.stop.isSome && !(h.peer.mach.elim false fun m => m.landValid && m.land = h4.rd STQ_NEXT_LANDING)
  h4.wr STQ_STAT_TGTDIFF (b2n diff)

/-- STQ bolted or not running: NEXT.VALID reads 0, requests stay (R498); nothing is handed to the profile. -/
def Hw.stqHalt (h : Hw) : Hw :=
  ((h.wr STQ_NEXT_VALID 0).cond (h.on STQ_NEXT_VALID) (·.irq PG_STQ 0)).wr STQ_STAT_TGTDIFF 0

/-- All of STQ at a position-cycle T0 (R492). -/
def Hw.stqT0 (h : Hw) : Hw :=
  if !h.isCar then h
  else if !h.running PG_STQ || h.bolted PG_STQ then h.stqHalt
  else
    let h1 := h.stqMode.stqTable.stqArrive
    let h2 := h1.each [0, 1, 2] fun m h => h.setCalls m (without (h.calls m) (h.stq.clr.getD m 0))
    let h3 := (h2.each [0, 1, 2] stqSet).stqPublish
    { h3 with stq := { h3.stq with set := [0, 0, 0], clr := [0, 0, 0], who := [0, 0, 0], mode := h3.mode, door := [h3.dst 0, h3.dst 1] } }

/-- STQ after a swap (R498): MARGIN above 10,000 is invalid and the previous one stands. -/
def Hw.stqSwap (h : Hw) : Hw :=
  if 10000 < h.rd STQ_CFG_MARGIN then (h.wr STQ_CFG_MARGIN h.stq.margin).blockFault PG_STQ 8
  else { h with stq := { h.stq with margin := h.rd STQ_CFG_MARGIN } }

end Sys2Proof.Machine
end

