-- ==== Sys2Proof/Machine/Redundancy.lean ====
section
/-! DEFINITION. Redundant pairs: pairing, replay, comparison, health, the key, split views (R351 to R375). -/

namespace Sys2Proof.Machine

/-! ## Key, states, split views -/

def Hw.rst (h : Hw) : Nat := h.rd RDN_STAT_STATE
def Hw.unitB (h : Hw) : Bool := h.on CPR_STRAP_UNIT_AB
def Hw.selNone (h : Hw) : Bool := !h.on RDN_KEY_SELFSEL && !h.on RDN_KEY_PEERSEL

/-- RDN_STAT.STATE takes a state of R354, with its interrupt. -/
def Hw.pairGo (h : Hw) (s : Nat) : Hw := if h.rst = s then h else (h.wr RDN_STAT_STATE s).irq PG_RDN 0

/-- KEY_HELD takes a level; a unit without the key stands by with every safe output de-energised (R351, R353, R117). -/
def Hw.setKey (h : Hw) (b : Bool) : Hw :=
  if h.on RDN_KEY_HELD = b then h
  else
    let h1 := ((h.wr RDN_KEY_HELD (b2n b)).irq PG_RDN 1).showKey.showGm
    if b then h1.wr SIS_MODE_STBY 0 else (h1.wr SIS_MODE_STBY 1).dropNow 0x3FF

/-- RDN acts on pairing at all (R354, R371). -/
def Hw.rdnLive (h : Hw) : Bool := h.running PG_RDN && h.paired && decide (4 ≤ h.mode)

/-- A split view of a KIND (R372, R373). -/
def Hw.split (h : Hw) (kind : Nat) : Hw :=
  let h1 := ((h.wr RDN_SPLIT_KIND kind).bump RDN_SPLIT_COUNT 1).irq PG_RDN 2
  let h2 := h1.recWard 0x0030 true [kind, b2n (h.on RDN_KEY_SELFSEL) + 2 * b2n (h.on RDN_KEY_PEERSEL), h.nat RDN_STAT]
  h2.cond (kind = 1 || kind = 2 || kind = 6) (·.raise PG_RDN 9)

/-- SELFLT stands until `SELFLT_CLEAR`; meanwhile a split view of another KIND is still recorded (R372). -/
def Hw.selFault (h : Hw) (kind : Nat) : Hw :=
  if h.rdn.selflt && h.rd RDN_SPLIT_KIND = kind then h
  else
    let h1 := (h.split kind).raise PG_RDN 10
    { h1 with rdn := { h1.rdn with selflt := true, selOk := 0 } }

/-- KIND 2: B gives way at once. -/
def Hw.bothHeld (h : Hw) : Hw := ((h.split 2).setKey false).pairGo 8

/-- What the selector shows is judged (R372). -/
def Hw.judgeSel (h : Hw) : Hw :=
  let own := h.on RDN_KEY_SELFSEL
  let peer := h.on RDN_KEY_PEERSEL
  if own && peer then h.selFault 5
  else if h.on RDN_KEY_HELD && peer then (if h.unitB then h.bothHeld else h.selFault 3)
  else h

/-- SEL_FB_CHANGE. -/
def selChange (a b : Bool) (h : Hw) : Hw :=
  let own := if h.unitB then b else a
  let peer := if h.unitB then a else b
  let h1 := (h.wr RDN_KEY_SELFSEL (b2n own)).wr RDN_KEY_PEERSEL (b2n peer)
  if h1.rdnLive then h1.judgeSel else h1

/-- SELECTOR_NONE_SHOWN. -/
def selNoneShown (h : Hw) : Hw := if h.rdnLive && h.on RDN_KEY_HELD && h.selNone then h.selFault 4 else h

/-- SELFLT_CLEAR: 256 consecutive T0s of agreement. -/
def selClear (h : Hw) : Hw :=
  if h.rdn.selflt && decide (256 ≤ h.rdn.selOk) then { h with rdn := { h.rdn with selflt := false } } else h

/-! ## Ages, health -/

/-- Age of a path in TMR cycles at the last current-cycle T0 (R367). -/
def Hw.pathAge (h : Hw) (i : Option Nat) : Option Nat :=
  i.map fun k => (diff32 (h.nat PST_TB_IDX) k).toNat * h.pst.curPer

/-- An age in 10 µs units, saturating. -/
def ageField (a : Option Nat) : Nat := a.elim 0xFFFF fun t => satN 16 (t / 4000)

/-- A path is younger than `ms` milliseconds, or at least that old. -/
def Hw.within (h : Hw) (i : Option Nat) (ms : Nat) : Bool := (h.pathAge i).elim false fun t => decide (t < 400000 * ms)
def Hw.leaseMs (h : Hw) : Nat := h.rdnF RDN_LEASE_LEASE
def Hw.guardMs (h : Hw) : Nat := h.leaseMs + h.rdnF RDN_LEASE_GUARD

/-- RDN_HEALTH (R365). -/
def Hw.ownHealth (h : Hw) : Nat :=
  let fm := h.on SIS_FM_CUR_W0_VALID && decide (3 ≤ h.rd SIS_FM_CUR_W0_CLASS) || h.sis.queue.any fun e => decide (3 ≤ e.cls)
  let m := h.mode
  b2n (h.rst = 6 || h.rst = 7) + 2 * b2n (decide (h.rdn.lateCnt < h.rdnF RDN_CMP_LATE_N)) +
    4 * b2n (decide (h.rdn.inCnt < h.rdnF RDN_CMP_IN_N) && !h.rdn.forced) +
    8 * b2n (decide (h.rdn.outCnt < h.rdnF RDN_CMP_OUT_N) && !h.rdn.forced) +
    16 * b2n (h.nat SIS_SF_TRIP = 0 && !fm && m ≠ 0xB && m ≠ 0xC && m ≠ 2 && m ≠ 0xD) +
    32 * b2n (decide (h.rd MAP_STAT_LOADED = h.mapPages)) + 64 * b2n (h.on (ETH_TBD_STAT_LOCKED 0)) +
    128 * b2n (!h.rdn.selflt) + 256 * b2n (h.within h.rdn.pl h.leaseMs) + 512 * b2n (h.within h.rdn.hb2 h.leaseMs)

/-- Health is good: an active unit ignores bits 3 to 0. -/
def goodHealth (v : Nat) (active : Bool) : Bool := if active then v / 16 % 16 = 15 else v % 256 = 255

/-- The partner is lost (R365, R373). -/
def Hw.peerLost (h : Hw) : Hw := (h.irq PG_RDN 6).raise PG_RDN 13

/-- RDN_HEALTH at a T0, with what its changes cause (R365, R372 KIND 6). -/
def Hw.healthT0 (h : Hw) : Hw :=
  let was := h.rd RDN_HEALTH_HEALTH
  let now := h.ownHealth
  let old := fun (i : Option Nat) => !h.within i h.guardMs
  let both := fun v => decide (v / 256 = 0)
  let h1 := (h.wr RDN_HEALTH_HEALTH now).cond (decide (was ≠ now)) (·.irq PG_RDN 3)
  let h2 := h1.cond (h.rst = 6 && both now && !both was) Hw.peerLost
  let one := old h.rdn.pl != old h.rdn.hb2
  let h3 := h2.cond (one && !h.rdn.onePath) (·.split 6)
  { h3 with rdn := { h3.rdn with onePath := one } }

/-- The balls SDCLK0-3, S0_CLK-S3_CLK, EMU0-1, STP0-1 and every CAN transmit ball are driven: a unit of a pair without the
key holds them at high impedance; the T0 at which it takes the key drives them (R353, R391). -/
def Hw.drivesBalls (h : Hw) : Bool := !h.noKey

/-- What stands on such balls: none is high impedance. -/
def Hw.ballOut {α : Type} (h : Hw) (v : α) : Option α := if h.drivesBalls then some v else none

/-- A, B and Z of EMUk (R137): the place in the sequence 00, 01, 11, 10 of (A, B). -/
def Hw.emuBalls (h : Hw) (k : Nat) : Option (Bool × Bool × Bool) :=
  let e := h.em k
  h.ballOut (e.phase / 2 = 1, e.phase = 1 || e.phase = 2, e.z)

/-- The DIR ball of STPk, and whether its STEP ball may pulse (R193). -/
def Hw.stepBalls (h : Hw) (k : Nat) : Option (Bool × Bool) := h.ballOut ((h.stp k).dir, h.stpLive k && (h.stp k).armed)

/-- SDCLKk runs with DIV TMR cycles a period, where its group is not held (R273, R274). -/
def Hw.sdClock (h : Hw) (k : Nat) : Option Nat :=
  if bit h.pst.badGroup k then none else h.ballOut (getBits (h.reg PST_SDCLK) (8 * k) 8)

/-- Sn_CLK runs at the rate of a CLKSEL code (R130, R132). -/
def Hw.serialClock (h : Hw) (n : Nat) : Option Nat := if h.sLive n then h.ballOut (h.rd (POS_Sn_CTL_CLKSEL n)) else none

/-! ## Frames the unit sends (R357, R358, R367) -/

/-- Microseconds left of the lease (R358, R366). -/
def Hw.leaseLeft (h : Hw) : Nat :=
  1000 * h.leaseMs - (diff32 (h.nat PST_TB_IDX) h.rdn.renewed).toNat * h.pst.curPer / 400

/-- FLAGS of a frame. -/
def Hw.frameFlags (h : Hw) : Nat :=
  b2n h.unitB + 2 * b2n (h.on RDN_KEY_HELD) + 4 * b2n (h.on RDN_KEY_RELEASE) +
    8 * b2n (goodHealth (h.rd RDN_HEALTH_HEALTH) (h.rst = 6))

/-- RDN sends: it runs and the Ward is not in the fault handling of R342. -/
def Hw.mayBeat (h : Hw) : Bool := h.rdnLive && !h.sis.hwHold && !h.sis.dead

/-- A HELLO record as bytes: the spec gives its contents, not their places (log entry 67). -/
def helloBytes (unitB : Bool) (role compat formats : Nat) : List Byte :=
  leBytes 1 (b2n unitB) ++ leBytes 1 role ++ leBytes 2 compat ++ leBytes 1 formats ++ [0, 0, 0]

/-- RTYPE, INST and data of a record (R359); where the spec gives contents and no places, the places are the model's (log
entry 67). -/
def recParts : PairRecord → Nat × Nat × List Byte
  | .regs t i l => (t.toNat, i.toNat, l.flatMap fun w => leBytes 4 w.toNat)
  | .captures l => (0x03, 1, l.flatMap fun c => leBytes 4 (c.1.toNat + 256 * b2n c.2.1) ++ leBytes 4 c.2.2.1.toNat ++
      leBytes 4 c.2.2.2.toNat)
  | .car p v t ok => (0x04, 0, leBytes 4 p.toNat ++ leBytes 4 v.toNat ++ leBytes 8 t.toNat ++ leBytes 4 (b2n ok))
  | .skove c q p t => (0x30, c.val, leBytes 4 q.toNat ++ leBytes 4 t.toNat ++ p)
  | .can c j f =>
    let x := canWords f j.val
    (0x31, c.val, ([x.w0, x.w1, x.w2, BitVec.ofNat 32 j.val] ++ x.data).flatMap fun w => leBytes 4 w.toNat)
  | .prf n op seq who tgt => (0x40, n.val, [op, seq, who, 0] ++ leBytes 4 tgt.toNat)
  | .door n op seq who => (0x40, 4 + n.val, [op, seq, who, 0])
  | .calls m s c w => (0x40, 8 + m.val, leBytes 32 s.toNat ++ leBytes 32 c.toNat ++ leBytes 4 w.toNat)

/-- A record in a frame: RTYPE, INST, RLEN in bytes, then the data (R359). -/
def recBytes (r : PairRecord) : List Byte :=
  let p := recParts r
  leBytes 1 p.1 ++ leBytes 1 p.2.1 ++ leBytes 2 p.2.2.length ++ p.2.2

/-- The bytes of a pairing frame's payload (R354; log entry 67). -/
def pairingBytes : PairingBody → List Byte
  | .hello b r c f => helloBytes b r.val c.toNat f.toNat
  | .nonce n => n
  | .auth _ => List.replicate 48 0
  | .agree o l k => leBytes 1 o.val ++ leBytes 1 l.toNat ++ leBytes 1 (b2n k) ++ [0]
  | .request => []

/-- Payload bytes of a frame: none for a snapshot, whose fixed part the spec does not lay out (R363). -/
def PairBody.bytes : PairBody → Option (List Byte)
  | .records l => some (l.flatMap recBytes)
  | .beat v l => some (leBytes 4 v ++ leBytes 4 l)
  | .snapshot _ => none
  | .pairing f => some (pairingBytes f)
  | .proof b => some b

/-- LEN of a frame (R358): a snapshot's fixed hardware state is 1,024 bytes (R363). -/
def PairBody.size : PairBody → Nat
  | .snapshot x => x.ram.foldl (fun a r => a + r.2.length) 1024
  | b => (b.bytes.getD []).length

/-- The bytes of a frame before its tag (R358). -/
def PairFrame.body0 (f : PairFrame) : List Byte :=
  leBytes 1 f.typ ++ leBytes 1 f.flags ++ leBytes 2 f.len ++ leBytes 4 f.t0idx ++ leBytes 4 f.ctr ++
    leBytes 1 f.mode ++ leBytes 1 f.seg ++ [0, 0] ++ f.body.bytes.getD []

/-- The tag of R358 under a session key and salt. -/
def PairFrame.seal (f : PairFrame) (key salt : List Byte) (unitB : Bool) : List Byte :=
  let nonce := salt ++ leBytes 8 (f.ctr % 2 ^ 63 + 2 ^ 63 * b2n unitB)
  ((Config.gcmSeal key nonce f.body0 []).2 ++ List.replicate 12 0).take 12

/-- MODE of a frame: the mode the unit is in, PARKED from the entry on (R99, R100, R119). -/
def Hw.sentMode (h : Hw) : Nat := if h.cpr.parking then 3 else h.mode

/-- A frame goes out under the header of R358; it is tagged once a session key stands; PARK_READY goes with every frame
(R112). -/
def Hw.sendFrame (h : Hw) (second : Bool) (typ t0idx seg : Nat) (b : PairBody) : Hw :=
  if !h.mayBeat then h
  else
    let f : PairFrame := ⟨second, typ, h.frameFlags, t0idx, h.rdn.ctr + 1, h.sentMode, seg, b.size, [], h.sis.parkReady, b⟩
    let tag := h.rdn.session.elim [] fun k => f.seal k.1 k.2 h.unitB
    { h with rdn := { h.rdn with ctr := h.rdn.ctr + 1, tx := h.rdn.tx ++ [{ f with tag := tag }] } }

/-- The heartbeat a frame is. -/
def Hw.beatBody (h : Hw) : PairBody := .beat (h.rd RDN_HEALTH_HEALTH) h.leaseLeft

/-- RDN's own object of a TYPE on the controller that HB2_PATH names (R396). -/
def Hw.beatObject (h : Hw) (typ : Nat) : Option (Nat × Nat) :=
  let c := h.rdnF RDN_CFG_HB2_PATH - 2
  if h.rdnF RDN_CFG_HB2_PATH < 2 ∨ 3 < h.rdnF RDN_CFG_HB2_PATH then none
  else ((List.range 128).find? fun n => h.rd (CAN_OBJn_W1_OWNER c n) = 2 && h.rd (CAN_OBJn_W0_TYPE c n) = typ).map (c, ·)

/-- The heartbeat goes into RDN's TX object: identifier HB2_ID, FDF, DLC 15 (R367, R396). -/
def Hw.beatCan (h : Hw) (bytes : List Byte) : Hw :=
  match h.beatObject canTx with
  | none => h
  | some (c, n) =>
    let h1 := h.cond (!h.on (CAN_OBJn_W3_TXRQ c n)) fun h =>
      ((h.setReg (CAN_OBJn_W0 c n) (setBits (setBits (h.reg (CAN_OBJn_W0 c n)) 29 1 (h.rdnF ⟨RDN_HB2_CAN, 31, 1⟩)) 0 29
        (h.rdnF ⟨RDN_HB2_CAN, 0, 29⟩))).wr (CAN_OBJn_W1_FDF c n) 1).wr ⟨CAN_OBJn_W1 c n, 22, 1⟩ 0
    h1.ownerSend 2 c n 15 bytes

/-- The heartbeat of a position cycle on the second path: on Ethernet in every cycle on queue 6, on CAN in every HB2_DIV-th
(R8, R367, R404). -/
def Hw.beatSecond (h : Hw) : Hw :=
  let path := h.rdnF RDN_CFG_HB2_PATH
  let due := path < 2 || (h.nat PST_TB_IDX / h.pst.posDiv) % max 1 (h.rdnF RDN_CFG_HB2_DIV) = 0
  if h.rdn.session.isNone || !h.mayBeat || !due then h
  else
    let h1 := h.sendFrame true 3 (h.nat PST_TB_IDX) 0 h.beatBody
    let bytes := h1.rdn.tx.getLast?.elim [] fun f => f.body0 ++ f.tag
    if path < 2 then h1.ethQueue path 6 (h.rdnF RDN_HB2_ETH_ETYPE) (14 + bytes.length) else h1.beatCan bytes

/-! ## Taking the key (R368, R118) -/

/-- The mode a new active goes on in. -/
def Hw.takenMode (h : Hw) : Nat :=
  match h.rdn.frameMode with
  | none => h.mode
  | some m => if m = 9 ∨ m = 0xA then 0xB else if m = 3 ∨ (m = 4 ∧ h.rdn.framePark) then 4 else m

/-- What the old active's learning run or test has left is discarded: counts and waiting entries of learning, the result of
the brake test (R118, R168). The sums in the mark table are software's to clear (R165). -/
def Hw.dropTests (h : Hw) : Hw :=
  { (h.setNat MAP_LRN_STAT 0).setNat PST_BT_STAT 0 with pos := { h.pos with capMap := [] } }

/-- The idle time starts again at a takeover of a unit that was parked or about to park (R118). -/
def Hw.parkTaken (h : Hw) : Bool := h.rdn.frameMode = some 3 || (h.rdn.frameMode = some 4 && h.rdn.framePark)

/-- The unit becomes ACTIVE: key, own samples, the mode of R118, outputs under R328. -/
def Hw.takeKey (h : Hw) (takeover : Bool) : Hw :=
  let h1 := (h.setKey true).pairGo 6
  let h2 := { h1.wr RDN_STAT_COAST 0 with rdn := { h1.rdn with
    replaying := false, segs := [], play := [], relSeen := false, seeded := false, ownStop := false } }
  if !takeover then h2
  else
    let m := h2.takenMode
    let h3 := h2.recWard 0x0031 true [m, h.rd RDN_HB_AGE_PL, h.rd RDN_HB_AGE_HB2]
    let tests := h2.rdn.frameMode = some 9 || h2.rdn.frameMode = some 0xA
    let h4 := ((h3.setMode m).cond (m = 0xB) Hw.startStop).cond tests Hw.dropTests
    let h5 := { h4 with sis := { h4.sis with parkIdle := h4.sis.parkIdle && !h2.parkTaken, proofOrder := false, overspeed := false } }
    h5.outputsT0

/-- The health a claim asks: bits 3 to 0 as at the last verified input frame, bits 7 to 4 now. -/
def Hw.claimHealth (h : Hw) : Bool :=
  h.rdn.frameHealth % 16 = 15 && h.ownHealth / 16 % 16 = 15 && !h.rdn.forced

/-- Both ages have reached LEASE + GUARD, or the active has released the key (R370). -/
def Hw.claimAged (h : Hw) : Bool :=
  h.rdn.relSeen || (!h.within h.rdn.pl h.guardMs && !h.within h.rdn.hb2 h.guardMs)

/-- KEY_CLAIM: not between a wake and the first T0, from which the ages restart (R371). -/
def keyTake (h : Hw) : Hw :=
  if h.rdnLive && h.rst = 7 && h.claimHealth && h.claimAged && h.selNone && !h.rdn.selflt && !h.rdn.woke then h.takeKey true
  else h

/-- LEASE_EXPIRY: the key falls when nothing renews it: the Ward is in fault handling of R342 or the device does not run
(R366). A unit in DEADBOLT or PARKED keeps it. -/
def leaseEnd (h : Hw) : Hw :=
  if h.paired && h.on RDN_KEY_HELD && h.mode ≠ 3 && (h.sis.hwHold || h.sis.dead || h.mode = 1) then h.setKey false else h

/-! ## Pairing (R354 to R356) -/

/-- A check of R356 fails: FAILED, or for an ACTIVE unit the end of this pairing. -/
def Hw.pairFail (h : Hw) (code : Nat) : Hw :=
  let h1 := (h.wr RDN_STAT_FAILCODE code).raise PG_RDN 12
  if h.rst = 6 then { h1 with rdn := { h1.rdn with phase := 0 } } else h1.pairGo 9

/-- The place in pairing, whether STATE shows it or the unit stays ACTIVE. -/
def Hw.pairPhase (h : Hw) : Nat := if h.rst = 6 then h.rdn.phase else h.rst
def Hw.pairNext (h : Hw) (s : Nat) : Hw :=
  if h.rst = 6 then { h with rdn := { h.rdn with phase := s } } else h.pairGo s

/-- A pairing frame goes out (R354). -/
def Hw.sendPairing (h : Hw) (f : PairingBody) : Hw := h.sendFrame false 5 (h.nat PST_TB_IDX) 0 (.pairing f)

/-- The own HELLO record. -/
def Hw.ownHello (h : Hw) : List Byte :=
  helloBytes h.unitB (h.rd CPR_STRAP_ROLE) (h.rd RDN_COMPAT_PAIRCOMPAT) (h.rd RDN_COMPAT_FORMATS)

/-- What units A and B have sent, A's first. -/
def Hw.byUnit (h : Hw) (own peer : List Byte) : List Byte := if h.unitB then peer ++ own else own ++ peer

/-- The AUTH proof of this unit over both HELLO records and both nonces (R467). -/
def Hw.ownProof (h : Hw) (pk peer : List Byte) : List Byte :=
  Config.hmac pk (ascii "PROOF" ++ ascii (if h.unitB then "B" else "A") ++ h.byUnit h.ownHello h.rdn.peerHello ++
    h.byUnit h.rdn.nonce peer)

/-- AUTH: the own 32-byte nonce is drawn and sent (R354); its value is free. -/
def Hw.sendNonce (h : Hw) : Hw :=
  let (n, h1) := h.draw 8
  ({ h1 with rdn := { h1.rdn with nonce := n, peerNonce := none } }).sendPairing (.nonce n)

/-- The session key and salt from the pair key and the nonces of both units (R467): counters and T0 indexes are those of a
new session. -/
def Hw.sessionKey (h : Hw) : Hw :=
  match h.stored 3, h.rdn.peerNonce with
  | some pk, some n =>
    let b := Config.hkdf pk (h.byUnit h.rdn.nonce n) (ascii "SESSION") 36
    { h with rdn := { h.rdn with session := some (b.take 32, b.drop 32), last := none, off := none } }
  | _, _ => h

/-- AGREE is offered; at which modes both lanes have locked is free. -/
def Hw.sendAgree (h : Hw) : Hw :=
  h.free fun w h => h.sendPairing (.agree (Fin.ofNat 4 (h.rdnF RDN_CFG_LOFFER)) (w.truncate 4) (h.on RDN_KEY_HELD))

/-- The unit enters SYNC: nothing is seeded; the snapshot is asked for at position-cycle T0 `n` from now (R354; the active
sends one unasked after AGREE). -/
def Hw.toSync (h : Hw) (n : Nat) : Hw :=
  let h1 := (h.pairGo 5).wr RDN_STAT_COAST 0
  { h1 with rdn := { h1.rdn with seeded := false, clean := 0, replaying := false, askIn := n } }

/-- Entry of LINK: a new offset of T0 indexes and a new counter are to be learned. -/
def Hw.toLink (h : Hw) : Hw :=
  { (h.pairGo 1).wr RDN_STAT_LANEDEG 0 with rdn := { h.rdn with
    last := none, off := none, agreed := none, session := none, seeded := false, segs := [], play := [], replaying := false } }

/-- LANE_LOCK: HELLO records are exchanged. -/
def laneUp (h : Hw) : Hw :=
  if h.rdnLive && (h.rst = 1 || (h.rst = 6 && h.rdn.phase = 0)) then
    (h.pairNext 2).sendPairing (.hello h.unitB (Fin.ofNat 4 (h.rd CPR_STRAP_ROLE)) (BitVec.ofNat 16 (h.rd RDN_COMPAT_PAIRCOMPAT))
      (BitVec.ofNat 8 (h.rd RDN_COMPAT_FORMATS)))
  else h

/-- The modes of R355 in order of preference, and ns for a byte at their payload rates. -/
def linkModes : List (Nat × Nat) := [(3, 4), (1, 8), (2, 8), (0, 16)]

/-- The offered modes: RDN_CFG.LOFFER and those after it. -/
def offers (best : Nat) : List Nat := (linkModes.map (·.1)).dropWhile (· ≠ best)

/-- The first mode both units offer, both lanes lock at and whose budget holds: WC bytes in the position cycle less
12,600 ns. -/
def Hw.linkMode (h : Hw) (offer locks : Nat) : Option Nat :=
  (linkModes.find? fun m => m.1 ∈ offers (h.rdnF RDN_CFG_LOFFER) && m.1 ∈ offers offer && bit locks m.1 &&
    decide (2 * h.rd RDN_FRM_MAX_WC * m.2 + 25200 ≤ 5 * h.pst.curPer * h.pst.posDiv)).map (·.1)

/-- What AGREE leads to, as far as the selector lets it (R354). -/
def Hw.agreeOn (h : Hw) : Hw :=
  match h.rdn.agreed with
  | none => h
  | some peerKey =>
    if h.rst = 6 then { h with rdn := { h.rdn with phase := 0, agreed := none, wantCapture := true } }
    else if h.rst ≠ 4 then h
    else
      let h1 := { h with rdn := { h.rdn with agreed := none, seeded := false, clean := 0 } }
      if h.on RDN_KEY_HELD then h1.takeKey false
      else if peerKey || h.unitB then h1.toSync 3
      else if h.selNone then h1.takeKey false
      else h

/-- The own index of the T0 a frame belongs to, by an offset of the indexes of the two units. -/
def idxBy (t0 off : Nat) : Nat := (t0 + 4294967296 - off % 4294967296) % 4294967296

/-- A received frame passes R358: tag, counter, and a T0 index that is one of the expected own ones (the offset between
the indexes of the units is learned from the first frame). -/
def Hw.headOk (h : Hw) (f : PairHead) (want : List Nat) : Bool :=
  f.tagOk && (h.rdn.last.elim true fun l => decide (l < f.counter.toNat)) &&
    h.rdn.off.elim true fun o => idxBy f.t0idx.toNat o ∈ want

/-- A frame dropped for its tag or counter counts (R358). -/
def Hw.headDrop (h : Hw) (f : PairHead) : Hw :=
  let l := h.rdn.last.elim true fun l => decide (l < f.counter.toNat)
  h.cond (!(f.tagOk && l)) fun h => (h.bump RDN_AUTHERR_CNT 1).raise PG_RDN 11

/-- What the header of an accepted frame tells (R358, R372, R375). -/
def Hw.headTake (h : Hw) (f : PairHead) (want : List Nat) : Hw :=
  let off := h.rdn.off.getD (idxBy f.t0idx.toNat (want.headD 0))
  let back := h.rst = 6 && !f.key && h.rd RDN_HEALTH_HEALTH / 256 = 0
  let h1 := { h with rdn := { h.rdn with last := some f.counter.toNat, off := some off, relSeen := h.rdn.relSeen || f.release } }
  let h2 := ((((h1.wr RDN_PEER_VALID 1).wr RDN_PEER_KEY (b2n f.key)).wr RDN_PEER_RELEASE (b2n f.release)).wr
    RDN_PEER_UNIT (b2n f.unitB)).wr RDN_PEER_MODE f.mode.toNat
  let h3 := h2.cond back (·.split 7)
  if h3.on RDN_KEY_HELD && f.key && h3.unitB then h3.bothHeld
  else if h3.rst = 8 then h3.toLink
  else h3

/-- The own index of an accepted frame's T0. -/
def Hw.ownIdx (h : Hw) (f : PairHead) : Nat := idxBy f.t0idx.toNat (h.rdn.off.getD 0)

/-- A keyed pairing frame: checked as every frame of R358, and a heartbeat of the pair link once accepted (R367). -/
def Hw.keyedTake (h : Hw) (f : PairHead) (k : Hw → Hw) : Hw :=
  let want := [h.rdn.posIdx, h.rdn.prevIdx]
  if !h.headOk f want then h.headDrop f
  else
    let h1 := h.headTake f want
    k { h1 with rdn := { h1.rdn with pl := some (h1.ownIdx f) } }

/-- PAIRING_FRAME_RECEIVE: HELLO, the nonce and the proof come before there is a session key, so that no tag, counter or T0
index of theirs can be checked; AGREE and the request for a snapshot are frames of R358 (log entry 67). -/
def pairingTake (f : PairingFrame) (h : Hw) : Hw :=
  if !h.rdnLive then h
  else match f.body with
    | .hello b role compat formats =>
      if h.pairPhase ≠ 2 then h
      else
        let h := { h with rdn := { h.rdn with peerHello := helloBytes b role.val compat.toNat formats.toNat } }
        let h1 := (h.wr RDN_PEER_UNIT (b2n b)).wr RDN_PEER_COMPAT compat.toNat
        if b == h.unitB then h1.pairFail 2
        else if role.val ≠ h.rd CPR_STRAP_ROLE then h1.pairFail 3
        else if compat.toNat ≠ h.rd RDN_COMPAT_PAIRCOMPAT then h1.pairFail 4
        else if formats.toNat &&& h.rd RDN_COMPAT_FORMATS = 0 then h1.pairFail 5
        else if (h.stored 3).isNone then h1.pairFail 6
        else (h1.pairNext 3).sendNonce
    | .nonce n =>
      if h.pairPhase ≠ 3 then h
      else
        let h1 := { h with rdn := { h.rdn with peerNonce := some n } }
        (h.stored 3).elim h1 fun pk => h1.sendFrame false 5 (h.nat PST_TB_IDX) 0 (.proof (h.ownProof pk n))
    | .auth ok =>
      if h.pairPhase ≠ 3 then h
      else if ok && h.rdn.peerNonce.isSome then (h.pairNext 4).sessionKey.sendAgree
      else h.pairFail 7
    | .agree offer locks key =>
      if h.pairPhase ≠ 4 then h
      else h.keyedTake f.head fun h =>
        match h.linkMode offer.val locks.toNat with
        | none => h.pairFail 8
        | some m =>
          let h1 := h.wr RDN_STAT_LMODE m
          { h1 with rdn := { h1.rdn with agreed := some key } }.agreeOn
    | .request => h.keyedTake f.head fun h =>
        h.cond (h.rst = 6) fun h => { h with rdn := { h.rdn with wantCapture := true } }

/-- PAIR_WAIT_ELAPSED. -/
def pairWait (h : Hw) : Hw :=
  if h.rdnLive && (h.rst = 1 || h.rst = 9) then
    if h.selNone then (h.takeKey false).peerLost
    else if h.rst = 1 && h.on RDN_KEY_PEERSEL then (h.wr RDN_STAT_FAILCODE 1).pairGo 8
    else h
  else h

/-- LANE_LOSS. -/
def laneGone (h : Hw) : Hw := if h.rdnLive then { h with rdn := { h.rdn with laneDue := true } } else h

/-- The lane is dropped at a T0 (R355): the one-lane mode at the same rate. -/
def Hw.laneT0 (h : Hw) : Hw :=
  if !h.rdn.laneDue then h
  else
    let h1 := { h with rdn := { h.rdn with laneDue := false } }
    let m := h.rd RDN_STAT_LMODE
    if m % 2 = 1 then ((h1.wr RDN_STAT_LMODE (m - 1)).wr RDN_STAT_LANEDEG 1).irq PG_RDN 7 else h1

/-! ## Writes of RDN_KEY (R370, R373) -/

/-- A handoff is accepted. -/
def Hw.handoffOk (h : Hw) : Bool :=
  h.rdnLive && h.rst = 6 && h.on RDN_KEY_HELD && h.rdn.hand = 0 &&
    (h.mode = 4 || (h.rd PST_BRK_STAT_STATE = 0 && h.bitAt SIS_COND 6)) &&
    goodHealth (h.rd RDN_PEER_HEALTH_HEALTH) false && h.within h.rdn.pl h.leaseMs

/-- A write of RDN_KEY. -/
def pairKeyWrite (who : Who) (w : Word) (h : Hw) : Hw :=
  h.agent0R who PG_RDN 14 fun h =>
    let h1 := h.cond (getBits w 1 1 = 1 && h.rdnLive && (h.rst = 8 || h.rst = 9)) Hw.toLink
    h1.cond (getBits w 0 1 = 1 && h1.handoffOk) fun h => { h with rdn := { h.rdn with hand := 1 } }

/-- The handoff of the old active at T0 h, h + 1 and h + 2 (R370). -/
def Hw.handT0 (h : Hw) : Hw :=
  if h.rdn.hand = 1 then { h.wr RDN_KEY_RELEASE 1 with rdn := { h.rdn with hand := 2 } }
  else if h.rdn.hand = 2 then
    let h1 := (h.wr RDN_KEY_RELEASE 0).setKey false
    { h1 with rdn := { h1.rdn with hand := 3 } }
  else if h.rdn.hand = 3 then
    let h1 := h.toSync 1
    { h1 with rdn := { h1.rdn with hand := 0 } }
  else h

/-! ## Frames (R357, R358, R364) -/

/-- The partner's health turns bad (R365). -/
def Hw.peerHealth (h : Hw) (v : Nat) (good : Bool) : Hw :=
  let was := goodHealth (h.rd RDN_PEER_HEALTH_HEALTH) (h.on RDN_PEER_KEY)
  let h1 := (h.wr RDN_PEER_HEALTH_HEALTH v).cond (decide (h.rd RDN_PEER_HEALTH_HEALTH ≠ v)) (·.irq PG_RDN 3)
  h1.cond (was && !good) Hw.peerLost

/-- INPUT_SEGMENT_RECEIVE. -/
def segmentTake (f : PairHead) (seg : Nat) (rs : List PairRecord) (park : Bool) (h : Hw) : Hw :=
  if !h.rdnLive then h
  else if !h.headOk f [(h.rdn.posIdx + seg) % 4294967296] then h.headDrop f
  else
    let h1 := h.headTake f [(h.rdn.posIdx + seg) % 4294967296]
    let h2 := { h1 with rdn := { h1.rdn with
      pl := some (h1.ownIdx f)
      segs := (seg, rs) :: h1.rdn.segs.filter (·.1 ≠ seg)
      frameMode := if seg = 0 then some f.mode.toNat else h1.rdn.frameMode
      framePark := if seg = 0 then park else h1.rdn.framePark
      frameHealth := if seg = 0 then h.ownHealth % 16 else h1.rdn.frameHealth
      parkDue := h1.rdn.parkDue || (h1.rst = 7 && f.mode = 3) } }
    let h3 := h2.cond (!f.healthy && goodHealth (h2.rd RDN_PEER_HEALTH_HEALTH) true) Hw.peerLost
    h3.cond (h3.rst = 7 && h3.on RDN_STAT_COAST) (·.toSync 1)

/-- OUTPUT_FRAME_RECEIVE. -/
def outputTake (f : PairHead) (rs : List PairRecord) (h : Hw) : Hw :=
  if !h.rdnLive then h
  else if !h.headOk f [h.rdn.prevIdx] then h.headDrop f
  else
    let h1 := h.headTake f [h.rdn.prevIdx]
    { h1 with rdn := { h1.rdn with pl := some h1.rdn.prevIdx, outRx := some rs } }

/-- RDN reads its RX object, which releases it for the next frame (R396). -/
def Hw.beatRead (h : Hw) : Hw :=
  match h.beatObject canRx with
  | none => h
  | some (c, n) => h.ownerRead c n

/-- A heartbeat can have come on the second path: on CAN it stands in RDN's RX object (R396). -/
def Hw.beatHere (h : Hw) : Bool :=
  h.rdnF RDN_CFG_HB2_PATH < 2 || (h.beatObject canRx).elim false fun o => h.on (CAN_OBJn_W3_NEWDAT o.1 o.2)

/-- HEARTBEAT_RECEIVE. -/
def heartbeatTake (second : Bool) (f : PairHead) (health : Nat) (h0 : Hw) : Hw :=
  let h := h0.cond (second && h0.rdnLive) Hw.beatRead
  if !h.rdnLive || (second && !h0.beatHere) then h0
  else if !h.headOk f [h.rdn.posIdx, h.rdn.prevIdx] then h.headDrop f
  else
    let h1 := h.headTake f [h.rdn.posIdx, h.rdn.prevIdx]
    let i := some (h1.ownIdx f)
    { h1 with rdn := { h1.rdn with pl := if second then h1.rdn.pl else i, hb2 := if second then i else h1.rdn.hb2 } }.peerHealth
      health f.healthy

/-- SNAPSHOT_RECEIVE: loaded at the next T0; a snapshot not complete is requested again. -/
def snapshotTake (f : PairHead) (whole : Bool) (seed : PairSnapshot) (h : Hw) : Hw :=
  if !h.rdnLive then h
  else if !h.headOk f [h.rdn.posIdx] then h.headDrop f
  else
    let h1 := h.headTake f [h.rdn.posIdx]
    let h2 := { h1 with rdn := { h1.rdn with pl := some (h1.ownIdx f) } }
    if h2.rst = 5 && whole then { h2 with rdn := { h2.rdn with seed := some seed } } else h2

/-- SYNC_COMPLETE: SYNC_N consecutive clean cycles after the snapshot. -/
def syncDone (h : Hw) : Hw :=
  if h.rdnLive && h.rst = 5 && h.rdn.seeded && decide (h.rdnF RDN_PAIRWAIT_SYNC_N ≤ h.rdn.clean) then
    let h1 := h.pairGo 7
    { h1 with rdn := { h1.rdn with forced := false, inCnt := 0, outCnt := 0, lateCnt := 0 } }.healthT0
  else h

/-! ## Records (R359) -/

/-- The registers behind a record of register words. -/
def Hw.recAddrs (h : Hw) (t i : Nat) : List Nat :=
  if t = 0x01 then [POS_Qn_CNT i, POS_Qn_REV i, POS_Qn_SPD i, POS_Qn_STAT i, POS_Qn_LEDGE i]
  else if t = 0x02 then [POS_Sn_POS_LO i, POS_Sn_POS_HI i, POS_Sn_SPD i, POS_Sn_STAT i]
  else if t = 0x03 then [POS_DIN]
  else if t = 0x10 then
    ((List.range 24).filter fun k => bit (h.rd PST_SD_EN_EN) k).map PST_SDn_RES ++ [PST_DCB]
  else if t = 0x11 then [PST_GRID_ANG, PST_GRID_FRQ, PST_GRID_AMP]
  else if t = 0x12 then [PST_TRIP, PST_GDF_STAT]
  else if t = 0x20 then DOR_OBS_STAT :: (List.range 8).map DOR_CTk_STAT
  else if t = 0x41 then [PRF_MCAP, PRF_WCAP]
  else if t = 0x80 then [PST_PSn_CMPU i, PST_PSn_CMPV i, PST_PSn_CMPW i, PST_PSn_OUT i]
  else if t = 0x81 then [PRF_AXn_SP_POS i, PRF_AXn_SP_SPD i, PRF_AXn_SP_ACC i]
  else if t = 0x82 then [MAP_POS, MAP_STAT]
  else []

/-- A record of register words as the registers stand. -/
def Hw.record (h : Hw) (t i : Nat) : PairRecord := .regs (BitVec.ofNat 8 t) (BitVec.ofNat 8 i) ((h.recAddrs t i).map h.reg)

/-- RTYPE 0x41: the mode, PRF_MCAP, PRF_WCAP. -/
def Hw.modeRecord (h : Hw) : PairRecord := .regs 0x41 0 (BitVec.ofNat 32 h.mode :: (h.recAddrs 0x41 0).map h.reg)

/-- RTYPE 0x83: SIS_OUT_REQ, STATE of each door, PST_BRK_STAT. -/
def Hw.safeRecord (h : Hw) : PairRecord :=
  .regs 0x83 0 [h.reg SIS_OUT_REQ, BitVec.ofNat 32 (h.dst 0), BitVec.ofNat 32 (h.dst 1), h.reg PST_BRK_STAT]

/-- The sinc3 results, bus and grid values of a current cycle. -/
def Hw.fastRecords (h : Hw) : List PairRecord :=
  h.record 0x10 0 :: (if h.hasG && h.on PST_GRID_CFG_EN then [h.record 0x11 0] else [])

/-- The commands waiting at a T0. -/
def Hw.commandRecords (h : Hw) : List PairRecord :=
  ((List.range 4).filterMap fun n => (h.axis n).cmd.map fun c =>
    PairRecord.prf (Fin.ofNat 4 n) (BitVec.ofNat 8 c.op) (BitVec.ofNat 8 c.seq) (BitVec.ofNat 8 c.who) (BitVec.ofNat 32 c.tgt)) ++
  ((List.range 2).filterMap fun n => (h.dr n).cmd.map fun c =>
    PairRecord.door (Fin.ofNat 2 n) (BitVec.ofNat 8 c.op) (BitVec.ofNat 8 c.seq) (BitVec.ofNat 8 c.who)) ++
  (List.range 3).map fun m => .calls (Fin.ofNat 3 m) (BitVec.ofNat 256 (h.stq.set.getD m 0))
    (BitVec.ofNat 256 (h.stq.clr.getD m 0)) (BitVec.ofNat 32 (h.stq.who.getD m 0))

/-- Everything latched at a position-cycle T0 of the enabled inputs. -/
def Hw.sampleRecords (h : Hw) : List PairRecord :=
  ((List.range 6).filter h.qLive).map (h.record 0x01) ++ ((List.range 4).filter h.sLive).map (h.record 0x02) ++
  [h.record 0x03 0, .captures (h.pos.capMap.map fun c => (BitVec.ofNat 8 c.din, c.level, BitVec.ofNat 32 c.stamp, BitVec.ofNat 32 c.count))] ++
  (h.pos.csCur.toList.map fun c => .car (BitVec.ofNat 32 c.pos) (BitVec.ofInt 32 c.spd) (BitVec.ofNat 64 c.stamp) c.valid) ++
  [.regs 0x12 0 ((h.recAddrs 0x12 0).map h.reg ++ [BitVec.ofNat 32 h.brkContacts]), h.record 0x20 0] ++
  (h.rdn.sseSeen.map fun x => .skove (Fin.ofNat 64 x.1) (BitVec.ofNat 32 x.2.1) x.2.2.1 (BitVec.ofNat 32 x.2.2.2)) ++
  (h.rdn.canSeen.map fun x => .can (Fin.ofNat 4 x.1) (Fin.ofNat 64 x.2.1) x.2.2) ++ h.commandRecords

/-- The outputs of a current cycle, and those of a position cycle. -/
def Hw.pwmRecords (h : Hw) : List PairRecord := (List.range h.pwmSets).map (h.record 0x80)
def Hw.outRecords (h : Hw) : List PairRecord := (List.range 4).map (h.record 0x81) ++ [h.record 0x82 0, h.safeRecord]

/-! ## Comparison (R361, R362) -/

/-- The words of a record of an RTYPE and INST in a list. -/
def wordsOf (l : List PairRecord) (t i : Nat) : Option (List Word) :=
  l.findSome? fun r => match r with
    | .regs rt ri w => if rt.toNat = t && ri.toNat = i then some w else none
    | _ => none

def wordAt (l : List Word) (i : Nat) : Nat := (l.getD i 0).toNat

/-- Two values differ by more than a tolerance. -/
def far (a b : Int) (tol : Nat) : Bool := decide (tol < (a - b).natAbs)

/-- Both lists hold the record, and it differs. -/
def bothDiffer (a b : List PairRecord) (t i : Nat) (f : List Word → List Word → Bool) : Bool :=
  match wordsOf a t i, wordsOf b t i with
  | some x, some y => f x y
  | _, _ => false

/-- Validity of a car sample in a list. -/
def carValid (l : List PairRecord) : Option Bool :=
  l.findSome? fun r => match r with | .car _ _ _ v => some v | _ => none

/-- Classes of R361 judged within one cycle: Q, S, sinc3. -/
def Hw.classesNow (h : Hw) (own peer : List PairRecord) : Nat :=
  let ext := fun i (w : List Word) => signed 32 (wordAt w 1) * ((h.q i).cpr : Int) + wordAt w 0
  let q := (List.range 6).any fun i => bothDiffer own peer 0x01 i fun x y => far (ext i x) (ext i y) (h.rdnF RDN_TOL_CNT_TOL)
  let raw := fun (w : List Word) => ((wordAt w 0 + 4294967296 * wordAt w 1 : Nat) : Int)
  let s := (List.range 4).any fun i => bothDiffer own peer 0x02 i fun x y => far (raw x) (raw y) (h.rdnF RDN_TOL_S_S_TOL)
  let sd := h.rdn.segs.any fun sg => (h.rdn.ownSd.find? (·.1 = sg.1)).elim false fun o =>
    (wordsOf sg.2 0x10 0).elim false fun w =>
      (List.zip o.2 w).any fun p => far p.1.toInt p.2.toInt (h.rdnF RDN_TOL_SD_TOL * 32768)
  b2n q + 2 * b2n s + 4 * b2n sd

/-- Classes of R361 that must differ in two consecutive cycles: DIN, VALID, brake contacts. -/
def classesTwice (own peer : List PairRecord) : Nat :=
  let din := bothDiffer own peer 0x03 0 fun x y => x ≠ y
  let vs := (List.range 4).any fun i => bothDiffer own peer 0x02 i fun x y =>
    (wordAt x 3 % 2 ≠ wordAt y 3 % 2)
  let cv := match carValid own, carValid peer with | some a, some b => a != b | _, _ => false
  let br := bothDiffer own peer 0x12 0 fun x y => wordAt x 2 ≠ wordAt y 2
  8 * b2n din + 16 * b2n (vs || cv) + 32 * b2n br

/-- SkoveSafe sequence numbers of a list of records, by connection. -/
def skoves (l : List PairRecord) : List (Nat × Nat) :=
  l.filterMap fun r => match r with | .skove c q _ _ => some (c.val, q.toNat) | _ => none

/-- A mismatch in SYNC asks for another snapshot at the next T0 (R354). -/
def Hw.unseed (h : Hw) : Hw :=
  if h.rst = 5 && h.rdn.seeded then { h with rdn := { h.rdn with seeded := false, askIn := 2 } } else h

/-- The comparison of cycle k at a T0: own samples against the frame received. -/
def Hw.compareIn (h : Hw) (peer : List PairRecord) : Hw :=
  let own := h.rdn.own
  let twice := classesTwice own peer
  let a := skoves own
  let b := skoves peer
  let lone := a.filter (· ∉ b) ++ b.filter (· ∉ a)
  let stale := h.rdn.lone.any fun x => x ∉ a && x ∉ b
  let c := h.classesNow own peer + (twice &&& h.rdn.differed) + 64 * b2n stale
  let h1 := { h with rdn := { h.rdn with differed := twice, lone := lone } }
  if c = 0 then { h1 with rdn := { h1.rdn with inCnt := 0 } }
  else
    let h2 := (((h1.wr RDN_CMP_STAT_INMIS 1).wr RDN_CMP_STAT_INCLASS c).bump RDN_MIS_CNT_IN 1).irq PG_RDN 4
    { h2 with rdn := { h2.rdn with inCnt := h2.rdn.inCnt + 1, clean := 0 } }.unseed

/-- The comparison of outputs (R362): those of the last position cycle against the active's output frame. -/
def Hw.compareOut (h : Hw) : Hw :=
  match h.rdn.outRx with
  | none => h
  | some rs =>
    if rs = h.rdn.outsPrev then { h with rdn := { h.rdn with outCnt := 0 } }
    else
      let h1 := ((h.wr RDN_CMP_STAT_OUTMIS 1).bump RDN_MIS_CNT_OUT 1).irq PG_RDN 5
      { h1 with rdn := { h1.rdn with outCnt := h1.rdn.outCnt + 1, clean := 0 } }.unseed

/-! ## Replay (R360) -/

/-- A record takes effect in a unit that replays. -/
def Dev.replay (d : Dev) (r : PairRecord) : Dev :=
  let h := d.hw
  match r with
  | .regs t i ws =>
    let h1 := h.each (List.zip (h.recAddrs t.toNat i.toNat) ws) fun p h => h.setReg p.1 p.2
    let n := i.toNat
    let ext := signed 32 (wordAt ws 1) * ((h1.q n).cpr : Int) + wordAt ws 0
    if t.toNat = 0x01 then { d with hw := { h1 with pos := { h1.pos with ext := h1.pos.ext.set n ext } } }
    else if t.toNat = 0x41 then
      let h2 := h.each (List.zip (h.recAddrs 0x41 0) (ws.drop 1)) fun p h => h.setReg p.1 p.2
      { d with hw := { h2 with rdn := { h2.rdn with frameMode := some (wordAt ws 0 % 16) } } }
    else { d with hw := h1 }
  | .captures l =>
    let cs : List Capture := l.map fun c => ⟨c.1.toNat, c.2.1, c.2.2.1.toNat, c.2.2.2.toNat⟩
    { d with hw := { h with pos := { h.pos with capMap := cs } } }
  | .car p v t ok =>
    let c : CarSample := ⟨p.toNat, v.toInt, t.toNat, ok⟩
    let h1 := h.setNat POS_CS_POS (extrapolate c (h.pair (ETH_T0_STAMP_LO 0)))
    { d with hw := { h1 with pos := { h1.pos with csCur := some c } } }
  | .skove c _ p t => d.deliver c.val p t.toNat
  | .can c j f => { d with hw := h.filterDeliver c.val j.val f }
  | .prf n op seq who tgt => { d with hw := h.prfCommand n.val op.toNat tgt.toNat seq.toNat who.toNat }
  | .door n op seq who => { d with hw := h.setDr n.val { h.dr n.val with cmd := some ⟨op.toNat, seq.toNat, who.toNat⟩ } }
  | .calls m s c w =>
    { d with hw := { h with stq := { h.stq with
      set := h.stq.set.set m.val s.toNat, clr := h.stq.clr.set m.val c.toNat, who := h.stq.who.set m.val w.toNat } } }

/-- The registers whose fixed hardware state a snapshot holds: those of PRF, DOR and STQ that no hinge group swaps, and
PST_BRK_STAT. -/
def seedReg (a : Nat) : Bool :=
  let p := pageOf a
  a = PST_BRK_STAT || ((p = PG_PRF || p = PG_DOR || p = PG_STQ) && decide (0x40 ≤ offOf a ∧ offOf a < 0x8000) &&
    (rowAt p (offOf a)).any fun r => r.kind = .plain)

/-- The fixed hardware state of a snapshot takes the place of the own (R363). -/
def Hw.takeSeed (h : Hw) (x : PairSnapshot) : Hw :=
  let h1 := h.each ((h.regs.map (·.1)).filter seedReg) fun a h => h.setReg a (regReset a)
  let h2 := h1.each (x.regs.filter fun r => seedReg r.1.toNat) fun r h => h.setReg r.1.toNat r.2
  { h2 with
    prf := x.prf
    dor := x.dor
    stq := x.stq
    pst := { h2.pst with
      bmod := x.brk.bmod, drive := x.brk.drive, lift := x.brk.lift, keepStart := x.brk.keepStart
      settled := x.brk.settled, axStop := x.brk.axStop } }

/-- The snapshot is loaded at a T0 (R363). -/
def Dev.loadSeed (d : Dev) : Dev :=
  match d.hw.rdn.seed with
  | none => d
  | some x =>
    let m := x.ram.foldl (fun m r => memWriteBytes m (0x30000000 + r.1.toNat) r.2) d.mem
    let h := d.hw.takeSeed x
    { hw := { h with rdn := { h.rdn with seed := none, seeded := true, askIn := 0, clean := 0, inCnt := 0, outCnt := 0 } }
      mem := m }

/-- The frames accepted since the last T0 have been taken into the samples of this one. -/
def Hw.rdnSampled (h : Hw) (mine : List PairRecord) : Hw :=
  { h with rdn := { h.rdn with own := mine, ownSd := [], sseSeen := [], canSeen := [], segs := [], outRx := none } }

/-- A cycle whose frames have not arrived complete by their instant of use (R362). -/
def Hw.lateCycle (h : Hw) (late : Bool) : Hw :=
  if late then { h.wr RDN_CMP_STAT_LATE 1 with rdn := { h.rdn with lateCnt := h.rdn.lateCnt + 1 } }
  else { h with rdn := { h.rdn with lateCnt := 0 } }

/-- RDN at a position-cycle T0 right after POS has latched: the samples are kept, for the input frame of an active, for the
comparison of a standby; the seed is loaded; a seeded standby compares cycle k and replays it, or coasts without its
frame (R357, R360 to R362, R364). -/
def Dev.rdnLatch (d : Dev) : Dev :=
  let h := d.hw
  if !(h.rdnLive && (h.rst = 5 || h.rst = 7)) then
    let h1 := h.rdnSampled (if h.rdnLive && h.rst = 6 then h.sampleRecords else [])
    { d with hw := { h1 with rdn := { h1.rdn with play := [], replaying := false } } }
  else
    let d1 := d.loadSeed
    let h := d1.hw
    let mine := h.sampleRecords
    let whole := (List.range h.pst.endDiv).all fun j => h.rdn.segs.any (·.1 = j)
    match h.rdn.segs.find? (·.1 = 0) with
    | none =>
      let h1 := (h.cond (h.rst = 7) (·.wr RDN_STAT_COAST 1)).lateCycle true
      let h2 := h1.rdnSampled mine
      { d1 with hw := { h2 with rdn := { h2.rdn with replaying := false, play := [], clean := 0 } } }
    | some s =>
      let h1 := ((h.compareIn s.2).compareOut).lateCycle (!(whole && h.rdn.outRx.isSome))
      let on := h1.rdn.seeded
      let h2 := h1.rdnSampled mine
      let h3 := { h2 with rdn := { h2.rdn with
        play := h.rdn.segs, replaying := on, clean := if on then h1.rdn.clean + 1 else 0 } }
      if on then s.2.foldl Dev.replay { d1 with hw := h3 } else { d1 with hw := h3 }

/-- What the groups load at a current-cycle T0 is kept; at a common T0 a new position cycle begins (R357, R362). -/
def Hw.keepOuts (h : Hw) : Hw :=
  if h.nat PST_TB_IDX % h.pst.posDiv = 0 then
    { h with rdn := { h.rdn with outsPrev := h.rdn.outs, outs := h.pwmRecords } }
  else { h with rdn := { h.rdn with outs := h.rdn.outs ++ h.pwmRecords } }

/-- RDN at a current-cycle T0 j of the position cycle: segment j is applied; own outputs are kept (R357, R362). -/
def Dev.rdnCurrent (d : Dev) (j : Nat) : Dev :=
  let h := d.hw
  let d1 := match h.rdn.play.find? (·.1 = j) with
    | some s => if h.rdn.replaying && j ≠ 0 then s.2.foldl Dev.replay d else d
    | none => d
  { d1 with hw := d1.hw.keepOuts }

/-- The current cycle of the position cycle that the last current-cycle T0 began. -/
def Hw.curIndex (h : Hw) : Nat := h.nat PST_TB_IDX % h.pst.posDiv

/-- Segment j of the input frame goes out once the sinc3 results of its current cycle stand (R357). -/
def Hw.sendSegment (h : Hw) : Hw :=
  let j := h.curIndex
  if h.rst ≠ 6 ∨ h.rdn.session.isNone ∨ h.rdn.tx.any (fun f => f.typ = 1 && f.seg = j) then h
  else h.sendFrame false 1 (h.nat PST_TB_IDX) j (.records ((if j = 0 then h.rdn.own else []) ++ h.fastRecords))

/-- Results of the own modulators in a unit that replays are kept for the comparison alone (R360, R361); an active sends
them on. -/
def sinc3Standby (sums : List Nat) (h : Hw) : Hw :=
  if h.rdn.replaying then
    let x := sinc3Results sums h
    { h with fresh := x.fresh, rdn := { h.rdn with ownSd := (h.curIndex, (x.recAddrs 0x10 0).map x.reg) :: h.rdn.ownSd } }
  else (sinc3Results sums h).sendSegment

/-! ## RDN at the end of a position-cycle T0 -/

/-- Bytes of records by their data: a head of 4 each. -/
def headed (l : List Nat) : Nat := (l.map (· + 4)).sum

/-- Bytes of the largest segment 0 beside its sinc3 results: the enabled inputs, the frames that may have come, commands,
mode (R357, R359). -/
def Hw.latchBytes (h : Hw) : Nat :=
  headed (((List.range 6).filter h.qLive).map fun _ => 20) + headed (((List.range 4).filter h.sLive).map fun _ => 16) +
  headed [4, 12 * 32, 12, 36] + headed (if h.isMachine then [20] else []) +
  headed (((List.range 64).filter fun k => h.on (SSE_Ck_CFG_EN k) && !h.on (SSE_Ck_CFG_DIR k)).map fun k =>
    8 + 4 * h.rd (SSE_Ck_CFG_LEN k)) +
  headed (((List.range 4).flatMap fun c => ((List.range 64).filter fun j =>
    h.on (CAN_FLTj_MATCH_EN c j) && h.on (CAN_FLTj_ACT_REPLAY c j)).map fun _ => 16 + 64)) +
  headed [8, 8, 8, 8, 4, 4, 68, 68, 68] + headed [12]

/-- Bytes of the fast records of one current cycle. -/
def Hw.fastBytes (h : Hw) : Nat := headed (h.fastRecords.map fun r => (recParts r).2.2.length)

/-- The configured worst case in one position cycle: POS_DIV segments, the output frame, 28 bytes for each frame; the
snapshot, where the unit may have to send one (R355, R356, R375). -/
def Hw.worstCase (h : Hw) : Nat :=
  let out := h.pst.posDiv * headed ((List.range h.pwmSets).map fun _ => 16) + headed [12, 12, 12, 12, 8, 16]
  let snap := ((List.range 16).map fun n => h.rdnF ⟨RDN_SYNCn_LEN n, 0, 14⟩).sum + 1024
  h.latchBytes + h.pst.posDiv * (h.fastBytes + 28) + (out + 28) + (snap + 28)

/-- Bytes sent on the pair link since the last T0, each frame with its 28 bytes of header and tag (R355, R375). -/
def Hw.linkBytes (h : Hw) : Nat :=
  (h.rdn.tx.filter fun f => !f.second).foldl (fun a f => a + 28 + f.len) 0

/-- The frames of a position cycle: the output frame of the cycle before, the snapshot, a heartbeat where nothing else is
sent, the heartbeat of the second path (R357, R363, R367). The last cycle's frames are counted and forgotten. -/
def Hw.sendFrames (h : Hw) (snap : Option PairSnapshot) : Hw :=
  let h1 := h.wr RDN_FRM_MAX_MAX (max h.linkBytes (h.rd RDN_FRM_MAX_MAX))
  let h2 := { h1 with rdn := { h1.rdn with tx := [], own := h1.rdn.own ++ [h1.modeRecord] } }
  let now := h2.nat PST_TB_IDX
  let h3 := if h2.rdn.session.isNone then h2
    else if h2.rst = 6 then
      let h3 := h2.sendFrame false 2 h2.rdn.prevIdx 0 (.records h2.rdn.outsPrev)
      snap.elim h3 fun x => h3.sendFrame false 4 now 0 (.snapshot x)
    else h2.sendFrame false 3 now 0 h2.beatBody
  h3.beatSecond

/-- The lease is renewed at a T0 (R366). -/
def Hw.renew (h : Hw) : Hw :=
  if h.on RDN_KEY_HELD && h.mayBeat then { h with rdn := { h.rdn with renewed := h.nat PST_TB_IDX } } else h

/-- A unit that names no partner holds the key for good, and nothing of the pairing stands (R3, R351, R354). -/
def Hw.soloKey (h : Hw) : Hw :=
  if h.paired || decide (h.mode < 4) then h else (h.setKey true).pairGo 0

/-- R354 from OFF, the AGREE wait, blocked claims and ages; the active's lease and frames (R366, R367, R372). -/
def Hw.rdnStates (h : Hw) : Hw :=
  let h1 := h.cond (h.rst = 0) Hw.toLink
  let h2 := (h1.laneT0.handT0).agreeOn
  let h3 := (h2.wr RDN_HB_AGE_PL (ageField (h2.pathAge h2.rdn.pl))).wr RDN_HB_AGE_HB2 (ageField (h2.pathAge h2.rdn.hb2))
  let h4 := h3.healthT0
  let h5 := h4.cond (h4.rst = 7 && h4.claimHealth && h4.claimAged && h4.on RDN_KEY_PEERSEL && !h4.on RDN_KEY_SELFSEL)
    fun h => (h.split 1).pairGo 8
  let agrees := h5.on RDN_KEY_SELFSEL == h5.on RDN_KEY_HELD && !(h5.on RDN_KEY_HELD && h5.on RDN_KEY_PEERSEL)
  { h5 with rdn := { h5.rdn with selOk := if agrees then min 256 (h5.rdn.selOk + 1) else 0 } }

/-- A unit in SYNC whose snapshot has not come, or no longer fits, asks for one (R354, R363). -/
def Hw.askT0 (h : Hw) : Hw :=
  if h.rst ≠ 5 then h
  else if h.rdn.askIn = 1 then ({ h with rdn := { h.rdn with askIn := 3 } }).sendPairing .request
  else { h with rdn := { h.rdn with askIn := h.rdn.askIn - 1 } }

/-- The snapshot for a partner that has entered SYNC: the regions and the fixed hardware state (R363). -/
def Dev.snapshot (d : Dev) : PairSnapshot :=
  let h := d.hw
  { ram := ((List.range 16).filter fun n => h.rdnF ⟨RDN_SYNCn_LEN n, 0, 14⟩ ≠ 0).map fun n =>
      let b := h.rdnF ⟨RDN_SYNCn_BASE n, 0, 18⟩
      (BitVec.ofNat 18 b, memReadBytes d.mem (0x30000000 + b) (h.rdnF ⟨RDN_SYNCn_LEN n, 0, 14⟩))
    prf := h.prf
    dor := h.dor
    stq := h.stq
    brk := ⟨h.pst.bmod, h.pst.drive, h.pst.lift, h.pst.keepStart, h.pst.settled, h.pst.axStop⟩
    regs := (h.regs.filter fun e => seedReg e.1).map fun e => (BitVec.ofNat 32 e.1, e.2) }

/-- RDN at the end of a position-cycle T0. -/
def Dev.rdnT0 (d : Dev) : Dev :=
  let h := d.hw.soloKey
  let idx := h.nat PST_TB_IDX
  let ages := fun (i : Option Nat) => if h.rdn.woke then some idx else i
  let h1 := { h with rdn := { h.rdn with
    prevIdx := h.rdn.posIdx, posIdx := idx, pl := ages h.rdn.pl, hb2 := ages h.rdn.hb2, woke := false
    outs := h.rdn.outs ++ h.outRecords } }
  if !h1.rdnLive then { d with hw := { h1 with rdn := { h1.rdn with tx := [] } } }
  else
    let h2 := (h1.renew.wr RDN_FRM_MAX_WC (satN 16 h1.worstCase)).rdnStates.askT0
    let snap := if h2.rdn.wantCapture then some ({ d with hw := h2 } : Dev).snapshot else none
    { d with hw := { h2 with rdn := { h2.rdn with wantCapture := false, capture := snap } }.sendFrames snap }

/-! ## Swap, bolt, boot, wake (R371, R373, R351) -/

/-- The configuration in the registers is invalid. -/
def Hw.rdnInvalid (h : Hw) : Bool :=
  let l := h.rd RDN_LEASE_LEASE
  let g := h.rd RDN_LEASE_GUARD
  let len := fun n => h.rd ⟨RDN_SYNCn_LEN n, 0, 14⟩
  let base := fun n => h.rd ⟨RDN_SYNCn_BASE n, 0, 18⟩
  let path := h.rd RDN_CFG_HB2_PATH
  let div := max 1 (h.rd RDN_CFG_HB2_DIV)
  l = 0 || decide (20 < l) || g = 0 || decide (10 < g) || h.rd RDN_LEASE_SEL_T = 0 ||
    (List.range 16).any (fun n => len n ≠ 0 &&
      (len n % 8 ≠ 0 || base n % 8 ≠ 0 || decide (0x40000 < base n + len n))) ||
    decide (12288 < ((List.range 16).map len).sum) || decide (3 < path) || (path = 1 && !h.hasE2) ||
    ((path = 2 || path = 3) && decide (400000 * l < 2 * div * h.pst.curPer * h.pst.posDiv))

/-- The configuration registers of RDN. -/
def rdnCfgAddrs : List Nat :=
  [RDN_CFG, RDN_LEASE, RDN_PAIRWAIT, RDN_HB2_ETH, RDN_HB2_CAN, RDN_CMP, RDN_TOL, RDN_TOL_S] ++
    (List.range 16).map RDN_SYNCn_BASE ++ (List.range 16).map RDN_SYNCn_LEN

/-- RDN after a swap: an invalid set leaves the previous one standing; one that names no partner any more makes the unit
SOLO (R3). -/
def Hw.rdnSwap (h : Hw) : Hw :=
  if h.rdnInvalid then h.raise PG_RDN 8
  else { h with rdn := { h.rdn with force := rdnCfgAddrs.map fun a => (a, h.reg a) } }.soloKey.showKey

/-- The Ward grants RDN's bolt only in OFF and FAILED (R373). -/
def Hw.rdnBoltable (h : Hw) : Bool := h.rst = 0 || h.rst = 9

/-- End of BOOT: a SOLO unit holds the key for good (R351). -/
def Hw.rdnBoot (h : Hw) : Hw := if h.paired then h.wr SIS_MODE_STBY 1 else h.setKey true

end Sys2Proof.Machine
end

