-- ==== Sys2Proof/Machine/Vision.lean ====
section
/-! DEFINITION. The depth vision unit (R309 to R313, R317 to R319). -/

namespace Sys2Proof.Machine

/-- A receiver takes frames. -/
def Hw.visLive (h : Hw) (k : Nat) : Bool :=
  h.hasV && h.running PG_VIS && !h.doorsHeld && h.on (VIS_Rk_CFG_EN k) && !bit h.vis.held k

/-- The cell a pixel hits, if it does (R310): `raw`, of the 12 or 16 bits of the data type (R309), against its calibration
word. -/
def pixelCell (h : Hw) (k cal raw' : Nat) : Option Nat :=
  let raw := raw' % 2 ^ (if h.on (VIS_Rk_CFG_DT k) then 16 else 12)
  let d := raw * h.rd (VIS_Rk_DEPTH_DSCALE k) / 256
  if !bit cal 15 && decide (raw ≠ 0) && decide (h.rd (VIS_Rk_DEPTH_DMIN k) ≤ d) &&
      decide (d + h.rd (VIS_Rk_HIT_ZGAP k) ≤ cal / 65536) then some (cal % 2048)
  else none

/-- The cells hit by a raster of pixels, with the calibration table at `a`. -/
def hitCells (h : Hw) (m : List Host.Cell) (k : Nat) : Nat → List Nat → List Nat
  | _, [] => []
  | a, r :: l => (pixelCell h k (memNat m a 4) r).toList ++ hitCells h m k (a + 4) l

/-- A frame with this raster occupies cell `c`. -/
def occupied (h : Hw) (k : Nat) (hits : List Nat) (c : Nat) : Bool :=
  decide (h.rd (VIS_Rk_HIT_PIX_N k) ≤ min 255 (hits.count c))

/-- The cell lies inside the crossing window. -/
def inWindow (h : Hw) (k c : Nat) : Bool :=
  let r := c / 64
  let o := c % 64
  decide (h.rd (VIS_Rk_WIN_ROW_LO k) ≤ r) && decide (r ≤ h.rd (VIS_Rk_WIN_ROW_HI k)) &&
    decide (h.rd (VIS_Rk_WIN_COL_LO k) ≤ o) && decide (o ≤ h.rd (VIS_Rk_WIN_COL_HI k))

/-- A good frame is published (R311). -/
def Hw.visPublish (h : Hw) (k : Nat) (occ : Nat → Bool) : Hw :=
  let h1 := h.each (List.range 64) fun w h => h.setNat (VIS_GRID k w) (maskOf 32 fun b => occ (32 * w + b))
  let n := ((List.range 2048).filter fun c => occ c && inWindow h k c).length
  let enough := decide (h.rd (VIS_Rk_THR_OCC_N k) ≤ n)
  let o := if enough then min (h.vis.occ.getD k 0 + 1) 15 else 0
  let c := if enough then 0 else min (h.vis.clr.getD k 0 + 1) 15
  let was := h.on (VIS_Rk_STAT_CROSS k)
  let now := if enough then was || decide (h.rd (VIS_Rk_THR_OCC_F k) ≤ o)
    else was && decide (c < h.rd (VIS_Rk_THR_CLR_F k))
  let h2 := { h1 with vis := { h1.vis with occ := h1.vis.occ.set k o, clr := h1.vis.clr.set k c } }
  let h3 := ((h2.wr (VIS_Rk_STAT_OCC k) (satN 12 n)).wr (VIS_Rk_STAT_CROSS k) (b2n now)).wr (VIS_Rk_STAT_STALE k) 0
  let h4 := ((h3.bump (VIS_Rk_FRAMES_GOOD k) 1).setNat (VIS_Rk_FRAME_T k) (h.nat PST_TB_CNT_LO)).irq PG_VIS k
  h4.cond (was != now) (·.irq PG_VIS (2 + k))

/-- VIS_FRAME_END, of a frame of the receiver's virtual channel and data type, since packets of another one are discarded and
end no frame of it (R309, log entry 67): dropped whole with an error (R312), otherwise published. -/
def frameEnd (k : Nat) (ecc crc : Bool) (lines : List (List Nat)) (d : Dev) : Dev :=
  let h := d.hw
  if !h.visLive k then d
  else
    let bad := decide (lines.length ≠ h.rd (VIS_Rk_SIZE_LINES k)) ||
      lines.any fun l => decide (l.length ≠ h.rd (VIS_Rk_SIZE_PIXELS k))
    if ecc || crc || bad then
      let h1 := ((h.cond ecc (·.wr (VIS_Rk_STAT_ECCERR k) 1)).cond crc (·.wr (VIS_Rk_STAT_CRCERR k) 1)).cond bad
        (·.wr (VIS_Rk_STAT_LINEERR k) 1)
      { d with hw := (h1.bump (VIS_Rk_FRAMES_DROPPED k) 1).irq PG_VIS (4 + k) }
    else
      let hits := hitCells h d.mem k (h.nat (VIS_Rk_CAL k)) lines.flatten
      { d with hw := h.visPublish k (occupied h k hits) }

/-- STALE sets, with its interrupt. -/
def Hw.setStale (k : Nat) (h : Hw) : Hw :=
  if h.on (VIS_Rk_STAT_STALE k) then h else (h.wr (VIS_Rk_STAT_STALE k) 1).irq PG_VIS (6 + k)

/-- VIS_STALE. -/
def visTimeout (k : Nat) (h : Hw) : Hw := if h.visLive k then h.setStale k else h

/-- CSI_LANE_SYNC_LOSS. -/
def laneLost (k : Nat) (h : Hw) : Hw := if h.visLive k then h.blockFault PG_VIS 9 else h

/-- A receiver whose configuration R317 calls invalid. -/
def Hw.visInvalid (h : Hw) (k : Nat) : Bool :=
  let l := h.rd (VIS_Rk_SIZE_LINES k)
  let p := h.rd (VIS_Rk_SIZE_PIXELS k)
  let a := h.nat (VIS_Rk_CAL k)
  l = 0 || decide (480 < l) || p = 0 || decide (640 < p) || decide (a % 64 ≠ 0) || decide (a < 0x80000000) ||
    decide (0x88000000 ≤ a) || decide (h.rd (VIS_Rk_WIN_ROW_HI k) < h.rd (VIS_Rk_WIN_ROW_LO k)) ||
    decide (h.rd (VIS_Rk_WIN_COL_HI k) < h.rd (VIS_Rk_WIN_COL_LO k)) || h.rd (VIS_Rk_HIT_PIX_N k) = 0

/-- VIS after a swap: an invalid receiver is held with STALE = 1, enabled or not (R317). -/
def Hw.visSwap (h : Hw) : Hw :=
  let m := maskOf 2 h.visInvalid
  let h1 := { h with vis := { h.vis with held := m } }
  (h1.each ((List.range 2).filter (bit m)) Hw.setStale).cond (decide (m ≠ 0))
    (·.blockFault PG_VIS 8)

/-- A bolt: CROSS holds, STALE reads 1 on both. -/
def Hw.visBolt (h : Hw) : Hw := (h.wr (VIS_Rk_STAT_STALE 0) 1).wr (VIS_Rk_STAT_STALE 1) 1

/-- PARKED: the buffers are not retained, and the grid reads 0 after the wake (R65, R318). -/
def Hw.visPark (h : Hw) : Hw := h.each (List.range 2) fun k h => h.each (List.range 64) fun w h => h.setNat (VIS_GRID k w) 0

end Sys2Proof.Machine
end

