-- ==== Sys2Proof/Machine/WardCond.lean ====
section
/-! DEFINITION. What the Ward forms at a T0: its inputs as latched, the zone, the condition word; and what a swap of its
page brings in (R324, R326, R327, R350). -/

namespace Sys2Proof.Machine

/-- SIS_SIN as its readers see it, latched at T0 (R324). -/
def Hw.wardSin (h : Hw) : Hw := h.setNat SIS_SIN (maskOf 16 h.sinValue)

/-! ## Zone table (R326) -/

/-- The enabled zones (n, LO, HI), in ascending order. -/
def Hw.zones (h : Hw) : List (Nat × Nat × Nat) :=
  ((List.range 256).map fun n => (n, h.nat (SIS_ZNn_LO n), h.nat (SIS_ZNn_HI n))).filter fun z => decide (z.2.1 < z.2.2)

/-- The zones rise with their numbers and do not overlap. -/
def zonesRise : List (Nat × Nat × Nat) → Bool
  | [] => true
  | [_] => true
  | a :: b :: l => decide (a.2.2 < b.2.1) && zonesRise (b :: l)

/-- SIS_WZONE: VALID unless CARLOST holds, and the enabled zone that holds WPOS. A MACHINE unit without a healthy car frame
counts as outside the zone (R15). -/
def Hw.wardZone (h : Hw) : Hw :=
  let z := h.zones
  let p := h.nat SIS_WPOS
  let hit := z.find? fun e => decide (e.2.1 ≤ p) && decide (p ≤ e.2.2)
  let valid := !h.sis.carLost && !(h.isMachine && !h.cfok)
  let inz := valid && zonesRise z && hit.isSome
  ((h.wr SIS_WZONE_VALID (b2n valid)).wr SIS_WZONE_IN (b2n inz)).wr SIS_WZONE_LANDING
    (if inz then hit.elim 0 (·.1) else 0)

/-! ## Condition word (R327) -/

/-- The pair that field `i` of SIS_COND_MAP names reads closed; 0xF names none and an invalid value counts as none. -/
def Hw.condPair (h : Hw) (i : Nat) : Bool :=
  let m := getBits (h.reg SIS_COND_MAP) (4 * i) 4
  decide (m < 8) && h.sinValue (2 * m)

/-- The car speed sample of the role (R102). -/
def Hw.wardV (h : Hw) : Int := if h.isCar then h.int SIS_WSPD_C else h.int SIS_WSPD

/-- The car speed cannot be known: CARLOST in the CAR role, an invalid MENC in the MACHINE role. -/
def Hw.wardBlind (h : Hw) : Bool :=
  if h.isCar then h.sis.carLost else h.isMachine && decide (2 ≤ h.rd SIS_MENC_SRC)

/-- The safety section of the car frame as the MACHINE unit counts it: the safe values while CFOK = 0. -/
def Hw.carSection (h : Hw) (i : Nat) : Bool := h.cfok && bit (h.nat SIS_CARSAFE) (16 + i)

/-- The bits of SIS_COND, 10 mm/s being 10,240 in the speed word. -/
def Hw.condBit (h : Hw) (i : Nat) : Bool :=
  let v := h.wardV.natAbs
  let blind := h.wardBlind
  let moving := blind || decide (10240 ≤ v)
  let brk := if h.isCar then h.cfok && bit (h.nat SIS_CARSAFE) 5 else h.condPair 3
  let both := fun (k own : Nat) => if h.isMachine then h.condPair own && h.carSection k else h.condPair own
  let either := fun (k own : Nat) => h.condPair own || (h.isMachine && h.carSection k)
  if i = 0 then moving
  else if i = 1 then h.on SIS_WZONE_IN
  else if i = 2 then both 2 0
  else if i = 3 then both 3 1
  else if i = 4 then both 4 2
  else if i = 5 then brk
  else if i = 6 then h.sis.still && !moving && brk
  else if i = 7 then h.condPair 4
  else if i = 8 then either 8 5
  else if i = 9 then either 9 6
  else if i = 10 then either 10 7
  else if i = 11 then h.cfok
  else if i = 12 then decide (h.rd SIS_OUT_STAT_RB % 4 = 0)
  else if i = 13 then h.mode = 5 && !blind && decide (v ≤ h.nat SIS_ADVV)
  else if i = 14 then h.on SIS_MODE_STBY
  else false

/-- SIS_COND at a T0; motion or a released brake ends the standstill (R102). -/
def Hw.wardCond (h : Hw) : Hw :=
  let h1 := h.setNat SIS_COND (maskOf 16 h.condBit)
  { h1 with sis := { h1.sis with still := h1.bitAt SIS_COND 6 } }

/-! ## Swap (R348, R350) -/

/-- The registers whose invalid value leaves the previous one standing, with their ranges. -/
def wardRanges : List (Nat × Nat × Nat) :=
  [(SIS_CAP_INSP, 0, 0x9D800), (SIS_CAP_RESC, 0x19000, 0x4B000), (SIS_CAP_LEARN, 0x3E800, 0x271000),
   (SIS_SS_DECEL, 0x32000, 0x177000), (SIS_SS_MARGIN, 0xC800, 0xFA000)]

/-- A word that R350 does not allow in a register of the Ward. -/
def wardOut (a v : Nat) : Bool := wardRanges.any fun r => decide (r.1 = a) && (decide (v < r.2.1) || decide (r.2.2 < v))

/-- What the set in force refuses (R326, R327, R350): an invalid field of SIS_COND_MAP, zones that do not rise, an invalid
SIS_MENC.SRC set CFGREJ, the last MENCLOST too. -/
def Hw.wardJudge (h : Hw) : Hw :=
  let badMap := (List.range 8).any fun i => decide (8 ≤ getBits (h.reg SIS_COND_MAP) (4 * i) 4) &&
    decide (getBits (h.reg SIS_COND_MAP) (4 * i) 4 ≤ 14)
  let badSrc := decide (2 ≤ h.rd SIS_MENC_SRC)
  (h.cond (badMap || badSrc || !zonesRise h.zones) (·.raise PG_SIS 9)).cond badSrc (·.raise PG_SIS 15)

/-- The registers that `wardJudge` judges. -/
def judged (a : Nat) : Bool :=
  a = SIS_COND_MAP || a = SIS_MENC || (decide (SIS_ZNn_LO 0 ≤ a) && decide (a ≤ SIS_ZNn_HI 255))

/-- A write of a register of the Ward at its active offset, in force at once: a word out of its range leaves the previous
one standing, with CFGREJ (R350). -/
def Hw.wardPut (h : Hw) (a : Nat) (w : Word) : Hw :=
  if wardOut a w.toNat then h.raise PG_SIS 9 else (h.setReg a w).cond (judged a) Hw.wardJudge

/-- The word of a slot's registers that a swap may change. -/
def slotRegs (k : Nat) : List Nat := [SIS_SFk_CFG k, SIS_SFk_MODES k, SIS_SFk_LO k, SIS_SFk_HI k, SIS_SFk_QUAL k]

/-- SIS after a swap: the previous value of a register out of its range stands, a changed slot restarts its CNT (R335),
and CFGREJ sets for what R326, R327, R336 and R350 call invalid, with MENCLOST for an invalid SRC. -/
def Hw.sisSwap (h : Hw) : Hw :=
  let out := fun (h : Hw) (r : Nat × Nat × Nat) => decide (h.nat r.1 < r.2.1) || decide (r.2.2 < h.nat r.1)
  let badCap := wardRanges.any (out h)
  let h1 := h.each (wardRanges.filter (out h)) fun r h => h.setReg r.1 (h.reg (r.1 + 0x8000))
  let h2 := h1.each ((List.range 24).filter fun k => (slotRegs k).any fun a => h1.reg a ≠ h1.reg (a + 0x8000)) fun k h =>
    h.wr (SIS_SFk_STAT_CNT k) 0
  (h2.cond badCap (·.raise PG_SIS 9)).wardJudge

end Sys2Proof.Machine
end

