-- ==== Sys2Proof/Machine/Hooks.lean ====
section
/-! DEFINITION. What each block does beside its header when its page swaps, bolts or resets, when an agent is reset and
when the device parks (R51, R55, R56, R429, R500, R503). -/

namespace Sys2Proof.Machine

/-! ## Swaps (R51) -/

/-- The session ends; outside life-cycle TEST the balls that a scan held under it return to functional control (R509). -/
def Hw.kwEnd (h : Hw) : Hw :=
  if h.on SEC_KW_STAT_OPEN then
    (((h.wr SEC_KW_STAT_OPEN 0).wr SEC_KW_STAT_PERM 0).irq PG_SEC 3).cond (decide (h.otp.done ≠ 0)) (·.wr TST_BSCAN_HOLD 0)
  else h

/-- A set of registers that an invalid swap does not change: the previous words stand (R456, R483, R488, R510). -/
def Hw.swapBack (h : Hw) (l : List Nat) : Hw := h.each l fun a h => h.setReg a (h.reg (a + 0x8000))

/-- XSP after a swap (R483): an invalid set leaves the previous one standing. -/
def Hw.xspSwap (h : Hw) : Hw :=
  let x := h.rd XSP_CFG_XDIV
  let o := h.on XSP_CFG_OCT
  let ok := (x = 11 || x = 12 || x = 16 || x = 24 || x = 48) && (o != decide (x = 48)) && h.rd XSP_LAT_LAT ≠ 0
  if ok then { h.wr XSP_STAT_PROTO (b2n o) with xsp := { h.xsp with cfg := h.reg XSP_CFG, lat := h.reg XSP_LAT } }
  else (h.swapBack [XSP_CFG, XSP_OPC, XSP_LAT, XSP_TMO]).blockFault PG_XSP 8

/-- A bolt of XSP: the window reads that wait end in a bus error. -/
def Hw.xspBolt (h : Hw) : Hw :=
  h.cond (decide (h.xsp.win ≠ [])) fun h => { (h.wr XSP_STAT_WIN 0).busError with xsp := { h.xsp with win := [] } }

/-- The block takes up the configuration that a swap has brought in. -/
def Hw.afterSwap (h : Hw) (p : Nat) : Hw :=
  if p = PG_POS then h.posSwap
  else if p = PG_MAP then h.mapSwap
  else if p = PG_PRF then h.prfSwap
  else if p = PG_STQ then h.stqSwap
  else if p = PG_PST then h.pstSwap
  else if p = PG_DOR then h.dorSwap
  else if p = PG_VIS then h.visSwap
  else if p = PG_RDN then h.rdnSwap
  else if p = PG_TCE 0 then h.tceSwap 0
  else if p = PG_TCE 1 then h.tceSwap 1
  else if PG_CAN 0 ≤ p ∧ p ≤ PG_CAN 3 then h.canSwap (p - PG_CAN 0)
  else if p = PG_ETH 0 then h.ethSwap 0
  else if p = PG_ETH 1 then h.ethSwap 1
  else if p = PG_SSE then h.sseSwap
  else if p = PG_SIS then h.sisSwap
  else if p = PG_XSP then h.xspSwap
  else if p = PG_REC then
    h.cond (h.rd REC_CFG_HDR_T = 0) fun h => (h.swapBack [REC_CFG]).blockFault PG_REC 13
  else if p = PG_TST then
    h.cond (h.on TST_CFG_ROLLEN && h.rd TST_CFG_PERIOD = 0) fun h =>
      (h.swapBack [TST_CFG, TST_LIST0, TST_LIST1, TST_ROLL_LIST]).raise PG_TST 10
  else if p = PG_HSP then
    if h.rd HSP_CFG_DUMMY < 4 then (h.swapBack [HSP_CFG]).blockFault PG_HSP 8
    else { h with hsp := { h.hsp with dummy := h.rd HSP_CFG_DUMMY } }
  else h

/-! ## Bolts (R55, R503) -/

/-- A SkoveSafe connection or the heartbeat uses the network unit: a port (path 0, 1) or CAN controller `c` (R397). -/
def Hw.netUsed (h : Hw) (can : Bool) (c : Nat) : Bool :=
  (List.range 64).any (fun k => h.on (SSE_Ck_CFG_EN k) &&
    (if can then bit (h.rd (SSE_Ck_CFG_PATHS k)) 2 && h.rd (SSE_Ck_CFG_CANCTL k) = c else bit (h.rd (SSE_Ck_CFG_PATHS k)) c)) ||
  (h.paired && h.rdnF RDN_CFG_HB2_PATH = (if can then c + 2 else c))

/-- The Ward's bolt grant: its register for the page (R350), and only where R503 lets it grant. -/
def Hw.boltGrant (h : Hw) (p : Nat) : Bool :=
  (if p < 32 then bit (h.rd SIS_BOLT_G0_PAGE) p else bit (h.rd SIS_BOLT_G1_PAGE) (p - 32)) &&
  (if p = PG_MAP ∨ p = PG_VIS ∨ p = PG_HSP then true
   else if p = PG_TCE 0 then h.tceBoltable 0
   else if p = PG_TCE 1 then h.tceBoltable 1
   else if p = PG_RDN then h.rdnBoltable
   else if p = PG_REC then h.mode = 0xD
   else if p = PG_XSP then
     !h.on MAP_RELOAD_BUSY && !h.on SEC_MAP_CMD_BUSY && !h.on (TCE_PCAUTH_BUSY 0) && !h.on (TCE_PCAUTH_BUSY 1)
   else if PG_CAN 0 ≤ p ∧ p ≤ PG_CAN 3 then h.haltMode || !h.netUsed true (p - PG_CAN 0)
   else if p = PG_ETH 0 ∨ p = PG_ETH 1 then h.haltMode || !h.netUsed false (p - PG_ETH 0)
   else if p = PG_POS ∨ p = PG_PRF ∨ p = PG_SSE ∨ p = PG_STQ ∨ p = PG_PST ∨ p = PG_DOR then h.haltMode
   else false)

/-- The outputs of a block take their bolt values. -/
def Hw.onBolt (h : Hw) (p : Nat) : Hw :=
  if p = PG_PST then h.brakeForce.refreshSets
  else if p = PG_DOR then h.dorBolt true
  else if p = PG_VIS then h.visBolt
  else if p = PG_POS then { h.setNat POS_HEALTH 0 with pos := { h.pos with fedValid := false } }
  else if p = PG_MAP then h.mapBolt
  else if p = PG_PRF then h.prfBolt
  else if p = PG_STQ then h.wr STQ_NEXT_VALID 0
  else if p = PG_XSP then h.xspBolt
  else if PG_CAN 0 ≤ p ∧ p ≤ PG_CAN 3 then h.wr (CAN_STAT_ACT (p - PG_CAN 0)) 0
  else if p = PG_ETH 0 ∨ p = PG_ETH 1 then h.ethBolt (p - PG_ETH 0)
  else h

/-- The bolt ends. -/
def Hw.onUnbolt (h : Hw) (p : Nat) : Hw :=
  if p = PG_PST then h.refreshSets
  else if p = PG_DOR then h.dorBolt false
  else h

/-! ## Resets -/

/-- PRF_AXn_CFG.TYPE resets to the type of the strapped role, in the active and the shadow register (R174). -/
def Hw.roleResets (h : Hw) : Hw :=
  h.each (List.range 4) fun n h =>
    let t := if 2 ≤ n then 2 else if h.isCar then typeDoor else if n = 0 then typeCar else 2
    (h.wr (PRF_AXn_CFG_TYPE n) t).setReg (PRF_AXn_CFG n + 0x8000) (setBits (h.reg (PRF_AXn_CFG n + 0x8000)) 0 2 t)

/-- What a block holds beside its registers and memories returns to its reset value; the time base, the sigma-delta
filters and the chopper run on in a bolted PST, the time engine in ETH0, the map protection until the device resets
(R288, R466, R501). In CAN the queues and the holder are empty with their registers, and no object is pending any more,
as CANn_TXRQ says; its words and lock stand. DESIGN CHOICE (log entry 67): an emulation output, disabled by the reset, holds
the levels of A, B and Z (R138). -/
def Hw.innerReset (h : Hw) (p : Nat) : Hw :=
  if p = PG_POS then
    { h with pos := { PosState.init with
      q := h.pos.q.map fun c => { QChan.init with a := c.a, b := c.b, before := c.before }
      emu := h.pos.emu.map fun e => { Emu.init with phase := e.phase, z := e.z }
      dinRun := h.pos.dinRun
      din := h.pos.din } }
  else if p = PG_MAP then { h with map := { MapState.init with protOn := h.map.protOn } }
  else if p = PG_PRF then { h with prf := PrfState.init }
  else if p = PG_STQ then { h with stq := StqState.init }
  else if p = PG_PST then
    { h with pst := { PstState.init with
      curPer := h.pst.curPer, posDiv := h.pst.posDiv, posDue := h.pst.posDue, endPer := h.pst.endPer
      endDiv := h.pst.endDiv, tbPhase := h.pst.tbPhase, slew := h.pst.slew
      stretch := h.pst.stretch, lastLen := h.pst.lastLen, ocCnt := h.pst.ocCnt
      dcbHigh := h.pst.dcbHigh, chopOn := h.pst.chopOn, chopTime := h.pst.chopTime, chopSince := h.pst.chopSince, minon := h.pst.minon
      busLow := h.pst.busLow } }
  else if p = PG_DOR then { h with dor := DorState.init }
  else if p = PG_VIS then { h with vis := VisState.init }
  else if p = PG_RDN then { h with rdn := RdnState.init }
  else if p = PG_TCE 0 then h.tceBlockReset 0
  else if p = PG_TCE 1 then h.tceBlockReset 1
  else if PG_CAN 0 ≤ p ∧ p ≤ PG_CAN 3 then
    let c := p - PG_CAN 0
    ((h.setCn c { CanState.init with lastw := (h.cn c).lastw }).each (List.range 128) fun n h =>
      h.cond (h.on (CAN_OBJn_W3_TXRQ c n)) (·.wr (CAN_OBJn_W3_TXRQ c n) 0)).wr (CAN_STAT_NOKEY c) (b2n h.noKey)
  else if p = PG_ETH 0 ∨ p = PG_ETH 1 then
    let c := p - PG_ETH 0
    h.setPort c { pcs := (h.port c).pcs, retrain := none, txq := (h.port c).txq, gates := [], gated := false }
  else if p = PG_XSP then { h with xsp := XspState.init }
  else if p = PG_HSP then { h with hsp := HspState.init }
  else if p = PG_TST then { h with tst := TstState.init }
  else if p = PG_REC then { h with rcd := { h.rcd with sub := [] } }
  else h

/-- What LOGIC leaves (R500): internal state at its reset values, under the configuration of the page; the registers, the
memories of R501 and what R501 leaves out stand. -/
def Hw.logicReset (h : Hw) (p : Nat) : Hw :=
  let again := { (h.innerReset p).afterSwap p with regs := h.regs, sis := h.sis }
  if p = PG_POS then
    { again with pos := { again.pos with
      dcap := h.pos.dcap
      q := List.zipWith (fun (x y : QChan) => { x with ring := y.ring }) again.pos.q h.pos.q } }
  else if PG_CAN 0 ≤ p ∧ p ≤ PG_CAN 3 then
    let c := p - PG_CAN 0
    let old := h.cn c
    again.setCn c { again.cn c with q0 := old.q0, q1 := old.q1, popped := old.popped, hold := old.hold }
  else if p = PG_RDN then
    { h with rdn := { RdnState.init with force := h.rdn.force, segs := h.rdn.segs, play := h.rdn.play, outs := h.rdn.outs } }
  else if p = PG_STQ then { h with stq := { StqState.init with margin := h.stq.margin } }
  else if p = PG_XSP then { h with xsp := { XspState.init with cfg := h.xsp.cfg, lat := h.xsp.lat } }
  else if p = PG_HSP then { h with hsp := { HspState.init with dummy := h.hsp.dummy } }
  else if p = PG_SSE ∨ p = PG_REC then h
  else again

/-- A block after the soft reset of its page (R56): the types by role where PRF is concerned; the set in force is that of
reset. -/
def Hw.blockReset (h : Hw) (p : Nat) : Hw :=
  let h1 := h.innerReset p
  if p = PG_PRF then h1.roleResets
  else if p = PG_PST then h1.refreshSets
  else if p = PG_DOR then h1.dorSets (h1.bolted PG_DOR)
  else if p = PG_ETH 0 ∨ p = PG_ETH 1 then
    { h1 with eth := { h1.eth with force := h1.eth.force.filter fun e => decide (pageOf e.1 ≠ p) } }
  else if p = PG_SSE then
    { h1 with sse := h1.sse.map fun x => { SseConn.init with ctr := x.ctr } }
  else h1

/-- A BIST run on a page is lost (R502): BLK_TEST returns to reset, and a sequence of TST on it ends. -/
def Hw.bistLost (h : Hw) (p : Nat) : Hw :=
  let h0 := h.setNat (BLK_TEST p) 0
  let h1 := { h0 with hdr := { h0.hdr with runs := h0.hdr.runs.filter fun x => decide (x.1 ≠ p) } }
  if h.tst.stage = .pattern && (h.tst.todo.head?.elim false fun t => t.1 = p) then
    { (h1.wr TST_CMD_BUSY 0).wr TST_ROLL_STAT_ACTIVE 0 with tst := { h1.tst with stage := .idle, todo := [] } }
  else h1

/-- The reads of agent `n` that wait on the fabric get no response any more: those of the flash window and those of a
memory that is being wiped (R80). -/
def Hw.dropReads (h : Hw) (n : Nat) : Hw :=
  let l := h.xsp.win.filter fun x => decide (x.who ≠ n)
  let k := h.cpr.wipeWait.filter fun x => !(decide (x.who.num = n) && x.data.isNone)
  { (h.cond (decide (h.xsp.win ≠ [])) (·.wr XSP_STAT_WIN (b2n (decide (l ≠ []))))) with
    xsp := { h.xsp with win := l }, cpr := { h.cpr with wipeWait := k } }

/-- Agent `n` (1 to 7) is reset (R80, R429): its channels, doorbells, latches, CAN locks and waiting reads; a TCE core is
held. -/
def Hw.agentWasReset (h : Hw) (n : Nat) : Hw :=
  let h1 := ((h.mailAgentReset n).canAgentReset n).dropReads n
  if n = 5 ∨ n = 6 then (h1.resetCore (n - 5)).bistLost (PG_TCE (n - 5)) else h1

/-- Agent `n` is released: a TCE core halts at 0 (R202). -/
def Hw.agentFreed (h : Hw) (n : Nat) : Hw := if n = 5 ∨ n = 6 then h.releaseCore (n - 5) else h

/-! ## PARKED (R64, R168, R409, R474) -/

/-- What stops with the clocks at the entry to PARKED. -/
def Hw.onParked (h : Hw) : Hw := h.mapPark.timePark.kwEnd.visPark

end Sys2Proof.Machine
end

