-- ==== Sys2Proof/Machine/Page.lean ====
section
/-! DEFINITION. The common register page: enable, quiesce, bolt, soft reset, hinge swap, lock, self-test start (R38 to
R56). -/

namespace Sys2Proof.Machine

/-! ## Period boundaries and RUN (R55) -/

/-- Pages whose period boundary is the next block clock cycle, or the end of a frame (R55): no frame is half sent
between two commands, so they start at once. RDN starts at a position-cycle T0. -/
def startsAtOnce (p : Nat) : Bool :=
  p ≠ PG_RDN && (p < 8 || p = PG_HSP || p = PG_XSP || p = PG_VIS || decide (PG_CAN 0 ≤ p ∧ p ≤ PG_ETH 1))

/-- A CAN controller leaves or joins the bus with its RUN (R395). -/
def Hw.busFollow (h : Hw) (p : Nat) : Hw :=
  h.cond (decide (PG_CAN 0 ≤ p ∧ p ≤ PG_CAN 3)) (·.canAct (p - PG_CAN 0))

/-- A block leaves quiesce: QUIET clears at once, RUN sets at its next period boundary. -/
def Hw.toRun (h : Hw) (p : Nat) : Hw :=
  let h1 := h.wr (BLK_STAT_QUIET p) 0
  if startsAtOnce p then (h1.wr (BLK_STAT_RUN p) 1).busFollow p
  else { h1 with hdr := { h1.hdr with starting := if p ∈ h1.hdr.starting then h1.hdr.starting else p :: h1.hdr.starting } }

/-- RUN sets in the pages of `sel` that wait for this boundary and may run. -/
def Hw.startPages (h : Hw) (sel : Nat → Bool) : Hw :=
  let h1 := h.each (h.hdr.starting.filter sel) fun p h =>
    h.cond (h.on (BLK_CTL_EN p) && !h.quiet p && !h.bolted p) (·.wr (BLK_STAT_RUN p) 1)
  { h1 with hdr := { h1.hdr with starting := h1.hdr.starting.filter (fun p => !sel p) } }

/-- Pages that start at a position-cycle T0 and those that start at a current-cycle T0 (R55). -/
def positionPage (p : Nat) : Bool :=
  p = PG_PST || p = PG_POS || p = PG_PRF || p = PG_MAP || p = PG_DOR || p = PG_STQ || p = PG_RDN || p = PG_SSE
def currentPage (p : Nat) : Bool := p = PG_TCE 0 || p = PG_TCE 1

/-- A write of a common header register that R54 locks: a bus error where no block sits, ignored by an absent unit,
refused under SISONLY and LOCK. -/
def Hw.hdrWrite (h : Hw) (who : Who) (p : Nat) (f : Hw → Hw) : Hw :=
  if !isPage p then h.busError else h.cfgWrite who p f

/-! ## Hinge swap (R51 to R53) -/

/-- The active address of a hinge-swapped register, if `a` is one or its shadow. -/
def swapAddr (a : Nat) : Option Nat :=
  let o := offOf a
  let b := if o < 0x8000 then o else o - 0x8000
  if a < 0x40000000 ∨ 0x41000000 ≤ a ∨ b < 0x40 then none
  else match rowAt (pageOf a) b with
    | some r => if r.kind = .shadowed then some (a - o + b) else none
    | none => none

/-- Exchange the active and shadow configuration of a page: each listed value moves to the other offset. -/
def Hw.exchange (h : Hw) (p : Nat) : Hw :=
  let moves := h.regs.filter (fun e => decide (pageOf e.1 = p) && (swapAddr e.1).isSome)
  let rest := h.regs.filter (fun e => !(decide (pageOf e.1 = p) && (swapAddr e.1).isSome))
  { h with regs := moves.foldl (fun l e =>
      insertReg l (if offOf e.1 < 0x8000 then e.1 + 0x8000 else e.1 - 0x8000) e.2) rest }

/-- Copy the active configuration of a page into its shadow (R52). -/
def Hw.copyShadow (h : Hw) (p : Nat) : Hw :=
  let active := h.regs.filter (fun e => decide (pageOf e.1 = p) && (swapAddr e.1).isSome && decide (offOf e.1 < 0x8000))
  let rest := h.regs.filter (fun e => !(decide (pageOf e.1 = p) && (swapAddr e.1).isSome && decide (0x8000 ≤ offOf e.1)))
  { h with regs := active.foldl (fun l e => insertReg l (e.1 + 0x8000) e.2) rest }

/-- The shadow of a page as its SYNC copy and the shadow writes that stalled during it leave it, in the order in which
they came (R37, R52). The copy takes what stands in the active set at its end (DESIGN CHOICE, log entry 67). -/
def Hw.afterSync (h : Hw) (p : Nat) : Hw :=
  (h.hdr.stalled.filter fun x => decide (pageOf x.addr = p)).foldl Hw.shadowLands (h.copyShadow p)

/-- The exchange of a swap (R51): once, with HINGE_CNT, HPEND, then the SYNC copy or HDONE. -/
def Hw.swapWords (p : Nat) (h : Hw) : Hw :=
  let h1 := ((h.exchange p).setNat (BLK_HINGE_CNT p) (h.nat (BLK_HINGE_CNT p) + 1)).wr (BLK_STAT_HPEND p) 0
  let h2 := { h1 with hdr := { h1.hdr with
    late := h1.hdr.late.filter (· ≠ p)
    syncing := if h1.on (BLK_HINGE_SYNC p) then p :: h1.hdr.syncing.filter (· ≠ p) else h1.hdr.syncing } }
  h2.cond (!h1.on (BLK_HINGE_SYNC p)) (·.wr (BLK_IRQ_HDONE p) 1)

/-- The swap itself: the exchange, and the block takes its new configuration up. -/
def Hw.doSwap (p : Nat) (h : Hw) : Hw := (h.swapWords p).afterSwap p

/-- The block's clock runs (R53, R60, R64). Only the blocks of TCE, BUS, NET and VIS that the domain table names stand with
CPR_CLK_EN; SSE and RDN, which CLKSEQ judges with NET, keep their swaps (DESIGN CHOICE, log entry 67). -/
def Hw.clockRuns (h : Hw) (p : Nat) : Bool :=
  !h.cpr.clocksDead && h.mode ≠ 3 &&
  (if p = PG_TCE 0 ∨ p = PG_TCE 1 then h.on CPR_CLK_EN_TCE else if PG_CAN 0 ≤ p ∧ p ≤ PG_CAN 3 then h.on CPR_CLK_EN_BUS
   else if p = PG_ETH 0 ∨ p = PG_ETH 1 then h.on CPR_CLK_EN_NET else if p = PG_VIS then h.on CPR_CLK_EN_VIS else true)

/-- A requested swap takes its swap point (R53): not while the clock stands, the block is bolted or disabled. -/
def Hw.swapReady (h : Hw) (p : Nat) : Bool :=
  h.on (BLK_STAT_HPEND p) && h.clockRuns p && !h.bolted p && h.on (BLK_CTL_EN p)

/-- A swap waits for the SYNC copy that runs (R53). -/
def Hw.swapLate (p : Nat) (h : Hw) : Hw := { h with hdr := { h.hdr with late := p :: h.hdr.late.filter (· ≠ p) } }

/-- A swap point of the page comes (R53). -/
def Hw.swapPoint (p : Nat) (h : Hw) : Hw :=
  if !h.swapReady p then h else if p ∈ h.hdr.syncing then h.swapLate p else h.doSwap p

/-- The pages of R32 in ascending order. -/
def allPages : List Nat :=
  [0, 1, 2, 3, 4, 5, 6, 7, 0x10, 0x11, 0x12, 0x13, 0x14, 0x15, 0x16, 0x18, 0x19, 0x20, 0x21, 0x22, 0x23, 0x24, 0x25, 0x26,
   0x27, 0x28]

/-- All pending swaps with a POINT take their swap point (CURRENT, POSITION), or those of an event group: every exchange
in one cycle, then each block takes up what stands. -/
def Hw.swapAll (h : Hw) (point : Nat) (grp : Nat → Bool) : Hw :=
  let ready := allPages.filter fun p => h.rd (BLK_HINGE_POINT p) = point && grp (h.rd (BLK_HINGE_GROUP p)) && h.swapReady p
  let now := ready.filter (· ∉ h.hdr.syncing)
  ((h.each (ready.filter (· ∈ h.hdr.syncing)) Hw.swapLate).each now Hw.swapWords).each now fun p h => h.afterSwap p

/-- A write of BLK_HINGE (R46, R53). SIS takes POINT as POSITION whatever the write says (R348). -/
def hingeWrite (who : Who) (p : Nat) (w : Word) (h : Hw) : Hw :=
  h.hdrWrite who p fun h =>
    if h.on (BLK_STAT_HPEND p) then
      if getBits w 8 1 = 1 then
        let h1 := h.wr (BLK_STAT_HPEND p) 0
        { h1 with hdr := { h1.hdr with late := h1.hdr.late.filter (· ≠ p) } }
      else h.commonFault who BLK_FAULT_HREJ p
    else
      let pt := if p = PG_SIS then 2 else getBits w 1 2
      let h1 := ((h.wr (BLK_HINGE_POINT p) pt).wr (BLK_HINGE_SYNC p) (getBits w 3 1)).wr (BLK_HINGE_GROUP p)
        (getBits w 4 2)
      h1.cond (getBits w 0 1 = 1 && getBits w 8 1 = 0) (·.wr (BLK_STAT_HPEND p) 1)

/-- HINGE_SWAP: the swap point of an IMMEDIATE request, or the cycle in which a delayed swap lands. -/
def hingeLand (p : Nat) (h : Hw) : Hw :=
  if h.rd (BLK_HINGE_POINT p) = 0 ∨ p ∈ h.hdr.late then h.swapPoint p else h

/-- HINGE_SYNC_DONE (R52, R53): the copy ends, stalled shadow writes complete, a delayed swap lands. -/
def syncEnd (p : Nat) (h : Hw) : Hw :=
  if p ∈ h.hdr.syncing then
    let h1 := (h.afterSync p).wr (BLK_IRQ_HDONE p) 1
    let h2 := { h1 with hdr := { h1.hdr with
      syncing := h1.hdr.syncing.filter (· ≠ p)
      stalled := h1.hdr.stalled.filter (fun x => decide (pageOf x.addr ≠ p)) } }
    if p ∈ h2.hdr.late then h2.swapPoint p else h2
  else h

/-! ## Enable, quiesce, bolt, soft reset (R55, R56) -/

/-- The blocks whose EN reads 1 and whose QREQ, BOLT and SRST are reserved (R83, R476). -/
def ctlFixed (p : Nat) : Bool := p = PG_CPR || p = PG_SEC

/-- EN = 1. Written while the quiesce of an EN = 0 write still runs, it cancels that disable (DESIGN CHOICE, log entry
67). -/
def enableBlock (who : Who) (p : Nat) (h : Hw) : Hw :=
  h.hdrWrite who p fun h =>
    let h1 := { h with hdr := { h.hdr with disabling := h.hdr.disabling.filter (· ≠ p) } }
    if h1.on (BLK_CTL_EN p) then h1
    else (h1.wr (BLK_CTL_EN p) 1).cond (!h1.on (BLK_CTL_QREQ p) && !h1.bolted p) (·.toRun p)

/-- EN = 0: at once when QUIET, otherwise the quiesce runs first and EN reads 1 until QUIET sets. -/
def disableBlock (who : Who) (p : Nat) (h : Hw) : Hw :=
  h.hdrWrite who p fun h =>
    if ctlFixed p ∨ !h.on (BLK_CTL_EN p) then h
    else if h.quiet p then (h.wr (BLK_CTL_EN p) 0).wr (BLK_STAT_RUN p) 0
    else { h with hdr := { h.hdr with disabling := p :: h.hdr.disabling.filter (· ≠ p) } }

/-- QREQ = 1; reserved in CPR and SEC (R83, R476). -/
def quiesceBlock (who : Who) (p : Nat) (h : Hw) : Hw :=
  h.hdrWrite who p fun h => if ctlFixed p then h else h.wr (BLK_CTL_QREQ p) 1

/-- QREQ = 0: an enabled block that is not bolted returns to RUN. A BIST run refuses it (R502). -/
def releaseBlock (who : Who) (p : Nat) (h : Hw) : Hw :=
  h.hdrWrite who p fun h =>
    if ctlFixed p ∨ !h.on (BLK_CTL_QREQ p) then h
    else if h.on (BLK_TEST_BUSY p) then h.commonFault who BLK_FAULT_BOLTSEQ p
    else
      let h1 := h.wr (BLK_CTL_QREQ p) 0
      h1.cond (h1.on (BLK_CTL_EN p) && !h1.bolted p) (·.toRun p)

/-- Every block reads QUIET (step 1 of R64). -/
def Hw.allQuiet (h : Hw) : Bool :=
  allPages.all fun p => p = PG_CPR || h.absent p || h.quiet p || !h.on (BLK_CTL_EN p)

/-- Step 2 of the entry to PARKED: pending swaps with POINT other than IMMEDIATE are cancelled (R53, R64). -/
def Hw.cancelSwaps (h : Hw) : Hw :=
  h.each (allPages.filter fun p => h.on (BLK_STAT_HPEND p) && h.rd (BLK_HINGE_POINT p) ≠ 0) fun p h =>
    { h.wr (BLK_STAT_HPEND p) 0 with hdr := { h.hdr with late := h.hdr.late.filter (· ≠ p) } }

/-- Steps 2 to 4 of the entry to PARKED, once every block is quiet: the swaps, the snapshots of the inputs and of the
watched channel, from which MOVED counts (R64, R70, R96). -/
def Hw.parkSteps (h : Hw) : Hw :=
  if h.cpr.parking && !h.cpr.parkAt && h.allQuiet then
    let c := h.pos.q.getD (h.rd CPR_PW_CFG_SRC) QChan.init
    let h1 := h.cancelSwaps.setNat CPR_PW_STAT 0
    { h1 with cpr := { h1.cpr with parkAt := true, dinSnap := h.cpr.din, pwA := c.a, pwB := c.b, pwCount := 0 } }
  else h

/-- A PARKED entry that ends without PARKED, or the wake: the QREQ bits that CPR has set clear, and the blocks return to
RUN (R66, R69). -/
def Hw.unquiesce (h : Hw) : Hw :=
  let h1 := h.each (h.cpr.parkQ.filter fun p => h.on (BLK_CTL_QREQ p) || ctlFixed p) fun p h =>
    (h.wr (BLK_CTL_QREQ p) 0).cond (h.on (BLK_CTL_EN p) && !h.bolted p) (·.toRun p)
  { h1 with cpr := { h1.cpr with parkQ := [], parkAt := false, parking := false } }

/-- BLK_QUIET: a quiesce in progress completes; that of PARKED entry reaches SEC, whose QREQ is reserved, too (R64,
R476). -/
def quietBlock (p : Nat) (h : Hw) : Hw :=
  let dis := decide (p ∈ h.hdr.disabling)
  if isPage p && h.on (BLK_CTL_EN p) && (h.on (BLK_CTL_QREQ p) || dis || (h.cpr.parking && decide (p ∈ h.cpr.parkQ))) then
    let h1 := (((h.wr (BLK_STAT_QUIET p) 1).wr (BLK_STAT_RUN p) 0).busFollow p).cond dis (·.wr (BLK_CTL_EN p) 0)
    Hw.parkSteps { h1 with hdr := { h1.hdr with
      disabling := h1.hdr.disabling.filter (· ≠ p)
      starting := h1.hdr.starting.filter (· ≠ p) } }
  else h

/-- BOLT is reserved in CPR, SEC and SIS (R42), never granted for MLB and LAT (R434), and TST is never bolted (R503). -/
def boltable (p : Nat) : Bool :=
  p ≠ PG_CPR && p ≠ PG_SEC && p ≠ PG_SIS && p ≠ PG_MLB && p ≠ PG_LAT && p ≠ PG_TST

/-- BOLT = 1: accepted only when QUIET with the Ward's grant, otherwise BOLTSEQ. -/
def boltBlock (who : Who) (p : Nat) (h : Hw) : Hw :=
  h.hdrWrite who p fun h =>
    if p = PG_CPR ∨ p = PG_SEC ∨ p = PG_SIS then h
    else if h.bolted p then h
    else if h.quiet p && h.boltGrant p && boltable p then
      (((h.plicLatch.wr (BLK_CTL_BOLT p) 1).wr (BLK_STAT_BOLTED p) 1).wr (BLK_STAT_RUN p) 0).onBolt p
    else h.commonFault who BLK_FAULT_BOLTSEQ p

/-- The isolation of a block ends. -/
def Hw.unbolt (p : Nat) (h : Hw) : Hw :=
  let h1 := ((h.wr (BLK_CTL_BOLT p) 0).wr (BLK_STAT_BOLTED p) 0).onUnbolt p
  let h2 := h1.cond (h1.on (BLK_CTL_EN p) && !h1.on (BLK_CTL_QREQ p)) (·.toRun p)
  h2.cond (h2.rd (BLK_HINGE_POINT p) = 0) (·.swapPoint p)

/-- BOLT = 0: ends the isolation, but not while a BIST run is busy (R502). -/
def unboltBlock (who : Who) (p : Nat) (h : Hw) : Hw :=
  h.hdrWrite who p fun h =>
    if !h.bolted p then h
    else if h.on (BLK_TEST_BUSY p) then h.commonFault who BLK_FAULT_BOLTSEQ p
    else h.unbolt p

/-- Every register of the page and what the block holds beside it return to reset (R56): holders of its pairs and stalled
writes of its shadow go too. KEY_HELD keeps its level (R373). -/
def Hw.resetBlock (p : Nat) (h : Hw) : Hw :=
  let h1 := (h.plicLatch.clearPage p).blockReset p
  let h2 := { h1 with hdr := { h1.hdr with
    disabling := h1.hdr.disabling.filter (· ≠ p), starting := h1.hdr.starting.filter (· ≠ p)
    syncing := h1.hdr.syncing.filter (· ≠ p), late := h1.hdr.late.filter (· ≠ p)
    stalled := h1.hdr.stalled.filter fun x => decide (pageOf x.addr ≠ p)
    runs := h1.hdr.runs.filter fun x => decide (x.1 ≠ p)
    rdHold := h1.hdr.rdHold.filter fun x => decide (pageOf x.addr ≠ p)
    wrHold := h1.hdr.wrHold.filter fun x => decide (pageOf x.addr ≠ p) } }
  (h2.cond (enResets p) (·.toRun p)).cond (p = PG_RDN && h.on RDN_KEY_HELD) (·.wr RDN_KEY_HELD 1)

/-- The pattern of the run in progress on a page (R50, R500). -/
def Hw.runPat (h : Hw) (p : Nat) : Nat := ((h.hdr.runs.find? fun x => decide (x.1 = p)).map (·.2)).getD 0

/-- The result of a run of the page (R500, R511): TST_RES, the first failure since TST_FAILLOG was read, BISTFAIL. -/
def Hw.testResult (h : Hw) (p : Nat) (pass abort : Bool) (code us : Nat) : Hw :=
  let w := 0x80000000 + 0x40000000 * b2n pass + 0x20000000 * b2n (!pass) + 0x10000000 * b2n abort + 65536 * p +
    256 * h.runPat p + code
  let h1 := (((h.wr (BLK_TEST_BUSY p) 0).wr (BLK_TEST_PASS p) (b2n pass)).wr (BLK_TEST_FAIL p) (b2n (!pass))).setNat TST_RES w
  let h2 := { h1 with hdr := { h1.hdr with runs := h1.hdr.runs.filter fun x => decide (x.1 ≠ p) } }.wr TST_TIME_T (satN 24 us)
  h2.cond (!pass) fun h =>
    (h.cond (!h.on TST_FAILLOG_VALID) (·.setNat TST_FAILLOG w)).irq PG_TST 2 |>.raise PG_TST 8

/-- SRST = 1 (R56): while QUIET or BOLTED; SRST is reserved in CPR and SEC (R83, R476). It stops a BIST run, which fails (R502). -/
def softReset (who : Who) (p : Nat) (h : Hw) : Hw :=
  h.hdrWrite who p fun h =>
    if ctlFixed p then h
    else if h.on (BLK_TEST_BUSY p) then h.testResult p false true 0 0
    else if h.quiet p || h.bolted p then h.resetBlock p
    else h.commonFault who BLK_FAULT_SRSTSEQ p

/-- BLK_LOCK_WRITE (R48): bits only set. -/
def lockWrite (who : Who) (p : Nat) (w : Word) (h : Hw) : Hw :=
  if !isPage p then h.busError
  else if h.absent p then h.ack
  else if h.sisOnlyOk who p then
    (h.ack.cond (getBits w 0 1 = 1) (·.wr (BLK_LOCK_LOCK p) 1)).cond (getBits w 1 1 = 1) (·.wr (BLK_LOCK_SISONLY p) 1)
  else h.ack.commonFault who BLK_FAULT_LOCKW p

end Sys2Proof.Machine
end

