-- ==== Sys2Proof/Machine/Recorder.lean ====
section
/-! DEFINITION. The event recorder: writing records, headers and the remap table, DEGRADED, enable after reset, submit,
wall clock and read-out (R438 to R458). -/

namespace Sys2Proof.Machine

/-! ## Layout (R438, R440) -/

def mramSlot (s : Nat) : Nat := 0x60000000 + 64 * s
def ringSize (p : Bool) : Nat := if p then 16384 else 240000
def ringBase (p : Bool) : Nat := if p then 512 else 16896
def spareBase : Nat := 256896
def spareCount : Nat := 5248
def remapEntry (e : Nat) : Nat := 0x60000200 + 4 * e

/-- The slot that stands for a ring slot after remapping (R452). -/
def recTranslate (l : List (Nat × Nat)) (s : Nat) : Nat :=
  ((l.find? (fun x => decide (x.1 = s))).map (·.2)).getD s

/-- A header copy with a generation (R440). -/
def headerBytes (h : Hw) (gen : Nat) : List Byte :=
  let b := leBytes 4 0x54434552 ++ leBytes 4 gen ++ leBytes 4 (h.nat REC_PCC) ++ leBytes 4 (h.nat REC_SEQ) ++
    leBytes 6 h.opTime ++
    leBytes 2 (h.rd REC_STAT_WRAP_G + 2 * h.rd REC_STAT_WRAP_P + 4 * h.rd REC_STAT_WALLVALID) ++
    leBytes 4 (h.nat REC_HEAD_G) ++ leBytes 4 (h.nat REC_HEAD_P) ++ leBytes 8 h.rcd.wallBase ++ leBytes 6 h.rcd.optBase ++
    leBytes 2 h.rcd.spNext ++ List.replicate 12 0
  b ++ leBytes 4 (crc32c b)

/-- A header or record slot of 64 bytes has a good CRC (R444). -/
def slotCrcOk (m : List Host.Cell) (a : Nat) : Bool := crc32c (memReadBytes m a 60) = memNat m (a + 60) 4

/-- A header copy is valid: MAGIC and CRC are right (R440). -/
def headerOk (m : List Host.Cell) (a : Nat) : Bool := memNat m a 4 = 0x54434552 && slotCrcOk m a

/-- Copy A has the newer GEN (R440, 32-bit serial order). -/
def Hw.newerA (h : Hw) : Bool := decide (0 ≤ diff32 h.rcd.genA h.rcd.genB)

/-- REC writes header copy A or B, with the newer GEN + 1 (R440). -/
def headerPut (toA : Bool) (d : Dev) : Dev :=
  let h := d.hw
  let g := ((if h.newerA then h.rcd.genA else h.rcd.genB) + 1) % 4294967296
  let r := if toA then { h.rcd with genA := g } else { h.rcd with genB := g }
  { hw := { h with rcd := r }, mem := memWriteBytes d.mem (if toA then 0x60000000 else 0x60000040) (headerBytes h g) }

/-- REC writes the copy with the older GEN (R440). -/
def headerWrite (d : Dev) : Dev := headerPut (!d.hw.newerA) d

/-- REC enters DEGRADED (R453): queued records go to the AON store, RECORDER sets and reaches the Ward. -/
def Hw.recFail (h : Hw) : Hw :=
  let q := h.rcd.queue
  let h1 := { h.recDegrade with rcd := { h.rcd with queue := [] } }.wr REC_STAT_LEVEL 0
  (h1.each q (fun r h => h.toAon r)).raise PG_REC 8

/-- Try the spares in turn, lowest free first (R452): what the tries do to the remap table, and the spare that took
the record. The list says which of them verify; those beyond it do. -/
def spareTry (ring : Nat) : List Bool → Nat → List Host.Cell → List Host.Cell × Nat × Option Nat
  | [], e, m =>
    if spareCount ≤ e then (m, e, none) else (memSetNat m (remapEntry e) 4 (0x80000000 + ring), e + 1, some (spareBase + e))
  | ok :: l, e, m =>
    if spareCount ≤ e then (m, e, none)
    else if ok then (memSetNat m (remapEntry e) 4 (0x80000000 + ring), e + 1, some (spareBase + e))
    else spareTry ring l (e + 1) (memSetNat m (remapEntry e) 4 0x40000000)

/-- The head record has been written at `slot`: the ring head advances with WRAP, then the header (R450). -/
def recAdvance (r : Record) (q : List Record) (d : Dev) : Dev :=
  let h := d.hw
  let hd := h.nat (if r.prot then REC_HEAD_P else REC_HEAD_G)
  let last := decide (hd + 1 = ringSize r.prot)
  let h1 := h.setNat (if r.prot then REC_HEAD_P else REC_HEAD_G) (if last then 0 else hd + 1)
  let h2 := h1.cond last (·.wr (if r.prot then REC_STAT_WRAP_P else REC_STAT_WRAP_G) 1)
  let h3 := ({ h2 with rcd := { h2.rcd with queue := q, noAnswer := 0 } }.wr REC_STAT_LEVEL q.length).wr
    REC_STAT_BUSY (b2n (decide (q ≠ [])))
  headerWrite { d with hw := h3.irq PG_REC 0 }

/-- The write of the record at the head of the queue ends (R450, R452, R453). -/
def recordWritten (answered slotOk : Bool) (spares : List Bool) (d : Dev) : Dev :=
  let h := d.hw
  match h.rcd.queue with
  | [] => d
  | r :: q =>
    if h.recAonMode || !h.rcd.loaded then d
    else if !answered then
      if 2 ≤ h.rcd.noAnswer then { d with hw := h.recFail }
      else { d with hw := { h with rcd := { h.rcd with noAnswer := h.rcd.noAnswer + 1 } } }
    else
      let ring := ringBase r.prot + h.nat (if r.prot then REC_HEAD_P else REC_HEAD_G)
      let slot := recTranslate h.rcd.remap ring
      if slotOk then recAdvance r q { d with mem := memWriteBytes d.mem (mramSlot slot) (recordBytes h r) }
      else
        match spareTry ring spares h.rcd.spNext d.mem with
        | (m, e, some sp) =>
          let m1 := memWriteBytes m (mramSlot sp) (recordBytes h r)
          let rcd' := { h.rcd with remap := (ring, sp) :: h.rcd.remap, spNext := e }
          let h1 := ({ h with rcd := rcd' }.bump REC_SPARES_BAD (e - 1 - h.rcd.spNext)).bump REC_SPARES_USED 1
          let d1 := recAdvance r q { hw := h1, mem := m1 }
          { d1 with hw := ((d1.hw.blockFault PG_REC 9).irq PG_REC 2).recSelf 0x0041 true [ring, sp] }
        | (m, e, none) =>
          let h1 := { h with rcd := { h.rcd with spNext := e } }.bump REC_SPARES_BAD (e - h.rcd.spNext)
          { hw := h1.recFail, mem := m }

/-- HEADER_REFRESH (R440). -/
def headerRefreshed (d : Dev) : Dev := if d.hw.recAonMode || !d.hw.rcd.loaded then d else headerWrite d

/-- The slot write of the record in work completes and no other follows it (R82, R450 step 1): head and header stay, and
the boot that comes finds the slot (R451). -/
def slotEnds (d : Dev) : Dev :=
  let h := d.hw
  match h.rcd.queue with
  | [] => d
  | r :: q =>
    if h.recAonMode || !h.rcd.loaded || h.cpr.mramBlocked then d
    else
      let ring := ringBase r.prot + h.nat (if r.prot then REC_HEAD_P else REC_HEAD_G)
      { hw := { h with rcd := { h.rcd with queue := q } }
        mem := memWriteBytes d.mem (mramSlot (recTranslate h.rcd.remap ring)) (recordBytes h r) }

/-- A warm or cold reset meets the recorder (R451): the write in progress completes, queued entries move to the AON
store. A power-on reset loses the entries that wait, and where new MRAM writes are blocked none begins (R82). -/
def recFlush (por : Bool) (d : Dev) : Dev :=
  let d1 := if por then slotEnds d else if d.hw.cpr.mramBlocked then d else recordWritten true true [] d
  if por then d1
  else { d1 with hw := d1.hw.each d1.hw.rcd.queue (fun r h => h.toAon r) }

/-! ## Enable after a reset (R451, R454) -/

/-- The remap table's first `n` entries that are in use. -/
def loadRemap (m : List Host.Cell) : Nat → List (Nat × Nat)
  | 0 => []
  | e + 1 =>
    let w := memNat m (remapEntry e) 4
    if w.testBit 31 then (w % 262144, spareBase + e) :: loadRemap m e else loadRemap m e

/-- The newer of the valid header copies, by address (R440). -/
def bestHeader (m : List Host.Cell) : Option Nat :=
  let a := headerOk m 0x60000000
  let b := headerOk m 0x60000040
  if a && b then
    some (if 0 ≤ diff32 (memNat m 0x60000004 4) (memNat m 0x60000044 4) then 0x60000000 else 0x60000040)
  else if a then some 0x60000000
  else if b then some 0x60000040
  else none

/-- REC advances a head over records that the header does not know yet (R451), at most `k` of them. -/
def recRecover (p : Bool) : Nat → Dev → Dev
  | 0, d => d
  | k + 1, d =>
    let h := d.hw
    let hd := h.nat (if p then REC_HEAD_P else REC_HEAD_G)
    let a := mramSlot (recTranslate h.rcd.remap (ringBase p + hd))
    let sq := memNat d.mem a 4
    if slotCrcOk d.mem a && decide (h.nat REC_SEQ ≤ sq) then
      let last := decide (hd + 1 = ringSize p)
      let h1 := (h.setNat (if p then REC_HEAD_P else REC_HEAD_G) (if last then 0 else hd + 1)).cond last
        (·.wr (if p then REC_STAT_WRAP_P else REC_STAT_WRAP_G) 1)
      recRecover p k { d with hw := h1.setNat REC_SEQ (sq + 1) }
    else d

/-- Sequence numbers from `n` on for records that arrived before the header was loaded (R446). -/
def reSeq : Nat → List Record → List Record
  | _, [] => []
  | n, r :: l => { r with seq := n } :: reSeq (n + 1) l

/-- NEXTSEQ lies above the records of the AON store and behind those that wait (R446, R454). -/
def Hw.seqAbove (h : Hw) : Hw :=
  let top := h.rcd.aon.foldl (fun t r => max t (r.seq + 1)) (h.nat REC_SEQ)
  { h with rcd := { h.rcd with queue := reSeq top h.rcd.queue } }.setNat REC_SEQ (top + h.rcd.queue.length)

/-- A record of the AON store goes to its ring at once (R454). -/
def writeBack (d : Dev) (r : Record) : Dev :=
  let h := d.hw
  recordWritten true true [] { d with hw := { h with rcd := { h.rcd with queue := { r with fromAon := true } :: h.rcd.queue } } }

/-- The header at `a` and the remap table are loaded (R440, R442); an invalid copy counts as the older. -/
def Dev.takeHeader (d : Dev) (a : Nat) : Hw :=
  let m := d.mem
  let h := d.hw
  let fl := memNat m (a + 22) 2
  let sp := memNat m (a + 46) 2
  let rm := loadRemap m (min sp spareCount)
  let g := memNat m (a + 4) 4
  let old := (g + 4294967295) % 4294967296
  let h1 := (((((h.setNat REC_PCC (memNat m (a + 8) 4)).setNat REC_SEQ (memNat m (a + 12) 4)).setNat REC_HEAD_G
    (memNat m (a + 24) 4)).setNat REC_HEAD_P (memNat m (a + 28) 4)).wr REC_STAT_WRAP_G (fl % 2)).wr REC_STAT_WRAP_P
    (fl / 2 % 2)
  let h2 := ((h1.wr REC_SPARES_USED rm.length).wr REC_SPARES_BAD (sp - rm.length)).cond (!h.cpr.por)
    (·.wr REC_STAT_WALLVALID (fl / 4 % 2))
  { h2 with rcd := { h2.rcd with
    genA := if headerOk m 0x60000000 then memNat m 0x60000004 4 else old
    genB := if headerOk m 0x60000040 then memNat m 0x60000044 4 else old
    spNext := sp
    remap := rm
    wallBase := memNat m (a + 32) 8
    optBase := memNat m (a + 40) 6 } }

/-- The AON store goes back into the rings in SEQ order, with a RECOVERED record behind it (R454). -/
def Dev.recBack (d : Dev) : Dev :=
  let back := d.hw.rcd.aon
  let h1 := { d.hw with rcd := { d.hw.rcd with aon := [] } }.wr REC_STAT_AONCNT 0
  let d1 := back.foldl writeBack { d with hw := h1 }
  { d1 with hw := d1.hw.cond (decide (back ≠ [])) (·.recSelf 0x0042 false [back.length]) }

/-- The BOOT record: the causes, the straps, the wipe, SEC_BOOT and the versions of both slots (R445, R461). -/
def Hw.recBoot (h : Hw) (versions : List Nat) : Hw :=
  h.recSelf 0x0001 true ([h.nat CPR_RST_CAUSE, h.nat CPR_STRAP, h.nat CPR_WIPE_STAT, h.nat SEC_BOOT] ++ versions)

/-- Enable after a reset (R451): REC loads the header and the remap table, recovers the heads, writes back the AON store,
and writes BOOT. Where the MRAM does not answer, or without a valid header, it is DEGRADED (R453). -/
def recLoad (answers : Bool) (versions : List Nat) (d : Dev) : Dev :=
  if d.hw.rcd.loaded then d
  else
    let h0 := { d.hw with rcd := { d.hw.rcd with loaded := true } }
    match if answers then bestHeader d.mem else none with
    | none => { d with hw := h0.seqAbove.recFail.recBoot versions }
    | some a =>
      let d1 := recRecover true (ringSize true) (recRecover false (ringSize false)
        { d with hw := ({ d with hw := h0 } : Dev).takeHeader a })
      let d2 := ({ d1 with hw := d1.hw.seqAbove } : Dev).recBack
      { d2 with hw := d2.hw.recBoot versions }

/-! ## Software (R449, R447, R455) -/

/-- The submit registers of an agent (R456): CTL, RES, SEQ, D0 to D7. -/
def Hw.subRegs (h : Hw) (who : Nat) : List Word :=
  ((h.rcd.sub.find? (fun x => decide (x.1 = who))).map (·.2)).getD (List.replicate 11 0)

/-- Replace word `i` of an agent's submit registers. -/
def Hw.setSub (h : Hw) (who i : Nat) (w : Word) : Hw :=
  let l := (h.subRegs who).set i w
  { h with rcd := { h.rcd with sub := (who, l) :: h.rcd.sub.filter (fun x => decide (x.1 ≠ who)) } }

/-- RECORD_SUBMIT (R449, R458): a write of REC_SUB_CTL; GO submits or refuses. DESIGN CHOICE (log entry 67): where the
sequence numbers have run out, which R446 refuses without naming an answer, RES reads FULL. -/
def recSubmit (who : Who) (w : Word) (h : Hw) : Hw :=
  h.opWrite who PG_REC fun h =>
    let n := who.num
    let h1 := h.setSub n 0 (setBits 0 0 17 (getBits w 0 17))
    let typ := getBits w 0 16
    if getBits w 31 1 = 0 then h1
    else if typ < 0x8000 then h1.setSub n 1 3
    else if 24 ≤ h1.rcd.queue.length then h1.setSub n 1 2
    else if h1.nat REC_SEQ = 0xFFFFFFFF then (h1.setSub n 1 2).recRunOut
    else
      let seq := h1.reg REC_SEQ
      let prot := h1.on REC_CFG_SWPROT && getBits w 16 1 = 1
      let data := ((h1.subRegs n).drop 3).map (·.toNat)
      ((h1.setSub n 1 1).setSub n 2 seq).recArrive typ (n % 8) prot false data

/-- The wall clock as it reads (R447). -/
def Hw.wallNow (h : Hw) : Nat :=
  if h.on REC_STAT_WALLVALID then wallAt h h.opTime else h.nat REC_WALL_LO + 4294967296 * h.nat REC_WALL_HI

/-- WALL_CLOCK_SET (R447, R448): two CLOCK_SET records, the first with the old wall time, the second with the new; with
fewer than two free entries neither is written (R539). The keyway may not write it. -/
def wallSet (who : Who) (hi : Word) (h : Hw) : Hw :=
  h.opWrite who PG_REC fun h =>
    if who = .keyway then h
    else
      let lo := (holderOf h.hdr.wrHold who.num REC_WALL_LO).getD (BitVec.ofNat 32 h.wallNow)
      let opt := h.opTime
      let full := !h.recAonMode && decide (31 ≤ h.rcd.queue.length) && decide (h.nat REC_SEQ ≠ 0xFFFFFFFF)
      let h1 := if full then (h.bump REC_LOST_HWLOST 2).blockFault PG_REC 10
        else h.recSelf 0x0040 true [opt % 4294967296, opt / 4294967296]
      let h2 := ((h1.setReg REC_WALL_LO lo).setReg REC_WALL_HI hi).wr REC_STAT_WALLVALID 1
      let h3 := { h2 with
        rcd := { h2.rcd with wallBase := lo.toNat + 4294967296 * hi.toNat, optBase := opt },
        hdr := { h2.hdr with wrHold := dropHolder h2.hdr.wrHold who.num REC_WALL_LO } }
      (h3.cond (!full) (·.recArrive 0x0040 0x11 true true [opt % 4294967296, opt / 4294967296])).irq PG_REC 4

/-- RECORD_READ_TRANSLATE (R455). The spec gives no address for an index beyond the ring: a free value (log entry 64). -/
def readTranslate (who : Who) (w : Word) (h : Hw) : Hw :=
  h.opWrite who PG_REC fun h =>
    let p := getBits w 18 1 = 1
    let i := getBits w 0 18
    let h1 := h.setNat REC_RD_IDX (getBits w 0 19)
    if i < ringSize p then h1.setNat REC_RD_ADDR (mramSlot (recTranslate h.rcd.remap (ringBase p + i)))
    else h1.free fun x h => h.setReg REC_RD_ADDR x

/-- A write of REC_CFG at its active offset: HDR_T = 0 leaves the previous value standing, with CFGREJ (R456). -/
def recConfig (w : Word) (h : Hw) : Hw := if getBits w 8 8 = 0 then h.blockFault PG_REC 13 else h.setReg REC_CFG w

/-- What waits for a position-cycle T0: the end of the sequence numbers (R446, R453). -/
def Hw.recT0 (h : Hw) : Hw :=
  h.cond h.rcd.ranOut fun h => { h with rcd := { h.rcd with ranOut := false } }.recFail

end Sys2Proof.Machine
end

