-- ==== Sys2Proof/Machine/Reset.lean ====
section
/-! DEFINITION. Resets, start-up, PARKED, clocks and the rest of CPR (R58 to R98). -/

namespace Sys2Proof.Machine

/-! ## What a reset keeps (R62, R71) -/

/-- AON registers of CPR (R62). -/
def aonReg (a : Nat) : Bool :=
  a = CPR_OPTIME_LO || a = CPR_OPTIME_HI || a = CPR_RST_CAUSE || a = CPR_RST_HOLD || a = CPR_SUPMON || a = CPR_WAKE_EN ||
  a = CPR_WAKE_DIN || a = CPR_WAKE_SRC || a = CPR_PW_CFG || a = CPR_PW_STAT ||
  (CPR_RETAIN 0 ≤ a && a ≤ CPR_RETAIN 7) || a = SIS_DB_NONCE

/-- The registers a reset leaves: none at power-on; the AON registers at a cold reset; at a warm reset the straps too
(R76). The deadbolt mirror keeps SET, WORDA, WORDB, MIRROR and CAUSE (R344, R350). -/
def keptRegs (h : Hw) (por warm : Bool) : List (Nat × Word) :=
  if por then h.regs.filter (fun e => decide (e.1 = SIS_DB_NONCE))
  else h.regs.filter (fun e => aonReg e.1 || (warm && decide (e.1 = CPR_STRAP)))

/-- The hardware after a reset source (R71): the state of reset, with what the kind of reset keeps; mode RESET. The one
write of the operating time is spent for good until a power-on or cold reset (R63). A VIS that the part has not reports
its buffers done (R90). DESIGN CHOICE (log entry 55): a cold source while a power-on reset is in progress makes it a cold
reset; R71 and R75 speak of a warm reset alone. -/
def Hw.resetTo (h : Hw) (por warm : Bool) (mode : Nat) : Hw :=
  let b := Hw.init
  let h1 : Hw := { b with
    env := h.env
    fresh := h.fresh
    otp := h.otp
    regs := keptRegs h por warm
    cpr := { b.cpr with
      supplies := h.cpr.supplies
      safeHiZ := h.cpr.safeHiZ
      nreset := h.cpr.nreset
      din := h.cpr.din
      optSpent := warm && h.cpr.optSpent
      agtWritten := warm && h.cpr.agtWritten
      cold := !warm
      por := por
      inReset := true
      heldRec := !por && h.cpr.heldRec
      provFlag := !por && h.cpr.provFlag }
    sis := if por then b.sis else { b.sis with counts := h.sis.counts, dbNonce := h.sis.dbNonce, dbOpt := h.sis.dbOpt }
    rcd := if por then b.rcd else { b.rcd with aon := h.rcd.aon, wallBase := h.rcd.wallBase, optBase := h.rcd.optBase } }
  let h2 := if por then h1 else
    ((((h1.wr SIS_DB_STAT_SET (h.rd SIS_DB_STAT_SET)).wr SIS_DB_STAT_WORDA (h.rd SIS_DB_STAT_WORDA)).wr
      SIS_DB_STAT_WORDB (h.rd SIS_DB_STAT_WORDB)).wr SIS_DB_STAT_MIRROR (h.rd SIS_DB_STAT_MIRROR)).wr
      SIS_DB_STAT_CAUSE (h.rd SIS_DB_STAT_CAUSE)
  let h3 := h2.cond (!por) (fun x => (x.wr REC_STAT_AONCNT x.rcd.aon.length).wr REC_STAT_WALLVALID
    (h.rd REC_STAT_WALLVALID))
  let h4 := (h3.wr CPR_CLK_EN_VIS (b2n h.hasV)).wr CPR_WIPE_STAT_DONE (16 * b2n !h.hasV)
  let h5 := h4.cond (!h.hasE2 && por) (·.wr CPR_WAKE_EN_SRC 0x1F7)
  (h5.wr SIS_MODE_CUR mode).cond warm (·.wr CPR_CLK_STAT_LOCK (h.rd CPR_CLK_STAT_LOCK))

/-- A reset (R71): the recorder settles first (R451), then everything but what is kept returns to reset. -/
def Dev.reset (d : Dev) (por warm : Bool) (cause : Field) : Dev :=
  let d1 := recFlush por d
  let h := d1.hw.resetTo por warm (if por then 0 else 1)
  { d1 with hw := if por then h else h.wr cause 1 }

/-- A cold source (R75): during a warm reset it turns the reset cold. -/
def Dev.coldReset (d : Dev) (cause : Field) : Dev := d.reset false false cause

/-! ## Supplies and reset pins -/

/-- The levels of the ten safe-output balls; none while they are at high impedance (R82). -/
def Hw.safeBalls (h : Hw) : Option Nat := if h.cpr.safeHiZ then none else some (h.rd SIS_OUT_STAT_OUT)

/-- SUPPLY_GOOD (R82): OFF becomes RESET, the safe-output balls leave high impedance. -/
def supplyUp (h : Hw) : Hw :=
  let h1 := { h with cpr := { h.cpr with supplies := true, safeHiZ := false } }
  if h.mode = 0 then h1.wr SIS_MODE_CUR 1 else h1

/-- POWER_ON_RESET (R71, R82): VDD_AON is lost; everything resets and the device is OFF, its safe-output balls at high
impedance. -/
def powerOn (d : Dev) : Dev :=
  let d1 := d.reset true false CPR_RST_CAUSE_POR
  { d1 with hw := { d1.hw with cpr := { d1.hw.cpr with supplies := false, safeHiZ := true } } }

/-- SUPPLY_MONITOR_TRIP (R81, R82, R104): a cold reset. VDD_CORE and VDD_MRM block new MRAM writes at once, so that only
the slot write in progress completes; with VDDIO_A the safe-output balls go to high impedance. In OFF the supplies have
not all come, and the device stays OFF. -/
def supplyTrip (m : Nat) (d : Dev) : Dev :=
  let blk := d.hw.cpr.mramBlocked || decide (m = 0) || decide (m = 3)
  let d0 := if blk && d.hw.mode ≠ 0 then slotEnds d else d
  let d1 : Dev := { d0 with hw := { d0.hw with cpr := { d0.hw.cpr with mramBlocked := blk } } }
  let d2 := if d1.hw.mode = 0 then d1 else d1.coldReset CPR_RST_CAUSE_SUPMON
  let c := { d2.hw.cpr with supplies := false, mramBlocked := blk, safeHiZ := d2.hw.cpr.safeHiZ || decide (m = 5) }
  { d2 with hw := ({ d2.hw with cpr := c }.setBitAt CPR_SUPMON m true).irq PG_CPR 2 }

/-- NRESET_ASSERT (R72, R104): the hold latches de-energise every safe output without lag, and a cold reset starts; a
device in OFF stays there. -/
def nresetLow (d : Dev) : Dev :=
  let d1 := if d.hw.mode = 0 then d else d.coldReset CPR_RST_CAUSE_NRST
  { d1 with hw := { d1.hw with cpr := { d1.hw.cpr with nreset := true } } }

/-- NRESET_RELEASE (R73, R89): the hold time in whole 1/16 s, saturating; HELD for holds over 3 s. -/
def nresetHigh (ms : Nat) (h : Hw) : Hw :=
  if h.cpr.nreset then
    let held := decide (3000 < ms)
    let h1 := { h with cpr := { h.cpr with nreset := false, heldRec := held } }.wr CPR_RST_HOLD_HOLD_T
      (satN 24 (ms * 16 / 1000))
    h1.cond held (·.wr CPR_RST_CAUSE_HELD 1)
  else h

/-- A memory that the wipe has worked: DONE, or FAIL where its read-back failed (R78, R90). DESIGN CHOICE (log entry 55):
DONE of a failed memory stays 0. -/
def Hw.wiped (h : Hw) (i : Nat) (ok : Bool) : Hw :=
  if ok then h.setBitAt CPR_WIPE_STAT i true else h.setBitAt CPR_WIPE_STAT (16 + i) true

/-- RESET_RELEASE (R76, R77, R79): the straps are sampled at time 0 of a power-on or cold reset, the SIS TCM is wiped, the
blocks that are enabled at reset run, the boot ROM starts. -/
def resetStart (role : Nat) (unitB tcmOk : Bool) (d : Dev) : Dev :=
  let h := d.hw
  if h.mode = 1 && h.cpr.supplies && !h.cpr.nreset then
    let h1 := h.cond h.cpr.cold (fun h => (h.wr CPR_STRAP_ROLE role).wr CPR_STRAP_UNIT_AB (b2n unitB))
    let h2 := (((h1.wr CPR_CLK_STAT_REF_OK 1).wr CPR_CLK_STAT_XTAL_OK 1).wr CPR_CLK_STAT_LOCK 15).wr
      CPR_CLK_STAT_RUN (h1.nat CPR_CLK_EN)
    let h3 := ((h2.wr SIS_MODE_CUR 2).roleResets.wiped 5 tcmOk).each (allPages.filter enResets) fun p h => h.toRun p
    { hw := h3, mem := if tcmOk then memClear d.mem 0x10000000 0x10040000 else d.mem }
  else d

/-- WARM_RESET_REQUEST (R87, R75): only agent 0, with the KEY; ignored while a reset is in progress, and after a failed
wipe, which a power-on or cold reset alone leaves (R78). -/
def warmReset (who : Who) (w : Word) (d : Dev) : Dev :=
  let h := d.hw.ack
  if who ≠ .agent 0 then { d with hw := h.blockFault PG_CPR 8 }
  else if getBits w 16 16 ≠ 0xA5C3 then { d with hw := h.blockFault PG_CPR 9 }
  else if getBits w 0 1 = 0 then { d with hw := h }
  else if h.cpr.inReset || h.rd CPR_WIPE_STAT_FAIL ≠ 0 then { d with hw := h }
  else d.reset false true CPR_RST_CAUSE_WARM

/-- The address ranges of the memories that CPR_WIPE_STAT numbers 0 to 2 (R77, R90, R28, R31). CAN message memories are
registers of their pages, which the reset has cleared; the VIS buffers are registers too. -/
def wipeRanges (i : Nat) : List (Nat × Nat) :=
  if i = 0 then [(0x80000000, 0x88000000)]
  else if i = 1 then [(0x20000000, 0x20400000)]
  else if i = 2 then [(0x30000000, 0x30040000), (0x31000000, 0x31030000), (0x31100000, 0x31130000)]
  else []

/-- WIPE_COMPLETE (R77, R78, R90; HSP's EN, chapter 19): the memories read back as zero are zero; a failed one holds the
device in BOOT with a WIPE_FAIL record, or without one where the TCM itself failed. -/
def wipeDone (failed : Nat) (d : Dev) : Dev :=
  let h := d.hw
  if h.mode = 2 && h.on CPR_WIPE_STAT_BUSY then
    let m := (((List.range 5).filter (fun i => !bit failed i)).flatMap wipeRanges).foldl
      (fun m r => memClear m r.1 r.2) d.mem
    let h1 := ((h.each (List.range 5) fun i h => h.wiped i (!bit failed i)).wr CPR_WIPE_STAT_BUSY 0).irq PG_CPR 3
    let h2 := ({ h1 with cpr := { h1.cpr with inReset := false, mramBlocked := false } }.wr (BLK_CTL_EN PG_HSP) 1).toRun
      PG_HSP
    let d1 : Dev := { hw := h2, mem := m }
    if failed % 32 ≠ 0 ∧ !bit (h.rd CPR_WIPE_STAT_FAIL) 5 then
      let d2 := recLoad true [0, 0, 0, 0] d1
      { d2 with hw := d2.hw.recWard 0x0003 true [d2.hw.nat CPR_WIPE_STAT] }
    else d1
  else d

/-! ## Clocks (R60, R61, R91) -/

/-- The class of a clock trip by domain (R340). -/
def tripClass (dom : Nat) : Nat :=
  if dom = 3 ∨ dom = 4 ∨ dom = 5 then 4 else if dom = 6 ∨ dom = 7 then 3 else 1

/-- CLOCK_MONITOR_TRIP (R60): of a running domain; SAF is a fault in fault handling; the AON domain is not counted. -/
def clockTrip (dom : Nat) (h : Hw) : Hw :=
  if dom = 0 || !bit (h.rd CPR_CLK_STAT_RUN) dom || bit (h.rd CPR_CLKMON_TRIP) dom then h
  else
    let h1 := (h.wr CPR_CLKMON_TRIP (setBitN (h.rd CPR_CLKMON_TRIP) dom true)).irq PG_CPR 1
    if dom = 1 then hardFault 0x81 h1 else h1.pushEntry (tripClass dom) PG_CPR dom

/-- REFLOSS (R60): every PLL-derived domain counts as tripped and stops; DEADBOLT in hardware. -/
def refLoss (h : Hw) : Hw :=
  let h1 := ((((h.wr CPR_CLKMON_REFLOSS 1).wr CPR_CLKMON_TRIP 0x1FE).irq PG_CPR 1).wr CPR_CLK_STAT_REF_OK 0).wr
    CPR_CLK_STAT_RUN 1
  hardFault 0x81 { h1.wr CPR_CLK_STAT_LOCK (8 * (h.rd CPR_CLK_STAT_LOCK / 8)) with
    cpr := { h1.cpr with clocksDead := true } }

/-- XTALFAIL (R60, R340): class INFO; the counter goes on from the oscillator. -/
def xtalLoss (h : Hw) : Hw :=
  if h.on CPR_CLKMON_XTALFAIL then h
  else (((h.wr CPR_CLKMON_XTALFAIL 1).irq PG_CPR 1).wr CPR_CLK_STAT_XTAL_OK 0).pushEntry 0 PG_CPR 17

/-- APP_DIVIDER_CHANGE (R61, R93). -/
def appDiv (who : Who) (w : Word) (h : Hw) : Hw :=
  h.cfgWrite who PG_CPR fun h => h.wr CPR_CLK_DIV_APP_DIV (getBits w 0 2)

/-- The blocks of a switchable clock domain (R91; the domain table of R58 and the architecture chapter). -/
def domainPages (dom : Nat) : List Nat :=
  if dom = 3 then [PG_TCE 0, PG_TCE 1] else if dom = 6 then [PG_ETH 0, PG_ETH 1, PG_SSE, PG_RDN]
  else if dom = 7 then [PG_CAN 0, PG_CAN 1, PG_CAN 2, PG_CAN 3] else if dom = 8 then [PG_VIS] else []

/-- CLOCK_DOMAIN_ENABLE (R91, R92): a clear is refused with CLKSEQ unless every block of the domain is QUIET or BOLTED;
PLL_N locks where NET comes on. DESIGN CHOICE (log entry 55): each bit is judged by itself, so that a refused clear
leaves the other bits of the same write to act. -/
def clockEnable (who : Who) (w : Word) (h : Hw) : Hw :=
  h.agent0 who PG_CPR 8 fun h =>
    let h1 := h.each [2, 3, 6, 7, 8] fun dom h =>
      let want := bit w.toNat dom
      let ok := (domainPages dom).all (fun p => h.absent p || h.quiet p || h.bolted p)
      if dom = 8 && !h.hasV then h
      else if want then h.setBitAt CPR_CLK_EN dom true
      else if !h.bitAt CPR_CLK_EN dom then h
      else if ok then h.setBitAt CPR_CLK_EN dom false
      else h.blockFault PG_CPR 10
    (h1.wr CPR_CLK_STAT_RUN (h1.nat CPR_CLK_EN)).cond (h1.on CPR_CLK_EN_NET) (·.setBitAt CPR_CLK_STAT 19 true)

/-! ## Operating time, agents (R63, R80) -/

/-- OPTIME_STEP (R63): 48 bits. -/
def opStep (h : Hw) : Hw := h.setPair CPR_OPTIME_LO ((h.opTime + 1) % 2 ^ 48)

/-- OPTIME_WRITE (R63): once per power-on or cold reset and before the agents are released; a lower value is ignored
and does not spend the write. -/
def opWriteTime (who : Who) (hi : Word) (h : Hw) : Hw :=
  h.opWrite who PG_CPR fun h =>
    let lo := (holderOf h.hdr.wrHold who.num CPR_OPTIME_LO).getD (h.reg CPR_OPTIME_LO)
    let v := lo.toNat + 4294967296 * getBits hi 0 16
    let h1 := { h with hdr := { h.hdr with wrHold := dropHolder h.hdr.wrHold who.num CPR_OPTIME_LO } }
    if h.cpr.optSpent || h.cpr.agtWritten || decide (v < h.opTime) then h1
    else { h1 with cpr := { h1.cpr with optSpent := true } }.setPair CPR_OPTIME_LO v

/-- AGENT_RESET_WRITE (R80, R88): agent 0 alone; the first write closes the operating-time window (R63); an agent whose
bit rises is reset (R429, R433), one whose bit falls is released. After a failed wipe agents 1 to 7
stay held (R78), in PROVISION the TCE cores (R108). -/
def agentReset (who : Who) (w : Word) (h : Hw) : Hw :=
  h.agent0 who PG_CPR 8 fun h =>
    let old := h.rd CPR_AGT_RST_AGT
    let ask := if h.rd CPR_WIPE_STAT_FAIL = 0 then getBits w 1 7 else 127
    let new := if h.mode = 0xD then ask ||| 0x30 else ask
    let h1 := { h with cpr := { h.cpr with agtWritten := true } }.wr CPR_AGT_RST_AGT new
    let h2 := h1.each ((List.range 7).filter fun i => bit new i && !bit old i) (fun i h => h.agentWasReset (i + 1))
    h2.each ((List.range 7).filter fun i => !bit new i && bit old i) (fun i h => h.agentFreed (i + 1))

/-! ## PARKED (R64 to R70, R111) -/

/-- PARKED entry starts (R64); the Ward writes it itself under R111. Step 1: QREQ in every block; SEC, whose QREQ is
reserved (R476), is asked to quiesce without the bit. ABORT, TMO and PAGE tell of the last entry aborted: a later entry
leaves them, ABORT and TMO until they are written 1, PAGE until the next timeout (DESIGN CHOICE, log entry 67). -/
def Hw.startPark (h : Hw) : Hw :=
  if h.cpr.parking || h.mode ≠ 4 then h
  else
    let l := allPages.filter fun p => p ≠ PG_CPR && !h.absent p && !h.on (BLK_CTL_QREQ p)
    let h1 := (h.wr CPR_PARK_REQ 1).each (l.filter fun p => !ctlFixed p) fun p h => h.wr (BLK_CTL_QREQ p) 1
    { h1 with cpr := { h1.cpr with parking := true, parkAt := false, parkQ := l } }.parkSteps

/-- PARK_REQUEST (R64, R95): agent 0 alone; ABORT and TMO clear where written 1. -/
def parkRequestW (who : Who) (w : Word) (h : Hw) : Hw :=
  h.agent0 who PG_CPR 8 fun h =>
    let h1 := (h.cond (getBits w 8 1 = 1) (·.wr CPR_PARK_ABORT 0)).cond (getBits w 9 1 = 1) (·.wr CPR_PARK_TMO 0)
    h1.cond (getBits w 0 1 = 1) Hw.startPark

/-- The entry rolls back (R64, R66): ABORT sets, the idle time restarts. -/
def Hw.abortPark (h : Hw) : Hw :=
  let h1 := (h.wr CPR_PARK_REQ 0).wr CPR_PARK_ABORT 1
  { h1 with sis := { h1.sis with parkIdle := false } }.unquiesce

/-- PARK_ENTRY_COMPLETE (R64, R65, R67): from READY, AON holds the outputs, the clocks and the PLLs stop, the device is
PARKED. Swaps asked for during the entry do not outlast it (R53). After a loss of the reference nothing of the entry or
of a wake happens any more (R60). -/
def parkDone (h : Hw) : Hw :=
  if h.cpr.parking && h.cpr.parkAt && h.allQuiet && h.mode = 4 && !h.cpr.clocksDead then
    let h1 := (((h.cancelSwaps.outsOff 0x3FF).setMode 3).wr CPR_PARK_REQ 0).wr CPR_CLK_STAT_LOCK 0
    { h1.wr CPR_CLK_STAT_RUN 1 with
      cpr := { h1.cpr with parking := false, aonHold := true, wakeBy := 0 },
      sis := { h1.sis with lag := false } }.onParked
  else h

/-- PARK_ENTRY_TIMEOUT (R64, R95): PAGE names the first block that was not QUIET, or 0x3F. -/
def parkTimeout (h : Hw) : Hw :=
  if h.cpr.parking && !h.cpr.clocksDead then
    let pg := (allPages.find? fun p => p ≠ PG_CPR && !h.absent p && !h.quiet p && h.on (BLK_CTL_EN p)).getD 0x3F
    (h.abortPark.wr CPR_PARK_TMO 1).wr CPR_PARK_PAGE pg
  else h

/-- The lowest bit of a mask. -/
def lowestBit (m : Nat) : Nat := ((List.range 32).find? (fun i => bit m i)).getD 0

/-- Wake sources are recorded (R68, R96); FIRST is the lowest of those recognised first. -/
def Hw.noteWake (h : Hw) (m : Nat) : Hw :=
  let h1 := (h.wr CPR_WAKE_SRC_SRC (h.rd CPR_WAKE_SRC_SRC ||| m)).cond (!h.cpr.waking) (·.wr CPR_WAKE_SRC_FIRST (lowestBit m))
  { h1 with cpr := { h1.cpr with wakeBy := h1.cpr.wakeBy ||| m } }

/-- Wake sources are recognised (R66, R68): before the clocks stop they abort the entry; in PARKED the wake starts. A wake
that meets a reset keeps its bits only (R75). -/
def wake (src : Nat) (h : Hw) : Hw :=
  let m := src &&& h.rd CPR_WAKE_EN_SRC &&& (if h.hasE2 then 0x1FF else 0x1F7)
  if m = 0 || h.cpr.clocksDead then h
  else if h.cpr.parking then h.abortPark.noteWake m
  else if h.mode = 3 then
    let h1 := h.noteWake m
    { h1 with cpr := { h1.cpr with waking := true } }
  else if h.mode = 1 then h.noteWake m
  else h

/-- A selected input differs from its snapshot (R68, bit 4). -/
def Hw.dinMoved (h : Hw) : Bool :=
  (h.cpr.parkAt || h.mode = 3) && ((h.cpr.din ^^^ h.cpr.dinSnap) &&& h.nat CPR_WAKE_DIN) ≠ 0

/-- WAKE_RECOGNISED (R68): the sources whose balls show their condition, and the CAN controllers whose RX shows the
pattern, which count under CANRX in place of the wake balls. Bits 5 and 6 are the parked watch's own. -/
def wakeEvent (sources rx : Nat) (h : Hw) : Hw :=
  let can := if h.on CPR_WAKE_EN_CANRX then rx % 4 else sources % 4
  wake (can + (sources &&& (if h.dinMoved then 0x19C else 0x18C))) h

/-- PARKED_WATCH_MOVE (R66, R70): MOVED above LIMIT, or a door-zone input that differs from its snapshot (`dz`: in three
samples), wakes as PW_MOVE; from the snapshot on it aborts an entry that is not yet done. -/
def parkedMove (dz : Bool) (h : Hw) : Hw :=
  if (h.mode = 3 || h.cpr.parkAt) && h.on CPR_PW_CFG_EN then
    let far := decide (h.rd CPR_PW_CFG_LIMIT < h.rd CPR_PW_STAT_MOVED)
    let i := h.rd CPR_PW_CFG_DZ_IDX
    let door := dz && h.on CPR_PW_CFG_DZ_EN && bit h.cpr.din i != bit h.cpr.dinSnap i
    let h1 := (h.cond far (·.wr CPR_PW_STAT_MOVE 1)).cond door (·.wr CPR_PW_STAT_DZ 1)
    if far || door then wake 0x20 h1 else h1
  else h

/-- PARKED_WATCH_TIMER (R68): PERIOD = 0 disables it. -/
def parkedTimer (h : Hw) : Hw :=
  if h.mode = 3 && h.on CPR_PW_CFG_EN && h.rd CPR_PW_CFG_PERIOD ≠ 0 then wake 0x40 (h.wr CPR_PW_STAT_TIMER 1) else h

/-- A PW_TIMER wake records the result of its self-test (R69, R343). The spec states neither the test's outcome nor a
reaction to a failed one: a free value (log entry 67). -/
def Hw.recordSelfTest (h : Hw) : Hw :=
  h.free fun w h => { h with cpr := { h.cpr with selfTest := some (w.getLsbD 0) } }

/-- WAKE_COMPLETE (R69, R343): READY, AON hands the outputs back; a PW_MOVE wake by count is a DEADBOLT-class fault
PARKMOVE, one by the door zone alone a NOTIFY. The sources are those recognised in this wake. -/
def wakeDone (h : Hw) : Hw :=
  if h.mode = 3 && h.cpr.waking && !h.cpr.clocksDead then
    let h0 := (h.setMode 4).irq PG_CPR 0
    let h1 := h0.wr CPR_CLK_STAT_LOCK (7 + 8 * h0.rd CPR_CLK_EN_NET)
    let h2 := { h1.wr CPR_CLK_STAT_RUN (h1.nat CPR_CLK_EN) with
      cpr := { h1.cpr with waking := false, aonHold := false }, sis := { h1.sis with parkIdle := false }
      rdn := { h1.rdn with woke := true }
      hsp := { h1.hsp with wake := true }
      tst := { h1.tst with wakeDue := h1.on TST_CFG_PWT && bit h.cpr.wakeBy 6 } }.unquiesce
    let h3 := h2.cond (bit h.cpr.wakeBy 6) Hw.recordSelfTest
    let pw := bit h.cpr.wakeBy 5
    if pw && h.on CPR_PW_STAT_MOVE then h3.pushEntry 5 PG_CPR 31
    else if pw && h.on CPR_PW_STAT_DZ then h3.pushEntry 1 PG_CPR 30
    else h3
  else h

/-! ## Event groups, PLIC (R97, R98) -/

/-- HINGE_GROUP_FIRE (R97): an operating register; every named group fires in one cycle. -/
def groupFire (who : Who) (w : Word) (h : Hw) : Hw :=
  h.opWrite who PG_CPR fun h => h.swapAll 3 (fun g => bit (getBits w 0 4) g)

/-- The source a claim of a context returns: the highest priority above 0, the lowest number among equals; 0 for none
(R98). The threshold masks the notification alone. DESIGN CHOICE (log entry 55): a source pends when the block's line goes
to any application core, and a context claims it only where BLK_IRQ_ROUTE names its own hart. -/
def Hw.plicBest (h : Hw) (c : Nat) : Nat :=
  let ok := (List.range 42).filter fun n => h.plicPending n && h.bitAt (PLIC_EN c (n / 32)) (n % 32) &&
    bit (h.rd (BLK_IRQ_ROUTE_AGT (n - 1))) (c / 2 + 1)
  (ok.foldl (fun b n => if b.2 < h.rd (PLIC_PRIO_PRIO n) then (n, h.rd (PLIC_PRIO_PRIO n)) else b) (0, 0)).1

/-- The interrupt of a context: what it would claim lies above its threshold (R98). -/
def Hw.plicNotify (h : Hw) (c : Nat) : Bool :=
  decide (h.rd (PLIC_THR_THR c) < h.rd (PLIC_PRIO_PRIO (h.plicBest c))) && h.plicBest c ≠ 0

/-- PLIC_CLAIM (R98): the pending bit clears, and the source stays closed until its completion. -/
def plicClaimR (c : Nat) (h : Hw) : Hw :=
  let n := h.plicBest c
  let h1 := h.plicLatch.answer [BitVec.ofNat 32 n]
  if n = 0 then h1
  else { h1 with cpr := { h1.cpr with plicIp := setBitN h1.cpr.plicIp n false, plicBusy := setBitN h1.cpr.plicBusy n true } }

/-- PLIC_COMPLETE (R98): a source that is enabled for the context opens again; any other number is ignored. -/
def plicDone (who : Who) (c : Nat) (w : Word) (h : Hw) : Hw :=
  h.cfgWrite who PG_CPR fun h =>
    let n := w.toNat
    if n < 42 ∧ h.bitAt (PLIC_EN c (n / 32)) (n % 32) then
      { h.plicLatch with cpr := { h.plicLatch.cpr with plicBusy := setBitN h.cpr.plicBusy n false } }
    else h

end Sys2Proof.Machine
end

