-- ==== Sys2Proof/Machine/Security.lean ====
section
/-! DEFINITION. SEC: what its page shows of the fuses, orders and release tokens, map sealing, the key exchange and the
keyway session (R459 to R477). Body layouts that the spec leaves open are log entry 12. -/

namespace Sys2Proof.Machine

/-! ## The fuses (R459, R469, R477) -/

/-- STATE of R469: the last transition that is DONE. -/
def OtpState.lc (o : OtpState) : Nat :=
  if bit o.done 3 then 4 else if bit o.done 2 then 3 else if bit o.done 1 then 2 else if bit o.done 0 then 1 else 0

/-- A transition is under way (R472). -/
def OtpState.pend (o : OtpState) : Bool := o.intent ≠ o.done

/-- SEC_LCS. -/
def Hw.secLcs (h : Hw) : Nat :=
  h.otp.lc + 16 * b2n h.otp.pend + 256 * h.otp.done + 65536 * h.otp.intent + 2147483648 * b2n h.cpr.provFlag

/-- SEC_OTP_OPT. -/
def Hw.secOpt (h : Hw) : Nat :=
  b2n h.env.dbPwrrel + 2 * b2n h.env.dbDoor + 4 * b2n h.otp.flashEnc + 8 * b2n h.otp.kwOff + 16 * h.otp.oemRev

/-- VALID of SEC_KS. -/
def Hw.keysValid (h : Hw) : Nat := maskOf 4 fun k => (h.stored k).isSome

/-- A key goes into the key store, which is wrapped anew (R460). DESIGN CHOICE (log entry 67): over a store that did not
unwrap, it is the only one. -/
def Hw.storeKey (h : Hw) (k : Nat) (v : List Byte) : Hw :=
  let l := if h.on SEC_KS_WRAPOK then h.otp.keys else List.replicate 4 none
  { h.wr SEC_KS_WRAPOK 1 with otp := { h.otp with keys := l.set k (some v) } }

/-- The slot of the OEM key whose hash a public key has, not revoked; the lowest. -/
def OtpState.oemSlot (o : OtpState) (pub : List Byte) : Option Nat :=
  (List.range 4).find? fun i => !bit o.oemRev i && o.oempk.getD i [] = Config.sha384 pub

/-! ## Orders (R465) -/

/-- An order in memory. -/
structure Order where
  typ : Nat
  devuid : List Byte
  notAfter : Nat
  nonce : Nat
  body : List Byte
  pub : List Byte
  sig : List Byte
  signed : List Byte
  deriving DecidableEq, Repr

/-- The order at address `a`, if it lies in the shared SRAM. -/
def Dev.orderAt (d : Dev) (a : Nat) : Option Order :=
  let n := memNat d.mem (a + 2) 2
  if inSram a (32 + n + 192) then
    some { typ := memNat d.mem a 2, devuid := memReadBytes d.mem (a + 4) 16, notAfter := memNat d.mem (a + 20) 6,
           nonce := memNat d.mem (a + 28) 4, body := memReadBytes d.mem (a + 32) n,
           pub := memReadBytes d.mem (a + 32 + n) 96, sig := memReadBytes d.mem (a + 128 + n) 96,
           signed := memReadBytes d.mem a (32 + n) }
  else none

/-- The order in work: at SEC_ORD_ADDR as of GO. -/
def Dev.order (d : Dev) : Option Order := d.orderAt d.hw.sec.ordAddr

/-- The body length an order type needs; none for an unknown type. -/
def bodyLen (t : Nat) : Option Nat := [none, some 0, some 1, some 157, some 112, some 4, some 1].getD t none

/-- The first byte of a body: target state, key slot, OEMPK slot. -/
def Order.arg (o : Order) : Nat := (o.body.getD 0 0).toNat

/-- A pair of states of R470. -/
def lcPair (from' to' : Nat) : Bool :=
  (from' = 0 && to' = 1) || (from' = 1 && to' = 2) || ((from' = 1 || from' = 2) && to' = 3) ||
    (decide (from' ≤ 3) && to' = 4)

/-- The public key is one that may sign this order. -/
def OtpState.mayOrder (s : OtpState) (o : Order) : Bool :=
  let oem := s.oemSlot o.pub
  let root := decide (Config.sha384 o.pub = Config.rootKeyHash)
  if o.typ = 2 then (if o.arg = 1 then root else if o.arg = 4 then root || oem.isSome else oem.isSome)
  else if o.typ = 6 then oem.elim false fun i => decide (i < o.arg)
  else oem.isSome

/-- The mode, and for LC the life-cycle state, accept the order. -/
def Hw.orderMode (h : Hw) (o : Order) : Bool :=
  h.otp.lc ≠ 4 &&
    (if o.typ = 1 then (h.mode = 4 || h.mode = 0xC) && h.bitAt SIS_COND 6
     else if o.typ = 5 then true
     else h.mode = 0xD && (o.typ ≠ 2 || lcPair h.otp.lc o.arg))

/-- SEC_ORD_RES.CODE of an order; the checks in this order are log entry 12. KEYLOAD loads K0 to K2, PAIR K3 (R460). -/
def Hw.orderCode (h : Hw) (o : Order) : Nat :=
  if bodyLen o.typ ≠ some o.body.length || (o.typ = 3 && decide (2 < o.arg)) ||
      (o.typ = 6 && decide (3 < o.arg)) then 7
  else if !h.otp.mayOrder o then 2
  else if !Config.ecdsaOk o.pub (Config.sha384 o.signed) o.sig then 1
  else if o.devuid ≠ h.otp.devuid then 3
  else if o.nonce ≠ h.nat SEC_ORD_NONCE then 4
  else if o.notAfter < h.opTime then 5
  else if !h.orderMode o then 6
  else 0

/-- A verdict: RES, BUSY, a fresh nonce, the interrupt; AUTHF where the signature, the key or what binds the order to
this device and time fails. -/
def Hw.verdict (h : Hw) (typ code : Nat) : Hw :=
  let h1 := ((h.setNat SEC_ORD_RES (0x80000000 + 256 * typ + code)).wr SEC_ORD_CTL_BUSY 0).irq PG_SEC 0
  (h1.free fun n h => h.setReg SEC_ORD_NONCE n).cond (decide (1 ≤ code ∧ code ≤ 5)) (·.blockFault PG_SEC 10)

/-- The order in work is of type `t`: its verdict and, where that is OK, its effect. -/
def Dev.onOrder (d : Dev) (t : Nat) (f : Order → Dev → Dev) : Dev :=
  match d.order with
  | none => d
  | some o =>
    if d.hw.on SEC_ORD_CTL_BUSY && !d.hw.on SEC_ORD_CTL_KIND && o.typ = t then
      if d.hw.orderCode o = 0 then f o d else { d with hw := d.hw.verdict t (d.hw.orderCode o) }
    else d

def Dev.verdict (d : Dev) (typ code : Nat) : Dev := { d with hw := d.hw.verdict typ code }

/-- A write of SEC_ORD_CTL: GO starts the order or token; an order without a type of R465, or that does not lie in the
shared SRAM, is FORMAT at once. -/
def orderWrite (who : Who) (w : Word) (d : Dev) : Dev :=
  let h := d.hw.agent0 who PG_SEC 8 fun h =>
    if h.on SEC_ORD_CTL_BUSY then h
    else
      let h1 := h.wr SEC_ORD_CTL_KIND (getBits w 1 1)
      if getBits w 0 1 = 0 then h1
      else
        let h2 := { (h1.wr SEC_ORD_CTL_BUSY 1).wr SEC_ORD_RES_VALID 0 with
          sec := { h1.sec with ordAddr := h1.nat SEC_ORD_ADDR } }
        match d.orderAt (d.hw.nat SEC_ORD_ADDR) with
        | none => if getBits w 1 1 = 0 then h2.verdict 0 7 else h2
        | some o => if getBits w 1 1 = 0 && bodyLen o.typ = none then h2.verdict o.typ 7 else h2
  { d with hw := h }

/-- ORDER_PROVISION: the PROVISION flag, then a cold reset (R104). -/
def ordProvision (d : Dev) : Dev :=
  d.onOrder 1 fun _ d =>
    let d1 := d.verdict 1 0
    let h := { d1.hw with cpr := { d1.hw.cpr with provFlag := true } }
    Dev.coldReset { d1 with hw := h } CPR_RST_CAUSE_LIFECYC

/-- ORDER_KEYLOAD: the key under HKDF of the ECDH secret; a tag that fails is KEY. -/
def ordKeyload (d : Dev) : Dev :=
  d.onOrder 3 fun o d =>
    let b := o.body.drop 1
    let kek := Config.hkdf (Config.dakEcdh d.hw.otp.duk (b.take 96)) [] [] 32
    match Config.gcmOpen kek ((b.drop 96).take 12) [] ((b.drop 108).take 32) ((b.drop 140).take 16) with
    | none => d.verdict 3 2
    | some key =>
      { d with hw := (d.hw.verdict 3 0).storeKey o.arg key }

/-- ORDER_PAIR (R467). -/
def ordPair (d : Dev) : Dev :=
  d.onOrder 4 fun o d =>
    let own := d.hw.otp.devuid
    let other := o.body.take 16
    let ids := if d.hw.on CPR_STRAP_UNIT_AB then other ++ own else own ++ other
    let pk := Config.hkdf (Config.dakEcdh d.hw.otp.duk (o.body.drop 16)) ids (ascii "PAIR") 32
    { d with hw := (d.hw.verdict 4 0).storeKey 3 pk }

/-- ORDER_SVN: the floor rises. -/
def ordSvn (burnOk : Bool) (d : Dev) : Dev :=
  d.onOrder 5 fun o d =>
    let v := ofLE o.body
    if 64 < v then d.verdict 5 7
    else if !burnOk then { d with hw := (d.hw.verdict 5 8).blockFault PG_SEC 12 }
    else
      let h := d.hw.verdict 5 0
      { d with hw := { h with otp := { h.otp with floor := max h.otp.floor v } } }

/-- ORDER_REVOKE. -/
def ordRevoke (burnOk : Bool) (d : Dev) : Dev :=
  d.onOrder 6 fun o d =>
    if !burnOk then { d with hw := (d.hw.verdict 6 8).blockFault PG_SEC 12 }
    else
      let h := d.hw.verdict 6 0
      { d with hw := { h with otp := { h.otp with oemRev := setBitN h.otp.oemRev o.arg true } } }

/-! ## Life-cycle transitions (R470 to R473) -/

/-- The return seal. -/
def Dev.sealBytes (d : Dev) : List Byte :=
  let h := d.hw
  let dig := Config.sha384 (memReadBytes d.mem 0x60000000 256 ++ memReadBytes d.mem (0x60000000 + 512 * 64) (261632 * 64))
  let b := leBytes 4 0x4C414553 ++ h.otp.devuid ++ leBytes 6 h.opTime ++ leBytes 2 0 ++ leBytes 4 (h.nat REC_SEQ) ++ dig
  let s := (b ++ Config.dakSign h.otp.duk (Config.sha384 b) ++ List.replicate 252 0).take 252
  s ++ leBytes 4 (crc32c s)

/-- The work of a transition to state `t` (R470): it may be repeated. OEM begins with an empty key store. -/
def Dev.lcWork (t : Nat) (d : Dev) : Dev :=
  if t = 1 then { d with hw := { d.hw with otp := { d.hw.otp with keys := List.replicate 4 none } } }
  else if t = 3 then { d with mem := memWriteBytes d.mem 0x60000100 d.sealBytes }
  else if t = 4 then
    { d with mem := memWriteBytes (memClear d.mem 0x60000000 0x61000000) 0x60000000 (List.replicate 256 0) }
  else d

/-- INTENT burns; the bits of RETURN and SCRAPPED make every stored key unreadable (R460). -/
def Dev.burnIntent (t : Nat) (d : Dev) : Dev :=
  let o := d.hw.otp
  let keys := if t = 3 ∨ t = 4 then List.replicate 4 none else o.keys
  { d with hw := { d.hw with otp := { o with intent := setBitN o.intent (t - 1) true, keys := keys } } }

/-- Steps 4 and 5 of R471: DONE, the flag cleared, the cold reset. -/
def Dev.lcFinish (t : Nat) (d : Dev) : Dev :=
  let o := d.hw.otp
  let h := { d.hw with
    otp := { o with done := setBitN o.done (t - 1) true }
    cpr := { d.hw.cpr with provFlag := false } }
  Dev.coldReset { d with hw := h } CPR_RST_CAUSE_LIFECYC

/-- ORDER_LC. -/
def ordLc (burn : LcBurn) (d : Dev) : Dev :=
  d.onOrder 2 fun o d =>
    let t := o.arg
    match burn with
    | .intentFails => { d with hw := (d.hw.verdict 2 8).blockFault PG_SEC 12 }
    | .cutShort => (d.verdict 2 0).burnIntent t
    | .doneFails =>
      let d1 := ((d.verdict 2 8).burnIntent t).lcWork t
      { d1 with hw := d1.hw.blockFault PG_SEC 12 }
    | .complete => (((d.verdict 2 0).burnIntent t).lcWork t).lcFinish t

/-- The transition that a boot finds under way (R472). -/
def OtpState.pending (o : OtpState) : Option Nat :=
  ((List.range 4).find? fun i => bit o.intent i && !bit o.done i).map (· + 1)

/-! ## Release tokens (R346, R347) -/

/-- Codes of a token, in the numbering of SEC_ORD_RES. A token carries no public key (R346): the signature is judged against
what SRVPK names (log entry 67). -/
def Dev.tokenCode (d : Dev) : Nat :=
  let h := d.hw
  let a := h.sec.ordAddr
  let cause := memNat d.mem (a + 20) 1
  if !inSram a 128 then 7
  else if !Config.ecdsaOk h.otp.srvpk (Config.sha384 (memReadBytes d.mem a 32)) (memReadBytes d.mem (a + 32) 96) then 1
  else if memReadBytes d.mem a 16 ≠ h.otp.devuid then 3
  else if memNat d.mem (a + 16) 4 ≠ h.nat SIS_DB_NONCE || (cause ≠ 0xFF && cause ≠ h.rd SIS_DB_STAT_CAUSE) then 4
  else if memNat d.mem (a + 22) 6 < h.opTime then 5
  else 0

/-- TOKEN_SUBMIT: a token that passes sets TOKOK. -/
def tokenVerdict (d : Dev) : Dev :=
  let h := d.hw
  if h.on SEC_ORD_CTL_BUSY && h.on SEC_ORD_CTL_KIND then
    let c := d.tokenCode
    let h1 := h.verdict 0 c
    { d with hw := h1.cond (decide (c = 0)) fun h => (h.wr SIS_DB_STAT_TOKOK 1).irq PG_SIS 4 }
  else d

/-! ## Map pages (R466) -/

/-- A write of SEC_MAP_CMD: GO starts a command; one that finds another in work waits behind it. -/
def mapCommand (who : Who) (w : Word) (h : Hw) : Hw :=
  h.opWrite who PG_SEC fun h =>
    let h1 := ((h.wr SEC_MAP_CMD_OP (getBits w 24 2)).wr SEC_MAP_CMD_SLOT (getBits w 16 7)).wr SEC_MAP_CMD_PAGE
      (getBits w 0 10)
    h1.cond (getBits w 30 1 = 1) fun h =>
      let j : MapJob := ⟨getBits w 24 2, getBits w 16 7, getBits w 0 10, h.nat SEC_MAP_TRL, h.nat SEC_MAP_DST⟩
      if h.on SEC_MAP_CMD_BUSY then { h with sec := { h.sec with mapJobs := h.sec.mapJobs ++ [j] } }
      else { (h.wr SEC_MAP_CMD_BUSY 1).wr SEC_MAP_RES_VALID 0 with sec := { h.sec with mapJobs := [j], mapRes := none } }

/-- The command in work, if it is of operation `op`, has no result yet, and the lane reaches the flash (R480). -/
def Hw.mapJob (h : Hw) (op : Nat) : Option MapJob :=
  h.sec.mapJobs.head?.filter fun j => h.on SEC_MAP_CMD_BUSY && j.op = op && h.sec.mapRes.isNone && h.laneRuns

def Hw.mapResult (h : Hw) (c : Nat) : Hw := { h with sec := { h.sec with mapRes := some c } }

/-- Bytes of a SEC engine into memory: outside the part's memories the bus takes nothing (R7); the engine is no agent, the
protection of R466 does not hold it up. -/
def Dev.secStore (d : Dev) (a : Nat) (b : List Byte) : Dev :=
  if d.hw.busRam a b.length then { d with mem := memWriteBytes d.mem a b } else d

/-- MAP_SEAL: ciphertext to SEC_MAP_DST, trailer to SEC_MAP_TRL. Without MK the command ends as TAG (log entry 12). -/
def sealPage (d : Dev) : Dev :=
  let h := d.hw
  match h.mapJob 1 with
  | none => d
  | some j =>
    match h.stored 1 with
    | none => { d with hw := h.mapResult 1 }
    | some mk =>
      let k := j.page
      let (nonce, h1) := h.draw 3
      let head := leBytes 2 k ++ leBytes 2 1 ++ leBytes 4 (h.pgen k) ++ leBytes 2 (h.rd MAP_GEN_GEN) ++ leBytes 2 0
      let (page, d1) := { d with hw := h1 : Dev }.blockLoad (h.pagePlace k) 65536
      let (ct, tag) := Config.gcmSeal mk nonce head page
      let tr := (head ++ nonce ++ tag.take 16 ++ List.replicate 40 0).take 64
      (Dev.secStore { d1 with hw := d1.hw.mapResult 0 } j.dst (ct.take 65536)).secStore j.trl tr

/-- MAP_OPEN: a pool slot in place; on a pass its POOL_AUTH bit sets. -/
def openSlot (d0 : Dev) : Dev :=
  match d0.hw.mapJob 2 with
  | none => d0
  | some j =>
    if d0.hw.slotUsed j.slot then { d0 with hw := d0.hw.mapResult 4 }
    else
      let (tb, d) := d0.blockLoad j.trl 64
      let h := d.hw
      if !bit (ofLE ((tb.drop 2).take 2)) 0 then { d with hw := h.mapResult 3 }
      else if ofLE (tb.take 2) ≠ j.page then { d with hw := h.mapResult 2 }
      else
        let (ct, d1) := d.blockLoad (poolBase j.slot) 65536
        match (h.stored 1).bind fun mk => Config.gcmOpen mk ((tb.drop 12).take 12) (tb.take 12) ct ((tb.drop 24).take 16) with
        | none => { d1 with hw := d1.hw.mapResult 1 }
        | some p => Dev.secStore { d1 with hw := (d1.hw.mapResult 0).setPoolAuth j.slot true } (poolBase j.slot) (p.take 65536)

/-- MAP_COMMAND_DONE: the result stands, and a command that has waited is next. An operation other than SEAL and OPEN has no
work. -/
def mapDone (h : Hw) : Hw :=
  if h.on SEC_MAP_CMD_BUSY then
    match h.sec.mapRes with
    | none => h
    | some c =>
      let l := h.sec.mapJobs.tail
      let h1 := ((h.wr SEC_MAP_CMD_BUSY (b2n (decide (l ≠ [])))).setNat SEC_MAP_RES (0x80000000 + c)).irq PG_SEC 1
      { h1 with sec := { h1.sec with mapJobs := l, mapRes := none } }
  else h

/-! ## Key exchange (R468) -/

/-- A write of SEC_SKX_CTL. -/
def skxWrite (who : Who) (w : Word) (h : Hw) : Hw :=
  h.opWrite who PG_SEC fun h =>
    if h.on SEC_SKX_CTL_BUSY then h
    else (h.wr SEC_SKX_CTL_OP (getBits w 24 2)).cond (getBits w 30 1 = 1) fun h =>
      { h.wr SEC_SKX_CTL_BUSY 1 with sec := { h.sec with skxAddr := h.nat SEC_SKX_ADDR } }

/-- The exchange in work is `op`: it ends with a result. -/
def Dev.onSkx (d : Dev) (op : Nat) (f : List Byte → Dev → Dev × Nat) : Dev :=
  if d.hw.on SEC_SKX_CTL_BUSY && d.hw.rd SEC_SKX_CTL_OP = op then
    let (d1, c) := match d.hw.stored 2 with
      | none => (d, 2)
      | some ik => f ik d
    { d1 with hw := ((d1.hw.wr SEC_SKX_CTL_BUSY 0).wr SEC_SKX_CTL_RES c).irq PG_SEC 4 }
  else d

/-- KEY_EXCHANGE_REQUEST: a challenge to the buffer. -/
def skxRequest (d : Dev) : Dev :=
  d.onSkx 1 fun _ d =>
    let (c, h) := d.hw.draw 8
    (Dev.secStore { d with hw := { h with sec := { h.sec with skx := c } } } h.sec.skxAddr c, 0)

/-- The VIDs of the connections that this unit produces. -/
def Hw.ownVids (h : Hw) : List Byte :=
  (((List.range 64).filter fun k => h.on (SSE_Ck_CFG_EN k) && h.on (SSE_Ck_CFG_DIR k)).map fun k =>
    leBytes 4 (h.nat (SSE_Ck_VID k))).flatten

/-- KEY_EXCHANGE_ANSWER: behind the challenge in the buffer stand BOOTNONCE, the number of VIDs, the VIDs and the MAC
(log entry 12). -/
def skxAnswer (d : Dev) : Dev :=
  d.onSkx 2 fun ik d =>
    let a := d.hw.sec.skxAddr
    let (c, d1) := d.blockLoad a 32
    let h := d1.hw
    let v := h.ownVids
    let mac := Config.hmac ik (c ++ h.sec.bootNonce ++ v)
    (d1.secStore (a + 32) (h.sec.bootNonce ++ leBytes 4 (v.length / 4) ++ v ++ mac.take 48), 0)

/-- A consumer connection takes the key of its VID; another key than before starts its counter afresh (R415). -/
def Hw.installKey (h : Hw) (ik nonce : List Byte) (k : Nat) : Hw :=
  let x := h.conn k
  let key := skoveKey ik nonce (h.nat (SSE_Ck_VID k))
  let y : SseConn := if x.key = some key then x else { x with key := some key, last := none, seen := 0, first := true, run := 0 }
  (h.setConn k y).wr (SSE_Ck_STAT_KEYERR k) 0

/-- KEY_EXCHANGE_ACCEPT: the MAC over the own challenge, then keys for the VIDs that this unit consumes. -/
def skxAccept (d : Dev) : Dev :=
  d.onSkx 3 fun ik d =>
    let (b, d) := d.blockLoad (d.hw.sec.skxAddr + 32) 340
    let h := d.hw
    let nonce := b.take 32
    let n := min (ofLE ((b.drop 32).take 4)) 64
    let v := (b.drop 36).take (4 * n)
    if Config.hmac ik (h.sec.skx ++ nonce ++ v) = (b.drop (36 + 4 * n)).take 48 then
      let vids := (List.range n).map fun i => ofLE ((v.drop (4 * i)).take 4)
      let ks := (List.range 64).filter fun k => h.on (SSE_Ck_CFG_EN k) && !h.on (SSE_Ck_CFG_DIR k) && h.nat (SSE_Ck_VID k) ∈ vids
      ({ d with hw := h.each ks fun k h => h.installKey ik nonce k }, 0)
    else (d, 1)

/-! ## The keyway (R474, R475) -/

/-- A permission of the open session: 0 READ, 1 WRITE, 2 HALT, 3 RESET, 4 MRAM. -/
def Hw.perm (h : Hw) (b : Nat) : Bool := h.on SEC_KW_STAT_OPEN && bit (h.rd SEC_KW_STAT_PERM) b

/-- KEYWAY_CHALLENGE: the 64 bytes; none within 1 s of a failed response, none while the device is in RESET or OFF. -/
def kwChallenge (h : Hw) : Hw :=
  let wait := h.sec.failAt.elim false fun t => decide (h.opTime < t + 16)
  if wait || h.mode ≤ 1 then h
  else
    let (n, h1) := h.draw 8
    let c := h.otp.devuid ++ leBytes 4 h.secLcs ++ leBytes 4 h.secOpt ++ n ++ leBytes 6 h.opTime ++ leBytes 2 0
    { (h1.tapLoad 0x20).answer (packWords c) with sec := { h1.sec with challenge := some c } }

/-- The key hash that opens a session in a life-cycle state (R469). -/
def OtpState.kwKey (o : OtpState) : Option (List Byte) :=
  if o.lc = 0 then some Config.rootKeyHash
  else if o.lc = 1 then some o.dbgpk
  else if o.lc = 2 then (if o.kwOff then none else some o.dbgpk)
  else if o.lc = 3 then some Config.returnKeyHash
  else none

/-- KEYWAY_RESPONSE: PERM, NOTAFTER, PUBKEY and SIG over the challenge, PERM and NOTAFTER. -/
def kwResponse (b : List Byte) (h : Hw) : Hw :=
  match h.sec.challenge with
  | none => h
  | some c =>
    let h0 := { h with sec := { h.sec with challenge := none } }
    let pub := (b.drop 12).take 96
    let ok := decide (b.length = 204) && decide (h.otp.kwKey = some (Config.sha384 pub)) &&
      Config.ecdsaOk pub (Config.sha384 (c ++ b.take 12)) (b.drop 108)
    if ok then
      let p := ofLE (b.take 4) % 32
      let h1 := { h0 with sec := { h0.sec with notAfter := ofLE ((b.drop 4).take 8) } }
      (((h1.wr SEC_KW_STAT_OPEN 1).wr SEC_KW_STAT_PERM (if h.otp.lc = 3 then p &&& 0x11 else p)).wr SEC_KW_STAT_DENIED 0).irq
        PG_SEC 2
    else { h0 with sec := { h0.sec with failAt := some h.opTime } }.blockFault PG_SEC 11

/-- KEYWAY_SESSION_EXPIRY. -/
def kwExpire (h : Hw) : Hw := if h.sec.notAfter ≤ h.opTime then h.kwEnd else h

/-- KEYWAY_CLOSE. -/
def kwClose (who : Who) (w : Word) (h : Hw) : Hw :=
  h.agent0 who PG_SEC 8 fun h => h.cond (getBits w 8 1 = 1) Hw.kwEnd

/-- KEYWAY_RESET (R71): the reset command of a session with RESET. -/
def kwReset (d : Dev) : Dev := if d.hw.perm 3 then d.coldReset CPR_RST_CAUSE_KEYWAY else d

/-- Whether a keyway write of address `a` lies inside the scope of the session (R475). -/
def Hw.kwScope (h : Hw) (a : Nat) : Bool :=
  let page := pageOf a
  let periph := decide (0x40000000 ≤ a) && decide (a < 0x41000000)
  h.perm 1 && !(periph && (page = PG_SIS || page = PG_SEC)) &&
    !(h.otp.lc = 2 && !h.haltMode)

end Sys2Proof.Machine
end

