-- ==== Sys2Proof/Machine/SelfTest.lean ====
section
/-! DEFINITION. TST: the patterns of BLK_TEST, the sequences of TST_CMD, of the wake test and of the rolling test, and
the boundary scan (R500 to R511). -/

namespace Sys2Proof.Machine

/-! ## Patterns (R500, R501) -/

def patMemt : Nat := 1
def patMemd : Nat := 2
def patLogic : Nat := 3
def patEcc : Nat := 4

/-- The listed run times in µs of MEMT, MEMD, LOGIC and ECC (R501); 0 for a pattern that the block lacks. -/
def runTimes (p : Nat) : List Nat :=
  if p = PG_TCE 0 ∨ p = PG_TCE 1 then [900, 650, 2000, 50]
  else if p = PG_POS then [50, 40, 800, 10]
  else if p = PG_MAP then [0, 0, 1000, 0]
  else if p = PG_PRF ∨ p = PG_DOR then [0, 0, 800, 0]
  else if p = PG_PST then [0, 0, 1200, 0]
  else if p = PG_STQ ∨ p = PG_HSP then [0, 0, 300, 0]
  else if p = PG_XSP then [0, 0, 500, 0]
  else if p = PG_VIS then [1100, 800, 3000, 100]
  else if PG_CAN 0 ≤ p ∧ p ≤ PG_CAN 3 then [750, 550, 1000, 50]
  else if p = PG_ETH 0 ∨ p = PG_ETH 1 then [700, 510, 1500, 50]
  else if p = PG_SSE then [100, 70, 800, 20]
  else if p = PG_RDN then [200, 150, 1000, 20]
  else if p = PG_REC then [20, 20, 600, 10]
  else []

/-- The listed run time of pattern `pat` on page `p`. -/
def runTime (p pat : Nat) : Nat := if pat = 0 then 0 else (runTimes p).getD (pat - 1) 0

/-- The block has memories of its own that a pattern tests. -/
def hasMemory (p : Nat) : Bool := runTime p patMemt ≠ 0

/-- R501 lists the block. -/
def hasTest (p : Nat) : Bool := runTimes p ≠ []

/-- The block has pattern `pat`. -/
def hasPattern (p pat : Nat) : Bool := runTime p pat ≠ 0

/-- START on a bolted block: a run of the pattern begins, whatever PAT is written later (R50), or ends at once with NOPAT.
While BUSY it is ignored (R502). -/
def Hw.bistGo (h : Hw) (p pat : Nat) : Hw :=
  if h.on (BLK_TEST_BUSY p) || !h.bolted p then h
  else
    let h0 := h.wr (BLK_TEST_PAT p) pat
    let h1 := { h0 with hdr := { h0.hdr with runs := (p, pat) :: h0.hdr.runs.filter fun x => decide (x.1 ≠ p) } }
    if hasPattern p pat then ((h1.wr (BLK_TEST_BUSY p) 1).wr (BLK_TEST_PASS p) 0).wr (BLK_TEST_FAIL p) 0
    else h1.testResult p false false 2 0

/-- BIST_START: a write of BLK_TEST. PAT takes the written value; START is ignored while a
run is in progress. -/
def bistWrite (who : Who) (p : Nat) (w : Word) (h : Hw) : Hw :=
  h.hdrWrite who p fun h =>
    let h1 := h.wr (BLK_TEST_PAT p) (getBits w 8 8)
    h1.cond (getBits w 0 1 = 1) (·.bistGo p (getBits w 8 8))

/-- What MEMD leaves: the memories of the block zero, its registers and so the fill of its queues as they were; AUTH of a
core cleared. -/
def Dev.memZero (p : Nat) (d : Dev) : Dev :=
  let h := d.hw
  if p = PG_TCE 0 ∨ p = PG_TCE 1 then
    let c := p - PG_TCE 0
    { hw := h.wr (TCE_STAT_AUTH c) 0, mem := memClear d.mem (progBase c) (progBase c + 0x30000) }
  else if p = PG_POS then
    { d with hw := { h with pos := { h.pos with
      q := h.pos.q.map fun c => { c with ring := c.ring.map fun _ => ⟨0, 0⟩ }
      dcap := h.pos.dcap.map fun _ => ⟨0, false, 0, 0⟩ } } }
  else if PG_CAN 0 ≤ p ∧ p ≤ PG_CAN 3 then
    let c := p - PG_CAN 0
    let objs := (List.range 128).flatMap fun n => (List.range 20).map fun k => CAN_OBJn_W0 c n + 4 * k
    let zero := fun (q : List (List Word)) => q.map fun e => e.map fun _ => 0
    let h1 := h.setCn c { h.cn c with q0 := zero (h.cn c).q0, q1 := zero (h.cn c).q1, hold := none }
    { d with hw := h1.each objs fun a h => h.setReg a 0 }
  else if p = PG_ETH 0 ∨ p = PG_ETH 1 then
    let c := p - PG_ETH 0
    { d with hw := h.setPort c { h.port c with txq := [] } }
  else if p = PG_SSE then
    { d with hw := { h with sse := h.sse.map fun x => { SseConn.init with on := x.on, held := x.held, key := x.key } } }
  else if p = PG_RDN then { d with hw := { h with rdn := { h.rdn with segs := [], play := [], outs := [] } } }
  else if p = PG_REC then
    let q := h.rcd.queue.map fun _ => (⟨0, 0, 0, 0, false, 0, 0, false, false, false, []⟩ : Record)
    { d with hw := { h with rcd := { h.rcd with queue := q } } }
  else d

/-- What a pattern that has run leaves in the block. -/
def Dev.patternLeaves (p pat : Nat) (d : Dev) : Dev :=
  if pat = patMemd then d.memZero p
  else if pat = patLogic then
    if p = PG_TCE 0 ∨ p = PG_TCE 1 then
      { d with hw := d.hw.logicCore (p - PG_TCE 0) }
    else { d with hw := d.hw.logicReset p }
  else d

/-! ## Sequences (R505 to R507) -/

/-- The page's result ends the run in progress, or the next pattern or page goes on. -/
def Hw.tstStage (h : Hw) (s : TstStage) : Hw := { h with tst := { h.tst with stage := s } }

/-- The run of TST is over. -/
def Hw.tstFinish (h : Hw) : Hw :=
  let h1 := { h with tst := { h.tst with stage := .idle, todo := [] } }
  match h.tst.kind with
  | .command => (h1.wr TST_CMD_BUSY 0).irq PG_TST 0
  | .wakeTest => h1
  | .rolling => (h1.wr TST_ROLL_STAT_ACTIVE 0).irq PG_TST 1

/-- A page without the Ward's grant: NOGRANT, nothing changed. -/
def Hw.tstNoGrant (h : Hw) (p pat : Nat) : Hw :=
  h.setNat TST_RES (0x80000000 + 65536 * p + 256 * pat + 1)

/-- TST works the pages in turn: QREQ, then, quiet and granted, BOLT and START. A page without the grant ends a command or a
step; a list goes on with its next page. -/
def Hw.tstPages : List (Nat × List Nat) → Hw → Hw
  | [], h => h.tstFinish
  | (_, []) :: l, h => Hw.tstPages l h
  | (p, pat :: r) :: l, h =>
    let h1 := { h.wr (BLK_CTL_QREQ p) 1 with tst := { h.tst with todo := (p, pat :: r) :: l } }
    if h1.bolted p then (h1.tstStage .pattern).bistGo p pat
    else if !h1.quiet p then h1.tstStage .quiet
    else if h1.boltGrant p then
      let h2 := (((h1.plicLatch.wr (BLK_CTL_BOLT p) 1).wr (BLK_STAT_BOLTED p) 1).wr (BLK_STAT_RUN p) 0).onBolt p
      (h2.tstStage .pattern).bistGo p pat
    else
      let h2 := ((h1.wr (BLK_CTL_QREQ p) 0).cond (h1.on (BLK_CTL_EN p)) (·.toRun p)).tstNoGrant p pat
      if h2.tst.kind = .wakeTest then Hw.tstPages l h2 else h2.tstFinish

/-- TST goes on with what it has to do. -/
def Hw.tstPage (h : Hw) : Hw := Hw.tstPages h.tst.todo h

/-- The page is returned: BOLT = 0 and QREQ = 0. -/
def Hw.tstReturn (h : Hw) (p : Nat) : Hw := (h.wr (BLK_CTL_QREQ p) 0).unbolt p

/-- The rolling step has returned its block (R507): the standby leaves STANDBY for SYNC, the next entry comes up. -/
def Hw.rollDone (h : Hw) : Hw :=
  let h1 := (h.bump TST_ROLL_STAT_STEPS 1).wr TST_ROLL_STAT_NEXT ((h.rd TST_ROLL_STAT_NEXT + 1) % 4)
  let h2 := { h1 with rdn := { h1.rdn with forced := false, seeded := false, replaying := false, clean := 0 } }
  (h2.cond (h2.rst = 7) fun h => { (h.pairGo 5).wr RDN_STAT_COAST 0 with rdn := { h.rdn with askIn := 1 } }).tstFinish

/-- What follows a pattern of the sequence that passed. -/
def Hw.tstNext (h : Hw) : Hw :=
  match h.tst.todo with
  | [] => h.tstFinish
  | (p, pats) :: l =>
    match pats.drop 1 with
    | pat :: r => { h with tst := { h.tst with todo := (p, pat :: r) :: l } }.bistGo p pat
    | [] =>
      let h1 := { h.tstReturn p with tst := { h.tst with todo := l } }
      match h1.tst.kind with
      | .rolling =>
        let c := p - PG_TCE 0
        let h2 := h1.cond (p = PG_TCE 0 ∨ p = PG_TCE 1) fun h => (h.coreStart c).soloWrite (1 - c) false
        { h2 with tst := { h2.tst with stage := .back, todo := [(p, [])] } }
      | _ => h1.tstPage

/-- The result of a run and what it means for the sequence in progress: a failed block stays bolted, and the list of the wake
test goes on with its next page. -/
def Hw.tstResult (h : Hw) (p : Nat) (pass : Bool) (code us : Nat) : Hw :=
  let h1 := h.testResult p pass false code us
  let mine := h.tst.stage = .pattern && (h.tst.todo.head?.elim false fun t => t.1 = p)
  if !mine then h1
  else if pass then h1.tstNext
  else if h1.tst.kind = .wakeTest then Hw.tstPages h1.tst.todo.tail h1
  else h1.tstFinish

/-- BIST_DONE. -/
def bistEnd (p : Nat) (pass ecc : Bool) (us : Nat) (d : Dev) : Dev :=
  if !d.hw.on (BLK_TEST_BUSY p) then d
  else
    let d1 := d.patternLeaves p (d.hw.runPat p)
    { d1 with hw := d1.hw.tstResult p pass (if pass then 0 else if ecc then 4 else 3) us }

/-- BIST_TIMEOUT: four times the listed time has passed. -/
def bistLate (p : Nat) (h : Hw) : Hw :=
  if h.on (BLK_TEST_BUSY p) then h.tstResult p false 5 (4 * runTime p (h.runPat p)) else h

/-- TST_COMMAND: agent 0 alone; a GO while TST works is ignored (DESIGN CHOICE, log entry 55). -/
def tstWrite (who : Who) (w : Word) (h : Hw) : Hw :=
  h.agent0R who PG_TST 9 fun h =>
      let p := getBits w 16 6
      let pat := getBits w 8 8
      let h1 := (h.wr TST_CMD_PAGE p).wr TST_CMD_PAT pat
      if getBits w 24 1 = 0 || h1.on TST_CMD_BUSY || h1.tst.stage ≠ .idle then h1
      else if !isPage p || h1.absent p || !h1.boltGrant p then (h1.tstNoGrant p pat).irq PG_TST 0
      else { h1.wr TST_CMD_BUSY 1 with tst := { h1.tst with kind := .command, todo := [(p, [pat])] } }.tstPage

/-- BLK_QUIET with what TST waits for (R55, R505). -/
def quietEvent (p : Nat) (h : Hw) : Hw :=
  let h1 := quietBlock p h
  let mine := h1.tst.stage = .quiet && (h1.tst.todo.head?.elim false fun t => t.1 = p)
  h1.cond (mine && h1.quiet p) Hw.tstPage

/-- The pages of the standstill list, in ascending order. -/
def Hw.tstList (h : Hw) : List Nat :=
  allPages.filter fun p => !h.absent p && hasTest p &&
    (if p < 32 then bit (h.nat TST_LIST0) p else bit (h.rd TST_LIST1_PAGE) (p - 32))

/-- The patterns a page runs: LOGIC, then MEMT where it has memories. -/
def testsOf (p : Nat) : List Nat := if hasMemory p then [patLogic, patMemt] else [patLogic]

/-- The wake test of a PW_TIMER wake starts (R343, R505). -/
def Hw.wakeTest (h : Hw) : Hw :=
  if h.tst.wakeDue && h.tst.stage = .idle then
    let l := h.tstList.map fun p => (p, testsOf p)
    let h1 := { h with tst := { h.tst with wakeDue := false } }
    { h1 with tst := { h1.tst with kind := .wakeTest, todo := l } }.tstPage
  else h

/-- ROLLING_STEP_START: PERIOD has elapsed; the step waits for its conditions (R506). -/
def rollingDue (h : Hw) : Hw := if h.on TST_CFG_ROLLEN then { h with tst := { h.tst with due := true } } else h

/-- The conditions of a rolling step. -/
def Hw.rollOk (h : Hw) : Bool :=
  h.rst = 7 && goodHealth (h.nat RDN_HEALTH) false && h.mode ≠ 9 && h.mode ≠ 0xA &&
    decide (2 * h.rd RDN_HB_AGE_PL < 100 * h.leaseMs) && decide (2 * h.rd RDN_HB_AGE_HB2 < 100 * h.leaseMs)

/-- The page of an entry of the rolling list. -/
def rollPage (i : Nat) : Nat := [PG_TCE 0, PG_TCE 1, PG_MAP, PG_VIS].getD i PG_MAP

/-- The next entry that is listed and present, from NEXT on. -/
def Hw.rollNext (h : Hw) : Option Nat :=
  ((List.range 4).map fun i => (h.rd TST_ROLL_STAT_NEXT + i) % 4).find? fun i =>
    bit (h.rd TST_ROLL_LIST_LIST) i && !h.absent (rollPage i)

/-- A rolling step starts at a T0 (R506, R507); a core first hands its tasks to the other. -/
def Hw.rollStart (h : Hw) : Hw :=
  if !(h.tst.due && h.on TST_CFG_ROLLEN && h.tst.stage = .idle && h.rollOk) then h
  else match h.rollNext with
    | none => { h with tst := { h.tst with due := false } }
    | some i =>
      let p := rollPage i
      let h1 := { (h.wr TST_ROLL_STAT_ACTIVE 1).wr TST_ROLL_STAT_NEXT i with
        tst := { h.tst with due := false, kind := .rolling, todo := [(p, testsOf p)] }
        rdn := { h.rdn with forced := true } }
      if i < 2 then (h1.soloWrite (1 - i) true).tstStage .solo else h1.tstPage

/-- TST at a position-cycle T0, after the solo switches of the cores: what it waits for has come. -/
def Hw.tstT0 (h : Hw) : Hw :=
  match h.tst.todo with
  | (p, _) :: _ =>
    let c := p - PG_TCE 0
    if h.tst.stage = .solo && h.on (TCE_STAT_SOLOACT (1 - c)) then h.tstPage
    else if h.tst.stage = .back && !((p = PG_TCE 0 || p = PG_TCE 1) && h.on (TCE_STAT_SOLOACT (1 - c))) then h.rollDone
    else h
  | [] => h.wakeTest.rollStart

/-- TST works: the Ward does not park the unit (R502). -/
def Hw.tstBusy (h : Hw) : Bool :=
  h.tst.stage ≠ .idle || h.tst.wakeDue || allPages.any fun p => h.on (BLK_TEST_BUSY p)

/-! ## Boundary scan (R508, R509) -/

/-- IDCODE by variant: revision 1, part number, 0x973. -/
def Hw.idcode (h : Hw) : Nat := if h.env.part = 48 then 0x11048973 else if h.env.part = 46 then 0x11046973 else 0x11044973

/-- Balls may be taken hold of: PROVISION, and TEST, or OEM or FIELD with a session that holds WRITE. -/
def Hw.scanOk (h : Hw) : Bool :=
  let lc := if bit h.otp.done 3 then 4 else if bit h.otp.done 2 then 3 else if bit h.otp.done 1 then 2
    else if bit h.otp.done 0 then 1 else 0
  h.mode = 0xD && (lc = 0 || ((lc = 1 || lc = 2) && h.on SEC_KW_STAT_OPEN && bit (h.rd SEC_KW_STAT_PERM) 1))

/-- EXTEST, CLAMP, HIGHZ: they hold the balls, or REFUSED sets and the balls stay under functional control. -/
def tapHold (ir : Nat) (h : Hw) : Hw :=
  let h1 := h.tapLoad ir
  if h1.scanOk then h1.wr TST_BSCAN_HOLD 1 else h1.wr TST_BSCAN_REFUSED 1

/-- BYPASS, and every instruction that R508 does not list: one cell that captures 0. -/
def tapOne (ir : Nat) (h : Hw) : Hw := (h.tapLoad ir).answer [0]

/-- IDCODE. -/
def tapId (h : Hw) : Hw := (h.tapLoad 1).answer [BitVec.ofNat 32 h.idcode]

/-- SAMPLE/PRELOAD: the boundary register takes the cells. -/
def tapSample (cells : List Bool) (h : Hw) : Hw := { h.tapLoad 2 with tst := { h.tst with cells := cells } }

/-- Test-Logic-Reset selects IDCODE and releases the balls. -/
def tapHome (h : Hw) : Hw := ((h.wr TST_BSCAN_TAPACT 0).wr TST_BSCAN_IR 1).wr TST_BSCAN_HOLD 0

end Sys2Proof.Machine
end

