-- ==== Sys2Proof/Machine/Modes.lean ====
section
/-! DEFINITION. The mode change at a T0, parking, and the Ward's events that need the rest of the device (R99 to R119,
R322, R341, R342, R347, R348). -/

namespace Sys2Proof.Machine

/-! ## Guards (R102, R104) -/

/-- No entry of any class is current or queued. -/
def Hw.faultFree (h : Hw) : Bool := !h.on SIS_FM_STAT_BUSY && h.sis.queue.isEmpty

/-- Doors closed and locked; in the MACHINE role the landing locks too (R112). -/
def Hw.doorsShut (h : Hw) : Bool :=
  h.bitAt SIS_COND 2 && h.bitAt SIS_COND 3 && (!h.isMachine || h.bitAt SIS_COND 4)

/-- Every map page of the window of target mode `m` is LOADED, or its cap is at most 2.5 m/s. Without a DMAX and a JMAX
there is no window (log entry 10). -/
def Hw.windowLoaded (h : Hw) (m : Nat) : Bool :=
  let c := min (h.modeCap m : Int) (min (h.int (PRF_AXn_VMAX 0)) (h.int PRF_WCAP))
  let D := windowDist c.toNat (h.nat (PRF_AXn_DMAX 0)) (h.nat (PRF_AXn_JMAX 0))
  let p := h.nat MAP_RAW
  let lo := (p - D) / 4194304
  let hi := min ((p + D) / 4194304) (h.mapPages - 1)
  decide (h.modeCap m ≤ 0x271000) || (h.on MAP_STAT_VALID && h.nat (PRF_AXn_DMAX 0) ≠ 0 && h.nat (PRF_AXn_JMAX 0) ≠ 0 &&
    decide (h.loadedIn lo hi = hi + 1 - lo))

/-- The car frame is healthy and reports READY or the same target mode. -/
def Hw.carAgrees (h : Hw) (m : Nat) : Bool :=
  h.cfok && h.peer.car.elim false fun f => f.state % 16 = 4 || f.state % 16 = m

/-- Guard G of R104 for target mode `m`. -/
def Hw.guardG (h : Hw) (m : Nat) : Bool :=
  (h.on RDN_KEY_HELD || !h.paired) && h.bitAt SIS_COND 7 && h.doorsShut && h.faultFree && h.windowLoaded m &&
    (!h.isMachine || h.carAgrees m)

def ansAccepted : Nat := 0
def ansGuard : Nat := 1
def ansIllegal : Nat := 2
def ansBusy : Nat := 3
def ansAuth : Nat := 4
def ansRole : Nat := 5

/-- The modes from which a software request for `m` is a transition of R104. -/
def requestFrom (m : Nat) : List Nat :=
  if m = 5 ∨ m = 9 ∨ m = 0xA then [4]
  else if m = 8 then [4, 5]
  else if m = 0xB then [4, 5, 6, 7, 8, 9, 0xA]
  else if m = 4 then [5, 8, 9, 0xA, 0xB]
  else []

def answerIf (b : Bool) : Nat := if b then ansAccepted else ansGuard

/-- The judgement of a software request for mode `m` (R101, R104, R114): an answer code. A standby's mode is its active's
(R117), so only its own SAFE-STOP can be entered or left. -/
def Hw.judge (h : Hw) (m : Nat) : Nat :=
  let still := h.bitAt SIS_COND 6
  if h.isCar && decide (4 ≤ m) && decide (m ≤ 0xA) && !(m = 4 && h.mode = 0xB) then ansRole
  else if h.mode ∉ requestFrom m then ansIllegal
  else if h.on SIS_MODE_STBY && m ≠ 0xB && !(m = 4 && h.rdn.ownStop) then ansGuard
  else if m = 5 then answerIf (h.guardG m)
  else if m = 8 then answerIf h.env.fireEn
  else if m = 9 then answerIf (h.guardG m && h.env.learnEn && still && h.bitAt SIS_COND 1)
  else if m = 0xA then
    if h.sis.proofOrder then answerIf (h.guardG m && h.sis.carEmpty) else ansAuth
  else if m = 4 then
    if h.mode = 0xB then answerIf (still && h.bitAt SIS_COND 12 && h.faultFree)
    else answerIf (still && !(h.mode = 8 && h.bitAt SIS_COND 10))
  else ansAccepted

/-! ## SAFE-STOP (R109, R110) -/

/-- 24 h of operating time in 1/16 s. -/
def dayTime : Nat := 1382400

/-- One more SAFE-STOP by cause `c`: its count within 24 h, and the repeat limit. -/
def countStop (c : StopCause) (h : Hw) : Hw :=
  let old := ((h.sis.counts.find? fun x => decide (x.1 = c)).map (·.2)).getD []
  let l := h.opTime :: old.filter fun t => decide (h.opTime < t + dayTime)
  let r := h.rd SIS_SS_CFG_SS_REPEAT
  { h with sis := { h.sis with
    counts := (c, l) :: h.sis.counts.filter fun x => decide (x.1 ≠ c)
    repeatHit := h.sis.repeatHit || (r ≠ 0 && decide (r ≤ l.length)) } }

/-- SAFE_STOP_ENTRY: v0 is stored, the supervision armed, the causes counted. -/
def Hw.enterStop (h : Hw) (causes : List StopCause) : Hw :=
  let h1 := (h.setMode 0xB).startStop
  let h2 := { h1 with
    sis := { h1.sis with stopTrig := [], repeatHit := false }
    rdn := { h1.rdn with ownStop := h.on SIS_MODE_STBY } }
  h2.each causes countStop

/-- A change of mode of the Ward's own. -/
def Hw.goMode (h : Hw) (m : Nat) (causes : List StopCause) : Hw :=
  if m = 0xB then h.enterStop causes
  else
    let h2 := h.setMode m
    { h2 with sis := { h2.sis with repeatHit := false }, rdn := { h2.rdn with ownStop := false } }

/-! ## Hardware triggers (R103, R104, R115, R116) -/

/-- In the MACHINE role, a car frame that reports SAFE-STOP, DEADBOLT, BOOT or PROVISION while the car may move; a standby
reports its active's mode and enters for no fault but its own (R117). -/
def Hw.carReports (h : Hw) : Bool :=
  h.isMachine && !h.on SIS_MODE_STBY && h.cfok && decide (5 ≤ h.mode) && decide (h.mode ≤ 0xA) &&
    h.peer.car.elim false fun f => f.state % 16 ∈ [0xB, 0xC, 2, 0xD]

/-- The hardware trigger for target `m` is present. -/
def Hw.hwTrigger (h : Hw) (m : Nat) : Bool :=
  if m = 0xC then h.sis.boltTrig
  else if m = 0xB then decide (h.sis.stopTrig ≠ []) || h.carReports
  else if h.on SIS_MODE_STBY || !h.isMachine then false
  else if m = 6 then h.bitAt SIS_COND 8
  else if m = 7 then h.bitAt SIS_COND 9 && !h.bitAt SIS_COND 8
  else if m = 8 then h.bitAt SIS_COND 10 && h.env.fireEn
  else if m = 4 then
    h.bitAt SIS_COND 6 && ((h.mode = 6 && !h.bitAt SIS_COND 8) || (h.mode = 7 && !h.bitAt SIS_COND 9))
  else false

/-- The modes from which the trigger for `m` is a transition: DEADBOLT from DEADBOLT and PROVISION too where a fault in
fault handling raised it (R342). -/
def Hw.hwFrom (h : Hw) (m : Nat) : List Nat :=
  if m = 0xC then [4, 5, 6, 7, 8, 9, 0xA, 0xB] ++ (if h.sis.hwHold then [0xC, 0xD] else [])
  else if m = 0xB then [4, 5, 6, 7, 8, 9, 0xA]
  else if m = 6 then [4, 5, 7, 8, 9, 0xA]
  else if m = 7 then [4, 5, 8]
  else if m = 8 then [4, 5]
  else if m = 4 then [6, 7]
  else []

/-- A hardware trigger takes effect. -/
def Hw.takeTrigger (h : Hw) (m : Nat) : Hw :=
  if m = 0xC then
    let h1 := h.goMode 0xC []
    { h1 with sis := { h1.sis with boltTrig := false } }
  else if m = 0xB then h.goMode 0xB (h.sis.stopTrig ++ if h.carReports then [.carReport] else [])
  else h.goMode m []

/-! ## One ranking (R103, R350) -/

/-- What asks for a change at this T0. -/
inductive Ask where
  | hardware (m : Nat)
  | order (m : Nat)
  | request (ch m : Nat)
  deriving DecidableEq, Repr

/-- Targets in the order of R103; READY, which R103 does not rank, comes last. -/
def rankOrder : List Nat := [0xC, 0xB, 6, 7, 8, 0xA, 9, 5, 3, 4, 0, 1, 2, 0xD, 0xE, 0xF]

/-- The place of a target in that order. -/
def modeRank (m : Nat) : Nat := rankOrder.findIdx (· = m)

/-- The mode requests of R101: messages posted to agent 0 whose byte 0 is a mode code. -/
def Hw.requests (h : Hw) : List (Nat × Nat) :=
  (((List.range 16).filter fun n => h.rcv n = 0 && h.chan n = chanPosted).map fun n =>
    (n, getBits (h.reg (MLBn_D n 0)) 0 8)).filter fun r => decide (r.2 < 16)

/-- Every trigger and request of this T0, in the order of R103. A Ward in fault handling (R342) judges no request. -/
def Hw.asks (h : Hw) : List Ask :=
  let soft := !h.sis.dead
  let rs := if soft then h.requests else []
  rankOrder.flatMap fun m =>
    (if h.hwTrigger m then [Ask.hardware m] else []) ++
    (if soft then (h.sis.order.filter (· = m)).map Ask.order else []) ++
    ((rs.filter fun r => decide (r.2 = m)).map fun r => Ask.request r.1 r.2)

/-- TGT 0xC as a DEADBOLT-class fault with CAUSE 0xC2 (R339, R350): its entry has no SRC and CAUSE of the spec (log entry
30); the mode changes at this T0, as for another order. -/
def Hw.orderBolt (h : Hw) : Hw :=
  let h1 := (((h.irq PG_SIS 1).dropCause h.boltMask).latchBolt 0xC2).pushEntry 5 PG_SIS 31
  if 4 ≤ h1.mode ∧ h1.mode ≤ 0xB then h1.goMode 0xC [] else h1

/-- One entry of the ranking; the flag says that a change has been taken, `top` the ranks of the triggers present. A PARKED
entry that runs is a change in progress: software requests meet BUSY (R101). -/
def Hw.judgeAsk (top : List Nat) (s : Hw × Bool) (a : Ask) : Hw × Bool :=
  let h := s.1
  match a with
  | .hardware m => if !s.2 && decide (h.mode ∈ h.hwFrom m) then (h.takeTrigger m, true) else s
  | .order m =>
    if s.2 || (h.cpr.parking && m ≠ 0xC) || top.any (fun r => decide (r < modeRank m)) then (h.raise PG_SIS 16, s.2)
    else if m = 0xC ∧ 4 ≤ h.mode ∧ h.mode ≤ 0xC then (h.orderBolt, decide (h.mode ≠ h.orderBolt.mode))
    else if 4 ≤ m ∧ m ≤ 0xB ∧ h.judge m = ansAccepted then (h.goMode m [.request], true)
    else (h.raise PG_SIS 16, s.2)
  | .request ch m =>
    let h1 := h.wr (MLBn_STAT_RD ch) 1
    if s.2 || h.cpr.parking then (h1.chanAck ch ansBusy, s.2)
    else
      let c := h.judge m
      if c = ansAccepted then ((h1.goMode m [.request]).chanAck ch c, true) else (h1.chanAck ch c, false)

/-- MODE_CHANGE: at most one change at a T0; an order is judged once; a SAFE-STOP trigger in SAFE-STOP and a DEADBOLT
trigger in DEADBOLT have come to their target. -/
def Hw.rankT0 (h : Hw) : Hw × Bool :=
  let l := h.asks
  let top := l.filterMap fun a => match a with
    | .hardware m => some (modeRank m)
    | _ => none
  let r := l.foldl (Hw.judgeAsk top) (h, false)
  let s := r.1.sis
  let s1 := { s with
    order := []
    stopTrig := if r.1.mode = 0xB then [] else s.stopTrig
    boltTrig := s.boltTrig && r.1.mode ≠ 0xC }
  ({ r.1 with sis := s1 }, r.2)

/-! ## Following (R114, R117, R119) -/

/-- The mode that the unit follows where no change of its own was taken: a standby its active's, a CAR unit the machine
frame's. -/
def Hw.followed (h : Hw) : Option Nat :=
  if h.on SIS_MODE_STBY then
    if h.rdn.ownStop || h.sis.hwHold || h.on SIS_DB_STAT_SET then none
    else h.rdn.frameMode.filter fun m => decide (4 ≤ m) && decide (m ≤ 0xD)
  else if h.isCar && decide (4 ≤ h.mode) && decide (h.mode ≤ 0xA) then
    (h.peer.mach.map fun f => f.state % 16).filter fun m => decide (4 ≤ m) && decide (m ≤ 0xA)
  else none

/-- The unit takes the mode it follows. -/
def Hw.follow (h : Hw) : Hw :=
  match h.followed with
  | none => h
  | some m => if m = h.mode then h else (h.setMode m).cond (m = 0xB) Hw.startStop

/-! ## Parking (R111, R112) -/

/-- A change of mode overrides a PARKED entry in progress: it is rolled back (R103). -/
def Hw.endPark (h : Hw) : Hw := if h.cpr.parking && h.mode ≠ 4 then (h.wr CPR_PARK_REQ 0).unquiesce else h

/-- The first six conditions of R111. -/
def Hw.readyToPark (h : Hw) : Bool :=
  h.mode = 4 && h.sis.parkIdle && h.bitAt SIS_COND 6 && h.doorsShut && h.anyCall = 0 && !h.unread &&
    h.rcd.queue.isEmpty && !h.on REC_STAT_BUSY

/-- PARK_READY of this T0, and CPR_PARK.REQ as the Ward writes it. -/
def Hw.parkT0 (h : Hw) : Hw :=
  let own := h.readyToPark
  let stby := h.on SIS_MODE_STBY
  let h1 := { h with sis := { h.sis with parkReady := if stby then h.rdn.framePark else own } }
  let go := if stby then h.rdn.parkDue else own && decide (8 ≤ h.peer.parkRun) && !h.tstBusy
  let h2 := h1.cond go Hw.startPark
  { h2 with rdn := { h2.rdn with parkDue := false } }

/-! ## The mode at a T0 (R99) -/

/-- The repeat limit (R110): at the standstill of the SAFE-STOP that reached it. -/
def Hw.repeatT0 (h : Hw) : Hw :=
  if h.mode = 0xB && h.sis.repeatHit && h.bitAt SIS_COND 6 then
    let h1 := h.latchBolt 0xC0
    { h1 with sis := { h1.sis with boltTrig := true, repeatHit := false } }
  else h

/-- Time in SAFE-STOP (R109); the first T0 with STILL = 1 ends STO and brake (R344). -/
def Hw.stopTime (h : Hw) : Hw :=
  if h.mode = 0xB then
    { h with sis := { h.sis with stopDone := h.sis.stopDone || h.bitAt SIS_COND 6 } }
  else h

/-- The Ward's mode work at a T0: facts of the test order, supervision time, triggers, requests, following, parking. -/
def Hw.modesT0 (proofOrder carEmpty overspeed : Bool) (h : Hw) : Hw :=
  let h1 := { h with sis := { h.sis with
    proofOrder := proofOrder
    carEmpty := carEmpty
    overspeed := overspeed
    ssT := if h.mode = 0xB then h.sis.ssT + 1 else h.sis.ssT } }
  let r := h1.repeatT0.rankT0
  (if r.2 then r.1 else r.1.follow).stopTime.endPark.parkT0

/-! ## Events -/

/-- The highest cause bit that the header of a page defines. -/
def topFault (p : Nat) : Nat :=
  if p = PG_CPR then 10 else if p = PG_POS then 15 else if p = PG_MAP ∨ p = PG_PRF then 12
  else if p = PG_TCE 0 ∨ p = PG_TCE 1 then 15 else if p = PG_PST then 17 else if p = PG_DOR then 16
  else if p = PG_VIS then 9 else if p = PG_RDN then 14 else if PG_CAN 0 ≤ p ∧ p ≤ PG_CAN 3 then 15
  else if p = PG_ETH 0 ∨ p = PG_ETH 1 then 11 else if p = PG_SSE then 12 else if p = PG_MLB then 12
  else if p = PG_LAT then 9 else if p = PG_REC then 13 else if p = PG_SEC then 12 else if p = PG_XSP then 12
  else if p = PG_STQ then 10 else if p = PG_TST then 10 else if p = PG_SIS then 17 else if p = PG_HSP then 9
  else 7

/-- FAULT_ARRIVAL (R341): a cause bit that the page defines arises. -/
def faultArrives (p b : Nat) (h : Hw) : Hw :=
  if isPage p && !h.absent p && decide (8 ≤ b) && decide (b ≤ topFault p) then h.raise p b else h

/-- WATCHDOG_EXPIRY (R322). -/
def wdgExpire (h : Hw) : Hw := if h.sis.wdgOn && !h.sis.dead then h.raise PG_SIS 13 else h

/-- FAULT_IN_FAULT_HANDLING (R342): lockstep, SAF clock or REFLOSS, TCM. -/
def faultInFault (kind : Nat) (h : Hw) : Hw := hardFault (0x80 + kind) h

/-- The state of both deadbolt words with a nonce: STATE set or clear (R441). -/
def Dev.putWord (d : Dev) (a state nonce : Nat) : Dev :=
  { d with mem := memWriteBytes d.mem a (boltWord state (d.hw.rd SIS_DB_STAT_CAUSE) nonce d.hw.sis.dbOpt) }

/-- A release that fails: RELFAIL, the unit stays in DEADBOLT. -/
def Dev.relFail (d : Dev) : Dev := { d with hw := (d.hw.wr SIS_DB_STAT_RELFAIL 1).raise PG_SIS 17 }

/-- The steps of a release (R347): nonces, word A, word B, mirror and counts, cold reset. -/
def Dev.releaseSteps (d : Dev) (nonceOk aOk bOk : Bool) : Dev :=
  let h := d.hw
  let n := h.nat SIS_DB_NONCE
  let can := !h.on REC_STAT_DEGRADED && !h.cpr.mramBlocked
  if !(can && nonceOk) then d.relFail
  else
    let d1 := (d.putWord 0x60000080 0xDB (n + 1)).putWord 0x600000C0 0xDB (n + 1)
    let d2 : Dev := { d1 with hw := d1.hw.setNat SIS_DB_NONCE (n + 1) }
    if !aOk then d2.relFail
    else
      let d3 := d2.putWord 0x60000080 0 (n + 1)
      let d4 : Dev := { d3 with hw := d3.hw.wr SIS_DB_STAT_WORDA 0 }
      if !bOk then d4.relFail
      else
        let d5 := d4.putWord 0x600000C0 0 (n + 1)
        let h1 := d5.hw.recWard 0x0014 true [n, h.rd SIS_DB_STAT_CAUSE, 0]
        let h2 := (h1.wr SIS_DB_STAT_SET 0).wr SIS_DB_STAT_WORDB 0
        let h3 := ((h2.wr SIS_DB_STAT_MIRROR 0).wr SIS_DB_STAT_CAUSE 0)
        let d6 := recFlush false { d5 with hw := { h3 with sis := { h3.sis with counts := [] } } }
        { d6 with hw := d6.hw.resetTo false false 1 }

/-- DEADBOLT_RELEASE (R347): refused unless TOKOK and SRVOK are both set. -/
def boltRelease (who : Who) (w : Word) (nonceOk aOk bOk : Bool) (d : Dev) : Dev :=
  let h := d.hw.ack
  if who ≠ .agent 0 then { d with hw := h.raise PG_SIS 8 }
  else if getBits w 16 16 = 0xD3B1 ∧ getBits w 0 1 = 1 ∧ h.mode = 0xC ∧ h.on SIS_DB_STAT_TOKOK ∧ h.on SIS_DB_STAT_SRVOK then
    ({ d with hw := h } : Dev).releaseSteps nonceOk aOk bOk
  else { d with hw := h }

/-! ## The Ward's interrupt controller (R348) -/

/-- Source `n` of the controller is asserted: 1 to 41 are the pages' lines, 42 the doorbell of agent 0 (R98, R428). -/
def Hw.icLine (h : Hw) (n : Nat) : Bool :=
  if n = 42 then h.doorbell 0 else decide (1 ≤ n) && decide (n ≤ 41) && h.line (n - 1) 0

/-- Pending: asserted and not claimed. -/
def Hw.icPending (h : Hw) (n : Nat) : Bool := h.icLine n && decide (n ∉ h.sis.icClaimed)

/-- SIS_IC_CLAIM: a read claims the lowest pending enabled source; a write of that number completes it. -/
def icClaim (who : Who) (complete : Option Word) (h : Hw) : Hw :=
  match complete with
  | none =>
    let n := ((List.range 43).find? fun n => h.icPending n && h.bitAt (SIS_IC_EN (n / 32)) (n % 32)).getD 0
    let h1 := h.answer [BitVec.ofNat 32 n]
    if n = 0 then h1 else { h1 with sis := { h1.sis with icClaimed := n :: h1.sis.icClaimed } }
  | some w => h.agent0R who PG_SIS 8 fun h =>
    { h with sis := { h.sis with icClaimed := h.sis.icClaimed.filter (· ≠ w.toNat) } }

end Sys2Proof.Machine
end

