-- ==== Sys2Proof/Machine/Boot.lean ====
section
/-! DEFINITION. The boot ROM's work from the wiped memories to the first mode, and SEC's check of a TCE program (R2,
R215, R345, R347, R440, R461 to R464, R472, R478). -/

namespace Sys2Proof.Machine

/-! ## Images (R462, R463) -/

/-- Where flash stands in the memory (R30). -/
def flashAt : Nat := 0x100000000

/-- A slot of the flash: A or B. -/
def slotBase (s : Nat) : Nat := flashAt + (if s = 0 then 0x400000 else 0x4400000)

/-- The address of the image directory copy to use, if one is valid. -/
def imageDir (m : List Host.Cell) : Option Nat :=
  let a := flashAt
  let b := flashAt + 0x10000
  let ok := fun x => memNat m x 4 = 0x52444D54 && slotCrcOk m x
  if ok a && ok b then some (if 0 ≤ diff32 (memNat m (a + 4) 4) (memNat m (b + 4) 4) then a else b)
  else if ok a then some a
  else if ok b then some b
  else none

/-- A segment of a manifest. -/
structure ImageSeg where
  target : Nat
  enc : Nat
  off : Nat
  load : Nat
  len : Nat
  nonce : List Byte
  digest : List Byte
  deriving DecidableEq, Repr

/-- Segment `i` of manifest bytes `m`. -/
def segOf (m : List Byte) (i : Nat) : ImageSeg :=
  let b := (m.drop (64 + 80 * i)).take 80
  let n := fun o k => ofLE ((b.drop o).take k)
  { target := n 0 1, enc := n 1 1, off := n 4 4, load := n 8 4, len := n 12 4, nonce := (b.drop 16).take 12,
    digest := (b.drop 28).take 48 }

/-- A segment lies wholly inside its target, and inside its slot of 60 MiB (log entry 20). -/
def Hw.segFits (h : Hw) (g : ImageSeg) : Bool :=
  let shared := inSram g.load g.len || h.inDram g.load g.len
  let tcm := inRange g.load g.len 0x10000000 0x10040000
  let room := decide (g.off + g.len + 16 * g.enc ≤ 60 * 1048576)
  room &&
    (if g.target = 0 then tcm
     else if g.target = 1 ∨ g.target = 2 then g.len = 65536 && g.load = progBase (g.target - 1)
     else if g.target = 3 then shared
     else if g.target = 4 then shared || tcm
     else if g.target = 5 then
       inRange g.load g.len 0x31010000 0x31030000 || inRange g.load g.len 0x31110000 0x31130000 ||
         inRange g.load g.len 0x30000000 0x30040000
     else false)

/-- The plaintext of a segment of slot `s`: a failure code of SEC_BOOT, or the bytes. -/
def Dev.segPlain (d : Dev) (s : Nat) (g : ImageSeg) : Nat × List Byte :=
  let a := slotBase s + g.off
  let raw := memReadBytes d.mem a g.len
  if !d.hw.segFits g then (8, [])
  else
    let plain := if g.enc = 0 then (if d.hw.otp.flashEnc then none else some raw)
      else (d.hw.stored 0).bind fun k => Config.gcmOpen k g.nonce [] raw (memReadBytes d.mem (a + g.len) 16)
    match plain with
    | none => (7, [])
    | some p => if Config.sha384 p = g.digest then (0, p) else (6, [])

/-- The segments are loaded in turn; the first failure ends it. -/
def Dev.loadSegs (s : Nat) : List ImageSeg → Dev → Nat × Dev
  | [], d => (0, d)
  | g :: l, d =>
    let r := d.segPlain s g
    if r.1 ≠ 0 then (r.1, d) else Dev.loadSegs s l { d with mem := memWriteBytes d.mem g.load r.2 }

/-- The manifest of slot `s`. -/
def Dev.manifest (d : Dev) (s : Nat) : List Byte := memReadBytes d.mem (slotBase s) 2816

/-- The check of a manifest alone: a failure code of SEC_BOOT, 0 for none (R463, R477; the order is log entry 12). -/
def Dev.manifestCode (d : Dev) (m : List Byte) : Nat :=
  let n := fun o k => ofLE ((m.drop o).take k)
  let pub := (m.drop 2624).take 96
  if n 0 4 ≠ 0x4E414D54 ∨ n 4 2 ≠ 1 ∨ n 7 1 = 0 ∨ 32 < n 7 1 then 2
  else if (d.hw.otp.oemSlot pub).isNone then 4
  else if !Config.ecdsaOk pub (Config.sha384 (m.take 2720)) (m.drop 2720) then 3
  else if n 16 16 ≠ 0 ∧ (m.drop 16).take 16 ≠ d.hw.otp.devuid then 10
  else if n 8 4 < d.hw.otp.floor then 5
  else 0

/-- Step 5 for one slot: its code, and the device with the segments loaded. -/
def Dev.trySlot (d : Dev) (s : Nat) : Nat × Dev :=
  let m := d.manifest s
  let c := d.manifestCode m
  if c ≠ 0 then (c, d) else d.loadSegs s ((List.range (ofLE ((m.drop 7).take 1))).map (segOf m))

/-- A failure code in SEC_BOOT. -/
def Hw.slotFail (h : Hw) (s c : Nat) : Hw := if s = 0 then h.wr SEC_BOOT_FAILA c else h.wr SEC_BOOT_FAILB c

/-- What steps 5 and 6 came to: no image, an image of the wrong role, a slot that passed. -/
inductive ImageResult where
  | none
  | wrongRole (role : Nat)
  | good
  deriving DecidableEq, Repr

/-- Slot `s` has passed step 5: the role check and what the image brings (R2, R356, R477). -/
def Dev.takeImage (d : Dev) (s : Nat) (fallback : Bool) : ImageResult × Dev :=
  let m := d.manifest s
  let role := ofLE ((m.drop 6).take 1)
  let h := (d.hw.wr SEC_BOOT_SLOT s).wr SEC_BOOT_FALLBACK (b2n fallback)
  if role ≠ h.rd CPR_STRAP_ROLE then
    (.wrongRole role, { d with hw := (h.slotFail s 9).recWard 0x0004 true [h.rd CPR_STRAP_ROLE, role] })
  else
    (.good, { d with hw := (h.wr SEC_SVN_RUN (ofLE ((m.drop 8).take 4))).wr RDN_COMPAT_PAIRCOMPAT (ofLE ((m.drop 12).take 2)) })

/-- Steps 5 and 6: the preferred slot, then the other. -/
def Dev.images (d : Dev) : ImageResult × Dev :=
  match imageDir d.mem with
  | none => (.none, { d with hw := (d.hw.slotFail 0 1).slotFail 1 1 })
  | some a =>
    let s := memNat d.mem (a + 8) 1 % 2
    let r := d.trySlot s
    if r.1 = 0 then r.2.takeImage s false
    else
      let d1 : Dev := { d with hw := d.hw.slotFail s r.1 }
      let r1 := d1.trySlot (1 - s)
      if r1.1 = 0 then r1.2.takeImage (1 - s) true
      else (.none, { d1 with hw := d1.hw.slotFail (1 - s) r1.1 })

/-- The VERSION words of both slots, 0 for a slot without a manifest (R461). -/
def Dev.versions (d : Dev) : List Nat :=
  [0, 1].flatMap fun s =>
    let m := d.manifest s
    if ofLE (m.take 4) = 0x4E414D54 then [ofLE ((m.drop 32).take 4), ofLE ((m.drop 36).take 4)] else [0, 0]

/-! ## TCE programs (R215, R464) -/

/-- The manifest at an address passes for core `c`: MAGIC, core mask, SVN floor, digest, key, signature. -/
def Dev.tceManifestOk (d : Dev) (c a : Nat) : Bool :=
  let m := memReadBytes d.mem a 256
  let prog := memReadBytes d.mem (progBase c) 65536
  let pub := (m.drop 64).take 96
  inSram a 256 && ofLE (m.take 4) = 0x45435454 && bit (m.getD 4 0).toNat c &&
    decide (d.hw.otp.floor ≤ ofLE ((m.drop 8).take 4)) && (m.drop 16).take 48 = Config.sha384 prog &&
    (d.hw.otp.oemSlot pub).isSome && Config.ecdsaOk pub (Config.sha384 (m.take 160)) (m.drop 160)

/-- The verdict on core `c`'s program. -/
def Dev.tceVerdict (d : Dev) (c : Nat) : Dev :=
  let h := d.hw.wr (TCE_PCAUTH_BUSY c) 0
  if d.tceManifestOk c (h.nat (TCE_MANIFEST c)) then { d with hw := (h.wr (TCE_STAT_AUTH c) 1).irq (PG_TCE c) 3 }
  else { d with hw := (h.wr (TCE_STAT_AUTH c) 0).blockFault (PG_TCE c) 14 }

/-- TCE_AUTH_DONE: the check holds one of SEC's lanes, which wait while XSP is bolted or its flash busy (R480, R483). -/
def tceAuthEnd (c : Nat) (d : Dev) : Dev :=
  if d.hw.on (TCE_PCAUTH_BUSY c) && d.hw.laneRuns then d.tceVerdict c else d

/-- Step 7: both cores' programs in place. -/
def Dev.bootPrograms (l : List Word) (d : Dev) : Dev :=
  [0, 1].foldl (fun d c => Dev.tceVerdict { d with hw := d.hw.setReg (TCE_MANIFEST c) (l.getD c 0) } c) d

/-! ## The recorder and the deadbolt at boot (R63, R110, R345, R440) -/

/-- The SAFE-STOP cause that a FAULT record of ring P counts for (R110, R445). -/
def recordCause (w : Nat) : Option StopCause :=
  let cls := w / 0x1000000 % 8
  let src := w / 0x10000 % 64
  let b := w / 256 % 32
  if cls ≠ 3 ∧ cls ≠ 4 then none
  else if src = 0x3F then some (.slot b)
  else if src = PG_SIS ∧ b = 10 then some .overflow
  else some (.block src b)

/-- The counts of R110 from one slot of ring P. -/
def countRecord (m : List Host.Cell) (now a : Nat) (l : List (StopCause × List Nat)) : List (StopCause × List Nat) :=
  let t := memNat m (a + 4) 6
  if slotCrcOk m a && memNat m (a + 10) 2 = 0x0011 && decide (t ≤ now) && decide (now < t + dayTime) then
    match recordCause (memNat m (a + 28) 4) with
    | none => l
    | some c =>
      let old := ((l.find? fun x => decide (x.1 = c)).map (·.2)).getD []
      (c, t :: old) :: l.filter fun x => decide (x.1 ≠ c)
  else l

/-- After a power-on reset: the operating time and the counts return, these from ring P and the spares that stand for its
bad slots (R110, R452), PCC increments in both headers. -/
def Dev.bootPower (d : Dev) : Dev :=
  match bestHeader d.mem with
  | none => d
  | some a =>
    if !d.hw.cpr.por then d
    else
      let t := memNat d.mem (a + 16) 6
      let h := if d.hw.opTime ≤ t then d.hw.setPair CPR_OPTIME_LO t else d.hw
      let l := (List.range (ringSize true)).foldl (fun l i =>
        countRecord d.mem h.opTime (mramSlot (recTranslate (loadRemap d.mem spareCount) (ringBase true + i))) l) []
      { d with hw := { h with sis := { h.sis with counts := l } } }

/-- PCC is written into A and then into B. -/
def Dev.bootCount (d : Dev) : Dev :=
  if d.hw.cpr.por && !d.hw.on REC_STAT_DEGRADED then
    headerPut false (headerPut true { d with hw := d.hw.setNat REC_PCC (d.hw.nat REC_PCC + 1) })
  else d

/-- A deadbolt word counts as set (R441). -/
def wordSet (m : List Host.Cell) (a : Nat) : Bool := memNat m a 1 ≠ 0 || !slotCrcOk m a

/-- The words as read, the release nonce, the mirror; with DB_PWRREL a power-on reset clears the words (R345, R347,
R441). A REC that is DEGRADED only because its sequence numbers have run out has a readable header. The flag says whether
the device is deadbolted. -/
def Dev.bootBolt (mramOk : Bool) (d : Dev) : Dev × Bool :=
  let h := d.hw
  let m := d.mem
  let a := !mramOk || wordSet m 0x60000080
  let b := !mramOk || wordSet m 0x600000C0
  let n := fun x => if mramOk && slotCrcOk m x then memNat m (x + 4) 4 else 0
  let h1 := h.setNat SIS_DB_NONCE (max (n 0x60000080) (n 0x600000C0))
  let mirror := h.on SIS_DB_STAT_MIRROR
  let cause := if mirror then h.rd SIS_DB_STAT_CAUSE else memNat m ((if a then 0x60000080 else 0x600000C0) + 1) 1
  if h.on REC_STAT_DEGRADED && !h.rcd.ranOut then
    let h2 := (((h1.wr SIS_DB_STAT_SET 1).wr SIS_DB_STAT_MIRROR 1).wr SIS_DB_STAT_CAUSE 0xC3).wr SIS_DB_STAT_WORDA (b2n a)
    ({ d with hw := h2.wr SIS_DB_STAT_WORDB (b2n b) }, true)
  else if h.cpr.por && h.env.dbPwrrel && (a || b) then
    let d1 : Dev := { d with hw := h1.recWard 0x0014 true [h1.nat SIS_DB_NONCE, cause, 1] }
    ((d1.putWord 0x60000080 0 (h1.nat SIS_DB_NONCE)).putWord 0x600000C0 0 (h1.nat SIS_DB_NONCE), false)
  else if mirror || a || b then
    let h2 := (h1.wr SIS_DB_STAT_SET 1).wr SIS_DB_STAT_CAUSE cause
    if mirror && !(a && b) then
      let d1 : Dev := { d with hw := (h2.wr SIS_DB_STAT_WORDA 1).wr SIS_DB_STAT_WORDB 1 }
      let k := h2.sis.dbNonce
      ((d1.putWord 0x60000080 0xDB k).putWord 0x600000C0 0xDB k, true)
    else ({ d with hw := (h2.wr SIS_DB_STAT_WORDA (b2n a)).wr SIS_DB_STAT_WORDB (b2n b) }, true)
  else ({ d with hw := h1 }, false)

/-! ## BOOT_COMPLETE -/

/-- The flash as its SFDP gives it, and XSP in the protocol it offers (R478). -/
def Hw.bootFlash (f : BootFacts) (h : Hw) : Hw :=
  let h1 := ((h.setReg XSP_OPC f.opcodes).setNat XSP_LAT f.latency.toNat).wr XSP_SIZE_MIB f.mib.toNat
  let h2 := (h1.wr XSP_CFG_OCT (b2n f.octal)).wr XSP_CFG_XDIV (if f.octal then 12 else 48)
  { h2.wr XSP_STAT_PROTO (b2n f.octal) with xsp := { h2.xsp with cfg := h2.reg XSP_CFG, lat := h2.reg XSP_LAT } }

/-- SEC at boot: the key store, the nonces of this boot (R461, R465, R468). -/
def Hw.bootSec (f : BootFacts) (h : Hw) : Hw :=
  let n := h.draw 8
  let h1 := { n.2 with sec := { n.2.sec with bootNonce := n.1 } }
  h1.free fun w h =>
    ((h.setReg SEC_ORD_NONCE w).wr SEC_KS_WRAPOK (b2n f.otpOk)).cond (!f.otpOk) (·.blockFault PG_SEC 12)

/-- What every boot ends in: the operating-time window closes, the Ward's watchdog is supervised from a first kick, a SOLO
unit holds the key, RESET_HELD is recorded (R63, R73, R322, R351). -/
def Hw.bootEnd (h : Hw) : Hw :=
  let h1 := h.cond h.cpr.heldRec (·.recWard 0x0002 true [h.nat CPR_RST_HOLD])
  { h1.rdnBoot with
    cpr := { h1.rdnBoot.cpr with heldRec := false, agtWritten := true }
    sis := { h1.rdnBoot.sis with wdgOn := true, wdgAge := 0 } }

/-- PROVISION: AP0 runs where a slot has passed; else the host is served on channel 15 (R461, R487). -/
def Hw.bootProvision (passed : Bool) (h : Hw) : Hw :=
  let h1 := if passed then h.wr CPR_AGT_RST_AGT 0x7E
    else (((h.wr CPR_AGT_RST_AGT 0x3F).wr (MLBn_CFG_SND 15) 7).wr (MLBn_CFG_RCV 15) 0).wr (MLBn_CFG_EN 15) 1
  h1.bootEnd.setMode 0xD

/-- The agents run, the map reload starts; READY or DEADBOLT. -/
def Hw.bootRun (bolted : Bool) (h : Hw) : Hw :=
  let h1 := (h.wr CPR_AGT_RST_AGT 0).each [5, 6] fun n h => h.agentFreed n
  let h2 := { h1 with map := { h1.map with rlStart := true } }
  h2.bootEnd.setMode (if bolted then 0xC else 4)

/-- The steps after the wipe for a device without a transition under way. -/
def Dev.bootSteps (f : BootFacts) (d : Dev) : Dev :=
  let h := d.hw
  let lc := h.otp.lc
  let role := h.rd CPR_STRAP_ROLE
  let held := !f.otpOk || lc = 0 || decide (3 ≤ lc) || h.otp.pend || h.cpr.provFlag || role = 0 || role = 3
  let r := if held then (ImageResult.none, d) else d.images
  let good := r.1 = .good
  let d1 := if good then r.2.bootPrograms f.tceManifest else r.2
  let progs := d1.hw.on (TCE_STAT_AUTH 0) && d1.hw.on (TCE_STAT_AUTH 1)
  let d2 := (recLoad f.mramOk d1.versions (if f.mramOk then d1.bootPower else d1)).bootCount
  let b := d2.bootBolt f.mramOk
  { b.1 with hw := if good && progs then b.1.hw.bootRun b.2 else b.1.hw.bootProvision good }

/-- BOOT_COMPLETE (R461): only where the wipe has passed. A transition under way is worked to its end, which is a cold
reset, or stays pending where its burn fails (R472). -/
def bootComplete (f : BootFacts) (d : Dev) : Dev :=
  let h := d.hw
  if h.mode ≠ 2 ∨ h.on CPR_WIPE_STAT_BUSY ∨ h.rd CPR_WIPE_STAT_DONE ≠ 63 ∨ h.rd CPR_WIPE_STAT_FAIL ≠ 0 then d
  else
    let d1 : Dev := { d with hw := (h.bootFlash f).bootSec f }
    match d1.hw.otp.pending with
    | some t =>
      let d2 := d1.lcWork t
      if f.doneOk then d2.lcFinish t
      else ({ d2 with hw := d2.hw.blockFault PG_SEC 12 } : Dev).bootSteps f
    | none => d1.bootSteps f

end Sys2Proof.Machine
end

