-- ==== Sys2Proof/Machine/Flash.lean ====
section
/-! DEFINITION. The flash controller (R478 to R484). Erased flash reads 0xFF and a program stores the bytes it is given
(log entry 13). -/

namespace Sys2Proof.Machine

/-! ## The command engine (R481, R482) -/

/-- Size of the flash in bytes. -/
def Hw.flashSize (h : Hw) : Nat := h.rd XSP_SIZE_MIB * 1048576

/-- A write of XSP_CMD: GO starts the command, or sets CMDBUSY. -/
def flashGo (who : Who) (w : Word) (h : Hw) : Hw :=
  h.opWrite who PG_XSP fun h =>
    let go := getBits w 30 1 = 1
    if go && (h.on XSP_CMD_BUSY || h.bolted PG_XSP) then h.blockFault PG_XSP 12
    else
      (h.wr XSP_CMD_OP (getBits w 24 3)).cond go fun h =>
        let j : FlashJob := ⟨getBits w 24 3, h.nat XSP_CMD_FADDR, h.nat XSP_CMD_BUF, h.nat XSP_CMD_LEN⟩
        { (h.wr XSP_CMD_BUSY 1).wr XSP_CMD_RES_VALID 0 with xsp := { h.xsp with job := j, work := none, sr := 0 } }

/-- A range of 64 KiB blocks of XSP_WP0 or XSP_WP1 holds a byte of `n` from `a` (R482). -/
def Hw.flashGuard (h : Hw) (a n : Nat) : Bool :=
  h.mode ≠ 0xD && [XSP_WP0, XSP_WP1].any fun r =>
    let base := getBits (h.reg r) 0 16
    let lim := getBits (h.reg r) 16 16
    decide (base ≤ lim) && decide (base * 65536 < a + n) && decide (a < (lim + 1) * 65536)

/-- The code a command earns before it touches the flash, 0 for none: alignment, range, protection, the buffer. -/
def Hw.flashCheck (h : Hw) (j : FlashJob) : Nat :=
  let op := j.op
  let a := j.faddr
  let b := j.buf
  let l := j.len
  let n := if op = 3 then 4096 else if op = 4 then 65536 else l
  if op = 5 then 0
  else if (op ≤ 2 && (a % 4 ≠ 0 || b % 4 ≠ 0 || l % 4 ≠ 0 || decide (l < 4) || decide (65536 < l))) ||
      (2 < op && a % n ≠ 0) then 2
  else if h.flashSize < a + n then 6
  else if op ≠ 1 && h.flashGuard a n then 1
  else if op ≤ 2 && !(inSram b l || h.inDram b l) then 5
  else if op = 1 && h.mapGuard b l then 5
  else 0

/-- The engine works operation `op`: a refusal is kept for the result, otherwise `f` acts. -/
def Dev.flashWork (d : Dev) (op : Nat) (f : Dev → Dev) : Dev :=
  let h := d.hw
  if h.on XSP_CMD_BUSY && h.xsp.job.op = op && h.xsp.work.isNone && h.running PG_XSP then
    let c := h.flashCheck h.xsp.job
    let h1 := { h with xsp := { h.xsp with work := some c } }
    let h2 := h1.cond (decide (c = 1)) (·.blockFault PG_XSP 10)
    let h3 := h2.cond (decide (c = 5) && h.mapGuard h.xsp.job.buf h.xsp.job.len) (·.blockFault PG_SEC 9)
    if c = 0 then f { d with hw := h3 } else { d with hw := h3 }
  else d

/-- The flash starts to program or erase. -/
def Dev.flashStart (d : Dev) : Dev := { d with hw := d.hw.wr XSP_STAT_FLBUSY 1 }

/-- XSP_READ. -/
def flashRead (d : Dev) : Dev :=
  d.flashWork 1 fun d =>
    d.store (d.hw.xsp.job.buf) (memReadBytes d.mem (flashBase + d.hw.xsp.job.faddr) (d.hw.xsp.job.len))

/-- XSP_PROGRAM. -/
def flashProgram (d : Dev) : Dev :=
  d.flashWork 2 fun d =>
    let b := memReadBytes d.mem (d.hw.xsp.job.buf) (d.hw.xsp.job.len)
    Dev.flashStart { d with mem := memWriteBytes d.mem (flashBase + d.hw.xsp.job.faddr) b }

/-- XSP_ERASE4K and XSP_ERASE64K: `n` bytes become erased. -/
def Dev.flashErase (d : Dev) (n : Nat) : Dev :=
  let a := flashBase + d.hw.xsp.job.faddr
  Dev.flashStart { d with mem := memClear d.mem a (a + n) }

def flashErase4k (d : Dev) : Dev := d.flashWork 3 (·.flashErase 4096)
def flashErase64k (d : Dev) : Dev := d.flashWork 4 (·.flashErase 65536)

/-- XSP_RDSR. -/
def flashStatus (sr : Nat) (d : Dev) : Dev :=
  d.flashWork 5 fun d => { d with hw := { d.hw with xsp := { d.hw.xsp with sr := sr } } }

/-- The bytes a failed program or erase leaves are not stated: free values. -/
def Dev.flashSpoil (d : Dev) (op : Nat) : Dev :=
  if op = 2 ∨ op = 3 ∨ op = 4 then
    let n := if op = 3 then 4096 else if op = 4 then 65536 else d.hw.xsp.job.len
    let (b, h) := d.hw.draw ((n + 3) / 4)
    { hw := h, mem := memWriteBytes d.mem (flashBase + d.hw.xsp.job.faddr) (b.take n) }
  else d

/-- The flash address a window address shows, if the bank exists (R30, R482). -/
def Hw.windowAddr (h : Hw) (a : Nat) : Option Nat :=
  if h.rd XSP_BANK_BANK = 1 && decide (h.rd XSP_SIZE_MIB ≤ 256) then none
  else some (a - 0x70000000 + 0x10000000 * h.rd XSP_BANK_BANK)

/-- `n` bytes as an access answers them: one word, or two for eight bytes. -/
def replyWords (n v : Nat) : List Word :=
  if n = 8 then [BitVec.ofNat 32 v, BitVec.ofNat 32 (v / 4294967296)] else [BitVec.ofNat 32 v]

/-- `n` bytes at flash address `f`, as they answer a read. A place above the flash's size has no stated contents. -/
def Dev.windowWord (d : Dev) (f n : Nat) : Dev :=
  let h := d.hw
  if h.flashSize < f + n then
    { d with hw := h.free fun w h => h.free fun v h => h.answer (replyWords n ((w.toNat + 4294967296 * v.toNat) % 256 ^ n)) }
  else { d with hw := h.answer (replyWords n (memNat d.mem (flashBase + f) n)) }

/-- A read of `n` bytes of the window by `who` (R30, R480, R483): under the bank that stands when it starts; served, or
held while the flash is busy. -/
def windowRead (who : Who) (a n : Nat) (d : Dev) : Dev :=
  let h := d.hw
  match h.windowAddr a with
  | none => { d with hw := h.busError }
  | some f =>
    if h.bolted PG_XSP then { d with hw := h.busError }
    else if h.on XSP_STAT_FLBUSY then
      { d with hw := { (h.ack.wr XSP_STAT_WIN 1) with xsp := { h.xsp with win := h.xsp.win ++ [⟨who.num, f, n⟩] } } }
    else d.windowWord f n

/-- The window reads that waited are served in order. -/
def Dev.windowServe (d : Dev) : Dev :=
  d.hw.xsp.win.foldl (fun d r => d.windowWord r.addr r.size)
    { d with hw := { d.hw.wr XSP_STAT_WIN 0 with xsp := { d.hw.xsp with win := [] } } }

/-- XSP_COMMAND_DONE: the result, the interrupts, the flash free again. A timeout may come before the engine has worked
at all. -/
def flashDone (how : FlashEnd) (d : Dev) : Dev :=
  let h := d.hw
  if !h.on XSP_CMD_BUSY || (h.xsp.work.isNone && how ≠ .timeout) then d
  else
    let refused := h.xsp.work.elim 0 id
    let op := h.xsp.job.op
    let flashed := op = 2 ∨ op = 3 ∨ op = 4
    let c := if refused ≠ 0 then refused else match how with
      | .ready => 0
      | .timeout => 3
      | .error => if flashed then 4 else 0
    let d1 := if refused = 0 ∧ c ≠ 0 ∧ h.xsp.work.isSome then d.flashSpoil op else d
    let h1 := ((d1.hw.wr XSP_CMD_BUSY 0).wr XSP_STAT_FLBUSY 0).setNat XSP_CMD_RES (0x80000000 + 256 * h.xsp.sr + c)
    let h2 := (h1.irq PG_XSP 0).cond (decide (c ≠ 0)) (·.irq PG_XSP 1)
    Dev.windowServe { d1 with hw := { h2 with xsp := { h2.xsp with work := none } } }

/-- XSP_WINDOW_TIMEOUT: the read that has waited longest ends in a bus error. -/
def windowTimeout (h : Hw) : Hw :=
  match h.xsp.win with
  | [] => h
  | _ :: l =>
    let h1 := (((h.wr XSP_STAT_WIN (b2n (decide (l ≠ [])))).busError).blockFault PG_XSP 9).irq PG_XSP 2
    { h1 with xsp := { h1.xsp with win := l } }

/-- XSP_BANK_SWITCH. -/
def bankWrite (who : Who) (w : Word) (h : Hw) : Hw := h.opWrite who PG_XSP (·.wr XSP_BANK_BANK (getBits w 0 1))

/-- XSP_WP0 and XSP_WP1: agent 0 alone. -/
def protectWrite (who : Who) (a : Nat) (w : Word) (h : Hw) : Hw := h.agent0 who PG_XSP 11 (·.setReg a w)

end Sys2Proof.Machine
end

