-- ==== Sys2Proof/Machine/Access.lean ====
section
/-! DEFINITION. Accesses of the agents and the keyway to the address map: the windows of R28, the register pages (R33 to
R37), the lock (R54), absent and fused-off units (R57), and the registers whose reads or writes act. -/

namespace Sys2Proof.Machine

/-- A step of the hardware that leaves the memories alone. -/
def Dev.via (d : Dev) (f : Hw → Hw) : Dev := { d with hw := f d.hw }

/-! ## Rows of a page -/

/-- Which copy of a repeated register an offset names. -/
def RegRow.copy (r : RegRow) (o : Nat) : Nat := if r.st = 0 then 0 else (o - r.off) / r.st

/-- Which word of the copy. -/
def RegRow.word (r : RegRow) (o : Nat) : Nat :=
  let e := if r.st = 0 then o - r.off else (o - r.off) % r.st
  if r.ms = 0 then 0 else e / r.ms

/-- The register at an offset of a page; the time engine stands in ETH0 alone (R417). -/
def regRow (p o : Nat) : Option RegRow := if p = PG_ETH 1 ∧ 0x100 ≤ o then none else rowAt p o

/-- Registers that R57 makes behave as absent: PS3 to PS5, the grid and energy registers without [G], directory entries
above page 255. -/
def Hw.fused (h : Hw) (p o : Nat) : Bool :=
  h.env.part = 44 &&
    ((p = PG_PST && ((decide (0x2C0 ≤ o) && decide (o < 0x380)) || (decide (0xE0 ≤ o) && decide (o < 0x110)))) ||
     (p = PG_MAP && decide (0x2400 ≤ o) && decide (o < 0x3000)))

/-- The operating registers the chapters name (R54), by the offset of their row; registers without RW, W1S or SH fields
need no mention. -/
def operating (p off : Nat) : Bool :=
  if p = PG_CPR then off ∈ [0x48, 0x68, 0x88, 0x90]
  else if p = PG_SEC then off ∈ [0x64, 0x68, 0x74, 0x78, 0x7C, 0x94, 0x98]
  else if p = PG_RDN then off = 0x60
  else if p = PG_MLB then off ≠ 0x200
  else if p = PG_LAT then true
  else if p = PG_REC then off ∈ [0x60, 0x64, 0x68, 0x74, 0x7C, 0x80]
  else if p = PG_TST then off = 0x40
  else if p = PG_POS then off ∈ [0x44, 0x54]
  else if p = PG_MAP then off ∈ [0x48, 0x6C, 0x84, 0x2000]
  else if p = PG_PRF then off ∈ [0x11C, 0x120, 0x144, 0x148, 0x154]
  else if p = PG_STQ then off ≠ 0x40
  else if p = PG_PST then off ∈ [0x210, 0x214, 0x218, 0x21C]
  else if p = PG_DOR then off ∈ [0x228, 0x240]
  else if p = PG_TCE 0 ∨ p = PG_TCE 1 then off ∈ [0x54, 0x5C, 0x60]
  else if PG_CAN 0 ≤ p ∧ p ≤ PG_CAN 3 then off ∈ [0x6C, 0xA0, 0xB0]
  else if p = PG_ETH 0 ∨ p = PG_ETH 1 then off ∈ [0x5C, 0x60, 0x70, 0x78]
  else if p = PG_SSE then off = 0x120
  else if p = PG_XSP then off ∈ [0x48, 0x60, 0x64, 0x68, 0x6C]
  else false

/-- The lock of R54 covers the register. -/
def RegRow.config (r : RegRow) (p : Nat) : Bool :=
  (r.rw ≠ 0 || r.w1s ≠ 0 || r.kind ≠ .plain) && !operating p r.off

/-- The write rule that the register falls under: as configuration or as an operating register (R48, R54). -/
def Hw.rowWrite (h : Hw) (who : Who) (p : Nat) (r : RegRow) (f : Hw → Hw) : Hw :=
  if r.config p then h.cfgWrite who p f else h.opWrite who p f

/-- The bits of a register that belong to units the part lacks; they read 0 and take no write (R36, R57): the wake source
PHY1 without [E2] (R96), the sets PS3 to PS5 in TCE_TASKk_OUT (R219), VIS0 and VIS1 in DOR_Dn_OBS (R313) and the VIS entry
of TST_ROLL_LIST without [V]. -/
def Hw.lackingBits (h : Hw) (p : Nat) (r : RegRow) : Nat :=
  if h.env.part = 44 ∧ p = PG_CPR ∧ r.off = 0x6C then 8
  else if h.env.part = 44 ∧ (p = PG_TCE 0 ∨ p = PG_TCE 1) ∧ r.rw = 0xF3F then 0x38
  else if !h.hasV ∧ p = PG_DOR ∧ r.off = 0x220 then 0x18
  else if !h.hasV ∧ p = PG_TST ∧ r.off = 0x58 then 8
  else 0

/-- The row of a register on this part. -/
def Hw.fitRow (h : Hw) (p : Nat) (r : RegRow) : RegRow := { r with rw := r.rw - h.lackingBits p r }

/-- A word of a register on this part. -/
def Hw.fitWord (h : Hw) (p : Nat) (r : RegRow) (w : Word) : Word := w &&& ~~~ BitVec.ofNat 32 (h.lackingBits p r)

/-- The word after a write under the access codes of its fields (R35). -/
def RegRow.after (r : RegRow) (old w : Word) : Word :=
  let kept := (old &&& ~~~ BitVec.ofNat 32 r.rw) ||| (w &&& BitVec.ofNat 32 r.rw)
  (kept &&& ~~~ (w &&& BitVec.ofNat 32 r.w1c)) ||| (w &&& BitVec.ofNat 32 r.w1s)

/-! ## Header reads (R38 to R46) -/

/-- BLK_ID.TYPE (R40). -/
def typeCode (p : Nat) : Nat :=
  if p < 8 then p + 1
  else if p ≤ PG_VIS then p
  else if p = PG_TCE 0 ∨ p = PG_TCE 1 then 0x18
  else if PG_CAN 0 ≤ p ∧ p ≤ PG_CAN 3 then 0x20
  else if p = PG_ETH 0 ∨ p = PG_ETH 1 then 0x24
  else p

/-- BLK_CAP (R41 and the chapters). -/
def Hw.capability (h : Hw) (p : Nat) : Nat :=
  let small := decide (h.env.part = 44)
  if p = PG_CPR then (if small then 0x10040320 else if h.env.part = 46 then 0x40080646 else 0x40080647)
  else if p = PG_SEC then 0x00018004
  else if p = PG_SIS then 0x00201018
  else if p = PG_RDN then 0x1012
  else if p = PG_MLB then 0x00082010
  else if p = PG_LAT then 0x40
  else if p = PG_REC then 0x40201480
  else if p = PG_TST then 0x040F
  else if p = PG_POS then 0x00022046
  else if p = PG_MAP then (if small then 0xFF800100 else 0xFF800400)
  else if p = PG_PRF then 0x24
  else if p = PG_STQ then 0x00030100
  else if p = PG_PST then (if small then 0x00001883 else 0x00011886)
  else if p = PG_DOR then (if h.hasV then 0x182 else 0x82)
  else if p = PG_VIS then 0x22
  else if p = PG_TCE 0 ∨ p = PG_TCE 1 then 0x40404010
  else if PG_CAN 0 ≤ p ∧ p ≤ PG_CAN 3 then 0x04404080
  else if p = PG_ETH 0 then 0x0110080F
  else if p = PG_ETH 1 then 0x0010080F
  else if p = PG_SSE then 0x00400040
  else if p = PG_HSP then 0x40
  else if p = PG_XSP then 0x00010200
  else 0

/-- BLK_IRQ bits [29:0] that a block defines (R44). -/
def irqBits (p : Nat) : Nat :=
  if p = PG_CPR then 0xF
  else if p = PG_SEC ∨ p = PG_SIS ∨ p = PG_REC ∨ p = PG_STQ then 0x1F
  else if p = PG_RDN ∨ p = PG_VIS then 0xFF
  else if p = PG_MLB ∨ p = PG_HSP then 3
  else if p = PG_LAT then 1
  else if p = PG_TST ∨ p = PG_XSP then 7
  else if p = PG_POS then 0x3FFFFFFF
  else if p = PG_MAP ∨ p = PG_TCE 0 ∨ p = PG_TCE 1 then 0x3F
  else if p = PG_PRF ∨ (PG_CAN 0 ≤ p ∧ p ≤ PG_CAN 3) then 0x7FFF
  else if p = PG_PST then 0xFFF
  else if p = PG_DOR then 0x3FF
  else if p = PG_ETH 0 ∨ p = PG_ETH 1 then 0x7F
  else if p = PG_SSE then 0xF
  else 0

/-- A word of the header as it reads: BLK_ID, BLK_CAP, FAULT in BLK_STAT, SWAP as HPEND in BLK_HINGE. -/
def Hw.hdrWord (h : Hw) (p o : Nat) : Word :=
  let w := h.reg (0x40000000 + 0x10000 * p + o)
  if o = 0 then BitVec.ofNat 32 (0x10000 * typeCode p + 0x100)
  else if o = 4 then BitVec.ofNat 32 (h.capability p)
  else if o = 0xC then setBits w 3 1 (b2n (decide (h.nat (BLK_FAULT p) &&& 0x00FFFF3F ≠ 0)))
  else if o = 0x1C then setBits w 0 1 (h.rd (BLK_STAT_HPEND p))
  else w

/-! ## Registers that show what stands elsewhere -/

/-- The agent number under which a read of MLB sees the page: the keyway sees what agent 0 would (R423). -/
def seenAs (w : Who) : Nat := if w = .keyway then 0 else w.num

/-- Word `i` of the AON store: 64 records of 16 words (R453). -/
def Hw.aonWord (h : Hw) (i : Nat) : Nat :=
  match h.rcd.aon[i / 16]? with
  | none => 0
  | some r => ofLE (((recordBytes h r).drop (4 * (i % 16))).take 4)

/-- HSP_INTSRC0 and HSP_INTSRC1 (R487). -/
def Hw.hostSource (h : Hw) (i : Nat) : Nat :=
  if i = 0 then maskOf 32 fun p => h.line p 7
  else maskOf 9 (fun p => h.line (32 + p) 7) + 512 * b2n (h.doorbell 7)

/-- A register of page `p` as requester `who` sees it, copy `i`, word `j` of the row at `off`. -/
def Hw.shown (h : Hw) (who : Who) (p off i j a : Nat) : Word :=
  let w := h.reg a
  if p = PG_CPR ∧ off = 0x4200 then BitVec.ofNat 32 (maskOf 32 fun b => h.plicPending (32 * i + b))
  else if p = PG_SEC then
    (if off = 0x40 then BitVec.ofNat 32 h.secLcs
     else if off = 0x44 then BitVec.ofNat 32 h.secOpt
     else if off = 0x48 then BitVec.ofNat 32 (ofLE ((h.otp.devuid.drop (4 * i)).take 4))
     else if off = 0x5C then setBits w 0 8 h.otp.floor
     else if off = 0x60 then setBits w 0 4 h.keysValid
     else if off = 0x100 then BitVec.ofNat 32 (ofLE (((Config.dakPub h.otp.duk).drop (4 * i)).take 4))
     else w)
  else if p = PG_SIS ∧ off = 0x200 then BitVec.ofNat 32 (maskOf 32 fun b => h.icPending (32 * i + b))
  else if p = PG_MLB then
    (if off = 0x40 then BitVec.ofNat 32 (seenAs who)
     else if off = 0x4C then BitVec.ofNat 32 (h.mine (seenAs who))
     else if off = 0x8C then h.dbPend i
     else w)
  else if p = PG_REC then
    (if off = 0x60 then BitVec.ofNat 32 h.wallNow
     else if off = 0x64 then BitVec.ofNat 32 (h.wallNow / 4294967296)
     else if off = 0x68 then (h.subRegs who.num).getD 0 0
     else if off = 0x6C then (h.subRegs who.num).getD 1 0
     else if off = 0x70 then (h.subRegs who.num).getD 2 0
     else if off = 0x80 then (h.subRegs who.num).getD (3 + i) 0
     else if off = 0x1000 then BitVec.ofNat 32 (h.aonWord i)
     else w)
  else if p = PG_TST then
    (if off = 0x64 then BitVec.ofNat 32 h.idcode else w)
  else if p = PG_PRF then ((h.prf.spOld.find? (fun e => e.1 = a)).map (·.2)).getD w
  else if p = PG_MAP ∧ off = 0x2000 then h.dirWord i w
  else if p = PG_POS ∧ off = 0xA0 then BitVec.ofNat 32 h.cpr.din
  else if p = PG_POS ∧ off = 0xBC then h.capWord who.num i
  else if PG_CAN 0 ≤ p ∧ p ≤ PG_CAN 3 ∧ (off = 0x400 ∨ off = 0x480) then
    h.queueWord who.num (p - PG_CAN 0) (if off = 0x400 then 0 else 1) i
  else if p = PG_XSP ∧ off = 0x44 then
    setBits (setBits w 30 1 (b2n (h.laneRuns && (h.on MAP_RELOAD_BUSY || (h.on SEC_MAP_CMD_BUSY && h.sec.mapRes.isNone)))))
      29 1 (b2n (h.laneRuns && (h.on (TCE_PCAUTH_BUSY 0) || h.on (TCE_PCAUTH_BUSY 1))))
  else if p = PG_HSP ∧ (off = 0x48 ∨ off = 0x4C) then BitVec.ofNat 32 (h.hostSource ((off - 0x48) / 4))
  else w

/-! ## Reads that act -/

/-- A read of SIS_LS_STAT: CECNT has counted the errors that the TCM has corrected since the last read, how many is free (R322,
log entry 52). -/
def tcmCount (h : Hw) : Hw :=
  h.free fun w h =>
    let h1 := h.wr SIS_LS_STAT_CECNT (satN 16 (h.rd SIS_LS_STAT_CECNT + w.toNat % 65536))
    h1.answer [h1.reg SIS_LS_STAT]

/-- Reads that do more than return a word: a claim, a pop, a lock, a latch, a fresh random word. -/
def readAction (who : Who) (p : Nat) (r : RegRow) (i j : Nat) : Option (Hw → Hw) :=
  if p = PG_CPR ∧ r.off = 0x5004 then some (plicClaimR i)
  else if p = PG_SIS ∧ r.off = 0x210 then some (icClaim who none)
  else if p = PG_SIS ∧ r.off = 0x110 then some tcmCount
  else if p = PG_SEC ∧ r.off = 0xA0 then some fun h => h.free fun w h => h.answer [w]
  else if p = PG_MLB ∧ r.off = 0x220 then some (payloadRead who i j)
  else if p = PG_LAT ∧ r.off = 0x100 then some (latchRead who i)
  else if p = PG_POS ∧ r.off = 0xBC ∧ i = 0 then some (capPop who)
  else if PG_CAN 0 ≤ p ∧ p ≤ PG_CAN 3 then
    let c := p - PG_CAN 0
    if (r.off = 0x400 ∨ r.off = 0x480) ∧ i = 0 then some (queuePop who c (if r.off = 0x400 then 0 else 1))
    else if 0x4000 ≤ r.off then some (objRead who c i ((r.off - 0x4000) / 4 + j))
    else none
  else none

/-- A read of a pair's _LO latches the _HI beside it for the reader (R37). -/
def Hw.latchHi (h : Hw) (who a : Nat) (hi : Word) : Hw :=
  { h with hdr := { h.hdr with rdHold := setHolder h.hdr.rdHold who (a + 4) hi } }

/-- A read of an active register: a pair latches or returns the reader's holder (R37), RC fields clear (R35). DESIGN
CHOICE (log entry 55): an _HI read by an agent that has read no _LO since reset shows the present value. -/
def Hw.readActive (h : Hw) (who : Who) (p o : Nat) (r : RegRow) : Hw :=
  let a := 0x40000000 + 0x10000 * p + o
  let i := r.copy o
  let j := r.word o
  match readAction who p r i j with
  | some f => f h
  | none =>
    let w := h.fitWord p r (h.shown who p r.off i j a)
    if isPairLo a then
      let hi := match rowAt p (o + 4) with
        | some s => h.shown who p s.off (s.copy (o + 4)) (s.word (o + 4)) (a + 4)
        | none => 0
      (h.latchHi who.num a hi).answer [w]
    else if isPairLo (a - 4) then h.answer [(holderOf h.hdr.rdHold who.num a).getD w]
    else (h.cond (r.rc ≠ 0) (·.setReg a (h.reg a &&& ~~~ BitVec.ofNat 32 r.rc))).answer [w]

/-- The word at a shadow address: while a SYNC copy runs the read stalls and shows the copy, with the writes that stalled
before it (R52). -/
def Hw.shadowWord (h : Hw) (p a : Nat) : Word := if p ∈ h.hdr.syncing then (h.afterSync p).reg a else h.reg a

/-- A read of a shadow offset; a pair latches there as at its active offsets (R37). -/
def Hw.readShadow (h : Hw) (who : Who) (p o : Nat) (r : RegRow) : Hw :=
  let a := 0x40000000 + 0x10000 * p + o
  if r.kind = .plain then h.answer [0]
  else if isPairLo a then (h.latchHi who.num a (h.shadowWord p (a + 4))).answer [h.shadowWord p a]
  else if isPairLo (a - 4) then h.answer [(holderOf h.hdr.rdHold who.num a).getD (h.shadowWord p a)]
  else h.answer [h.fitWord p r (h.shadowWord p a)]

/-- A read of a register page, aligned and 32 bits wide (R33 to R37, R57). -/
def Hw.readPage (h : Hw) (who : Who) (a : Nat) : Hw :=
  let p := pageOf a
  let o := offOf a
  let undef := fun (h : Hw) => (h.answer [0]).commonFault who BLK_FAULT_UNDEF p
  if !isPage p then h.busError
  else if h.absent p then h.answer [0]
  else if o < 0x30 then h.answer [h.hdrWord p o]
  else if o < 0x40 then undef h
  else if o < 0x8000 then
    match regRow p o with
    | none => undef h
    | some r => if h.fused p o then h.answer [0] else h.readActive who p o r
  else if o < 0x8040 then h.answer [0]
  else
    match regRow p (o - 0x8000) with
    | none => undef h
    | some r => if h.fused p (o - 0x8000) then h.answer [0] else h.readShadow who p o r

/-! ## Writes that act -/

/-- The set in force follows a configuration register written at its active offset, in the blocks that keep the set of
the last valid swap (log entry 21). Of PST, the phase in force and CFGREJ of PST_TB_PHASE follow a swap alone, whose point
R17 and R265 name (log entry 67). -/
def Hw.tookActive (h : Hw) (p a : Nat) : Hw :=
  let put := fun (l : List (Nat × Word)) => (a, h.reg a) :: l.filter (fun e => decide (e.1 ≠ a))
  if p = PG_POS then h.takeChannels
  else if p = PG_RDN then (if a ∈ rdnCfgAddrs then { h with rdn := { h.rdn with force := put h.rdn.force } } else h)
  else if p = PG_ETH 0 ∨ p = PG_ETH 1 then
    (if a ∈ ethCfgAddrs (p - PG_ETH 0) then { h with eth := { h.eth with force := put h.eth.force } } else h)
  else if PG_CAN 0 ≤ p ∧ p ≤ PG_CAN 3 then
    let c := p - PG_CAN 0
    if a = CAN_TIME c ∨ a = CAN_REFID c then h.timeTaken c else h.queueWatch c
  else if p = PG_XSP then { h with xsp := { h.xsp with cfg := h.reg XSP_CFG, lat := h.reg XSP_LAT } }
  else if p = PG_STQ then { h with stq := { h.stq with margin := h.rd STQ_CFG_MARGIN } }
  else if p = PG_HSP then { h with hsp := { h.hsp with dummy := h.rd HSP_CFG_DUMMY } }
  else h

/-- Registers of CPR to TST whose writes act. -/
def writeSystem (who : Who) (p : Nat) (r : RegRow) (i j : Nat) (w : Word) : Option (Dev → Dev) :=
  let hw := fun (f : Hw → Hw) => some (fun (d : Dev) => d.via f)
  if p = PG_CPR then
    (if r.off = 0x48 then some (warmReset who w)
     else if r.off = 0x4C then hw (agentReset who w)
     else if r.off = 0x58 then hw (clockEnable who w)
     else if r.off = 0x60 then hw (appDiv who w)
     else if r.off = 0x68 then hw (parkRequestW who w)
     else if r.off = 0x80 then hw fun h => h.opWrite who p (·.holdLo who.num CPR_OPTIME_LO w)
     else if r.off = 0x84 then hw (opWriteTime who w)
     else if r.off = 0x88 then hw (groupFire who w)
     else if r.off = 0x4000 ∧ (i = 0 ∨ 42 ≤ i) then hw fun h => h.rowWrite who p r id
     else if r.off = 0x4400 then hw fun h => h.rowWrite who p r fun h =>
       h.setReg (PLIC_EN i j) (w &&& BitVec.ofNat 32 ([0xFFFFFFFE, 0x3FF].getD j 0))
     else if r.off = 0x5004 then hw (plicDone who i w)
     else none)
  else if p = PG_SEC then
    (if r.off = 0x64 then hw fun h => h.agent0 who p 8 (·.setReg SEC_ORD_ADDR w)
     else if r.off = 0x68 then some (orderWrite who w)
     else if r.off = 0x74 then hw (mapCommand who w)
     else if r.off = 0x94 then hw (skxWrite who w)
     else if r.off = 0x9C then hw (kwClose who w)
     else none)
  else if p = PG_SIS then
    (if r.off = 0x44 then hw (modeOrder who w)
     else if r.off = 0x70 then hw fun h => h.agent0R who p 8 (armWrite w.toNat)
     else if r.off = 0xFC then hw (faultFinish who w)
     else if r.off = 0x10C then some (boltRelease who w true true true)
     else if r.off = 0x118 then hw (wdgKick who w)
     else if r.off = 0x210 then hw (icClaim who (some w))
     else if r.off = 0x414 ∧ getBits w 30 1 = 1 then hw fun h =>
       (slotClearW who i h).cond (who = .agent 0 && getBits w 29 1 = 1) (·.setBitAt (SIS_SFk_STAT i) 29 false)
     else hw fun h =>
       let a := 0x40000000 + 0x10000 * p + r.off + i * r.st
       h.agent0R who p 8 (·.wardPut a (r.after (h.reg a) w)))
  else if p = PG_RDN then (if r.off = 0x60 then hw (pairKeyWrite who w) else none)
  else if p = PG_MLB then
    (if r.off = 0x80 then hw (bellClear who i w)
     else if r.off = 0x84 then hw (bellRing who i w)
     else if r.off = 0x88 then hw (bellMask who i w)
     else if r.off = 0x200 then hw (chanConfig who i w)
     else if r.off = 0x204 then hw (chanControl who i w)
     else if r.off = 0x20C then hw (chanAckWrite who i w)
     else if r.off = 0x220 then hw (payloadWrite who i j w)
     else hw fun h => h.notKeyway who p 8 id)
  else if p = PG_LAT then
    (if r.off = 0x50 then hw (latchFree who 0 w)
     else if r.off = 0x54 then hw (latchFree who 1 w)
     else if r.off = 0x100 then hw (latchWrite who i)
     else hw fun h =>
       let a := 0x40000000 + 0x10000 * p + r.off + i * r.st
       h.notKeyway who p 9 (·.setReg a (r.after (h.reg a) w)))
  else if p = PG_REC then
    (if r.off = 0x40 then hw fun h => h.agent0 who p 12 (recConfig (r.after (h.reg REC_CFG) w))
     else if r.off = 0x60 then hw fun h => h.opWrite who p (·.holdLo who.num REC_WALL_LO w)
     else if r.off = 0x64 then hw (wallSet who w)
     else if r.off = 0x68 then hw (recSubmit who w)
     else if r.off = 0x74 then hw (readTranslate who w)
     else if r.off = 0x7C then hw (dbPortWrite who w)
     else if r.off = 0x80 then hw fun h => h.opWrite who p (·.setSub who.num (3 + i) w)
     else none)
  else if p = PG_TST then
    (if r.off = 0x40 then hw (tstWrite who w)
     else if r.off = 0x54 ∨ r.off = 0x58 then hw fun h =>
       let a := 0x40000000 + 0x10000 * p + r.off
       h.agent0R who p 9 (·.setReg a (r.after (h.reg a) w))
     else none)
  else none

/-- Registers of the motion blocks whose writes act. -/
def writeMotion (who : Who) (p : Nat) (r : RegRow) (i j : Nat) (w : Word) : Option (Dev → Dev) :=
  let hw := fun (f : Hw → Hw) => some (fun (d : Dev) => d.via f)
  if p = PG_POS then
    (if r.off = 0x44 then hw (returnWrite who w)
     else if r.off = 0x54 then hw (alignWrite who w)
     else if r.off = 0x12C then hw (presetWrite who i w)
     else if r.off = 0x31C then hw (serialClear who i w)
     else none)
  else if p = PG_MAP then
    (if r.off = 0x48 then hw (genWrite who w)
     else if 0x1000 ≤ r.off ∧ r.off < 0x1010 then hw fun h => h.rowWrite who p r id
     else if r.off = 0x6C then hw (reloadWrite who w)
     else if r.off = 0x84 then some (rebuildWrite who w)
     else if r.off = 0x2000 then hw (dirWrite who i w)
     else none)
  else if p = PG_PRF then
    (if r.off = 0x48 then hw (wardCap who w)
     else if r.off = 0x120 then hw (cmdWrite who i w)
     else none)
  else if p = PG_STQ then
    (if 0x120 ≤ r.off ∧ r.off < 0x220 then
       let m := (r.off - 0x100) / 0x60
       let kind := (r.off - 0x100) / 0x20 % 3
       if kind = 1 then hw (callSet who m i w) else if kind = 2 then hw (callClear who m i w) else none
     else none)
  else if p = PG_PST then
    (if r.off = 0x94 then hw (clearTrips who w)
     else if r.off = 0xC0 then hw fun h => if getBits w 1 1 = 1 then btAbortW who w h else btStart who w h
     else if r.off = 0xF8 then hw (gridLossClr who w)
     else none)
  else if p = PG_DOR then
    (if r.off = 0x240 then hw (doorWrite who i w)
     else if 0x22C ≤ r.off ∧ r.off ≤ 0x23C then hw fun h =>
       let a := 0x40000000 + 0x10000 * p + r.off + i * r.st
       h.agent0 who p 15 (·.setReg a (r.after (h.reg a) w))
     else none)
  else if p = PG_TCE 0 ∨ p = PG_TCE 1 then
    let c := p - PG_TCE 0
    (if r.off = 0x40 then hw (tceCtlWrite who c w)
     else if r.off = 0x54 then hw (tceTrigger who c w)
     else if r.off = 0x58 then hw (bgWrite who c w)
     else if r.off = 0x60 then hw (tceAuthGo who c w)
     else none)
  else none

/-- Registers of the network blocks and of XSP whose writes act. -/
def writeNet (who : Who) (p : Nat) (r : RegRow) (i j : Nat) (w : Word) : Option (Dev → Dev) :=
  let hw := fun (f : Hw → Hw) => some (fun (d : Dev) => d.via f)
  if PG_CAN 0 ≤ p ∧ p ≤ PG_CAN 3 then
    let c := p - PG_CAN 0
    let a := 0x40000000 + 0x10000 * p + r.off + i * r.st
    (if r.off = 0x40 then hw (canCtl who c w)
     else if r.off = 0x4C ∨ r.off = 0x50 ∨ r.off = 0x64 then hw (canTiming who c a w (BitVec.ofNat 32 r.rw))
     else if r.off = 0x6C then hw (negStartWrite who c w)
     else if r.off = 0x98 then hw (wakeAsk who c w)
     else if r.off = 0xA0 then hw (txRequest who c i w)
     else if r.off = 0xB0 then hw (txCancel who c i w none)
     else if r.off = 0xC0 then hw (setClear who c i (CAN_TXOK c 0) (CAN_OBJn_W3_TXOK c) w)
     else if r.off = 0xD0 then hw (setClear who c i (CAN_TXFAIL c 0) (CAN_OBJn_W3_TXFAIL c) w)
     else if r.off = 0xE0 then hw (setClear who c i (CAN_NEWDAT c 0) (CAN_OBJn_W3_NEWDAT c) w)
     else if 0x4000 ≤ r.off then hw (objPut who c i ((r.off - 0x4000) / 4 + j) w)
     else none)
  else if p = PG_ETH 0 ∨ p = PG_ETH 1 then
    let c := p - PG_ETH 0
    let a := 0x40000000 + 0x10000 * p + r.off
    (if r.off = 0x5C then hw (mdioWrite who c w)
     else if r.off = 0x6C ∨ r.off = 0x74 then hw (ringWrite who c a w)
     else if r.off = 0x70 then hw (ringIndex who c false w)
     else if r.off = 0x78 then hw (ringIndex who c true w)
     else none)
  else if p = PG_SSE ∧ r.off = 0x120 then hw (bufferSwitch who i w)
  else if p = PG_XSP then
    (if r.off = 0x48 then hw (bankWrite who w)
     else if r.off = 0x58 ∨ r.off = 0x5C then hw (protectWrite who (0x40000000 + 0x10000 * p + r.off) w)
     else if r.off = 0x60 then hw (flashGo who w)
     else none)
  else none

/-- A write that acts, if the register is one. -/
def writeAction (who : Who) (p : Nat) (r : RegRow) (i j : Nat) (w : Word) : Option (Dev → Dev) :=
  if p < 8 then writeSystem who p r i j w
  else if p < 0x20 then writeMotion who p r i j w
  else writeNet who p r i j w

/-- A write of an active register. -/
def Dev.writeActive (d : Dev) (who : Who) (p o : Nat) (r0 : RegRow) (w : Word) : Dev :=
  let r := d.hw.fitRow p r0
  let a := 0x40000000 + 0x10000 * p + o
  match writeAction who p r (r.copy o) (r.word o) w with
  | some f => f d
  | none => d.via fun h => h.rowWrite who p r fun h =>
      if writtenPairLo a then h.holdLo who.num a w
      else if writtenPairLo (a - 4) then (h.pairWrite who.num a (w &&& BitVec.ofNat 32 r.rw)).tookActive p (a - 4) |>.tookActive p a
      else
        let h1 := h.setReg a (r.after (h.reg a) w)
        let h2 := h1.cond (r.kind = .shadowed) (·.tookActive p a)
        h2.cond (p = PG_PST) Hw.refreshSets

/-- A write of a shadow offset; it stalls while a SYNC copy runs (R52). Bits without RW keep the value of their row (R36,
R540). Pages and registers that only agent 0 writes keep that rule here. -/
def Hw.writeShadow (h : Hw) (who : Who) (p o : Nat) (r0 : RegRow) (w : Word) : Hw :=
  let r := h.fitRow p r0
  let a := 0x40000000 + 0x10000 * p + o
  let v := (w &&& BitVec.ofNat 32 r.rw) ||| (BitVec.ofNat 32 r.reset &&& ~~~ BitVec.ofNat 32 r0.rw)
  let put := fun (h : Hw) =>
    if p ∈ h.hdr.syncing then { h with hdr := { h.hdr with stalled := h.hdr.stalled ++ [⟨who.num, a, v⟩] } }
    else h.shadowLands ⟨who.num, a, v⟩
  if r.kind = .plain then h.opWrite who p id
  else if p = PG_SIS then h.agent0R who p 8 put
  else if p = PG_REC then h.agent0 who p 12 put
  else if p = PG_TST ∧ (r.off = 0x54 ∨ r.off = 0x58) then h.agent0R who p 9 put
  else if p = PG_DOR ∧ 0x22C ≤ r.off ∧ r.off ≤ 0x23C then h.agent0 who p 15 put
  else h.rowWrite who p r put

/-- A write of a header register (R38 to R50). The bits of BLK_CTL act in the order unbolt, quiesce, enable, bolt,
reset. -/
def hdrStore (who : Who) (p o : Nat) (w : Word) (h : Hw) : Hw :=
  if o = 8 then
    let h1 := if getBits w 1 1 = 0 then unboltBlock who p h else h
    let h2 := if getBits w 2 1 = 1 then quiesceBlock who p h1 else releaseBlock who p h1
    let h3 := if getBits w 0 1 = 1 then enableBlock who p h2 else disableBlock who p h2
    let h4 := if getBits w 1 1 = 1 then boltBlock who p h3 else h3
    if getBits w 3 1 = 1 then softReset who p h4 else h4
  else if o = 0x10 then h.opWrite who p fun h =>
    (h.setReg (BLK_IRQ p) (h.reg (BLK_IRQ p) &&& ~~~ w)).cond (decide (PG_CAN 0 ≤ p ∧ p ≤ PG_CAN 3)) (·.queueWatch (p - PG_CAN 0))
  else if o = 0x14 then h.opWrite who p fun h =>
    h.setReg (BLK_IRQ_EN p) (w &&& BitVec.ofNat 32 (0xC0000000 + irqBits p))
  else if o = 0x18 then h.hdrWrite who p (·.setReg (BLK_IRQ_ROUTE p) (w &&& 0xFF#32))
  else if o = 0x1C then hingeWrite who p w h
  else if o = 0x24 then lockWrite who p w h
  else if o = 0x28 then h.opWrite who p fun h =>
    h.setReg (BLK_FAULT p) (h.reg (BLK_FAULT p) &&& ~~~ (w &&& 0x00FFFF3D#32))
  else if o = 0x2C then bistWrite who p w h
  else h.opWrite who p id

/-- A write of a register page, aligned and 32 bits wide. -/
def Dev.writePage (d : Dev) (who : Who) (a : Nat) (w : Word) : Dev :=
  let h := d.hw
  let p := pageOf a
  let o := offOf a
  let undef := fun (h : Hw) => h.ack.commonFault who BLK_FAULT_UNDEF p
  if !isPage p then d.via Hw.busError
  else if h.absent p then d.via Hw.ack
  else if o < 0x30 then d.via fun h => hdrStore who p o w h.plicLatch
  else if o < 0x40 then d.via undef
  else if o < 0x8000 then
    match regRow p o with
    | none => d.via undef
    | some r => if h.fused p o then d.via Hw.ack else d.writeActive who p o r w
  else if o < 0x8040 then d.via Hw.ack
  else
    match regRow p (o - 0x8000) with
    | none => d.via undef
    | some r => if h.fused p (o - 0x8000) then d.via Hw.ack else d.via (·.writeShadow who p o r w)

/-! ## The address map (R28, R29) -/

/-- What stands at an address. -/
inductive Window where
  | rom
  | tcm
  | sram
  | exchange
  | program (core : Nat)
  | data
  | page
  | mram
  | xspi
  | dram
  | none
  deriving DecidableEq, Repr

/-- The window of `n` bytes at `a` (R28, R29). -/
def Hw.window (h : Hw) (a n : Nat) : Window :=
  if a < 0x20000 then .rom
  else if inRange a n 0x10000000 0x10040000 then .tcm
  else if inSram a n then .sram
  else if inRange a n 0x30000000 0x30040000 then .exchange
  else if inRange a n 0x31000000 0x31010000 then .program 0
  else if inRange a n 0x31100000 0x31110000 then .program 1
  else if inRange a n 0x31010000 0x31030000 ∨ inRange a n 0x31110000 0x31130000 then .data
  else if inRange a n 0x40000000 0x41000000 then .page
  else if inRange a n 0x60000000 0x61000000 then .mram
  else if inRange a n 0x70000000 0x80000000 then .xspi
  else if h.inDram a n then .dram
  else .none

/-- The memory, as CPR_WIPE_STAT numbers them, that the window at `a` belongs to. -/
def wipeIndex (a : Nat) : Window → Option Nat
  | .dram => some 0
  | .sram => some 1
  | .exchange | .program _ | .data => some 2
  | .page => if canMemory a then some 3 else none
  | .tcm => some 5
  | _ => none

/-- An access to a memory that is still being wiped stalls until that memory is done (R77). -/
def Hw.wipeStalls (h : Hw) (a n : Nat) : Bool :=
  h.on CPR_WIPE_STAT_BUSY && (wipeIndex a (h.window a n)).elim false fun i => !bit (h.rd CPR_WIPE_STAT_DONE) i

/-- The access waits. -/
def Hw.wipeHold (h : Hw) (x : StalledAccess) : Hw :=
  { h.ack with cpr := { h.cpr with wipeWait := h.cpr.wipeWait ++ [x] } }

/-- The access meets the page of an absent unit: of whatever width and alignment, it ends in no bus error (R5, R32). -/
def Hw.absentAt (h : Hw) (a : Nat) : Bool := decide (0x40000000 ≤ a) && decide (a < 0x41000000) && h.absent (pageOf a)

/-- A write of `n` bytes (R5, R28, R29, R34, R201, R439, R466). -/
def Dev.busWrite (d : Dev) (who : Who) (a n : Nat) (v : Nat) : Dev :=
  let h := d.hw
  let bs := leBytes n v
  if h.absentAt a then d.via Hw.ack
  else if a % n ≠ 0 ∨ 0x100000000 ≤ a then d.via Hw.busError
  else if h.wipeStalls a n then d.via (·.wipeHold ⟨who, a, n, some v⟩)
  else match h.window a n with
    | .tcm => if who = .agent 0 ∨ who = .keyway then (d.via Hw.ack).store a bs else d.via Hw.busError
    | .sram => (d.via Hw.ack).store a bs
    | .exchange => (d.via Hw.ack).store a bs
    | .data => (d.via Hw.ack).store a bs
    | .program c => d.programStore c a bs
    | .page => if n = 4 then d.writePage who a (BitVec.ofNat 32 v) else d.via Hw.busError
    | .mram => d.via fun h => h.ack.blockFault PG_REC 11
    | .dram => if h.mapGuard a n then d.via fun h => h.busError.blockFault PG_SEC 9 else (d.via Hw.ack).store a bs
    | .rom => d.via Hw.busError
    | .xspi => d.via Hw.busError
    | .none => d.via Hw.busError

/-- A write by an agent or the keyway: outside the session's scope the keyway's changes nothing but DENIED (R475). -/
def Dev.write (d : Dev) (who : Who) (a n v : Nat) : Dev :=
  match who with
  | .agent _ => d.busWrite who a n v
  | .keyway =>
    if !d.hw.on SEC_KW_STAT_OPEN then d
    else if d.hw.kwScope a then d.busWrite who a n v
    else d.via fun h => h.ack.wr SEC_KW_STAT_DENIED 1

/-- A read of `n` bytes (R5, R28, R34, R439, R475, R480). -/
def Dev.busRead (d : Dev) (who : Who) (a n : Nat) : Dev :=
  let h := d.hw
  if h.absentAt a then d.via (·.answer (replyWords n 0))
  else if a % n ≠ 0 ∨ 0x100000000 ≤ a then d.via Hw.busError
  else if h.wipeStalls a n then d.via (·.wipeHold ⟨who, a, n, none⟩)
  else match h.window a n with
    | .page => if n = 4 then d.via (·.readPage who a) else d.via Hw.busError
    | .xspi => windowRead who a n d
    | .mram =>
      if h.otp.lc = 3 ∧ !(who = .keyway && h.perm 4) then d.via (·.answer (replyWords n 0))
      else d.via (·.answer (replyWords n (memNat d.mem a n)))
    | .none => d.via Hw.busError
    | _ => d.via (·.answer (replyWords n (memNat d.mem a n)))

/-- The window shows the block of the key store at an address (R462). -/
def Hw.showsKeys (h : Hw) (a : Nat) : Bool :=
  decide (0x70000000 ≤ a) && decide (a < 0x80000000) && (h.windowAddr a).elim false fun f => f / 65536 = 0x12

/-- A read by an agent or the keyway; a session without READ, and one that reads the key store (R475), is answered with an
error (log entry 22). -/
def Dev.read (d : Dev) (who : Who) (a n : Nat) : Dev :=
  if who = .keyway ∧ (!d.hw.perm 0 || d.hw.showsKeys a) then d.via Hw.busError else d.busRead who a n

/-- The accesses that waited for the wipe take place in order. -/
def Dev.wipeServe (d : Dev) : Dev :=
  if d.hw.on CPR_WIPE_STAT_BUSY then d
  else d.hw.cpr.wipeWait.foldl (fun d x => match x.data with
      | some v => d.busWrite x.who x.addr x.size v
      | none => d.busRead x.who x.addr x.size)
    (d.via fun h => { h with cpr := { h.cpr with wipeWait := [] } })

end Sys2Proof.Machine
end

