-- ==== Sys2Proof/Machine/Host.lean ====
section
/-! DEFINITION. Transactions of the host through HSP (R485 to R488). -/

namespace Sys2Proof.Machine

def host : Who := .agent 7

/-- Agent 7 is held in reset (R80, R88). -/
def Hw.hostHeld (h : Hw) : Bool := bit (h.rd CPR_AGT_RST_AGT) 6

def Hw.hsOk (h : Hw) : Hw := h.bump HSP_STAT_OK 1
def Hw.hsErr (h : Hw) : Hw := h.bump HSP_STAT_ERR 1

/-- A transaction that ends with PROTO (R485, R488). -/
def Hw.hsProto (h : Hw) : Hw := (h.hsErr.blockFault PG_HSP 9).irq PG_HSP 0

/-- HSP answers a transaction: not in OFF, RESET or PARKED, and not while EN = 0 (R486). The first transaction in PARKED,
or while the entry to it runs, is a wake source (R66, R68). -/
def Dev.onHost (d : Dev) (f : Dev → Dev) : Dev :=
  let d1 := d.via fun h => h.cond (h.mode = 3 || h.cpr.parking) (wake 0x80)
  if d.hw.fabricOn && d.hw.on (BLK_CTL_EN PG_HSP) then f d1 else d1

/-- WAKE shows only to the first answered transaction. -/
def Hw.hsAnswered (h : Hw) : Hw := { h with hsp := { h.hsp with wake := false } }

/-- Status byte codes (R485). -/
def hsWait : Nat := 1
def hsBusErr : Nat := 2
def hsHeld : Nat := 4
def hsBolted : Nat := 8

/-- An answer: the status byte, then the data words. -/
def Hw.hsReply (h : Hw) (code : Nat) (ws : List Word) : Hw := h.answer (BitVec.ofNat 32 code :: ws)

/-- One word of a READ after word 0: a bus error reads as ones and sets RERR. -/
def Dev.hsWord (d : Dev) (a : Nat) : Word × Dev :=
  let d1 := d.read host a 4
  if d1.hw.reply.err then (0xFFFFFFFF, d1.via fun h => { h with hsp := { h.hsp with rerr := true } })
  else (d1.hw.reply.data.headD 0xFFFFFFFF, d1)

/-- `n` words from `a`. -/
def Dev.hsWords : Nat → Nat → Dev → List Word × Dev
  | 0, _, d => ([], d)
  | n + 1, a, d =>
    let (w, d1) := d.hsWord a
    let (ws, d2) := Dev.hsWords n (a + 4) d1
    (w :: ws, d2)

/-- The word at `a` is kept for the next READ of that address. -/
def Hw.hsKeep (h : Hw) (a : Nat) (w : Word) : Hw :=
  { h with hsp := { h.hsp with kept := (a, w) :: h.hsp.kept.filter (fun e => decide (e.1 ≠ a)) } }

/-- Word 0: the kept word of the same address, or an access; none for a bus error. -/
def Dev.hsFirst (d : Dev) (a : Nat) (soon : Bool) : Option Word × Bool × Dev :=
  let kept := d.hw.hsp.kept.find? fun e => soon && decide (e.1 = a)
  let left := if soon then d.hw.hsp.kept.filter fun e => decide (e.1 ≠ a) else []
  let d0 := d.via fun h => { h with hsp := { h.hsp with kept := left } }
  match kept with
  | some e => (some e.2, true, d0)
  | none =>
    let d1 := d0.read host a 4
    if d1.hw.reply.err then (none, false, d1)
    else match d1.hw.reply.data with
      | [] => (none, true, d1)
      | w :: _ => (some w, false, d1)

/-- The word after the last one clocked out has been prefetched: it is kept; a bus error it met is not shown. -/
def Dev.hsPrefetch (d : Dev) (a : Nat) : Dev :=
  let d1 := d.read host a 4
  if d1.hw.reply.err then d1
  else match d1.hw.reply.data with
    | [] => d1
    | w :: _ => d1.via (·.hsKeep a w)

/-- HSP_READ. A late word 0 is kept and the answer is WAIT; a kept word is handed out without a second access. -/
def hostRead (addr n : Nat) (inTime soon cut : Bool) (d : Dev) : Dev :=
  d.onHost fun d =>
    let ones := List.replicate n (0xFFFFFFFF : Word)
    let d := d.via Hw.hsAnswered
    let close := fun (h : Hw) => if cut then h.hsProto else h.hsOk
    if d.hw.hostHeld then d.via fun h => (h.hsReply hsHeld []).hsErr
    else if d.hw.bolted PG_HSP then d.via fun h => (h.hsReply hsBolted []).hsErr
    else
      let (w, known, d1) := d.hsFirst addr soon
      match w with
      | none =>
        if d1.hw.reply.err then d1.via fun h => (h.hsReply hsBusErr ones).hsErr
        else d1.via fun h => (h.hsReply hsWait ones).hsErr
      | some w =>
        if !known && !inTime then d1.via fun h => ((h.hsKeep addr w).hsReply hsWait ones).hsErr
        else if n = 0 then d1.via fun h => ((h.hsKeep addr w).hsReply 0 []).hsProto
        else
          let before := d1.hw.hsp.rerr
          let (ws, d2) := Dev.hsWords (n - 1) (addr + 4) (d1.via fun h => { h with hsp := { h.hsp with rerr := false } })
          let bad := d2.hw.hsp.rerr
          let d3 := if n < 64 then d2.hsPrefetch (addr + 4 * n) else d2
          d3.via fun h =>
            let h1 := { h with hsp := { h.hsp with rerr := before || bad } }.hsReply 0 (w :: ws)
            if bad && !cut then h1 else close h1

/-- The words of a WRITE, in order: a word that ends in a bus error is dropped and sets WERR. -/
def Dev.hsStore : List Word → Nat → Dev → Dev
  | [], _, d => d
  | w :: ws, a, d =>
    let d1 := d.write host a 4 w.toNat
    let d2 := if d1.hw.reply.err
      then d1.via fun h => { h.irq PG_HSP 1 with hsp := { h.hsp with werr := true } }
      else d1.via fun h => { h with hsp := { h.hsp with wdone := h.hsp.wdone + 1 } }
    Dev.hsStore ws (a + 4) d2

/-- HSP_WRITE: at most 64 words; held or bolted, every word is dropped. -/
def hostWrite (addr : Nat) (data : List Word) (cut : Bool) (d : Dev) : Dev :=
  d.onHost fun d =>
    let d := d.via fun h => { h.hsAnswered with hsp := { h.hsAnswered.hsp with wdone := 0 } }
    if d.hw.hostHeld || d.hw.bolted PG_HSP then d.via fun h => if cut then h.ack.hsProto else h.ack.hsErr
    else
      let d1 := Dev.hsStore (data.take 64) addr d
      let done := decide (d1.hw.hsp.wdone = (data.take 64).length)
      d1.via fun h => if cut then h.ack.hsProto else if done then h.ack.hsOk else h.ack

/-- nHSP_INT is asserted (R487). -/
def Hw.hostInt (h : Hw) : Bool := allPages.any (fun p => h.line p 7) || h.doorbell 7

/-- The status word (R486). -/
def Hw.hostWord (h : Hw) : Nat :=
  0x80000000 * b2n h.hostInt + 0x40000000 * b2n h.hostHeld + 0x20000000 * b2n h.hsp.wake + 0x10000000 * b2n h.hsp.rerr +
  0x08000000 * b2n h.hsp.werr + 0x04000000 * b2n (h.bolted PG_HSP) + 65536 * h.hsp.wdone + h.mode

/-- HSP_STATUS: RERR, WERR and WAKE clear. -/
def hostStatus (d : Dev) : Dev :=
  d.onHost fun d => d.via fun h =>
    let h1 := h.answer [BitVec.ofNat 32 h.hostWord]
    { h1 with hsp := { h1.hsp with rerr := false, werr := false, wake := false } }.hsOk

/-- HSP_UNKNOWN_INSTRUCTION: ignored, with PROTO. -/
def hostUnknown (d : Dev) : Dev := d.onHost fun d => d.via fun h => h.ack.hsProto

end Sys2Proof.Machine
end

