-- ==== Sys2Proof/Machine/TceData.lean ====
section
/-! DEFINITION. The control engine's instruction words (R242 to R256), its arithmetic (R224 to R228, R248), its pointer
modifies (R238 to R241) and its register codes (R250), as functions of values alone. -/

namespace Sys2Proof.Machine

/-! ## Instruction words -/

/-- The second operand of an ALU instruction: a register, or an immediate sign-extended to 32 bits (R248). -/
inductive AluArg where
  | reg (n : Nat)
  | imm (w : Word)
  deriving DecidableEq, Repr

/-- One memory access of an instruction: store or load, data register, pointer, mode (R255), offset register or
immediate in units of the size. -/
structure TceMem where
  st : Bool
  d : Nat
  a : Nat
  mode : Nat
  off : Nat ⊕ Int
  deriving DecidableEq, Repr

/-- An instruction. -/
inductive TceOp where
  | nop
  | endT
  | br (cond target : Nat)
  | jal (d target : Nat)
  | jr (d : Nat)
  | loop (count le : Nat)
  | loopr (d le : Nat)
  | lexit
  | reti
  | swi
  | alu (op dd da : Nat) (b : AluArg)
  | moviData (high : Bool) (dd imm : Nat)
  | moviAddr (file index imm : Nat)
  | mov (dst src : Nat)
  | mac (form op : Nat) (conj : Bool) (k x y u w : Nat)
  | rnd (pair : Bool) (k dd ssh : Nat)
  | mem (wide : Bool) (m : TceMem)
  | stAcc (k ssh : Nat) (m : TceMem)
  | pair (wide : Bool) (m0 m1 : TceMem)
  | ftap (op k dx : Nat) (c d : TceMem)
  deriving DecidableEq, Repr

/-- Bits of an instruction word. -/
def wf (w lo width : Nat) : Nat := w / 2 ^ lo % 2 ^ width

/-- The operation, if the fields that must be 0 are. -/
def when (ok : Bool) (op : TceOp) : Option TceOp := if ok then some op else none

/-- Control class (R244, R246). -/
def decodeControl (w : Nat) : Option TceOp :=
  let sub := wf w 24 4
  let low := wf w 0 24
  if sub = 0 then when (low = 0) .nop
  else if sub = 1 then when (low = 0) .endT
  else if sub = 2 then when (wf w 14 6 = 0 && wf w 20 4 < 13) (.br (wf w 20 4) (wf w 0 14))
  else if sub = 3 then when (wf w 14 6 = 0) (.jal (wf w 20 4) (wf w 0 14))
  else if sub = 4 then when (wf w 0 20 = 0) (.jr (wf w 20 4))
  else if sub = 5 then some (.loop (wf w 14 10) (wf w 0 14))
  else if sub = 6 then when (wf w 14 6 = 0) (.loopr (wf w 20 4) (wf w 0 14))
  else if sub = 7 then when (low = 0) .lexit
  else if sub = 8 then when (low = 0) .reti
  else if sub = 9 then when (low = 0) .swi
  else none

/-- ALU classes (R248): NEG and ABS want a zero second operand, CMP a zero destination. -/
def decodeAlu (w : Nat) (immediate : Bool) : Option TceOp :=
  let op := wf w 23 5
  let second := if immediate then wf w 0 15 else wf w 11 4
  let arg := if immediate then AluArg.imm (BitVec.ofInt 32 (signed 15 (wf w 0 15))) else AluArg.reg (wf w 11 4)
  when (op ≤ 0x10 && (immediate || wf w 0 11 = 0) && (op ≠ 0x0B || wf w 19 4 = 0) &&
      ((op ≠ 0x0C && op ≠ 0x0D) || second = 0))
    (.alu op (wf w 19 4) (wf w 15 4) arg)

/-- MOVI (R249). -/
def decodeMovi (w : Nat) : Option TceOp :=
  if wf w 27 1 = 0 then when (wf w 16 6 = 0) (.moviData (wf w 26 1 = 1) (wf w 22 4) (wf w 0 16))
  else some (.moviAddr (wf w 25 2) (wf w 22 3) (wf w 0 22))

/-- A register code that R250 gives. -/
def movCode (c : Nat) : Bool := c < 0x39 || (0x40 ≤ c && c < 0x50)

/-- MOV (R250). -/
def decodeMov (w : Nat) : Option TceOp :=
  let dst := wf w 21 7
  let src := wf w 14 7
  when (wf w 0 14 = 0 && movCode dst && movCode src && src < 0x4C && (dst < 0x10 || src < 0x10)) (.mov dst src)

/-- Multiply-accumulate (R251). -/
def decodeMac (w : Nat) : Option TceOp :=
  let form := wf w 26 2
  let op := wf w 24 2
  let conj := wf w 23 1 = 1
  let k := wf w 21 2
  let x := wf w 17 4
  let y := wf w 13 4
  let u := wf w 9 4
  let v := wf w 5 4
  let alone := form = 0 || form = 3
  when (wf w 0 5 = 0 && op ≠ 3 && (!conj || form = 3) && (!alone || (u = 0 && v = 0)) &&
      ((form ≠ 1 && form ≠ 3) || k % 2 = 0) && (form ≠ 3 || (x % 2 = 0 && y % 2 = 0)))
    (.mac form op conj k x y u v)

/-- RND (R252). -/
def decodeRnd (w : Nat) : Option TceOp :=
  let pair := wf w 27 1 = 1
  let k := wf w 25 2
  let dd := wf w 21 4
  when (wf w 0 18 = 0 && (!pair || (k % 2 = 0 && dd % 2 = 0))) (.rnd pair k dd (wf w 18 3))

/-- Single memory access (R253). -/
def decodeMem (w : Nat) : Option TceOp :=
  let wide := wf w 27 1 = 1
  let st := wf w 26 1 = 1
  let d := wf w 22 4
  let mode := wf w 17 2
  let imm := wf w 16 1 = 1
  let acc := wf w 9 1 = 1
  let ssh := wf w 6 3
  let off : Nat ⊕ Int := if imm then .inr (signed 6 (wf w 10 6)) else .inl (wf w 10 3)
  let m : TceMem := ⟨st, d, wf w 19 3, mode, off⟩
  let shape := wf w 0 6 = 0 && (mode ≠ 0 || wf w 10 7 = 0) && (imm || wf w 13 3 = 0)
  if acc then when (shape && st && !wide && wf w 24 2 = 0) (.stAcc (wf w 22 2) ssh m)
  else when (shape && ssh = 0 && (!wide || d % 2 = 0)) (.mem wide m)

/-- Dual memory access (R254). -/
def decodePair (w : Nat) : Option TceOp :=
  let wide := wf w 27 1 = 1
  let m0 : TceMem := ⟨wf w 26 1 = 1, wf w 22 4, wf w 19 3, wf w 17 2, .inl (wf w 14 3)⟩
  let m1 : TceMem := ⟨wf w 13 1 = 1, wf w 9 4, wf w 6 3, wf w 4 2, .inl (wf w 1 3)⟩
  when (wf w 0 1 = 0 && m0.a ≠ m1.a && (m0.mode ≠ 0 || wf w 14 3 = 0) && (m1.mode ≠ 0 || wf w 1 3 = 0) &&
      (!wide || (m0.d % 2 = 0 && m1.d % 2 = 0)))
    (.pair wide m0 m1)

/-- Filter tap (R256). -/
def decodeFtap (w : Nat) : Option TceOp :=
  let dx := wf w 20 4
  let c : TceMem := ⟨false, dx, wf w 17 3, wf w 15 2, .inl (wf w 12 3)⟩
  let d : TceMem := ⟨true, dx, wf w 9 3, wf w 7 2, .inl (wf w 4 3)⟩
  when (wf w 0 4 = 0 && wf w 26 2 ≠ 3 && c.a ≠ d.a) (.ftap (wf w 26 2) (wf w 24 2) dx c d)

/-- The instruction a word spells; none is illegal wherever it stands (R242, R243). -/
def decodeTce (w : Nat) : Option TceOp :=
  let cls := wf w 28 4
  if cls = 0 then decodeControl w
  else if cls = 1 then decodeAlu w false
  else if cls = 2 then decodeAlu w true
  else if cls = 3 then decodeMovi w
  else if cls = 4 then decodeMov w
  else if cls = 5 then decodeMac w
  else if cls = 6 then decodeRnd w
  else if cls = 7 then decodeMem w
  else if cls = 8 then decodePair w
  else if cls = 9 then decodeFtap w
  else none

/-! ## Branch conditions and ALU -/

/-- Flag bits of sw (R222). -/
def swZ (sw : Nat) : Bool := bit sw 0
def swN (sw : Nat) : Bool := bit sw 1
def swC (sw : Nat) : Bool := bit sw 2
def swV (sw : Nat) : Bool := bit sw 3

/-- A condition of R246 holds. -/
def condHolds (cond sw : Nat) : Bool :=
  let z := swZ sw
  let n := swN sw
  let c := swC sw
  let v := swV sw
  if cond = 0 then true
  else if cond = 1 then z
  else if cond = 2 then !z
  else if cond = 3 then n != v
  else if cond = 4 then n == v
  else if cond = 5 then !z && n == v
  else if cond = 6 then z || n != v
  else if cond = 7 then n
  else if cond = 8 then !n
  else if cond = 9 then c
  else if cond = 10 then !c
  else if cond = 11 then v
  else !v

/-- An ALU result: the word, carry, overflow, saturation. -/
structure AluOut where
  r : Word
  c : Bool
  v : Bool
  sat : Bool
  deriving DecidableEq, Repr

/-- The exact sum lies outside a signed word. -/
def over32 (i : Int) : Bool := decide (2147483647 < i) || decide (i < -2147483648)

def aluAdd (a b : Word) : AluOut :=
  ⟨a + b, decide (4294967296 ≤ a.toNat + b.toNat), over32 (a.toInt + b.toInt), false⟩

def aluSub (a b : Word) : AluOut :=
  ⟨a - b, decide (a.toNat < b.toNat), over32 (a.toInt - b.toInt), false⟩

def aluAdds (a b : Word) : AluOut :=
  let o := over32 (a.toInt + b.toInt)
  ⟨BitVec.ofInt 32 (sat32 (a.toInt + b.toInt)), (aluAdd a b).c, o, o⟩

def aluSubs (a b : Word) : AluOut :=
  let o := over32 (a.toInt - b.toInt)
  ⟨BitVec.ofInt 32 (sat32 (a.toInt - b.toInt)), (aluSub a b).c, o, o⟩

def aluPlain (r : Word) : AluOut := ⟨r, false, false, false⟩

def aluShl (a : Word) (s : Nat) : AluOut := ⟨a <<< s, decide (s ≠ 0) && a.getLsbD (32 - s), false, false⟩
def aluShr (a : Word) (s : Nat) : AluOut := ⟨a >>> s, decide (s ≠ 0) && a.getLsbD (s - 1), false, false⟩
def aluAsr (a : Word) (s : Nat) : AluOut := ⟨a.sshiftRight s, decide (s ≠ 0) && a.getLsbD (s - 1), false, false⟩

def aluNeg (a : Word) : AluOut := ⟨-a, false, decide (a = 0x80000000#32), false⟩

def aluAbs (a : Word) : AluOut :=
  let o := decide (a = 0x80000000#32)
  ⟨if o then 0x7FFFFFFF#32 else if a.toInt < 0 then -a else a, false, o, o⟩

/-- The table of R248. -/
def aluOp (op : Nat) (a b : Word) : AluOut :=
  let s := b.toNat % 32
  if op = 0x00 then aluAdd a b
  else if op = 0x01 then aluSub a b
  else if op = 0x02 then aluAdds a b
  else if op = 0x03 then aluSubs a b
  else if op = 0x04 then aluPlain (a &&& b)
  else if op = 0x05 then aluPlain (a ||| b)
  else if op = 0x06 then aluPlain (a ^^^ b)
  else if op = 0x07 then aluPlain (a &&& ~~~ b)
  else if op = 0x08 then aluShl a s
  else if op = 0x09 then aluShr a s
  else if op = 0x0A then aluAsr a s
  else if op = 0x0B then aluSub a b
  else if op = 0x0C then aluNeg a
  else if op = 0x0D then aluAbs a
  else if op = 0x0E then aluPlain (if a.toInt ≤ b.toInt then a else b)
  else if op = 0x0F then aluPlain (if b.toInt ≤ a.toInt then a else b)
  else aluPlain a

/-- Z, N, C and V of a result, in the places of sw. -/
def AluOut.flags (o : AluOut) : Nat :=
  b2n (decide (o.r = 0)) + 2 * b2n o.r.msb + 4 * b2n o.c + 8 * b2n o.v

/-! ## Rounding and saturation (R228) -/

/-- The rounded value before saturation. -/
def rndExact (acc : BitVec 72) (ssh : Nat) : Int := (acc.toInt * 2 ^ ssh + 2 ^ 30) / 2 ^ 31

/-- The stored word. -/
def rndWord (acc : BitVec 72) (ssh : Nat) : Word := BitVec.ofInt 32 (sat32 (rndExact acc ssh))

/-- SAT sets. -/
def rndSat (acc : BitVec 72) (ssh : Nat) : Bool := over32 (rndExact acc ssh)

/-! ## Registers by their codes (R225, R250) -/

def Core.dReg (x : Core) (n : Nat) : Word := x.d.getD n 0
def Core.accReg (x : Core) (n : Nat) : BitVec 72 := x.acc.getD n 0
def Core.ptr (x : Core) (n : Nat) : BitVec 24 := x.a.getD n 0

/-- A loop stack entry as one word. -/
def LoopEntry.se (e : LoopEntry) : Nat := 65536 * e.e + e.s

/-- What a move reads from a register code. -/
def Core.byCode (x : Core) (code : Nat) : Word :=
  if code < 0x10 then x.dReg code
  else if code < 0x18 then (x.ptr (code - 0x10)).setWidth 32
  else if code < 0x20 then (x.o.getD (code - 0x18) 0).signExtend 32
  else if code < 0x28 then (x.b.getD (code - 0x20) 0).setWidth 32
  else if code < 0x30 then (x.l.getD (code - 0x28) 0).setWidth 32
  else if code = 0x30 then BitVec.ofNat 32 x.lc
  else if code = 0x31 then BitVec.ofNat 32 x.loops.ls
  else if code = 0x32 then BitVec.ofNat 32 x.loops.le
  else if code = 0x33 then BitVec.ofNat 32 x.sw
  else if code = 0x34 then BitVec.ofNat 32 x.loops.dep
  else if code = 0x35 then BitVec.ofNat 32 x.loops.e0.c
  else if code = 0x36 then BitVec.ofNat 32 x.loops.e0.se
  else if code = 0x37 then BitVec.ofNat 32 x.loops.e1.c
  else if code = 0x38 then BitVec.ofNat 32 x.loops.e1.se
  else
    let a := x.accReg ((code - 0x40) % 4)
    if code < 0x44 then a.setWidth 32
    else if code < 0x48 then (a >>> 32).setWidth 32
    else ((a >>> 64).setWidth 8).signExtend 32

/-- The flights of a move: a loop register governs loop-back from the third instruction on (R260). -/
def movFlights (dst : Nat) (v : Nat) : List Flight :=
  if 0x40 ≤ dst then [⟨1, 0x40 + (dst - 0x40) % 4, .view ((dst - 0x40) / 4) v, 0⟩]
  else
    let own : Flight := ⟨1, dst, .put v, 0⟩
    if dst = 0x31 ∨ dst = 0x32 ∨ (0x34 ≤ dst ∧ dst ≤ 0x38) then [own, ⟨3, dst + 0x80, .put v, 0⟩] else [own]

/-! ## Pointer modifies (R238 to R241) -/

/-- The lowest `n` bits of a number in reverse order. -/
def revBits : Nat → Nat → Nat
  | 0, _ => 0
  | n + 1, v => v % 2 * 2 ^ n + revBits n (v / 2)

/-- The position of the highest set bit, or `w` for 0. -/
def topBit (w n : Nat) : Nat := ((List.range w).reverse.find? (fun i => bit n i)).getD w

/-- The new byte offset of a bit-reversed modify: the field's carries run downward (R241). -/
def bitRevOffset (r o l s : Nat) : Nat :=
  let m := topBit 24 l
  if m ≤ s then r
  else
    let n := m - s
    let f := revBits n (r / 2 ^ s % 2 ^ n)
    let g := revBits n (o / 2 ^ s % 2 ^ n)
    let sum := revBits n ((f + g) % 2 ^ n)
    r / 2 ^ m * 2 ^ m + sum * 2 ^ s + r % 2 ^ s

/-- The pointer lies outside [b, b + l). -/
def outside (a b l : Nat) : Bool := decide (a < b) || decide (b + l ≤ a)

/-- The new pointer, and whether CRF sets; `size` is the access size in bytes. -/
def modify (mode : Nat) (a b l : BitVec 24) (o : Int) (size : Nat) : BitVec 24 × Bool :=
  if mode = 0 then (a, false)
  else if mode = 1 ∨ l = 0 then (BitVec.ofInt 24 (a.toNat + o), false)
  else if mode = 2 then
    let n : Int := a.toNat + o
    let n1 := if ((b.toNat + l.toNat : Nat) : Int) ≤ n then n - l.toNat else if n < b.toNat then n + l.toNat else n
    (BitVec.ofInt 24 n1, outside a.toNat b.toNat l.toNat)
  else
    let r := (a - b).toNat
    let o' := (o % 16777216).toNat
    (b + BitVec.ofNat 24 (bitRevOffset r o' l.toNat (if size = 8 then 3 else 2)), outside a.toNat b.toNat l.toNat)

/-- The offset of an access in bytes. -/
def Core.offsetOf (x : Core) (m : TceMem) (size : Nat) : Int :=
  match m.off with
  | .inl n => (x.o.getD n 0).toInt
  | .inr i => i * size

/-- The flights of an access's post-modify. -/
def Core.postModify (x : Core) (m : TceMem) (size : Nat) : List Flight :=
  if m.mode = 0 then []
  else
    let r := modify m.mode (x.ptr m.a) (x.b.getD m.a 0) (x.l.getD m.a 0) (x.offsetOf m size) size
    [⟨1, 0x10 + m.a, .put r.1.toNat, if r.2 then 0x400 else 0⟩]

/-! ## Products (R227, R251) -/

/-- P(x, y). -/
def prod (x y : Word) : Int := x.toInt * y.toInt

/-- The flights of a multiply-accumulate. -/
def Core.macFlights (x : Core) (form op : Nat) (conj : Bool) (k p q u w : Nat) : List Flight :=
  let d := x.dReg
  let f := fun (n : Nat) (i : Int) => (⟨3, 0x40 + n, .acc op i, 0⟩ : Flight)
  if form = 0 then [f k (prod (d p) (d q))]
  else if form = 1 then [f k (prod (d p) (d q)), f (k + 1) (prod (d u) (d w))]
  else if form = 2 then [f k (prod (d p) (d q) + prod (d u) (d w))]
  else
    let xr := (d p).toInt
    let xi := (d (p + 1)).toInt
    let yr := (d q).toInt
    let yi := if conj then -(d (q + 1)).toInt else (d (q + 1)).toInt
    [f k (xr * yr - xi * yi), f (k + 1) (xr * yi + xi * yr)]

/-! ## Hardware loops (R258 to R260) -/

/-- The active loop's body holds index `p`. -/
def Core.inBody (x : Core) (p : Nat) : Bool :=
  decide (1 ≤ x.gov.dep) && decide (x.gov.ls ≤ p) && decide (p ≤ x.gov.le)

/-- A LOOP at `p` breaks the rules of R258. -/
def Core.loopIllegal (x : Core) (p le : Nat) : Bool :=
  decide (le ≤ p) || (x.inBody p && (decide (x.gov.dep = 3) || decide (x.gov.le ≤ le)))

/-- A loop of a count other than 0 starts at `p` (R258): the loop hardware writes ls, le, lc and ldep, and the stack where
the loop nests, at once; moves of those that still have to govern are overtaken. -/
def Core.loopStart (x : Core) (p count le : Nat) : Core :=
  let l := x.loops
  let s := (p + 1) % 16384
  let nests := x.inBody p
  let n : Loops := if nests then ⟨s, le, (l.dep + 1) % 4, ⟨x.lc, l.ls, l.le⟩, l.e0⟩ else ⟨s, le, max 1 l.dep, l.e0, l.e1⟩
  let g : Loops := if nests then n else ⟨s, le, max 1 l.dep, x.gov.e0, x.gov.e1⟩
  let late := fun (f : Flight) => f.code < 0xB0 || (!nests && 0xB5 ≤ f.code)
  { x with loops := n, gov := g, lc := count, flight := x.flight.filter late, fresh := decide (le < s + 2) }

end Sys2Proof.Machine
end

