-- ==== Sys2Proof/Machine/TceIssue.lean ====
section
/-! DEFINITION. A control engine core issues an instruction: memory accesses (R199, R216, R236, R237), the effect of
each instruction, what follows it (R245, R259, R263), interrupt entry (R262) and illegal instructions (R243). -/

namespace Sys2Proof.Machine

/-! ## Memories of a core -/

/-- What a local address reaches. -/
inductive TcePlace where
  | data (a : Nat)
  | exchange (a : Nat)
  | io (a : Nat)
  | error
  deriving DecidableEq, Repr

/-- The place of an access of `n` bytes at local address `a` (R199, R237). -/
def tcePlace (c a n : Nat) : TcePlace :=
  if a % n ≠ 0 then .error
  else if a < 0x20000 then .data (progBase c + 0x10000 + a)
  else if 0x40000 ≤ a ∧ a < 0x80000 then .exchange (0x30000000 + (a - 0x40000))
  else if n ≠ 4 then .error
  else if 0x400000 ≤ a ∧ a < 0x460000 then .io (0x40100000 + (a - 0x400000))
  else if 0x4C0000 ≤ a ∧ a < 0x4D0000 then .io (0x40040000 + (a - 0x4C0000))
  else if 0x4D0000 ≤ a ∧ a < 0x4E0000 then .io (0x40050000 + (a - 0x4D0000))
  else .error

/-- A bus error of a core access: the task continues (R216). -/
def Hw.tceBusError (c a : Nat) (h : Hw) : Hw := ((h.setNat (TCE_ERRADDR c) a).wr (TCE_STAT_BUSERR c) 1).raise (PG_TCE c) 11

/-- A corrected ECC error is counted, saturating in the 16 bits of CNT (R216, R219). -/
def Hw.tceCorrected (c : Nat) (h : Hw) : Hw := h.setNat (TCE_ECCCNT c) (satN 16 (h.nat (TCE_ECCCNT c) + 1))

/-- An uncorrectable ECC error of X or Y memory (R216). -/
def Hw.tceUncorrectable (c : Nat) (h : Hw) : Hw := (h.wr (TCE_STAT_ECCU c) 1).raise (PG_TCE c) 10

/-- The agent that a core is on the fabric (R36). -/
def tceAgent (c : Nat) : Who := if c = 0 then .agent 5 else .agent 6

/-- What a load returns: a number, and its latency (R230). -/
structure TceLoad where
  v : Nat
  lat : Nat
  deriving DecidableEq, Repr

/-- The check of a read of X or Y memory, and the number it gives. -/
def Dev.tceChecked (d : Dev) (c : Nat) (ecc : EccSeen) (v : Nat) : TceLoad × Dev :=
  match ecc with
  | .clean => (⟨v, 2⟩, d)
  | .corrected => (⟨v, 2⟩, d.via (Hw.tceCorrected c))
  | .uncorrectable => (⟨0, 2⟩, d.via (Hw.tceUncorrectable c))

/-- A load of `n` bytes. The answer of a fabric access does not touch what a fabric command was last answered. -/
def Dev.tceLoadAt (d : Dev) (c : Nat) (ecc : EccSeen) (a n : Nat) : TceLoad × Dev :=
  match tcePlace c a n with
  | .data f => d.tceChecked c ecc (memNat d.mem f n)
  | .exchange f => (⟨memNat d.mem f n, 4⟩, d)
  | .io f =>
    let h := d.hw.readPage (tceAgent c) f
    let back := { h with reply := d.hw.reply }
    if h.reply.err then (⟨0, 1⟩, { d with hw := back.tceBusError c a })
    else (⟨(h.reply.data.headD 0).toNat, 1⟩, { d with hw := back })
  | .error => (⟨0, 2⟩, d.via (Hw.tceBusError c a))

/-- A store of `n` bytes. -/
def Dev.tceStoreAt (d : Dev) (c : Nat) (a n v : Nat) : Dev :=
  match tcePlace c a n with
  | .data f => { d with mem := memSetNat d.mem f n v }
  | .exchange f => { d with mem := memSetNat d.mem f n v }
  | .io f =>
    let e := d.writePage (tceAgent c) f (BitVec.ofNat 32 v)
    let back := { e.hw with reply := d.hw.reply }
    if e.hw.reply.err then { e with hw := back.tceBusError c a } else { e with hw := back }
  | .error => d.via (Hw.tceBusError c a)

/-! ## The end of a loop (R259, R260) -/

/-- The loop registers as moves that still have to govern leave them: a move stands over what the loop hardware wrote
since, because it governs later (R260; log entry 58). -/
def Core.loopsOver (x : Core) (g : Loops) : Loops :=
  ((x.flight.filter fun f => 0xB0 ≤ f.code).foldl landOne { x with gov := g }).gov

/-- The active loop ends (R259): entry 0 returns to lc, ls and le, entry 1 moves up, under the values that govern (R260). -/
def Core.loopPop (x : Core) : Core :=
  if x.gov.dep = 0 then x
  else
    let g := x.gov
    let g' : Loops := ⟨g.e0.s, g.e0.e, g.dep - 1, g.e1, g.e1⟩
    { x with gov := g', loops := x.loopsOver g', lc := g.e0.c, fresh := false }

/-- Two issue cycles without an instruction: a skipped body, the refetch of a short one (R257 to R259). What governs
loop-back from the third instruction on waits for instructions, not for cycles (R260). -/
def Core.idleTwo (x : Core) : Core :=
  let y := { x with flight := x.flight.filter fun f => decide (f.code < 0x80) }.landNext.landNext
  { y with flight := y.flight ++ x.flight.filter fun f => decide (0x80 ≤ f.code)
           cycles := x.cycles + 2, bypass := none }

/-! ## Effects -/

/-- What an instruction does beyond its results: where the program goes on. -/
inductive TceFlow where
  | next
  | branch (target : Option Nat)
  | ret (index : Nat)
  | skip (index : Nat)
  | endT
  deriving DecidableEq, Repr

/-- New results in flight. -/
def Core.fly (x : Core) (l : List Flight) : Core := { x with flight := x.flight ++ l }

/-- The hardware with new results of core `c` in flight. -/
def Hw.fly (h : Hw) (c : Nat) (l : List Flight) : Hw := h.setCore c ((h.core c).fly l)

/-- The data flights of a load. -/
def loadFlights (d n : Nat) (r : TceLoad) : List Flight :=
  if n = 8 then [⟨r.lat, d, .put (r.v % 4294967296), 0⟩, ⟨r.lat, d + 1, .put (r.v / 4294967296), 0⟩]
  else [⟨r.lat, d, .put r.v, 0⟩]

/-- One access with its post-modify; register operands are those of `x`, read at issue (R229). -/
def Dev.tceAccess (d : Dev) (c : Nat) (x : Core) (ecc : EccSeen) (n : Nat) (m : TceMem) : Dev :=
  let a := (x.ptr m.a).toNat
  let e := if m.st then
      d.tceStoreAt c a n ((x.dReg m.d).toNat + (if n = 8 then 4294967296 * (x.dReg (m.d + 1)).toNat else 0))
    else
      let r := d.tceLoadAt c ecc a n
      r.2.via (·.fly c (loadFlights m.d n r.1))
  e.via (·.fly c (x.postModify m n))

/-- Size of an access in bytes. -/
def sizeOf64 (wide : Bool) : Nat := if wide then 8 else 4

/-- An effect: the device after it and where the program goes on. -/
abbrev TceEffect := Dev × TceFlow

/-- Results alone. -/
def Dev.tceFly (d : Dev) (c : Nat) (l : List Flight) : TceEffect := (d.via (·.fly c l), .next)

/-- NOP. -/
def doNop (op : TceOp) (d : Dev) : Option TceEffect :=
  match op with
  | .nop => some (d, .next)
  | _ => none

/-- END (R247). -/
def doEnd (c time : Nat) (op : TceOp) (d : Dev) : Option TceEffect :=
  match op with
  | .endT => some (d.via fun h => if h.coreSt c = coreTask then h.endInstance c time else h.endBack c, .endT)
  | _ => none

/-- BR (R245, R246). -/
def doBr (c : Nat) (op : TceOp) (d : Dev) : Option TceEffect :=
  match op with
  | .br cond t => some (d, .branch (if condHolds cond (d.hw.core c).sw then some t else none))
  | _ => none

/-- JAL (R244, R245). -/
def doJal (c : Nat) (op : TceOp) (d : Dev) : Option TceEffect :=
  match op with
  | .jal r t => some (d.via (·.fly c [⟨1, r, .put ((d.hw.core c).pc + 3), 0⟩]), .branch (some t))
  | _ => none

/-- JR (R244, R245). -/
def doJr (c : Nat) (op : TceOp) (d : Dev) : Option TceEffect :=
  match op with
  | .jr r => some (d, .branch (some (((d.hw.core c).dReg r).toNat % 16384)))
  | _ => none

/-- A loop instruction with its count (R258). -/
def Dev.tceLoop (d : Dev) (c count le : Nat) : TceEffect :=
  let x := d.hw.core c
  if count = 0 then (d.via (·.setCore c x.idleTwo), .skip (le + 1))
  else (d.via (·.setCore c (x.loopStart x.pc count le)), .skip (x.pc + 1))

/-- LOOP (R258). -/
def doLoop (c : Nat) (op : TceOp) (d : Dev) : Option TceEffect :=
  match op with
  | .loop n le => some (d.tceLoop c n le)
  | _ => none

/-- LOOPR (R258). -/
def doLoopr (c : Nat) (op : TceOp) (d : Dev) : Option TceEffect :=
  match op with
  | .loopr r le => some (d.tceLoop c (((d.hw.core c).dReg r).toNat % 65536) le)
  | _ => none

/-- LEXIT (R259). -/
def doLexit (c : Nat) (op : TceOp) (d : Dev) : Option TceEffect :=
  match op with
  | .lexit => some (d.via fun h => h.setCore c (h.core c).loopPop, .skip ((d.hw.core c).pc + 1))
  | _ => none

/-- RETI (R263). -/
def doReti (c : Nat) (op : TceOp) (d : Dev) : Option TceEffect :=
  match op, (d.hw.core c).saved with
  | .reti, some (i, _) => some (d, .ret i)
  | _, _ => none

/-- SWI (R244). -/
def doSwi (c : Nat) (op : TceOp) (d : Dev) : Option TceEffect :=
  match op with
  | .swi => some (d.via fun h => h.irq (PG_TCE c) 5, .next)
  | _ => none

/-- An ALU operation (R248); CMP writes no register. -/
def doAlu (want c : Nat) (op : TceOp) (d : Dev) : Option TceEffect :=
  match op with
  | .alu o dd da b =>
    if o = want then
      let x := d.hw.core c
      let arg := match b with
        | .reg n => x.dReg n
        | .imm w => w
      let r := aluOp o (x.dReg da) arg
      let f : Flight := ⟨1, 0x7F, .flags r.flags, if r.sat then 0x100 else 0⟩
      let g : Flight := ⟨1, dd, .put r.r.toNat, 0⟩
      some (d.tceFly c (if o = 0x0B then [f] else [g, f]))
    else none
  | _ => none

/-- MOVI, data form (R249). -/
def doMoviData (c : Nat) (op : TceOp) (d : Dev) : Option TceEffect :=
  match op with
  | .moviData high dd imm =>
    let v := if high then 65536 * imm + ((d.hw.core c).dReg dd).toNat % 65536 else toU32 (signed 16 imm)
    some (d.tceFly c [⟨1, dd, .put v, 0⟩])
  | _ => none

/-- MOVI, address form (R249). -/
def doMoviAddr (c : Nat) (op : TceOp) (d : Dev) : Option TceEffect :=
  match op with
  | .moviAddr file i imm => some (d.tceFly c [⟨1, 0x10 + 8 * file + i, .put (4 * imm), 0⟩])
  | _ => none

/-- MOV (R250). -/
def doMov (c : Nat) (op : TceOp) (d : Dev) : Option TceEffect :=
  match op with
  | .mov dst src => some (d.tceFly c (movFlights dst ((d.hw.core c).byCode src).toNat))
  | _ => none

/-- A multiply-accumulate of one form (R251). -/
def doMac (want c : Nat) (op : TceOp) (d : Dev) : Option TceEffect :=
  match op with
  | .mac form o conj k x y u w =>
    if form = want then some (d.tceFly c ((d.hw.core c).macFlights form o conj k x y u w)) else none
  | _ => none

/-- The flight of a rounded accumulator into d. -/
def Core.rndFlight (x : Core) (k dd ssh : Nat) : Flight :=
  ⟨2, dd, .put (rndWord (x.accReg k) ssh).toNat, if rndSat (x.accReg k) ssh then 0x100 else 0⟩

/-- RND (R252). -/
def doRnd (c : Nat) (op : TceOp) (d : Dev) : Option TceEffect :=
  match op with
  | .rnd pair k dd ssh =>
    let x := d.hw.core c
    some (d.tceFly c (x.rndFlight k dd ssh :: (if pair then [x.rndFlight (k + 1) (dd + 1) ssh] else [])))
  | _ => none

/-- LD and ST (R253). -/
def doMem (store : Bool) (c : Nat) (ecc : CoreEcc) (op : TceOp) (d : Dev) : Option TceEffect :=
  match op with
  | .mem wide m => if m.st = store then some (d.tceAccess c (d.hw.core c) ecc.m0 (sizeOf64 wide) m, .next) else none
  | _ => none

/-- An accumulator store (R228, R253). -/
def doStAcc (c : Nat) (op : TceOp) (d : Dev) : Option TceEffect :=
  match op with
  | .stAcc k ssh m =>
    let x := d.hw.core c
    let e := d.tceStoreAt c (x.ptr m.a).toNat 4 (rndWord (x.accReg k) ssh).toNat
    let s : List Flight := if rndSat (x.accReg k) ssh then [⟨2, 0, .none, 0x100⟩] else []
    some (e.tceFly c (s ++ x.postModify m 4))
  | _ => none

/-- LD/ST pair (R236, R254): AGU0 first. -/
def doPair (c : Nat) (ecc : CoreEcc) (op : TceOp) (d : Dev) : Option TceEffect :=
  match op with
  | .pair wide m0 m1 =>
    let x := d.hw.core c
    some ((d.tceAccess c x ecc.m0 (sizeOf64 wide) m0).tceAccess c x ecc.m1 (sizeOf64 wide) m1, .next)
  | _ => none

/-- An access of a filter tap outside X and Y memory is a bus error (R256). -/
def tapPlace (c a : Nat) : TcePlace :=
  match tcePlace c a 4 with
  | .data f => .data f
  | _ => .error

/-- A tap's read. -/
def Dev.tapLoad (d : Dev) (c : Nat) (ecc : EccSeen) (a : Nat) : TceLoad × Dev :=
  match tapPlace c a with
  | .data f => d.tceChecked c ecc (memNat d.mem f 4)
  | _ => (⟨0, 2⟩, d.via (Hw.tceBusError c a))

/-- FTAP (R256). -/
def doFtap (c : Nat) (ecc : CoreEcc) (op : TceOp) (d : Dev) : Option TceEffect :=
  match op with
  | .ftap o k dx mc md =>
    let x := d.hw.core c
    let v : Word := match x.bypass with
      | some (n, w) => if n = dx then w else x.dReg dx
      | none => x.dReg dx
    let coef := d.tapLoad c ecc.m0 (x.ptr mc.a).toNat
    let tap := coef.2.tapLoad c ecc.m1 (x.ptr md.a).toNat
    let e := match tapPlace c (x.ptr md.a).toNat with
      | .data f => { tap.2 with mem := memSetNat tap.2.mem f 4 v.toNat }
      | _ => tap.2
    let results : List Flight :=
      [⟨3, 0x40 + k, .acc o (prod (BitVec.ofNat 32 coef.1.v) v), 0⟩, ⟨2, dx, .put tap.1.v, 0⟩]
    let e1 := e.via (·.fly c (results ++ x.postModify mc 4 ++ x.postModify md 4))
    some (e1.via fun h => h.setCore c { h.core c with bypass := some (dx, BitVec.ofNat 32 tap.1.v) }, .next)
  | _ => none

/-! ## Issue -/

/-- The mode stops the tasks: DEADBOLT, and SAFE-STOP from its standstill on (R108). A background is no task and runs on
(log entry 67). -/
def Hw.tasksStopped (h : Hw) : Bool := h.mode = 0xC || (h.mode = 0xB && h.sis.stopDone)

/-- Core `c` issues instructions: it runs a task or the background, its clock runs and its block is not bolted (R55, R91,
R108, R202). -/
def Hw.coreRuns (h : Hw) (c : Nat) : Bool :=
  decide (coreBack ≤ h.coreSt c) && !(h.tasksStopped && decide (h.coreSt c = coreTask)) && h.on CPR_CLK_EN_TCE && h.fabricOn && !h.bolted (PG_TCE c)

/-- The word at the pc. -/
def Dev.tceWord (d : Dev) (c : Nat) : Nat := memNat d.mem (progBase c + 4 * (d.hw.core c).pc) 4

/-- What lands before an issue; before the first instruction after RETI everything does, and it finds sw restored (R235,
R263). -/
def Core.atIssue (x : Core) : Core :=
  match x.resumed, x.saved with
  | true, some (_, sw) =>
    let y := x.drain
    { y with sw := sw ||| (y.sw &&& 0xF00), saved := none, resumed := false }
  | _, _ => x.landNext

/-- An instruction that R243 calls illegal where it stands. -/
def Core.illegalHere (x : Core) (op : TceOp) : Bool :=
  let slot := decide (x.delay ≠ 0)
  let tail := decide (1 ≤ x.gov.dep) && decide (x.gov.le ≤ x.pc + 2) && decide (x.pc ≤ x.gov.le)
  match op with
  | .br _ _ => slot || tail
  | .jal _ _ => slot || tail
  | .jr _ => slot || tail
  | .reti => slot || tail || decide (x.saved = none)
  | .loop _ le => slot || x.loopIllegal x.pc le
  | .loopr _ le => slot || x.loopIllegal x.pc le
  | .endT => slot
  | _ => false

/-- The loop decision of R259 after the instruction at le: the core and the next index. The first pass through a body of
one or two instructions ends with the refetch. -/
def Core.loopBack (x : Core) (lc : Nat) : Core × Nat :=
  let y := if 1 < lc then { x with lc := lc - 1 } else x.loopPop
  (if x.fresh then { y.idleTwo with fresh := false } else y, if 1 < lc then x.gov.ls else x.gov.le + 1)

/-- What follows an issue at index `p` of core state `x0`: the loop decision, delay slots, the next index (R245, R259,
R263). -/
def Core.follow (x x0 : Core) (flow : TceFlow) : Core :=
  let p := x0.pc
  let decides := flow = .next && decide (1 ≤ x0.gov.dep) && decide (x0.gov.le = p) && !(x0.retSlots && decide (x0.delay ≠ 0))
  let seq : Core × Nat := match flow with
    | .skip i => (x, i)
    | _ => if decides then x.loopBack x0.lc else (x, p + 1)
  let y := { seq.1 with cycles := seq.1.cycles + 1 }
  let nxt := seq.2 % 16384
  match flow with
  | .branch t => { y with pc := nxt, delay := 2, target := t, retSlots := false }
  | .ret i => { y with pc := nxt, delay := 2, target := some i, retSlots := true }
  | _ =>
    if x0.delay = 0 then { y with pc := nxt }
    else if x0.delay = 1 then
      { y with pc := x0.target.getD nxt, delay := 0, target := none, retSlots := false, resumed := x0.retSlots }
    else { y with pc := nxt, delay := x0.delay - 1 }

/-- A background that has issued its delay slots gives way to a task that is due (R204). -/
def Hw.yieldBack (h : Hw) (c : Nat) : Hw :=
  if h.coreSt c = coreBack && (h.core c).delay = 0 && !h.tasksStopped then
    match h.nextTask c with
    | some r => h.startTask c r
    | none => h
  else h

/-- The fetch of an issue: counted if corrected, and what lands. -/
def Dev.tceFetch (d : Dev) (c : Nat) (ecc : EccSeen) : Dev :=
  let h := if ecc = .corrected then d.hw.tceCorrected c else d.hw
  { d with hw := h.setCore c (h.core c).atIssue }

/-- The instruction that core `c` would issue now, legal where it stands. -/
def Dev.tceNow (d : Dev) (c : Nat) (ecc : CoreEcc) : Option TceOp :=
  if ecc.fetch = .uncorrectable then none
  else match decodeTce (d.tceWord c) with
    | some op => if (d.hw.core c).atIssue.illegalHere op then none else some op
    | none => none

/-- Core `c` issues the instruction at its pc, if that is one that `act` carries out; otherwise nothing happens. -/
def Dev.tceIssue (d : Dev) (c : Nat) (ecc : CoreEcc) (act : TceOp → Dev → Option TceEffect) : Dev :=
  if !d.hw.coreRuns c then d
  else match d.tceNow c ecc with
    | none => d
    | some op =>
      let e := d.tceFetch c ecc.fetch
      let x0 := e.hw.core c
      let tap := match op with
        | .ftap _ _ _ _ _ => true
        | _ => false
      match act op e with
      | none => d
      | some (f, .endT) => f
      | some (f, flow) =>
        f.via fun h =>
          let x := h.core c
          let y := ({ x with bypass := if tap then x.bypass else none } : Core).follow x0 flow
          ((h.setCore c y).setNat (TCE_PC c) y.pc).yieldBack c

/-- ILLEGAL_INSTRUCTION: the word at the pc is illegal where it stands, or cannot be corrected (R202, R216, R243). -/
def Dev.tceIllegal (d : Dev) (c : Nat) (ecc : CoreEcc) : Dev :=
  if !d.hw.coreRuns c then d
  else match d.tceNow c ecc with
    | some _ => d
    | none =>
      let e := d.tceFetch c ecc.fetch
      if ecc.fetch = .uncorrectable then e.via fun h => h.haltFault c 10 (TCE_STAT_ECCU c)
      else e.via fun h => h.haltFault c 9 (TCE_STAT_ILLOP c)

/-! ## Interrupts (R261, R262) -/

/-- A line that blocks route to the core's agent bit is driven. -/
def Hw.tceLine (h : Hw) (c : Nat) : Bool := allPages.any (fun p => h.line p (5 + c)) || h.doorbell (5 + c)

/-- The core takes an interrupt at this boundary. -/
def Hw.tceTakes (h : Hw) (c : Nat) : Bool :=
  let x := h.core c
  let ien := match x.run with
    | some r => h.on (TCE_TASKk_CFG_IEN r.page r.k)
    | none => false
  decide (h.coreSt c = coreTask) && ien && bit x.landNext.sw 16 && decide (x.saved = none) && !x.resumed &&
    decide (x.delay = 0) && h.tceLine c

/-- TCE_INTERRUPT_ENTRY. -/
def tceInterrupt (c : Nat) (h : Hw) : Hw :=
  if h.coreRuns c && h.tceTakes c then
    let x := (h.core c).drain
    let y := { x with saved := some (x.pc, x.sw), sw := setBitN x.sw 16 false, pc := 0 }
    (h.setCore c y).setNat (TCE_PC c) 0
  else h

end Sys2Proof.Machine
end

