-- ==== Sys2Proof/Machine/Cycle.lean ====
section
/-! DEFINITION. The current-cycle T0 and the position-cycle T0 (R22 to R27): what the blocks do in each, in order; and
how a command's effect becomes the outcome of `exec`. -/

namespace Sys2Proof.Machine

/-- The clocks of the blocks run: not in OFF, RESET or PARKED, and not after a loss of the clocks (R60, R64, R100). -/
def Hw.alive (h : Hw) : Bool := h.fabricOn

/-- The T0 that the time base has come to opens a position cycle too (R265). -/
def Hw.commonT0 (h : Hw) : Bool := h.nat PST_TB_IDX % h.pst.posDiv = 0

/-- What only a position-cycle T0 brings in its TMR cycle, before anything is sampled (R21, R209, R212). -/
def Hw.positionLoads (h : Hw) : Hw := h.tceSwitch.tceLoad true
def Hw.positionSwaps (h : Hw) : Hw := (h.swapAll 2 fun _ => true).startPages positionPage

/-- The position cycle that ends at a common T0, as it was before a swap of that T0 (R176, R265). -/
def Hw.positionEnds (h : Hw) : Hw :=
  { h with pst := { h.pst with posDue := true, endPer := h.pst.curPer * h.pst.posDiv, endDiv := h.pst.posDiv } }

/-- The TMR cycle of a current-cycle T0 (R21, R22): the time base steps, armed groups are loaded, then swaps with POINT =
CURRENT land, and those with POINT = POSITION where the T0 is common. -/
def Hw.currentCycle (h : Hw) : Hw :=
  let h0 := h.publishSet.pstTick.ptpTick
  let both := h0.commonT0
  let h1 := h0.cond both Hw.positionEnds
  let h2 := ((h1.cond both Hw.positionLoads).tceLoad false).swapAll 1 fun _ => true
  ((h2.startPages currentPage).cond both Hw.positionSwaps).refreshSets.doorSpeeds

/-- The current-cycle T0: then the standby's records, and the current tasks open under the descriptors in force (R211). -/
def Dev.currentT0 (d : Dev) : Dev :=
  let d1 := d.via Hw.currentCycle
  let j := (d1.hw.nat PST_TB_IDX + 4294967296 - d1.hw.rdn.posIdx) % 4294967296
  (d1.rdnCurrent j).via (·.tceOpen false)

/-- The time base runs on to the next T0 that opens a position cycle, at most `k` current cycles away (R265): a position-cycle
T0 is a current-cycle T0 whose index POS_DIV divides. -/
def Dev.toPosition : Nat → Dev → Dev
  | 0, d => d
  | k + 1, d => if d.hw.pst.posDue then d else Dev.toPosition k d.currentT0

/-- What is latched at the position-cycle T0 (R23): its stamp, POS. Its current-cycle T0 has made the loads and swaps
(R21). -/
def Hw.positionLatch (h : Hw) : Hw := { h.stampT0 with pst := { h.stampT0.pst with posDue := false } }.posLatch

/-- The Ward's work at a T0 (R23, R99, R325 to R335): its own values, conditions, mode, slots, outputs. -/
def Hw.wardT0 (h : Hw) (proofOrder carEmpty overspeed : Bool) : Hw :=
  let h1 := h.wardSpeed.wardCar.wardSin.wardZone.wardCond
  (h1.modesT0 proofOrder carEmpty overspeed).slotsT0.outputsT0

/-- The motion blocks at a T0: brake sequencer, brake test, profile, doors, stops. -/
def Hw.motionT0 (h : Hw) : Hw := h.brkT0.btT0.chopStat.prfT0.dorT0.stqT0.refreshSets

/-- Cores, self-test, time base and networks at a T0. -/
def Hw.networkT0 (h : Hw) : Hw := (h.tcePosition.tceOpen true).tstT0.timeT0.canT0.sseT0

/-- The position-cycle T0 (R23, R26), after the current-cycle T0 of the same instant; where that has not come as a command of
its own, the time base gets there first (log entry 15). -/
def Dev.positionT0 (eccLo eccHi proofOrder carEmpty overspeed : Bool) (d : Dev) : Dev :=
  let d0 := Dev.toPosition 16 d
  let d1 := (d0.via Hw.positionLatch).rdnLatch
  let d2 := Dev.mapT0 eccLo eccHi (d1.via Hw.posT0)
  let d3 := d2.via fun h => (h.recT0.wardT0 proofOrder carEmpty overspeed).motionT0.networkT0
  d3.gateT0.rdnT0

/-! ## Outcomes -/

/-- The outcome of a command that turns the device into `d`: the queue is not touched. -/
def State.to (s : State) (d : Dev) : Host.Outcome State Fault Refusal := .next { s with dev := d }

/-- A command begins: none of its faults has arisen yet. -/
def Dev.begin (d : Dev) : Dev := d.via fun h => { h with sis := { h.sis with arriving := [], lagNew := false } }

/-- The fault manager takes what the command has raised (R341). -/
def Dev.settle (d : Dev) : Dev := d.via Hw.settle

/-- A command that acts on the registers alone. -/
def doHw (f : Hw → Hw) (s : State) : Host.Outcome State Fault Refusal := s.to (s.dev.via f)

/-- A command that acts on the registers and may raise faults. -/
def doHwF (f : Hw → Hw) (s : State) : Host.Outcome State Fault Refusal := s.to (s.dev.begin.via f).settle

/-- A command that acts on the device. -/
def doDev (f : Dev → Dev) (s : State) : Host.Outcome State Fault Refusal := s.to (f s.dev)

/-- A command that acts on the device and may raise faults. -/
def doDevF (f : Dev → Dev) (s : State) : Host.Outcome State Fault Refusal := s.to (f s.dev.begin).settle

/-- An event of the blocks: it has no effect while their clocks stand. -/
def whenAlive (f : Hw → Hw) (h : Hw) : Hw := if h.alive then f h else h

/-- The same for an effect on the device. -/
def Dev.whenAlive (f : Dev → Dev) (d : Dev) : Dev := if d.hw.alive then f d else d

/-- A write of the register at `a` by `who` (R29, R475): no access is made where no agent runs or for an agent held in
reset; the keyway writes inside its session and scope alone. -/
def Dev.byWriter (who : Who) (a : Nat) (f : Dev → Dev) (d : Dev) : Dev :=
  if !d.hw.canAccess who then d
  else match who with
    | .agent _ => f d
    | .keyway =>
      if !d.hw.on SEC_KW_STAT_OPEN then d
      else if d.hw.kwScope a then f d
      else d.via fun h => h.ack.wr SEC_KW_STAT_DENIED 1

/-- A read by `who`: the keyway reads in a session that holds READ alone (log entry 22). -/
def Dev.byReader (who : Who) (f : Dev → Dev) (d : Dev) : Dev :=
  if !d.hw.canAccess who then d
  else if who = .keyway ∧ !d.hw.perm 0 then d.via Hw.busError
  else f d

/-- A word of PRF_AXn_CMD or DOR_Dn_CMD: OP and SEQ (R181, R293). -/
def commandWord (op : Nat) (seq : BitVec 8) : Word := BitVec.ofNat 32 (op + 256 * seq.toNat)

/-- A register write that acts on the registers alone. -/
def writeHw (who : Who) (a : Nat) (f : Hw → Hw) : Dev → Dev := Dev.byWriter who a (·.via f)

/-- A register read that acts on the registers alone. -/
def readHw (who : Who) (f : Hw → Hw) : Dev → Dev := Dev.byReader who (·.via f)

end Sys2Proof.Machine
end

