-- ==== Sys2Proof/Machine/ExecDrive.lean ====
section
/-! DEFINITION. The meanings of the commands of PST, DOR and VIS (rows of R265 to R317). -/

namespace Sys2Proof.Machine

/-- SINC3_RESULT, R274: the window sum S of each input, SDI0 first; the door clamps act on the results (R298, R299). -/
def execSinc3Result (sums : List Nat) (s : State) : Host.Outcome State Fault Refusal :=
  doHwF (whenAlive fun h => (sinc3Standby sums h).clampT0) s

/-- SINC2_FAST_RESULT, R275: the fast result of an input. -/
def execSinc2FastResult (input : Fin 24) (fast : Word) (s : State) : Host.Outcome State Fault Refusal :=
  doHwF (whenAlive (fastResult input.val fast)) s

/-- SD_INPUT_STUCK, R276: the input and its stuck level. -/
def execSdInputStuck (input : Fin 24) (level : Bool) (s : State) : Host.Outcome State Fault Refusal :=
  doHwF (whenAlive (inputStuck input.val level)) s

/-- GATE_DRIVER_FAULT, R277: a filtered level of nGDFi, true for fault. -/
def execGateDriverFault (input : Fin 8) (fault : Bool) (s : State) : Host.Outcome State Fault Refusal :=
  doHwF (gateFault input.val fault) s

/-- TRIP_CLEAR, R277: a W1C write of PST_TRIP. -/
def execTripClear (who : Who) (w : Word) (s : State) : Host.Outcome State Fault Refusal :=
  doDev (writeHw who PST_TRIP (clearTrips who w)) s

/-- GRID_LOSS_CLEAR, R280: a W1C write of PST_GRID_STAT. -/
def execGridLossClear (who : Who) (w : Word) (s : State) : Host.Outcome State Fault Refusal :=
  doDev (writeHw who PST_GRID_STAT (gridLossClr who w)) s

/-- BRK_TMAG_ELAPSED, R284. -/
def execBrkTmagElapsed (s : State) : Host.Outcome State Fault Refusal :=
  doHw (whenAlive tmagElapsed) s

/-- BRK_TPRE_ELAPSED, R284. -/
def execBrkTpreElapsed (s : State) : Host.Outcome State Fault Refusal :=
  doHw (whenAlive tpreElapsed) s

/-- BRK_TLIFT_ELAPSED, R284. -/
def execBrkTliftElapsed (s : State) : Host.Outcome State Fault Refusal :=
  doHwF (whenAlive tliftElapsed) s

/-- BRK_TSTART_ELAPSED, R284. -/
def execBrkTstartElapsed (s : State) : Host.Outcome State Fault Refusal :=
  doHw (whenAlive tstartElapsed) s

/-- BRK_TPICK_ELAPSED, R284. -/
def execBrkTpickElapsed (s : State) : Host.Outcome State Fault Refusal :=
  doHw (whenAlive tpickElapsed) s

/-- BRK_TSET_ELAPSED, R284. -/
def execBrkTsetElapsed (s : State) : Host.Outcome State Fault Refusal :=
  doHw (whenAlive tsetElapsed) s

/-- BRK_TDROP_ELAPSED, R284. -/
def execBrkTdropElapsed (s : State) : Host.Outcome State Fault Refusal :=
  doHwF (whenAlive tdropElapsed) s

/-- BRK_TRAMP_ELAPSED, R284. -/
def execBrkTrampElapsed (s : State) : Host.Outcome State Fault Refusal :=
  doHw (whenAlive trampElapsed) s

/-- BRAKE_TEST_START, R286: a write of PST_BT_CTL with START. -/
def execBrakeTestStart (who : Who) (w : Word) (s : State) : Host.Outcome State Fault Refusal :=
  doDev (writeHw who PST_BT_CTL (btStart who (w ||| 1))) s

/-- BRAKE_TEST_RAMP_END, R286. -/
def execBrakeTestRampEnd (s : State) : Host.Outcome State Fault Refusal :=
  doHw (whenAlive btRampEnd) s

/-- BRAKE_TEST_HOLD_END, R286. -/
def execBrakeTestHoldEnd (s : State) : Host.Outcome State Fault Refusal :=
  doHwF (whenAlive btHoldEnd) s

/-- BRAKE_TEST_ABORT, R287: a write of PST_BT_CTL with ABORT. -/
def execBrakeTestAbort (who : Who) (s : State) : Host.Outcome State Fault Refusal :=
  doDev (writeHw who PST_BT_CTL fun h => btAbortW who (h.reg PST_BT_CTL) h) s

/-- DOOR_OPEN, R296: a write of DOR_Dn_CMD with OP = 0x1. -/
def execDoorOpen (who : Who) (door : Fin 2) (seq : BitVec 8) (s : State) : Host.Outcome State Fault Refusal :=
  doDev (writeHw who (DOR_Dn_CMD door.val) (doorWrite who door.val (commandWord 1 seq))) s

/-- DOOR_CLOSE, R296: OP = 0x2. -/
def execDoorClose (who : Who) (door : Fin 2) (seq : BitVec 8) (s : State) : Host.Outcome State Fault Refusal :=
  doDev (writeHw who (DOR_Dn_CMD door.val) (doorWrite who door.val (commandWord 2 seq))) s

/-- DOOR_HOLD, R293: OP = 0x3. -/
def execDoorHold (who : Who) (door : Fin 2) (seq : BitVec 8) (s : State) : Host.Outcome State Fault Refusal :=
  doDev (writeHw who (DOR_Dn_CMD door.val) (doorWrite who door.val (commandWord 3 seq))) s

/-- DOOR_RELEASE, R293: OP = 0x4. -/
def execDoorRelease (who : Who) (door : Fin 2) (seq : BitVec 8) (s : State) : Host.Outcome State Fault Refusal :=
  doDev (writeHw who (DOR_Dn_CMD door.val) (doorWrite who door.val (commandWord 4 seq))) s

/-- DOOR_NUDGE, R296: OP = 0x5. -/
def execDoorNudge (who : Who) (door : Fin 2) (seq : BitVec 8) (s : State) : Host.Outcome State Fault Refusal :=
  doDev (writeHw who (DOR_Dn_CMD door.val) (doorWrite who door.val (commandWord 5 seq))) s

/-- DOOR_STOP, R296: OP = 0x6. -/
def execDoorStop (who : Who) (door : Fin 2) (seq : BitVec 8) (s : State) : Host.Outcome State Fault Refusal :=
  doDev (writeHw who (DOR_Dn_CMD door.val) (doorWrite who door.val (commandWord 6 seq))) s

/-- DOOR_HANDOVER, R296: OP = 0x7. -/
def execDoorHandover (who : Who) (door : Fin 2) (seq : BitVec 8) (s : State) : Host.Outcome State Fault Refusal :=
  doDev (writeHw who (DOR_Dn_CMD door.val) (doorWrite who door.val (commandWord 7 seq))) s

/-- DOOR_TAKEBACK, R296: OP = 0x8. -/
def execDoorTakeback (who : Who) (door : Fin 2) (seq : BitVec 8) (s : State) : Host.Outcome State Fault Refusal :=
  doDev (writeHw who (DOR_Dn_CMD door.val) (doorWrite who door.val (commandWord 8 seq))) s

/-- DOOR_CLEAR, R296: OP = 0x9. -/
def execDoorClear (who : Who) (door : Fin 2) (seq : BitVec 8) (s : State) : Host.Outcome State Fault Refusal :=
  doDev (writeHw who (DOR_Dn_CMD door.val) (doorWrite who door.val (commandWord 9 seq))) s

/-- DOOR_ILLOP, R293: any write of DOR_Dn_CMD, of which an unknown OP is refused. -/
def execDoorIllop (who : Who) (door : Fin 2) (w : Word) (s : State) : Host.Outcome State Fault Refusal :=
  doDev (writeHw who (DOR_Dn_CMD door.val) (doorWrite who door.val w)) s

/-- DOOR_UNLOCK_TIMEOUT, R296. -/
def execDoorUnlockTimeout (door : Fin 2) (s : State) : Host.Outcome State Fault Refusal :=
  doHwF (whenAlive (unlockExpired door.val)) s

/-- DOOR_DWELL_ELAPSED, R296. -/
def execDoorDwellElapsed (door : Fin 2) (s : State) : Host.Outcome State Fault Refusal :=
  doHw (whenAlive (dwellExpired door.val)) s

/-- DOOR_NUDGE_TIME_ELAPSED, R296. -/
def execDoorNudgeTimeElapsed (door : Fin 2) (s : State) : Host.Outcome State Fault Refusal :=
  doHw (whenAlive (nudgeExpired door.val)) s

/-- DOOR_LOCK_TIMEOUT, R296. -/
def execDoorLockTimeout (door : Fin 2) (s : State) : Host.Outcome State Fault Refusal :=
  doHwF (whenAlive (lockExpired door.val)) s

/-- DOOR_RETRY_ELAPSED, R296. -/
def execDoorRetryElapsed (door : Fin 2) (s : State) : Host.Outcome State Fault Refusal :=
  doHw (whenAlive (retryExpired door.val)) s

/-- RELEVEL_REQUEST, R305: RLV_T has elapsed. -/
def execRelevelRequest (s : State) : Host.Outcome State Fault Refusal :=
  doHw (whenAlive relevelAsk) s

/-- CONTACT_LEVEL_CHANGE, R307: a monitor takes a level, true closed; the changes its filter has rejected since its
last row. -/
def execContactLevelChange (monitor : Fin 8) (closed : Bool) (rejected : Nat) (s : State) :
    Host.Outcome State Fault Refusal :=
  doHwF (contactLevel monitor.val closed rejected) s

/-- CONTACT_BYPASS, R308: BYP_T has elapsed. -/
def execContactBypass (monitor : Fin 8) (s : State) : Host.Outcome State Fault Refusal :=
  doHwF (whenAlive (contactBypassed monitor.val)) s

/-- VIS_FRAME_END, R311: an uncorrectable header, a CRC error, and the lines of raw pixels. -/
def execVisFrameEnd (rx : Fin 2) (ecc : Bool) (crc : Bool) (lines : List (List Nat)) (s : State) :
    Host.Outcome State Fault Refusal :=
  doDev (Dev.whenAlive (frameEnd rx.val ecc crc lines)) s

/-- VIS_STALE, R312: TMO has elapsed. -/
def execVisStale (rx : Fin 2) (s : State) : Host.Outcome State Fault Refusal :=
  doHw (whenAlive (visTimeout rx.val)) s

/-- CARRIER_VALLEY, R271. -/
def execCarrierValley (set : Fin 6) (s : State) : Host.Outcome State Fault Refusal :=
  doHw (whenAlive (Machine.carrierValley set.val)) s

/-- CSI_LANE_SYNC_LOSS, R317. -/
def execCsiLaneSyncLoss (rx : Fin 2) (s : State) : Host.Outcome State Fault Refusal :=
  doHw (whenAlive (laneLost rx.val)) s

/-- CHOPPER_MINON_ELAPSED, R279. -/
def execChopperMinonElapsed (set : Fin 6) (leg : Fin 3) (s : State) : Host.Outcome State Fault Refusal :=
  doHw (whenAlive (minonElapsed set.val leg.val)) s

end Sys2Proof.Machine
end

