-- ==== Sys2Proof/Machine/ExecEngine.lean ====
section
/-! DEFINITION. The meanings of the commands of the control engine and of its instructions (rows of R199 to R263). -/

namespace Sys2Proof.Machine

/-- TCE_GO, R202: a write of TCE_CTL with GO = 1. -/
def execTceGo (who : Who) (core : Fin 2) (w : Word) (s : State) : Host.Outcome State Fault Refusal :=
  doDev (writeHw who (TCE_CTL core.val) (tceCtlWrite who core.val (w ||| 1))) s

/-- TCE_HALT, R202: a write of TCE_CTL with GO = 0. -/
def execTceHalt (who : Who) (core : Fin 2) (w : Word) (s : State) : Host.Outcome State Fault Refusal :=
  doDev (writeHw who (TCE_CTL core.val) (tceCtlWrite who core.val (w &&& 0xFFFFFFFE))) s

/-- TCE_SOLO, R212: a write of TCE_CTL that changes SOLO. -/
def execTceSolo (who : Who) (core : Fin 2) (w : Word) (s : State) : Host.Outcome State Fault Refusal :=
  doDev (writeHw who (TCE_CTL core.val) (tceCtlWrite who core.val w)) s

/-- TCE_SOFTWARE_TRIGGER, R203: a write of TCE_TRIG. -/
def execTceSoftwareTrigger (who : Who) (core : Fin 2) (w : Word) (s : State) : Host.Outcome State Fault Refusal :=
  doDev (writeHw who (TCE_TRIG core.val) (tceTrigger who core.val w)) s

/-- TCE_AUTH_START, R215: a write of TCE_PCAUTH. -/
def execTceAuthStart (who : Who) (core : Fin 2) (w : Word) (s : State) : Host.Outcome State Fault Refusal :=
  doDev (writeHw who (TCE_PCAUTH core.val) (tceAuthGo who core.val w)) s

/-- TCE_AUTH_DONE, R215. -/
def execTceAuthDone (core : Fin 2) (s : State) : Host.Outcome State Fault Refusal :=
  doDev (Dev.whenAlive (tceAuthEnd core.val)) s

/-- TCE_PROGRAM_WRITE, R201: a write of 2^size bytes at an offset of a core's program memory through the fabric. -/
def execTceProgramWrite (who : Who) (core : Fin 2) (off : BitVec 16) (size : Fin 4) (data : BitVec 64) (s : State) :
    Host.Outcome State Fault Refusal :=
  doDevF (fun d => if d.hw.canAccess who then d.write who (progBase core.val + off.toNat) (2 ^ size.val) (data.toNat % 2 ^ (8 * 2 ^ size.val)) else d) s

/-- TASK_TICK, R204: the tick of a task, by the page of its descriptor. -/
def execTaskTick (page : Fin 2) (task : Fin 16) (s : State) : Host.Outcome State Fault Refusal :=
  doHwF (whenAlive (tickTask page.val task.val)) s

/-- TCE_INTERRUPT_ENTRY, R262. -/
def execTceInterruptEntry (core : Fin 2) (s : State) : Host.Outcome State Fault Refusal :=
  doHw (tceInterrupt core.val) s

/-- NOP, R244: a core issues the instruction that stands at its pc. -/
def execNop (core : Fin 2) (ecc : CoreEcc) (s : State) : Host.Outcome State Fault Refusal :=
  doDevF (·.tceIssue core.val ecc doNop) s

/-- END, R247: the run time of the instance from tick to END, in TCE cycles. -/
def execEndTask (core : Fin 2) (ecc : CoreEcc) (time : Nat) (s : State) : Host.Outcome State Fault Refusal :=
  doDevF (·.tceIssue core.val ecc (doEnd core.val time)) s

/-- BR, R245: a core issues the instruction that stands at its pc. -/
def execBr (core : Fin 2) (ecc : CoreEcc) (s : State) : Host.Outcome State Fault Refusal :=
  doDevF (·.tceIssue core.val ecc (doBr core.val)) s

/-- JAL, R244: a core issues the instruction that stands at its pc. -/
def execJal (core : Fin 2) (ecc : CoreEcc) (s : State) : Host.Outcome State Fault Refusal :=
  doDevF (·.tceIssue core.val ecc (doJal core.val)) s

/-- JR, R245: a core issues the instruction that stands at its pc. -/
def execJr (core : Fin 2) (ecc : CoreEcc) (s : State) : Host.Outcome State Fault Refusal :=
  doDevF (·.tceIssue core.val ecc (doJr core.val)) s

/-- LOOP, R258: a core issues the instruction that stands at its pc. -/
def execLoop (core : Fin 2) (ecc : CoreEcc) (s : State) : Host.Outcome State Fault Refusal :=
  doDevF (·.tceIssue core.val ecc (doLoop core.val)) s

/-- LOOPR, R258: a core issues the instruction that stands at its pc. -/
def execLoopr (core : Fin 2) (ecc : CoreEcc) (s : State) : Host.Outcome State Fault Refusal :=
  doDevF (·.tceIssue core.val ecc (doLoopr core.val)) s

/-- LEXIT, R259: a core issues the instruction that stands at its pc. -/
def execLexit (core : Fin 2) (ecc : CoreEcc) (s : State) : Host.Outcome State Fault Refusal :=
  doDevF (·.tceIssue core.val ecc (doLexit core.val)) s

/-- RETI, R263: a core issues the instruction that stands at its pc. -/
def execReti (core : Fin 2) (ecc : CoreEcc) (s : State) : Host.Outcome State Fault Refusal :=
  doDevF (·.tceIssue core.val ecc (doReti core.val)) s

/-- SWI, R244: a core issues the instruction that stands at its pc. -/
def execSwi (core : Fin 2) (ecc : CoreEcc) (s : State) : Host.Outcome State Fault Refusal :=
  doDevF (·.tceIssue core.val ecc (doSwi core.val)) s

/-- ADD, R248: a core issues the instruction that stands at its pc. -/
def execAddOp (core : Fin 2) (ecc : CoreEcc) (s : State) : Host.Outcome State Fault Refusal :=
  doDevF (·.tceIssue core.val ecc (doAlu 0x00 core.val)) s

/-- SUB, R248: a core issues the instruction that stands at its pc. -/
def execSubOp (core : Fin 2) (ecc : CoreEcc) (s : State) : Host.Outcome State Fault Refusal :=
  doDevF (·.tceIssue core.val ecc (doAlu 0x01 core.val)) s

/-- ADDS, R248: a core issues the instruction that stands at its pc. -/
def execAdds (core : Fin 2) (ecc : CoreEcc) (s : State) : Host.Outcome State Fault Refusal :=
  doDevF (·.tceIssue core.val ecc (doAlu 0x02 core.val)) s

/-- SUBS, R248: a core issues the instruction that stands at its pc. -/
def execSubs (core : Fin 2) (ecc : CoreEcc) (s : State) : Host.Outcome State Fault Refusal :=
  doDevF (·.tceIssue core.val ecc (doAlu 0x03 core.val)) s

/-- AND, R248: a core issues the instruction that stands at its pc. -/
def execAndOp (core : Fin 2) (ecc : CoreEcc) (s : State) : Host.Outcome State Fault Refusal :=
  doDevF (·.tceIssue core.val ecc (doAlu 0x04 core.val)) s

/-- OR, R248: a core issues the instruction that stands at its pc. -/
def execOrOp (core : Fin 2) (ecc : CoreEcc) (s : State) : Host.Outcome State Fault Refusal :=
  doDevF (·.tceIssue core.val ecc (doAlu 0x05 core.val)) s

/-- XOR, R248: a core issues the instruction that stands at its pc. -/
def execXorOp (core : Fin 2) (ecc : CoreEcc) (s : State) : Host.Outcome State Fault Refusal :=
  doDevF (·.tceIssue core.val ecc (doAlu 0x06 core.val)) s

/-- ANDN, R248: a core issues the instruction that stands at its pc. -/
def execAndn (core : Fin 2) (ecc : CoreEcc) (s : State) : Host.Outcome State Fault Refusal :=
  doDevF (·.tceIssue core.val ecc (doAlu 0x07 core.val)) s

/-- SHL, R248: a core issues the instruction that stands at its pc. -/
def execShl (core : Fin 2) (ecc : CoreEcc) (s : State) : Host.Outcome State Fault Refusal :=
  doDevF (·.tceIssue core.val ecc (doAlu 0x08 core.val)) s

/-- SHR, R248: a core issues the instruction that stands at its pc. -/
def execShr (core : Fin 2) (ecc : CoreEcc) (s : State) : Host.Outcome State Fault Refusal :=
  doDevF (·.tceIssue core.val ecc (doAlu 0x09 core.val)) s

/-- ASR, R248: a core issues the instruction that stands at its pc. -/
def execAsr (core : Fin 2) (ecc : CoreEcc) (s : State) : Host.Outcome State Fault Refusal :=
  doDevF (·.tceIssue core.val ecc (doAlu 0x0A core.val)) s

/-- CMP, R248: a core issues the instruction that stands at its pc. -/
def execCmp (core : Fin 2) (ecc : CoreEcc) (s : State) : Host.Outcome State Fault Refusal :=
  doDevF (·.tceIssue core.val ecc (doAlu 0x0B core.val)) s

/-- NEG, R248: a core issues the instruction that stands at its pc. -/
def execNegOp (core : Fin 2) (ecc : CoreEcc) (s : State) : Host.Outcome State Fault Refusal :=
  doDevF (·.tceIssue core.val ecc (doAlu 0x0C core.val)) s

/-- ABS, R248: a core issues the instruction that stands at its pc. -/
def execAbsOp (core : Fin 2) (ecc : CoreEcc) (s : State) : Host.Outcome State Fault Refusal :=
  doDevF (·.tceIssue core.val ecc (doAlu 0x0D core.val)) s

/-- MIN, R248: a core issues the instruction that stands at its pc. -/
def execMinOp (core : Fin 2) (ecc : CoreEcc) (s : State) : Host.Outcome State Fault Refusal :=
  doDevF (·.tceIssue core.val ecc (doAlu 0x0E core.val)) s

/-- MAX, R248: a core issues the instruction that stands at its pc. -/
def execMaxOp (core : Fin 2) (ecc : CoreEcc) (s : State) : Host.Outcome State Fault Refusal :=
  doDevF (·.tceIssue core.val ecc (doAlu 0x0F core.val)) s

/-- ALU_MOV, R248: a core issues the instruction that stands at its pc. -/
def execAluMov (core : Fin 2) (ecc : CoreEcc) (s : State) : Host.Outcome State Fault Refusal :=
  doDevF (·.tceIssue core.val ecc (doAlu 0x10 core.val)) s

/-- MOVI_DATA, R249: a core issues the instruction that stands at its pc. -/
def execMoviData (core : Fin 2) (ecc : CoreEcc) (s : State) : Host.Outcome State Fault Refusal :=
  doDevF (·.tceIssue core.val ecc (doMoviData core.val)) s

/-- MOVI_ADDR, R249: a core issues the instruction that stands at its pc. -/
def execMoviAddr (core : Fin 2) (ecc : CoreEcc) (s : State) : Host.Outcome State Fault Refusal :=
  doDevF (·.tceIssue core.val ecc (doMoviAddr core.val)) s

/-- MOV, R250: a core issues the instruction that stands at its pc. -/
def execMovReg (core : Fin 2) (ecc : CoreEcc) (s : State) : Host.Outcome State Fault Refusal :=
  doDevF (·.tceIssue core.val ecc (doMov core.val)) s

/-- MAC, R251: a core issues the instruction that stands at its pc. -/
def execMac (core : Fin 2) (ecc : CoreEcc) (s : State) : Host.Outcome State Fault Refusal :=
  doDevF (·.tceIssue core.val ecc (doMac 0 core.val)) s

/-- MACD, R251: a core issues the instruction that stands at its pc. -/
def execMacd (core : Fin 2) (ecc : CoreEcc) (s : State) : Host.Outcome State Fault Refusal :=
  doDevF (·.tceIssue core.val ecc (doMac 1 core.val)) s

/-- MACS, R251: a core issues the instruction that stands at its pc. -/
def execMacs (core : Fin 2) (ecc : CoreEcc) (s : State) : Host.Outcome State Fault Refusal :=
  doDevF (·.tceIssue core.val ecc (doMac 2 core.val)) s

/-- CMAC, R251: a core issues the instruction that stands at its pc. -/
def execCmac (core : Fin 2) (ecc : CoreEcc) (s : State) : Host.Outcome State Fault Refusal :=
  doDevF (·.tceIssue core.val ecc (doMac 3 core.val)) s

/-- RND, R252: a core issues the instruction that stands at its pc. -/
def execRnd (core : Fin 2) (ecc : CoreEcc) (s : State) : Host.Outcome State Fault Refusal :=
  doDevF (·.tceIssue core.val ecc (doRnd core.val)) s

/-- LD, R253: a core issues the instruction that stands at its pc. -/
def execLd (core : Fin 2) (ecc : CoreEcc) (s : State) : Host.Outcome State Fault Refusal :=
  doDevF (·.tceIssue core.val ecc (doMem false core.val ecc)) s

/-- ST, R253: a core issues the instruction that stands at its pc. -/
def execSt (core : Fin 2) (ecc : CoreEcc) (s : State) : Host.Outcome State Fault Refusal :=
  doDevF (·.tceIssue core.val ecc (doMem true core.val ecc)) s

/-- ST_ACC, R253: a core issues the instruction that stands at its pc. -/
def execStAcc (core : Fin 2) (ecc : CoreEcc) (s : State) : Host.Outcome State Fault Refusal :=
  doDevF (·.tceIssue core.val ecc (doStAcc core.val)) s

/-- LD_ST_PAIR, R254: a core issues the instruction that stands at its pc. -/
def execLdStPair (core : Fin 2) (ecc : CoreEcc) (s : State) : Host.Outcome State Fault Refusal :=
  doDevF (·.tceIssue core.val ecc (doPair core.val ecc)) s

/-- FTAP, R256: a core issues the instruction that stands at its pc. -/
def execFtap (core : Fin 2) (ecc : CoreEcc) (s : State) : Host.Outcome State Fault Refusal :=
  doDevF (·.tceIssue core.val ecc (doFtap core.val ecc)) s

/-- ILLEGAL_INSTRUCTION, R243: the word at the pc of a core is illegal where it stands, or cannot be corrected. -/
def execIllegalInstruction (core : Fin 2) (ecc : CoreEcc) (s : State) : Host.Outcome State Fault Refusal :=
  doDevF (fun d => d.tceIllegal core.val ecc) s

end Sys2Proof.Machine
end

