-- ==== Sys2Proof/Machine/ExecMotion.lean ====
section
/-! DEFINITION. The meanings of the commands of POS, MAP and PRF (rows of R120 to R196). -/

namespace Sys2Proof.Machine

/-- QUAD_COUNT, R121, R70: the last five samples of A and of B of a channel, the newest in bit 0; the stamp of the newest
(R120, R128). -/
def execQuadCount (ch : Fin 6) (a : BitVec 5) (b : BitVec 5) (stamp : BitVec 64) (s : State) :
    Host.Outcome State Fault Refusal :=
  doHwF (quadEvent ch.val a b stamp.toNat) s

/-- ILLEGAL_WINDOW_END, R121: a 1 ms window of a channel ends. -/
def execIllegalWindowEnd (ch : Fin 6) (s : State) : Host.Outcome State Fault Refusal :=
  doHwF (whenAlive (illegalEnd ch.val)) s

/-- INDEX_EVENT, R125: the filtered index takes a level; how many filtered samples after the last reversing count (R126),
and whether the sample is an illegal transition (R127). -/
def execIndexEvent (ch : Fin 6) (level : Bool) (samplesSince : Nat) (illegal : Bool) (s : State) :
    Host.Outcome State Fault Refusal :=
  doHw (whenAlive (indexTake ch.val level samplesSince illegal)) s

/-- COUNT_PRESET, R127: a write of POS_Qn_PRESET. -/
def execCountPreset (who : Who) (ch : Fin 6) (w : Word) (s : State) : Host.Outcome State Fault Refusal :=
  doDev (writeHw who (POS_Qn_PRESET ch.val) (presetWrite who ch.val w)) s

/-- SERIAL_FRAME_END, R133: the frame as it came in. -/
def execSerialFrameEnd (ch : Fin 4) (rx : SerialRx) (s : State) : Host.Outcome State Fault Refusal :=
  doHw (whenAlive (serialEnd ch.val rx)) s

/-- SERIAL_NEGOTIATION_DONE, R132: the CLKSEL codes at which 8 consecutive frames pass the CRC; the measured line delay in
2.5 ns. -/
def execSerialNegotiationDone (ch : Fin 4) (passes : BitVec 8) (ldly : Nat) (s : State) :
    Host.Outcome State Fault Refusal :=
  doHw (whenAlive (negotiated ch.val passes.toNat ldly)) s

/-- SERIAL_LOST_CLEAR, R133: a W1C write of POS_Sn_STAT. -/
def execSerialLostClear (who : Who) (ch : Fin 4) (w : Word) (s : State) : Host.Outcome State Fault Refusal :=
  doDev (writeHw who (POS_Sn_STAT ch.val) (serialClear who ch.val w)) s

/-- DIN_EDGE, R135: the level of a ball; its stamp; in how many consecutive samples it has been seen. -/
def execDinEdge (input : Fin 32) (level : Bool) (stamp : BitVec 32) (seen : Nat) (s : State) :
    Host.Outcome State Fault Refusal :=
  doHw (dinTake input.val level stamp.toNat seen) s

/-- DCAP_POP, R136: a read of POS_DCAP_W0. -/
def execDcapPop (who : Who) (s : State) : Host.Outcome State Fault Refusal :=
  doDev (readHw who (capPop who)) s

/-- EMU_STEP, R137. -/
def execEmuStep (out : Fin 2) (s : State) : Host.Outcome State Fault Refusal :=
  doHw (whenAlive (emuStepOut out.val)) s

/-- TUMBLER_ALIGN, R141: a write of POS_TUM_CTL. -/
def execTumblerAlign (who : Who) (w : Word) (s : State) : Host.Outcome State Fault Refusal :=
  doDev (writeHw who POS_TUM_CTL (alignWrite who w)) s

/-- SOURCE_FROZEN, R142: the source code of R147. -/
def execSourceFrozen (src : Fin 13) (s : State) : Host.Outcome State Fault Refusal :=
  doHw (whenAlive (freezeSource src.val)) s

/-- LOOP_RETURN, R143: a write of POS_LOOP_STAT. -/
def execLoopReturn (who : Who) (w : Word) (s : State) : Host.Outcome State Fault Refusal :=
  doDev (writeHw who POS_LOOP_STAT (returnWrite who w)) s

/-- MAP_RELOAD_START, R157: a write of MAP_RELOAD. -/
def execMapReloadStart (who : Who) (w : Word) (s : State) : Host.Outcome State Fault Refusal :=
  doDev (writeHw who MAP_RELOAD (reloadWrite who w)) s

/-- MAP_PAGE_LOADED, R157: the data of the page in flight has been read; whether it authenticates follows from it. -/
def execMapPageLoaded (s : State) : Host.Outcome State Fault Refusal :=
  doDev (Dev.whenAlive mapLoaded) s

/-- MAP_PAGE_RELOAD, R159: a write of MAP_DIRn with RELOAD. -/
def execMapPageReload (who : Who) (page : Fin 1024) (w : Word) (s : State) : Host.Outcome State Fault Refusal :=
  doDev (writeHw who (MAP_DIRn page.val) (dirWrite who page.val (w ||| 0x02000000))) s

/-- MAP_LEARN_ENTRY, R166: the oldest queued capture entry comes up. -/
def execMapLearnEntry (s : State) : Host.Outcome State Fault Refusal :=
  doDev (Dev.whenAlive learnEntry) s

/-- MAP_REBUILD_START, R168: a write of MAP_REB_CTL with START. -/
def execMapRebuildStart (who : Who) (w : Word) (s : State) : Host.Outcome State Fault Refusal :=
  doDev (Dev.byWriter who MAP_REB_CTL (rebuildWrite who (w ||| 0x80000000))) s

/-- MAP_REBUILD_CANCEL, R168: a write of MAP_REB_CTL with CANCEL. -/
def execMapRebuildCancel (who : Who) (w : Word) (s : State) : Host.Outcome State Fault Refusal :=
  doDev (Dev.byWriter who MAP_REB_CTL (rebuildWrite who (w ||| 0x40000000))) s

/-- MAP_REBUILD_PAGE_DONE, R167: the page in work is complete. -/
def execMapRebuildPageDone (s : State) : Host.Outcome State Fault Refusal :=
  doDev (Dev.whenAlive rebuildDone) s

/-- MAP_WRITEBACK_DONE, R168: the oldest landed slot has been copied home. -/
def execMapWritebackDone (s : State) : Host.Outcome State Fault Refusal :=
  doDev (Dev.whenAlive writebackDone) s

/-- MAP_IMPORT, R170: a write of MAP_DIRn with IMPORT. -/
def execMapImport (who : Who) (page : Fin 1024) (w : Word) (s : State) : Host.Outcome State Fault Refusal :=
  doDev (writeHw who (MAP_DIRn page.val) (dirWrite who page.val (w ||| 0x01000000))) s

/-- PRF_MOVE, R181: a write of PRF_AXn_CMD with OP = 0x1. -/
def execPrfMove (who : Who) (axis : Fin 4) (seq : BitVec 8) (s : State) : Host.Outcome State Fault Refusal :=
  doDev (writeHw who (PRF_AXn_CMD axis.val) (cmdWrite who axis.val (commandWord 1 seq))) s

/-- PRF_STOP, R185: OP = 0x2. -/
def execPrfStop (who : Who) (axis : Fin 4) (seq : BitVec 8) (s : State) : Host.Outcome State Fault Refusal :=
  doDev (writeHw who (PRF_AXn_CMD axis.val) (cmdWrite who axis.val (commandWord 2 seq))) s

/-- PRF_RESUME, R186: OP = 0x3. -/
def execPrfResume (who : Who) (axis : Fin 4) (seq : BitVec 8) (s : State) : Host.Outcome State Fault Refusal :=
  doDev (writeHw who (PRF_AXn_CMD axis.val) (cmdWrite who axis.val (commandWord 3 seq))) s

/-- PRF_ABORT, R181: OP = 0x4. -/
def execPrfAbort (who : Who) (axis : Fin 4) (seq : BitVec 8) (s : State) : Host.Outcome State Fault Refusal :=
  doDev (writeHw who (PRF_AXn_CMD axis.val) (cmdWrite who axis.val (commandWord 4 seq))) s

/-- PRF_GEAR, R194: OP = 0x5. -/
def execPrfGear (who : Who) (axis : Fin 4) (seq : BitVec 8) (s : State) : Host.Outcome State Fault Refusal :=
  doDev (writeHw who (PRF_AXn_CMD axis.val) (cmdWrite who axis.val (commandWord 5 seq))) s

/-- PRF_UNGEAR, R194: OP = 0x6. -/
def execPrfUngear (who : Who) (axis : Fin 4) (seq : BitVec 8) (s : State) : Host.Outcome State Fault Refusal :=
  doDev (writeHw who (PRF_AXn_CMD axis.val) (cmdWrite who axis.val (commandWord 6 seq))) s

/-- PRF_PRESET, R181: OP = 0x7. -/
def execPrfPreset (who : Who) (axis : Fin 4) (seq : BitVec 8) (s : State) : Host.Outcome State Fault Refusal :=
  doDev (writeHw who (PRF_AXn_CMD axis.val) (cmdWrite who axis.val (commandWord 7 seq))) s

/-- PRF_GRARM, R195: OP = 0x8. -/
def execPrfGrarm (who : Who) (axis : Fin 4) (seq : BitVec 8) (s : State) : Host.Outcome State Fault Refusal :=
  doDev (writeHw who (PRF_AXn_CMD axis.val) (cmdWrite who axis.val (commandWord 8 seq))) s

/-- PRF_ILLOP, R182: any write of PRF_AXn_CMD, of which an unknown OP is refused. -/
def execPrfIllop (who : Who) (axis : Fin 4) (w : Word) (s : State) : Host.Outcome State Fault Refusal :=
  doDev (writeHw who (PRF_AXn_CMD axis.val) (cmdWrite who axis.val w)) s

/-- AXIS_STANDSTILL, R191: an axis has been idle for STILL_T. -/
def execAxisStandstill (axis : Fin 4) (s : State) : Host.Outcome State Fault Refusal :=
  doHw (whenAlive (axisRests axis.val)) s

/-- AXIS_STALL, R192: LANG has stood above STALL_ANG for STALL_N cycles. -/
def execAxisStall (axis : Fin 4) (s : State) : Host.Outcome State Fault Refusal :=
  doHwF (whenAlive (axisStalls axis.val)) s

/-- STEP_ISSUE, R193: the interval timer of a generator expires; TMR cycles since the latest set-point's T0. -/
def execStepIssue (gen : Fin 2) (tau : Nat) (s : State) : Host.Outcome State Fault Refusal :=
  doHw (whenAlive (stepPulse gen.val tau)) s

/-- WARD_CAP_WRITE, R187: a write of PRF_WCAP. -/
def execWardCapWrite (who : Who) (w : Word) (s : State) : Host.Outcome State Fault Refusal :=
  doDev (writeHw who PRF_WCAP (wardCap who w)) s

end Sys2Proof.Machine
end

