-- ==== Sys2Proof/Machine/ExecNetwork.lean ====
section
/-! DEFINITION. The meanings of the commands of CAN, ETH and SSE (rows of R377 to R421). -/

namespace Sys2Proof.Machine

/-- CAN_CTL_WRITE, R377: a write of CANn_CTL. -/
def execCanCtlWrite (who : Who) (ctrl : Fin 4) (w : Word) (s : State) : Host.Outcome State Fault Refusal :=
  doDev (writeHw who (CAN_CTL ctrl.val) (canCtl who ctrl.val w)) s

/-- CAN_FRAME_RECEIVE, R381: a valid frame ends. -/
def execCanFrameReceive (ctrl : Fin 4) (frame : CanFrame) (s : State) : Host.Outcome State Fault Refusal :=
  doHw (whenAlive (frameReceive ctrl.val frame)) s

/-- CAN_OBJECT_LOCK, R383: a read of W0 of an object. -/
def execCanObjectLock (who : Who) (ctrl : Fin 4) (obj : Fin 128) (s : State) : Host.Outcome State Fault Refusal :=
  doDev (readHw who (objRead who ctrl.val obj.val 0)) s

/-- CAN_OBJECT_UNLOCK, R383: a read of a word of an object, of which LASTW releases the lock. -/
def execCanObjectUnlock (who : Who) (ctrl : Fin 4) (obj : Fin 128) (word : Fin 20) (s : State) :
    Host.Outcome State Fault Refusal :=
  doDev (readHw who (objRead who ctrl.val obj.val word.val)) s

/-- CAN_LOCK_TIMEOUT, R383. -/
def execCanLockTimeout (ctrl : Fin 4) (obj : Fin 128) (s : State) : Host.Outcome State Fault Refusal :=
  doHw (whenAlive (lockTimeout ctrl.val obj.val)) s

/-- CAN_QUEUE_POP, R385: a read of CANn_RQk_W0. -/
def execCanQueuePop (who : Who) (ctrl : Fin 4) (queue : Fin 2) (s : State) : Host.Outcome State Fault Refusal :=
  doDev (readHw who (queuePop who ctrl.val queue.val)) s

/-- CAN_TX_REQUEST, R386: a write of CANn_TXRQx. -/
def execCanTxRequest (who : Who) (ctrl : Fin 4) (index : Fin 4) (w : Word) (s : State) :
    Host.Outcome State Fault Refusal :=
  doDev (writeHw who (CAN_TXRQ ctrl.val index.val) (txRequest who ctrl.val index.val w)) s

/-- CAN_TX_CANCEL, R386: a write of CANn_TXCANx; the object whose frame is on the bus at that moment. -/
def execCanTxCancel (who : Who) (ctrl : Fin 4) (index : Fin 4) (w : Word) (onBus : Option (Fin 128)) (s : State) :
    Host.Outcome State Fault Refusal :=
  doDev (writeHw who (CAN_TXCAN ctrl.val index.val) (txCancel who ctrl.val index.val w (onBus.map (·.val)))) s

/-- CAN_TX_COMPLETE, R386: the object sent; the stamp of the frame's SOF; for an FD frame the delay measured. -/
def execCanTxComplete (ctrl : Fin 4) (obj : Fin 128) (stamp : BitVec 32) (tdcv : BitVec 7) (s : State) :
    Host.Outcome State Fault Refusal :=
  doHw (whenAlive (txComplete ctrl.val obj.val stamp.toNat tdcv.toNat)) s

/-- CAN_BUS_ERROR, R389: the error (1 stuff, 2 form, 3 ack, 4 bit 1, 5 bit 0, 6 CRC), its phase, the object in
transmission, whether its arbitration was won, and what the counters do. -/
def execCanBusError (ctrl : Fin 4) (kind : Fin 7) (dataPhase : Bool) (tx : Option (Fin 128)) (won : Bool) (count : CanCount) (s : State) :
    Host.Outcome State Fault Refusal :=
  doHw (whenAlive (busError ctrl.val kind.val dataPhase (tx.map (·.val)) won count)) s

/-- CAN_BUSOFF_RECOVERY, R389. -/
def execCanBusoffRecovery (ctrl : Fin 4) (s : State) : Host.Outcome State Fault Refusal :=
  doHw (whenAlive (busRecover ctrl.val)) s

/-- CAN_NEG_START, R378: a write of CANn_NEG_STAT. -/
def execCanNegStart (who : Who) (ctrl : Fin 4) (w : Word) (s : State) : Host.Outcome State Fault Refusal :=
  doDev (writeHw who (CAN_NEG_STAT ctrl.val) (negStartWrite who ctrl.val w)) s

/-- CAN_NEG_TIMEOUT, R379. -/
def execCanNegTimeout (ctrl : Fin 4) (s : State) : Host.Outcome State Fault Refusal :=
  doHw (whenAlive (negTimeout ctrl.val)) s

/-- CAN_CAPABILITY_ANSWER, R378. -/
def execCanCapabilityAnswer (ctrl : Fin 4) (s : State) : Host.Outcome State Fault Refusal :=
  doHw (whenAlive (capAnswer ctrl.val)) s

/-- CAN_REFERENCE_REQUEST, R392. -/
def execCanReferenceRequest (ctrl : Fin 4) (s : State) : Host.Outcome State Fault Refusal :=
  doHw (whenAlive (refRequest ctrl.val)) s

/-- CAN_TT_FIRE, R393: CYCTIME reaches TTIME of an object. -/
def execCanTtFire (ctrl : Fin 4) (obj : Fin 128) (s : State) : Host.Outcome State Fault Refusal :=
  doHw (whenAlive (ttFire ctrl.val obj.val)) s

/-- CAN_REF_LOST, R393. -/
def execCanRefLost (ctrl : Fin 4) (s : State) : Host.Outcome State Fault Refusal :=
  doHw (whenAlive (refLost ctrl.val)) s

/-- CAN_VIRTUAL_REFERENCE, R393. -/
def execCanVirtualReference (ctrl : Fin 4) (s : State) : Host.Outcome State Fault Refusal :=
  doHw (whenAlive (virtualRef ctrl.val)) s

/-- CAN_WAKE_PATTERN_REQUEST, R394: a write of CANn_WUP. -/
def execCanWakePatternRequest (who : Who) (ctrl : Fin 4) (w : Word) (s : State) : Host.Outcome State Fault Refusal :=
  doDev (writeHw who (CAN_WUP ctrl.val) (wakeAsk who ctrl.val w)) s

/-- CAN_WAKE_PATTERN_SENT, R394. -/
def execCanWakePatternSent (ctrl : Fin 4) (s : State) : Host.Outcome State Fault Refusal :=
  doHw (whenAlive (wakeSent ctrl.val)) s

/-- ETH_FRAME_RECEIVE, R403. -/
def execEthFrameReceive (port : Fin 2) (frame : EthFrame) (s : State) : Host.Outcome State Fault Refusal :=
  doDev (Dev.whenAlive (ethReceive port.val frame)) s

/-- ETH_FRAME_TRANSMIT, R404: TMR cycles since the position-cycle T0. -/
def execEthFrameTransmit (port : Fin 2) (t : Nat) (s : State) : Host.Outcome State Fault Refusal :=
  doDev (Dev.whenAlive (ethTransmit port.val t)) s

/-- ETH_RING_INDEX_WRITE, R403: a write of ETHn_RXIDX or ETHn_TXIDX. -/
def execEthRingIndexWrite (who : Who) (port : Fin 2) (tx : Bool) (w : Word) (s : State) :
    Host.Outcome State Fault Refusal :=
  doDev (writeHw who (if tx then ETH_TXIDX port.val else ETH_RXIDX port.val) (ringIndex who port.val tx w)) s

/-- ETH_LINK_CHANGE, R400: the PCS gains or loses block lock or code-group synchronisation. -/
def execEthLinkChange (port : Fin 2) (locked : Bool) (s : State) : Host.Outcome State Fault Refusal :=
  doHw (whenAlive (linkChange port.val locked)) s

/-- PHY_POLL, R401: the value of the PHY status register, or no answer. -/
def execPhyPoll (port : Fin 2) (value : Option (BitVec 16)) (s : State) : Host.Outcome State Fault Refusal :=
  doHw (whenAlive (phyRead port.val value)) s

/-- PHY_INTERRUPT, R401: a falling edge of nPHY_INTn; the value read, or no answer. -/
def execPhyInterrupt (port : Fin 2) (value : Option (BitVec 16)) (s : State) : Host.Outcome State Fault Refusal :=
  doHw (whenAlive (phyRead port.val value)) s

/-- ETH_RETRAIN_DONE, R401. -/
def execEthRetrainDone (port : Fin 2) (s : State) : Host.Outcome State Fault Refusal :=
  doHw (whenAlive (retrainDone port.val)) s

/-- MDIO_COMMAND, R419: a write of ETHn_MDIO_CMD. -/
def execMdioCommand (who : Who) (port : Fin 2) (w : Word) (s : State) : Host.Outcome State Fault Refusal :=
  doDev (writeHw who (ETH_MDIO_CMD port.val) (mdioWrite who port.val w)) s

/-- MDIO_DONE, R419: the data read, or no answer. -/
def execMdioDone (port : Fin 2) (data : Option (BitVec 16)) (s : State) : Host.Outcome State Fault Refusal :=
  doHw (whenAlive (mdioEnd port.val data)) s

/-- PTP_SYNC_SEND, R405. -/
def execPtpSyncSend (port : Fin 2) (s : State) : Host.Outcome State Fault Refusal :=
  doHw (whenAlive (syncSend port.val)) s

/-- PTP_SYNC_RECEIVE, R407: the offset of this clock from the grandmaster that the Sync shows, in ns. -/
def execPtpSyncReceive (port : Fin 2) (offset : BitVec 32) (s : State) : Host.Outcome State Fault Refusal :=
  doHw (whenAlive (syncReceive port.val offset.toInt)) s

/-- PTP_PDELAY, R405: the link delay measured, in ns. -/
def execPtpPdelay (port : Fin 2) (delay : BitVec 32) (s : State) : Host.Outcome State Fault Refusal :=
  doHw (whenAlive (pdelay port.val delay)) s

/-- PTP_SYNC_LOST, R407. -/
def execPtpSyncLost (s : State) : Host.Outcome State Fault Refusal :=
  doHw (whenAlive syncLost) s

/-- SKOVESAFE_PRODUCE, R412. -/
def execSkovesafeProduce (conn : Fin 64) (s : State) : Host.Outcome State Fault Refusal :=
  doDev (Dev.whenAlive (skoveProduce conn.val)) s

/-- SKOVESAFE_FRAME_RECEIVE, R414: the path (ETH0, ETH1, CAN), the frame, PTP_NS[31:0] at its acceptance. -/
def execSkovesafeFrameReceive (path : Fin 3) (frame : SkoveFrame) (now : BitVec 32) (s : State) :
    Host.Outcome State Fault Refusal :=
  doDev (Dev.whenAlive (skoveReceive path.val frame now.toNat)) s

/-- SKOVESAFE_WATCHDOG_EXPIRY, R416. -/
def execSkovesafeWatchdogExpiry (conn : Fin 64) (s : State) : Host.Outcome State Fault Refusal :=
  doDev (Dev.whenAlive (skoveExpire conn.val)) s

/-- SKOVESAFE_PATH_TIMEOUT, R416. -/
def execSkovesafePathTimeout (conn : Fin 64) (path : Fin 3) (s : State) : Host.Outcome State Fault Refusal :=
  doHw (whenAlive (skovePath conn.val path.val)) s

/-- SSE_BUFFER_SWITCH, R412: a write of SSE_Ck_CTL. -/
def execSseBufferSwitch (who : Who) (conn : Fin 64) (w : Word) (s : State) : Host.Outcome State Fault Refusal :=
  doDev (writeHw who (SSE_Ck_CTL conn.val) (bufferSwitch who conn.val w)) s

/-- CAN_ARBITRATION_LOST, R387. -/
def execCanArbitrationLost (ctrl : Fin 4) (obj : Fin 128) (s : State) : Host.Outcome State Fault Refusal :=
  doHw (whenAlive (arbLost ctrl.val obj.val)) s

end Sys2Proof.Machine
end

