-- ==== Sys2Proof/Machine/ExecSafety.lean ====
section
/-! DEFINITION. The meanings of the commands of the Ward, RDN, REC and SEC (rows of R99 to R119, R318 to R376, R436 to R475). -/

namespace Sys2Proof.Machine

/-- SLOT_CLEAR, R335: a write of SIS_SFk_STAT with CLR. -/
def execSlotClear (who : Who) (slot : Fin 24) (s : State) : Host.Outcome State Fault Refusal :=
  doDevF (writeHw who (SIS_SFk_STAT slot.val) (slotClearW who slot.val)) s

/-- SAFETY_INPUT_CHANGE, R324: an input shows a level, true closed; `seen` equal samples in a row so far. -/
def execSafetyInputChange (input : Fin 16) (closed : Bool) (seen : Nat) (s : State) : Host.Outcome State Fault Refusal :=
  doHw (safetyInput input.val closed seen) s

/-- SIN_DISCREPANCY, R324: the channels of a pair have differed for DISC_T. -/
def execSinDiscrepancy (pair : Fin 8) (s : State) : Host.Outcome State Fault Refusal :=
  doHwF (whenAlive (sinDiscrepant pair.val)) s

/-- TEST_PULSE, R324: output TPOk goes low. -/
def execTestPulse (k : Fin 4) (s : State) : Host.Outcome State Fault Refusal :=
  doHw (whenAlive (testPulseStart k.val)) s

/-- TEST_PULSE_END, R324: the pulse and its settle time end; the inputs that read open during it. -/
def execTestPulseEnd (k : Fin 4) (sawOpen : BitVec 16) (s : State) : Host.Outcome State Fault Refusal :=
  doHwF (whenAlive (testPulseStop k.val sawOpen.toNat)) s

/-- BRAKE_LAG_ELAPSED, R329; it needs no PLL clock (R60, R342). -/
def execBrakeLagElapsed (s : State) : Host.Outcome State Fault Refusal :=
  doHw lagElapsed s

/-- OUTPUT_READBACK_FAULT, R330: a readback has disagreed with its output for RB_T. -/
def execOutputReadbackFault (output : Fin 10) (s : State) : Host.Outcome State Fault Refusal :=
  doHwF (whenAlive (readbackFault output.val)) s

/-- FAULT_ARRIVAL, R341: a cause bit of a page arises. -/
def execFaultArrival (page : Fin 41) (cause : Fin 24) (s : State) : Host.Outcome State Fault Refusal :=
  doHwF (whenAlive (faultArrives page.val cause.val)) s

/-- FAULT_DONE, R341: a write of SIS_FM_DONE. -/
def execFaultDone (who : Who) (w : Word) (s : State) : Host.Outcome State Fault Refusal :=
  doDevF (writeHw who SIS_FM_DONE (faultFinish who w)) s

/-- FAULT_IN_FAULT_HANDLING, R342: lockstep mismatch, SAF clock or REFLOSS, or an uncorrectable TCM error. -/
def execFaultInFaultHandling (kind : Fin 3) (s : State) : Host.Outcome State Fault Refusal :=
  doHwF (fun h => if h.fabricOn then faultInFault kind.val h else h) s

/-- WATCHDOG_KICK, R322: a write of SIS_WDG_KICK. -/
def execWatchdogKick (who : Who) (w : Word) (s : State) : Host.Outcome State Fault Refusal :=
  doDevF (writeHw who SIS_WDG_KICK (wdgKick who w)) s

/-- WATCHDOG_EXPIRY, R322. -/
def execWatchdogExpiry (s : State) : Host.Outcome State Fault Refusal :=
  doHwF (whenAlive wdgExpire) s

/-- MODE_SET, R350: a write of SIS_MODE_SET. -/
def execModeSet (who : Who) (w : Word) (s : State) : Host.Outcome State Fault Refusal :=
  doDevF (writeHw who SIS_MODE_SET (modeOrder who w)) s

/-- STANDSTILL_REACHED, R102. -/
def execStandstillReached (s : State) : Host.Outcome State Fault Refusal :=
  doHw (whenAlive standstill) s

/-- PARK_IDLE_ELAPSED, R111. -/
def execParkIdleElapsed (s : State) : Host.Outcome State Fault Refusal :=
  doHw (whenAlive parkIdle) s

/-- DEADBOLT_PORT_WRITE, R441: a write of REC_DBW. -/
def execDeadboltPortWrite (who : Who) (w : Word) (s : State) : Host.Outcome State Fault Refusal :=
  doDev (writeHw who REC_DBW (dbPortWrite who w)) s

/-- DEADBOLT_PORT_DONE, R441: whether words A and B verified. -/
def execDeadboltPortDone (okA : Bool) (okB : Bool) (s : State) : Host.Outcome State Fault Refusal :=
  doDev (dbPortDone okA okB) s

/-- TOKOK_EXPIRY, R347. -/
def execTokokExpiry (s : State) : Host.Outcome State Fault Refusal :=
  doHw (whenAlive tokokExpire) s

/-- SERVICE_ACK_HELD, R347. -/
def execServiceAckHeld (s : State) : Host.Outcome State Fault Refusal :=
  doHw (whenAlive serviceAck) s

/-- DEADBOLT_RELEASE, R347: a write of SIS_DB_REL; which of the four MRAM writes (nonces A and B, words A and B)
verify. -/
def execDeadboltRelease (who : Who) (w : Word) (nonceOk : Bool) (wordAOk : Bool) (wordBOk : Bool) (s : State) :
    Host.Outcome State Fault Refusal :=
  doDevF (Dev.byWriter who SIS_DB_REL (boltRelease who w nonceOk wordAOk wordBOk)) s

/-- LANE_LOCK, R354. -/
def execLaneLock (s : State) : Host.Outcome State Fault Refusal :=
  doHw (whenAlive laneUp) s

/-- PAIR_WAIT_ELAPSED, R354: PAIR_WAIT of unit A, twice that of unit B, has elapsed since LINK was entered. -/
def execPairWaitElapsed (s : State) : Host.Outcome State Fault Refusal :=
  doHwF (whenAlive pairWait) s

/-- PAIRING_FRAME_RECEIVE, R354, R356. -/
def execPairingFrameReceive (frame : PairingFrame) (s : State) : Host.Outcome State Fault Refusal :=
  doHwF (whenAlive (pairingTake frame)) s

/-- INPUT_SEGMENT_RECEIVE, R357: segment `seg` with its records, and PARK_READY of the active (R112). -/
def execInputSegmentReceive (head : PairHead) (seg : BitVec 8) (records : List PairRecord) (parkReady : Bool) (s : State) :
    Host.Outcome State Fault Refusal :=
  doHwF (whenAlive (segmentTake head seg.toNat records parkReady)) s

/-- OUTPUT_FRAME_RECEIVE, R362. -/
def execOutputFrameReceive (head : PairHead) (records : List PairRecord) (s : State) :
    Host.Outcome State Fault Refusal :=
  doHwF (whenAlive (outputTake head records)) s

/-- HEARTBEAT_RECEIVE, R367: on the second path or the pair link; the partner's RDN_HEALTH. -/
def execHeartbeatReceive (second : Bool) (head : PairHead) (health : BitVec 10) (s : State) :
    Host.Outcome State Fault Refusal :=
  doHwF (whenAlive (heartbeatTake second head health.toNat)) s

/-- SNAPSHOT_RECEIVE, R363: the frames of a snapshot, complete or not. -/
def execSnapshotReceive (head : PairHead) (whole : Bool) (seed : PairSnapshot) (s : State) :
    Host.Outcome State Fault Refusal :=
  doHwF (whenAlive (snapshotTake head whole seed)) s

/-- SYNC_COMPLETE, R354. -/
def execSyncComplete (s : State) : Host.Outcome State Fault Refusal :=
  doHwF (whenAlive syncDone) s

/-- LEASE_EXPIRY, R366. -/
def execLeaseExpiry (s : State) : Host.Outcome State Fault Refusal :=
  doHw (whenAlive leaseEnd) s

/-- KEY_CLAIM, R368. -/
def execKeyClaim (s : State) : Host.Outcome State Fault Refusal :=
  doHw (whenAlive keyTake) s

/-- KEY_HANDOFF, R370: a write of RDN_KEY. -/
def execKeyHandoff (who : Who) (w : Word) (s : State) : Host.Outcome State Fault Refusal :=
  doDevF (writeHw who RDN_KEY (pairKeyWrite who (w ||| 1))) s

/-- REPAIR, R354: a write of RDN_KEY. -/
def execRepair (who : Who) (w : Word) (s : State) : Host.Outcome State Fault Refusal :=
  doDevF (writeHw who RDN_KEY (pairKeyWrite who (w ||| 2))) s

/-- LANE_LOSS, R355. -/
def execLaneLoss (lane : Fin 2) (s : State) : Host.Outcome State Fault Refusal :=
  doHw (whenAlive laneGone) s

/-- SEL_FB_CHANGE, R372: the filtered levels of SEL_FB_A and SEL_FB_B. -/
def execSelFbChange (a : Bool) (b : Bool) (s : State) : Host.Outcome State Fault Refusal :=
  doHwF (selChange a b) s

/-- SELECTOR_NONE_SHOWN, R372: SEL_T has passed. -/
def execSelectorNoneShown (s : State) : Host.Outcome State Fault Refusal :=
  doHwF (whenAlive selNoneShown) s

/-- SELFLT_CLEAR, R372. -/
def execSelfltClear (s : State) : Host.Outcome State Fault Refusal :=
  doHw (whenAlive selClear) s

/-- RECORD_SUBMIT, R449: a write of REC_SUB_CTL. -/
def execRecordSubmit (who : Who) (w : Word) (s : State) : Host.Outcome State Fault Refusal :=
  doDev (writeHw who REC_SUB_CTL (recSubmit who w)) s

/-- RECORD_WRITE_DONE, R450: the record at the head of the queue has been written; whether the slot and, when it did
not, the spares tried in turn verified; whether the MRAM answered. -/
def execRecordWriteDone (answered : Bool) (slotOk : Bool) (sparesOk : List Bool) (s : State) :
    Host.Outcome State Fault Refusal :=
  doDevF (recordWritten answered slotOk sparesOk) s

/-- HEADER_REFRESH, R440. -/
def execHeaderRefresh (s : State) : Host.Outcome State Fault Refusal :=
  doDev headerRefreshed s

/-- WALL_CLOCK_SET, R447: a write of REC_WALL_HI. -/
def execWallClockSet (who : Who) (hi : Word) (s : State) : Host.Outcome State Fault Refusal :=
  doDev (writeHw who REC_WALL_HI (wallSet who hi)) s

/-- RECORD_READ_TRANSLATE, R455: a write of REC_RD_IDX. -/
def execRecordReadTranslate (who : Who) (w : Word) (s : State) : Host.Outcome State Fault Refusal :=
  doDev (writeHw who REC_RD_IDX (readTranslate who w)) s

/-- ORDER_PROVISION, R465: the verdict on the PROVISION order in work. -/
def execOrderProvision (s : State) : Host.Outcome State Fault Refusal :=
  doDevF (Dev.whenAlive ordProvision) s

/-- ORDER_LC, R471: the verdict on the LC order in work, and how far it gets. -/
def execOrderLc (burn : LcBurn) (s : State) : Host.Outcome State Fault Refusal :=
  doDevF (Dev.whenAlive (ordLc burn)) s

/-- ORDER_KEYLOAD, R465: the verdict on the KEYLOAD order in work. -/
def execOrderKeyload (s : State) : Host.Outcome State Fault Refusal :=
  doDev (Dev.whenAlive ordKeyload) s

/-- ORDER_PAIR, R467: the verdict on the PAIR order in work. -/
def execOrderPair (s : State) : Host.Outcome State Fault Refusal :=
  doDev (Dev.whenAlive ordPair) s

/-- ORDER_SVN, R465: the verdict on the SVN order in work; whether the burn verifies. -/
def execOrderSvn (burnOk : Bool) (s : State) : Host.Outcome State Fault Refusal :=
  doDev (Dev.whenAlive (ordSvn burnOk)) s

/-- ORDER_REVOKE, R465: the verdict on the REVOKE order in work; whether the burn verifies. -/
def execOrderRevoke (burnOk : Bool) (s : State) : Host.Outcome State Fault Refusal :=
  doDev (Dev.whenAlive (ordRevoke burnOk)) s

/-- TOKEN_SUBMIT, R465: the verdict on the release token in work. -/
def execTokenSubmit (s : State) : Host.Outcome State Fault Refusal :=
  doDev (Dev.whenAlive tokenVerdict) s

/-- MAP_SEAL, R466: SEC works the SEAL command. -/
def execMapSeal (s : State) : Host.Outcome State Fault Refusal :=
  doDev (Dev.whenAlive sealPage) s

/-- MAP_OPEN, R466: SEC works the OPEN command. -/
def execMapOpen (s : State) : Host.Outcome State Fault Refusal :=
  doDev (Dev.whenAlive openSlot) s

/-- MAP_COMMAND_DONE, R466. -/
def execMapCommandDone (s : State) : Host.Outcome State Fault Refusal :=
  doHw (whenAlive mapDone) s

/-- KEY_EXCHANGE_REQUEST, R468: SEC works OP 1. -/
def execKeyExchangeRequest (s : State) : Host.Outcome State Fault Refusal :=
  doDev (Dev.whenAlive skxRequest) s

/-- KEY_EXCHANGE_ANSWER, R468: SEC works OP 2. -/
def execKeyExchangeAnswer (s : State) : Host.Outcome State Fault Refusal :=
  doDev (Dev.whenAlive skxAnswer) s

/-- KEY_EXCHANGE_ACCEPT, R468: SEC works OP 3. -/
def execKeyExchangeAccept (s : State) : Host.Outcome State Fault Refusal :=
  doDev (Dev.whenAlive skxAccept) s

/-- KEYWAY_CHALLENGE, R474. -/
def execKeywayChallenge (s : State) : Host.Outcome State Fault Refusal :=
  doHw (whenAlive kwChallenge) s

/-- KEYWAY_RESPONSE, R474: the 204 bytes shifted in. -/
def execKeywayResponse (bytes : List (BitVec 8)) (s : State) : Host.Outcome State Fault Refusal :=
  doHw (whenAlive (kwResponse bytes)) s

/-- KEYWAY_SESSION_EXPIRY, R474. -/
def execKeywaySessionExpiry (s : State) : Host.Outcome State Fault Refusal :=
  doHw (whenAlive kwExpire) s

/-- KEYWAY_CLOSE, R474: a write of SEC_KW_STAT. -/
def execKeywayClose (who : Who) (w : Word) (s : State) : Host.Outcome State Fault Refusal :=
  doDev (writeHw who SEC_KW_STAT (kwClose who w)) s

/-- KEYWAY_WRITE, R475: a word written through the keyway. -/
def execKeywayWrite (addr : Word) (w : Word) (s : State) : Host.Outcome State Fault Refusal :=
  doDevF (fun d => if d.hw.fabricOn then d.write .keyway addr.toNat 4 w.toNat else d) s

/-- SIS_IC_CLAIM, R348: a read of SIS_IC_CLAIM, or a write of it. -/
def execSisIcClaim (who : Who) (complete : Option Word) (s : State) : Host.Outcome State Fault Refusal :=
  doDevF (fun d => match complete with 
    | none => readHw who (icClaim who none) d
    | some w => writeHw who SIS_IC_CLAIM (icClaim who (some w)) d) s

end Sys2Proof.Machine
end

