-- ==== Sys2Proof/Machine/ExecService.lean ====
section
/-! DEFINITION. The meanings of the commands of MLB, LAT, XSP, HSP, STQ and TST (rows of R422 to R435, R478 to R511). -/

namespace Sys2Proof.Machine

/-- MLB_CONFIG_WRITE, R424: a write of MLBn_CFG. -/
def execMlbConfigWrite (who : Who) (n : Fin 16) (w : Word) (s : State) : Host.Outcome State Fault Refusal :=
  doDev (writeHw who (MLBn_CFG n.val) (chanConfig who n.val w)) s

/-- MLB_POST, R426: a write of MLBn_CTL with POST alone. -/
def execMlbPost (who : Who) (n : Fin 16) (s : State) : Host.Outcome State Fault Refusal :=
  doDev (writeHw who (MLBn_CTL n.val) (chanControl who n.val 1)) s

/-- MLB_WITHDRAW, R426: a write of MLBn_CTL with WITHDRAW alone. -/
def execMlbWithdraw (who : Who) (n : Fin 16) (s : State) : Host.Outcome State Fault Refusal :=
  doDev (writeHw who (MLBn_CTL n.val) (chanControl who n.val 2)) s

/-- MLB_TAKE, R426: a write of MLBn_CTL with TAKE alone. -/
def execMlbTake (who : Who) (n : Fin 16) (s : State) : Host.Outcome State Fault Refusal :=
  doDev (writeHw who (MLBn_CTL n.val) (chanControl who n.val 4)) s

/-- MLB_ACK, R426: a write of MLBn_ACK. -/
def execMlbAck (who : Who) (n : Fin 16) (w : Word) (s : State) : Host.Outcome State Fault Refusal :=
  doDev (writeHw who (MLBn_ACK n.val) (chanAckWrite who n.val w)) s

/-- MLB_PAYLOAD_WRITE, R425: a write of MLBn_Dk. -/
def execMlbPayloadWrite (who : Who) (n : Fin 16) (k : Fin 8) (w : Word) (s : State) :
    Host.Outcome State Fault Refusal :=
  doDev (writeHw who (MLBn_D n.val k.val) (payloadWrite who n.val k.val w)) s

/-- MLB_PAYLOAD_READ, R425: a read of MLBn_Dk. -/
def execMlbPayloadRead (who : Who) (n : Fin 16) (k : Fin 8) (s : State) : Host.Outcome State Fault Refusal :=
  doDev (readHw who (payloadRead who n.val k.val)) s

/-- DOORBELL_RING, R427: a write of MLB_DBa_SET. -/
def execDoorbellRing (who : Who) (a : Fin 8) (w : Word) (s : State) : Host.Outcome State Fault Refusal :=
  doDev (writeHw who (MLB_DBa_SET a.val) (bellRing who a.val w)) s

/-- DOORBELL_CLEAR, R427: a write of MLB_DBa. -/
def execDoorbellClear (who : Who) (a : Fin 8) (w : Word) (s : State) : Host.Outcome State Fault Refusal :=
  doDev (writeHw who (MLB_DBa a.val) (bellClear who a.val w)) s

/-- DOORBELL_MASK_WRITE, R428: a write of MLB_DBa_MASK. -/
def execDoorbellMaskWrite (who : Who) (a : Fin 8) (w : Word) (s : State) : Host.Outcome State Fault Refusal :=
  doDev (writeHw who (MLB_DBa_MASK a.val) (bellMask who a.val w)) s

/-- LATCH_ACQUIRE, R432: a read of LAT_Lj. -/
def execLatchAcquire (who : Who) (j : Fin 64) (s : State) : Host.Outcome State Fault Refusal :=
  doDev (readHw who (latchRead who j.val)) s

/-- LATCH_RELEASE, R433: a write of LAT_Lj. -/
def execLatchRelease (who : Who) (j : Fin 64) (w : Word) (s : State) : Host.Outcome State Fault Refusal :=
  doDev (writeHw who (LAT_Lj j.val) (latchWrite who j.val)) s

/-- LATCH_FORCE_FREE, R433: a write of LAT_FREE0 or LAT_FREE1. -/
def execLatchForceFree (who : Who) (k : Fin 2) (w : Word) (s : State) : Host.Outcome State Fault Refusal :=
  doDev (writeHw who (if k.val = 0 then LAT_FREE0 else LAT_FREE1) (latchFree who k.val w)) s

/-- XSP_READ, R481: the engine works READ. -/
def execXspRead (s : State) : Host.Outcome State Fault Refusal :=
  doDev (Dev.whenAlive flashRead) s

/-- XSP_PROGRAM, R481: the engine works PROGRAM. -/
def execXspProgram (s : State) : Host.Outcome State Fault Refusal :=
  doDev (Dev.whenAlive flashProgram) s

/-- XSP_ERASE4K, R481: the engine works ERASE4K. -/
def execXspErase4k (s : State) : Host.Outcome State Fault Refusal :=
  doDev (Dev.whenAlive flashErase4k) s

/-- XSP_ERASE64K, R481: the engine works ERASE64K. -/
def execXspErase64k (s : State) : Host.Outcome State Fault Refusal :=
  doDev (Dev.whenAlive flashErase64k) s

/-- XSP_RDSR, R481: the engine works RDSR; the flash's status register. -/
def execXspRdsr (sr : BitVec 8) (s : State) : Host.Outcome State Fault Refusal :=
  doDev (Dev.whenAlive (flashStatus sr.toNat)) s

/-- XSP_COMMAND_DONE, R481: how the flash ends the command. -/
def execXspCommandDone (how : FlashEnd) (s : State) : Host.Outcome State Fault Refusal :=
  doDev (Dev.whenAlive (flashDone how)) s

/-- XSP_WINDOW_TIMEOUT, R480. -/
def execXspWindowTimeout (s : State) : Host.Outcome State Fault Refusal :=
  doHw (whenAlive windowTimeout) s

/-- XSP_BANK_SWITCH, R482: a write of XSP_BANK. -/
def execXspBankSwitch (who : Who) (w : Word) (s : State) : Host.Outcome State Fault Refusal :=
  doDev (writeHw who XSP_BANK (bankWrite who w)) s

/-- HSP_READ, R485: address, the whole words the host clocks out, whether word 0 has returned by the end of DUMMY,
whether the READ comes within 100 µs of the one that kept a word, whether nHSP_CS rose inside a further word. -/
def execHspRead (addr : Word) (n : Fin 65) (inTime : Bool) (soon : Bool) (cut : Bool) (s : State) :
    Host.Outcome State Fault Refusal :=
  doDevF (hostRead addr.toNat n.val inTime soon cut) s

/-- HSP_WRITE, R485: address, the whole words shifted in, whether nHSP_CS rose inside a word. -/
def execHspWrite (addr : Word) (data : List (BitVec 32)) (cut : Bool) (s : State) :
    Host.Outcome State Fault Refusal :=
  doDevF (hostWrite addr.toNat data cut) s

/-- HSP_STATUS, R486. -/
def execHspStatus (s : State) : Host.Outcome State Fault Refusal :=
  doDev hostStatus s

/-- HSP_UNKNOWN_INSTRUCTION, R485. -/
def execHspUnknownInstruction (code : BitVec 8) (s : State) : Host.Outcome State Fault Refusal :=
  doDev hostUnknown s

/-- STQ_SET_REQUEST, R490: a write of word `k` of a _SET register; map 0 CAR, 1 UP, 2 DN. -/
def execStqSetRequest (who : Who) (map : Fin 3) (k : Fin 8) (w : Word) (s : State) :
    Host.Outcome State Fault Refusal :=
  doDev (writeHw who (stqWord map.val k.val + 0x20) (callSet who map.val k.val w)) s

/-- STQ_CLEAR_REQUEST, R490: a write of word `k` of a _CLR register. -/
def execStqClearRequest (who : Who) (map : Fin 3) (k : Fin 8) (w : Word) (s : State) :
    Host.Outcome State Fault Refusal :=
  doDev (writeHw who (stqWord map.val k.val + 0x40) (callClear who map.val k.val w)) s

/-- TST_COMMAND, R505: a write of TST_CMD. -/
def execTstCommand (who : Who) (w : Word) (s : State) : Host.Outcome State Fault Refusal :=
  doDevF (writeHw who TST_CMD (tstWrite who w)) s

/-- ROLLING_STEP_START, R506: PERIOD has elapsed. -/
def execRollingStepStart (s : State) : Host.Outcome State Fault Refusal :=
  doHw (whenAlive rollingDue) s

/-- TAP_BYPASS, R508: an instruction other than those of R508 acts as BYPASS. -/
def execTapBypass (ir : BitVec 8) (s : State) : Host.Outcome State Fault Refusal :=
  doHw (tapOne ir.toNat) s

/-- TAP_IDCODE, R508. -/
def execTapIdcode (s : State) : Host.Outcome State Fault Refusal :=
  doHw tapId s

/-- TAP_SAMPLE_PRELOAD, R508: the cells shifted in. -/
def execTapSamplePreload (cells : List Bool) (s : State) : Host.Outcome State Fault Refusal :=
  doHw (tapSample cells) s

/-- TAP_EXTEST, R509. -/
def execTapExtest (s : State) : Host.Outcome State Fault Refusal :=
  doHw (tapHold 0x00) s

/-- TAP_CLAMP, R509. -/
def execTapClamp (s : State) : Host.Outcome State Fault Refusal :=
  doHw (tapHold 0x03) s

/-- TAP_HIGHZ, R509. -/
def execTapHighz (s : State) : Host.Outcome State Fault Refusal :=
  doHw (tapHold 0x04) s

/-- TAP_RESET, R508. -/
def execTapReset (s : State) : Host.Outcome State Fault Refusal :=
  doHw tapHome s

end Sys2Proof.Machine
end

