-- ==== Sys2Proof/Machine/ExecSystem.lean ====
section
/-! DEFINITION. The meanings of the commands of clocks, power, reset, the common page, accesses and cycles (rows of R22 to R98). -/

namespace Sys2Proof.Machine

/-- SUPPLY_GOOD, R82. -/
def execSupplyGood (s : State) : Host.Outcome State Fault Refusal :=
  doHw supplyUp s

/-- POWER_ON_RESET, R71. -/
def execPowerOnReset (s : State) : Host.Outcome State Fault Refusal :=
  doDevF powerOn s

/-- SUPPLY_MONITOR_TRIP, R81: the monitor, numbered as CPR_SUPMON numbers them (R97). -/
def execSupplyMonitorTrip (monitor : Fin 7) (s : State) : Host.Outcome State Fault Refusal :=
  doDevF (supplyTrip monitor.val) s

/-- NRESET_ASSERT, R72. -/
def execNresetAssert (s : State) : Host.Outcome State Fault Refusal :=
  doDevF nresetLow s

/-- NRESET_RELEASE, R73: how long nRESET was low, in ms. -/
def execNresetRelease (heldMs : Nat) (s : State) : Host.Outcome State Fault Refusal :=
  doHw (nresetHigh heldMs) s

/-- RESET_RELEASE, R79: the levels of the strap balls ROLE[1:0] and UNIT_AB; whether the read-back of the SIS TCM passed
(R77, R78). -/
def execResetRelease (role : Fin 4) (unitB : Bool) (tcmOk : Bool) (s : State) : Host.Outcome State Fault Refusal :=
  doDev (resetStart role.val unitB tcmOk) s

/-- WARM_RESET_REQUEST, R87: a write of CPR_RST_REQ. -/
def execWarmResetRequest (who : Who) (w : Word) (s : State) : Host.Outcome State Fault Refusal :=
  doDevF (Dev.byWriter who CPR_RST_REQ (warmReset who w)) s

/-- KEYWAY_RESET, R71. -/
def execKeywayReset (s : State) : Host.Outcome State Fault Refusal :=
  doDevF kwReset s

/-- WIPE_COMPLETE, R77, R78: the memories whose read-back failed, as CPR_WIPE_STAT numbers them; accesses that waited take
place. -/
def execWipeComplete (failed : BitVec 5) (s : State) : Host.Outcome State Fault Refusal :=
  doDevF (fun d => (wipeDone failed.toNat d).wipeServe) s

/-- BOOT_COMPLETE, R461: what the boot ROM found. -/
def execBootComplete (found : BootFacts) (s : State) : Host.Outcome State Fault Refusal :=
  doDevF (Machine.bootComplete found) s

/-- CLOCK_MONITOR_TRIP, R60: the domain, numbered as CPR_CLK_EN numbers them (R91). -/
def execClockMonitorTrip (domain : Fin 9) (s : State) : Host.Outcome State Fault Refusal :=
  doHwF (clockTrip domain.val) s

/-- REFLOSS, R60. -/
def execRefloss (s : State) : Host.Outcome State Fault Refusal :=
  doHw refLoss s

/-- XTALFAIL, R60. -/
def execXtalfail (s : State) : Host.Outcome State Fault Refusal :=
  doHwF xtalLoss s

/-- APP_DIVIDER_CHANGE, R61: a write of CPR_CLK_DIV. -/
def execAppDividerChange (who : Who) (w : Word) (s : State) : Host.Outcome State Fault Refusal :=
  doDev (writeHw who CPR_CLK_DIV (appDiv who w)) s

/-- CLOCK_DOMAIN_ENABLE, R91: a write of CPR_CLK_EN. -/
def execClockDomainEnable (who : Who) (w : Word) (s : State) : Host.Outcome State Fault Refusal :=
  doDev (writeHw who CPR_CLK_EN (clockEnable who w)) s

/-- OPTIME_STEP, R63. -/
def execOptimeStep (s : State) : Host.Outcome State Fault Refusal :=
  doHw opStep s

/-- OPTIME_WRITE, R63: the completing write of CPR_OPTIME_HI. -/
def execOptimeWrite (who : Who) (hi : Word) (s : State) : Host.Outcome State Fault Refusal :=
  doDev (writeHw who CPR_OPTIME_HI (opWriteTime who hi)) s

/-- AGENT_RESET_WRITE, R80: a write of CPR_AGT_RST. -/
def execAgentResetWrite (who : Who) (w : Word) (s : State) : Host.Outcome State Fault Refusal :=
  doDev (writeHw who CPR_AGT_RST (agentReset who w)) s

/-- PARK_REQUEST, R64: a write of CPR_PARK. -/
def execParkRequest (who : Who) (w : Word) (s : State) : Host.Outcome State Fault Refusal :=
  doDev (writeHw who CPR_PARK (parkRequestW who w)) s

/-- PARK_ENTRY_COMPLETE, R64. -/
def execParkEntryComplete (s : State) : Host.Outcome State Fault Refusal :=
  doHw parkDone s

/-- PARK_ENTRY_TIMEOUT, R64. -/
def execParkEntryTimeout (s : State) : Host.Outcome State Fault Refusal :=
  doHw parkTimeout s

/-- WAKE_RECOGNISED, R68: the sources recognised in one tick, numbered as R68 numbers them; the CAN controllers whose RX
shows the wake pattern. -/
def execWakeRecognised (sources : BitVec 9) (rx : BitVec 2) (s : State) : Host.Outcome State Fault Refusal :=
  doHw (wakeEvent sources.toNat rx.toNat) s

/-- PARKED_WATCH_MOVE, R70: whether the door-zone input has shown its level in three samples. -/
def execParkedWatchMove (dz : Bool) (s : State) : Host.Outcome State Fault Refusal :=
  doHw (parkedMove dz) s

/-- PARKED_WATCH_TIMER, R68. -/
def execParkedWatchTimer (s : State) : Host.Outcome State Fault Refusal :=
  doHw parkedTimer s

/-- WAKE_COMPLETE, R69. -/
def execWakeComplete (s : State) : Host.Outcome State Fault Refusal :=
  doHwF wakeDone s

/-- HINGE_GROUP_FIRE, R97: a write of CPR_HINGE_FIRE. -/
def execHingeGroupFire (who : Who) (w : Word) (s : State) : Host.Outcome State Fault Refusal :=
  doDevF (writeHw who CPR_HINGE_FIRE (groupFire who w)) s

/-- PLIC_CLAIM, R98: a read of PLIC_CLAIM of a context. -/
def execPlicClaim (who : Who) (ctx : Fin 8) (s : State) : Host.Outcome State Fault Refusal :=
  doDev (readHw who (plicClaimR ctx.val)) s

/-- PLIC_COMPLETE, R98: a write of PLIC_CLAIM of a context. -/
def execPlicComplete (who : Who) (ctx : Fin 8) (w : Word) (s : State) : Host.Outcome State Fault Refusal :=
  doDev (writeHw who (PLIC_CLAIM ctx.val) (plicDone who ctx.val w)) s

/-- BLK_ENABLE, R55: BLK_CTL.EN = 1 in a page. -/
def execBlkEnable (who : Who) (page : Fin 41) (s : State) : Host.Outcome State Fault Refusal :=
  doDev (writeHw who (BLK_CTL page.val) (enableBlock who page.val)) s

/-- BLK_DISABLE, R55: BLK_CTL.EN = 0. -/
def execBlkDisable (who : Who) (page : Fin 41) (s : State) : Host.Outcome State Fault Refusal :=
  doDev (writeHw who (BLK_CTL page.val) (disableBlock who page.val)) s

/-- BLK_QUIESCE_REQUEST, R55: BLK_CTL.QREQ = 1. -/
def execBlkQuiesceRequest (who : Who) (page : Fin 41) (s : State) : Host.Outcome State Fault Refusal :=
  doDev (writeHw who (BLK_CTL page.val) (quiesceBlock who page.val)) s

/-- BLK_QUIESCE_RELEASE, R55: BLK_CTL.QREQ = 0. -/
def execBlkQuiesceRelease (who : Who) (page : Fin 41) (s : State) : Host.Outcome State Fault Refusal :=
  doDev (writeHw who (BLK_CTL page.val) (releaseBlock who page.val)) s

/-- BLK_QUIET, R55: the quiesce of the page completes. -/
def execBlkQuiet (page : Fin 41) (s : State) : Host.Outcome State Fault Refusal :=
  doHwF (whenAlive (quietEvent page.val)) s

/-- BLK_BOLT, R55: BLK_CTL.BOLT = 1. -/
def execBlkBolt (who : Who) (page : Fin 41) (s : State) : Host.Outcome State Fault Refusal :=
  doDev (writeHw who (BLK_CTL page.val) (boltBlock who page.val)) s

/-- BLK_UNBOLT, R55: BLK_CTL.BOLT = 0. -/
def execBlkUnbolt (who : Who) (page : Fin 41) (s : State) : Host.Outcome State Fault Refusal :=
  doDevF (writeHw who (BLK_CTL page.val) (unboltBlock who page.val)) s

/-- BLK_SOFT_RESET, R56: BLK_CTL.SRST = 1. -/
def execBlkSoftReset (who : Who) (page : Fin 41) (s : State) : Host.Outcome State Fault Refusal :=
  doDevF (writeHw who (BLK_CTL page.val) (softReset who page.val)) s

/-- HINGE_SWAP_REQUEST, R46: a write of BLK_HINGE. -/
def execHingeSwapRequest (who : Who) (page : Fin 41) (w : Word) (s : State) : Host.Outcome State Fault Refusal :=
  doDev (writeHw who (BLK_HINGE page.val) (hingeWrite who page.val w)) s

/-- HINGE_CANCEL, R53: a write of BLK_HINGE with CANCEL = 1. -/
def execHingeCancel (who : Who) (page : Fin 41) (w : Word) (s : State) : Host.Outcome State Fault Refusal :=
  doDev (writeHw who (BLK_HINGE page.val) (hingeWrite who page.val (w ||| 0x100))) s

/-- HINGE_SWAP, R51: the swap point of a pending IMMEDIATE or delayed request of the page comes. -/
def execHingeSwap (page : Fin 41) (s : State) : Host.Outcome State Fault Refusal :=
  doHwF (whenAlive (hingeLand page.val)) s

/-- HINGE_SYNC_DONE, R52: the SYNC copy of the page ends. -/
def execHingeSyncDone (page : Fin 41) (s : State) : Host.Outcome State Fault Refusal :=
  doHwF (whenAlive (syncEnd page.val)) s

/-- BLK_LOCK_WRITE, R48: a write of BLK_LOCK. -/
def execBlkLockWrite (who : Who) (page : Fin 41) (w : Word) (s : State) : Host.Outcome State Fault Refusal :=
  doDev (writeHw who (BLK_LOCK page.val) (lockWrite who page.val w)) s

/-- BIST_START, R50: a write of BLK_TEST. -/
def execBistStart (who : Who) (page : Fin 41) (w : Word) (s : State) : Host.Outcome State Fault Refusal :=
  doDevF (writeHw who (BLK_TEST page.val) (bistWrite who page.val w)) s

/-- BIST_DONE, R501: the run of the page ends; whether it passed, or failed by an ECC check; its duration in µs. -/
def execBistDone (page : Fin 41) (pass : Bool) (ecc : Bool) (us : Nat) (s : State) :
    Host.Outcome State Fault Refusal :=
  doDevF (Dev.whenAlive (bistEnd page.val pass ecc us)) s

/-- BIST_TIMEOUT, R501. -/
def execBistTimeout (page : Fin 41) (s : State) : Host.Outcome State Fault Refusal :=
  doHwF (whenAlive (bistLate page.val)) s

/-- PAIR_LO_READ, R37: a read of an _LO register. -/
def execPairLoRead (who : Who) (addr : BitVec 32) (s : State) : Host.Outcome State Fault Refusal :=
  doDevF (fun d => if d.hw.canAccess who && isPairLo addr.toNat then d.read who addr.toNat 4 else d) s

/-- PAIR_HI_WRITE, R37: a write of an _HI register. -/
def execPairHiWrite (who : Who) (addr : BitVec 32) (w : Word) (s : State) : Host.Outcome State Fault Refusal :=
  doDevF (fun d => if d.hw.canAccess who && isPairLo (addr.toNat - 4) then d.write who addr.toNat 4 w.toNat else d) s

/-- RC_READ, R35, R34: a read of 2^size bytes of a register or memory. -/
def execRcRead (who : Who) (addr : BitVec 64) (size : Fin 4) (s : State) : Host.Outcome State Fault Refusal :=
  doDevF (fun d => if d.hw.canAccess who then d.read who addr.toNat (2 ^ size.val) else d) s

/-- REGISTER_WRITE, R35, R34: a write of 2^size bytes to a register or memory. -/
def execRegisterWrite (who : Who) (addr : BitVec 64) (size : Fin 4) (data : BitVec 64) (s : State) :
    Host.Outcome State Fault Refusal :=
  doDevF (fun d => if d.hw.canAccess who then d.write who addr.toNat (2 ^ size.val) (data.toNat % 2 ^ (8 * 2 ^ size.val)) else d) s

/-- CURRENT_CYCLE_T0, R22. -/
def execCurrentCycleT0 (s : State) : Host.Outcome State Fault Refusal :=
  doDevF (Dev.whenAlive Dev.currentT0) s

/-- POSITION_CYCLE_T0, R23: whether the reads of the cell pair of R151 met an uncorrectable error (R159); the facts
of R104 and R106 that no register holds: an authenticated test order, a car load below the empty threshold, an
authenticated overspeed test. -/
def execPositionCycleT0 (eccLo : Bool) (eccHi : Bool) (proofOrder : Bool) (carEmpty : Bool) (overspeed : Bool) (s : State) :
    Host.Outcome State Fault Refusal :=
  doDevF (Dev.whenAlive (Dev.positionT0 eccLo eccHi proofOrder carEmpty overspeed)) s

end Sys2Proof.Machine
end

