-- ==== Sys2Proof/Machine/Dispatch.lean ====
section
/-! DEFINITION. The meaning of each command: one arm per constructor. -/

namespace Sys2Proof.Machine

def exec (i : Instr) (s : State) : Host.Outcome State Fault Refusal :=
  match i with
  | .supplyGood => Sys2Proof.Machine.execSupplyGood s
  | .powerOnReset => Sys2Proof.Machine.execPowerOnReset s
  | .supplyMonitorTrip monitor => Sys2Proof.Machine.execSupplyMonitorTrip monitor s
  | .nresetAssert => Sys2Proof.Machine.execNresetAssert s
  | .nresetRelease heldMs => Sys2Proof.Machine.execNresetRelease heldMs s
  | .resetRelease role unitB tcmOk => Sys2Proof.Machine.execResetRelease role unitB tcmOk s
  | .warmResetRequest who w => Sys2Proof.Machine.execWarmResetRequest who w s
  | .keywayReset => Sys2Proof.Machine.execKeywayReset s
  | .wipeComplete failed => Sys2Proof.Machine.execWipeComplete failed s
  | .bootComplete found => Sys2Proof.Machine.execBootComplete found s
  | .clockMonitorTrip domain => Sys2Proof.Machine.execClockMonitorTrip domain s
  | .refloss => Sys2Proof.Machine.execRefloss s
  | .xtalfail => Sys2Proof.Machine.execXtalfail s
  | .appDividerChange who w => Sys2Proof.Machine.execAppDividerChange who w s
  | .clockDomainEnable who w => Sys2Proof.Machine.execClockDomainEnable who w s
  | .optimeStep => Sys2Proof.Machine.execOptimeStep s
  | .optimeWrite who hi => Sys2Proof.Machine.execOptimeWrite who hi s
  | .agentResetWrite who w => Sys2Proof.Machine.execAgentResetWrite who w s
  | .parkRequest who w => Sys2Proof.Machine.execParkRequest who w s
  | .parkEntryComplete => Sys2Proof.Machine.execParkEntryComplete s
  | .parkEntryTimeout => Sys2Proof.Machine.execParkEntryTimeout s
  | .wakeRecognised sources rx => Sys2Proof.Machine.execWakeRecognised sources rx s
  | .parkedWatchMove dz => Sys2Proof.Machine.execParkedWatchMove dz s
  | .parkedWatchTimer => Sys2Proof.Machine.execParkedWatchTimer s
  | .wakeComplete => Sys2Proof.Machine.execWakeComplete s
  | .hingeGroupFire who w => Sys2Proof.Machine.execHingeGroupFire who w s
  | .plicClaim who ctx => Sys2Proof.Machine.execPlicClaim who ctx s
  | .plicComplete who ctx w => Sys2Proof.Machine.execPlicComplete who ctx w s
  | .blkEnable who page => Sys2Proof.Machine.execBlkEnable who page s
  | .blkDisable who page => Sys2Proof.Machine.execBlkDisable who page s
  | .blkQuiesceRequest who page => Sys2Proof.Machine.execBlkQuiesceRequest who page s
  | .blkQuiesceRelease who page => Sys2Proof.Machine.execBlkQuiesceRelease who page s
  | .blkQuiet page => Sys2Proof.Machine.execBlkQuiet page s
  | .blkBolt who page => Sys2Proof.Machine.execBlkBolt who page s
  | .blkUnbolt who page => Sys2Proof.Machine.execBlkUnbolt who page s
  | .blkSoftReset who page => Sys2Proof.Machine.execBlkSoftReset who page s
  | .hingeSwapRequest who page w => Sys2Proof.Machine.execHingeSwapRequest who page w s
  | .hingeCancel who page w => Sys2Proof.Machine.execHingeCancel who page w s
  | .hingeSwap page => Sys2Proof.Machine.execHingeSwap page s
  | .hingeSyncDone page => Sys2Proof.Machine.execHingeSyncDone page s
  | .blkLockWrite who page w => Sys2Proof.Machine.execBlkLockWrite who page w s
  | .bistStart who page w => Sys2Proof.Machine.execBistStart who page w s
  | .bistDone page pass ecc us => Sys2Proof.Machine.execBistDone page pass ecc us s
  | .bistTimeout page => Sys2Proof.Machine.execBistTimeout page s
  | .pairLoRead who addr => Sys2Proof.Machine.execPairLoRead who addr s
  | .pairHiWrite who addr w => Sys2Proof.Machine.execPairHiWrite who addr w s
  | .rcRead who addr size => Sys2Proof.Machine.execRcRead who addr size s
  | .registerWrite who addr size data => Sys2Proof.Machine.execRegisterWrite who addr size data s
  | .currentCycleT0 => Sys2Proof.Machine.execCurrentCycleT0 s
  | .positionCycleT0 eccLo eccHi proofOrder carEmpty overspeed => Sys2Proof.Machine.execPositionCycleT0 eccLo eccHi proofOrder carEmpty overspeed s
  | .sinc3Result sums => Sys2Proof.Machine.execSinc3Result sums s
  | .quadCount ch a b stamp => Sys2Proof.Machine.execQuadCount ch a b stamp s
  | .illegalWindowEnd ch => Sys2Proof.Machine.execIllegalWindowEnd ch s
  | .indexEvent ch level samplesSince illegal => Sys2Proof.Machine.execIndexEvent ch level samplesSince illegal s
  | .countPreset who ch w => Sys2Proof.Machine.execCountPreset who ch w s
  | .serialFrameEnd ch rx => Sys2Proof.Machine.execSerialFrameEnd ch rx s
  | .serialNegotiationDone ch passes ldly => Sys2Proof.Machine.execSerialNegotiationDone ch passes ldly s
  | .serialLostClear who ch w => Sys2Proof.Machine.execSerialLostClear who ch w s
  | .dinEdge input level stamp seen => Sys2Proof.Machine.execDinEdge input level stamp seen s
  | .dcapPop who => Sys2Proof.Machine.execDcapPop who s
  | .emuStep out => Sys2Proof.Machine.execEmuStep out s
  | .tumblerAlign who w => Sys2Proof.Machine.execTumblerAlign who w s
  | .sourceFrozen src => Sys2Proof.Machine.execSourceFrozen src s
  | .loopReturn who w => Sys2Proof.Machine.execLoopReturn who w s
  | .mapReloadStart who w => Sys2Proof.Machine.execMapReloadStart who w s
  | .mapPageLoaded => Sys2Proof.Machine.execMapPageLoaded s
  | .mapPageReload who page w => Sys2Proof.Machine.execMapPageReload who page w s
  | .mapLearnEntry => Sys2Proof.Machine.execMapLearnEntry s
  | .mapRebuildStart who w => Sys2Proof.Machine.execMapRebuildStart who w s
  | .mapRebuildCancel who w => Sys2Proof.Machine.execMapRebuildCancel who w s
  | .mapRebuildPageDone => Sys2Proof.Machine.execMapRebuildPageDone s
  | .mapWritebackDone => Sys2Proof.Machine.execMapWritebackDone s
  | .mapImport who page w => Sys2Proof.Machine.execMapImport who page w s
  | .prfMove who axis seq => Sys2Proof.Machine.execPrfMove who axis seq s
  | .prfStop who axis seq => Sys2Proof.Machine.execPrfStop who axis seq s
  | .prfResume who axis seq => Sys2Proof.Machine.execPrfResume who axis seq s
  | .prfAbort who axis seq => Sys2Proof.Machine.execPrfAbort who axis seq s
  | .prfGear who axis seq => Sys2Proof.Machine.execPrfGear who axis seq s
  | .prfUngear who axis seq => Sys2Proof.Machine.execPrfUngear who axis seq s
  | .prfPreset who axis seq => Sys2Proof.Machine.execPrfPreset who axis seq s
  | .prfGrarm who axis seq => Sys2Proof.Machine.execPrfGrarm who axis seq s
  | .prfIllop who axis w => Sys2Proof.Machine.execPrfIllop who axis w s
  | .axisStandstill axis => Sys2Proof.Machine.execAxisStandstill axis s
  | .axisStall axis => Sys2Proof.Machine.execAxisStall axis s
  | .stepIssue gen tau => Sys2Proof.Machine.execStepIssue gen tau s
  | .wardCapWrite who w => Sys2Proof.Machine.execWardCapWrite who w s
  | .tceGo who core w => Sys2Proof.Machine.execTceGo who core w s
  | .tceHalt who core w => Sys2Proof.Machine.execTceHalt who core w s
  | .tceSolo who core w => Sys2Proof.Machine.execTceSolo who core w s
  | .tceSoftwareTrigger who core w => Sys2Proof.Machine.execTceSoftwareTrigger who core w s
  | .tceAuthStart who core w => Sys2Proof.Machine.execTceAuthStart who core w s
  | .tceAuthDone core => Sys2Proof.Machine.execTceAuthDone core s
  | .tceProgramWrite who core off size data => Sys2Proof.Machine.execTceProgramWrite who core off size data s
  | .taskTick page task => Sys2Proof.Machine.execTaskTick page task s
  | .tceInterruptEntry core => Sys2Proof.Machine.execTceInterruptEntry core s
  | .nop core ecc => Sys2Proof.Machine.execNop core ecc s
  | .endTask core ecc time => Sys2Proof.Machine.execEndTask core ecc time s
  | .br core ecc => Sys2Proof.Machine.execBr core ecc s
  | .jal core ecc => Sys2Proof.Machine.execJal core ecc s
  | .jr core ecc => Sys2Proof.Machine.execJr core ecc s
  | .loop core ecc => Sys2Proof.Machine.execLoop core ecc s
  | .loopr core ecc => Sys2Proof.Machine.execLoopr core ecc s
  | .lexit core ecc => Sys2Proof.Machine.execLexit core ecc s
  | .reti core ecc => Sys2Proof.Machine.execReti core ecc s
  | .swi core ecc => Sys2Proof.Machine.execSwi core ecc s
  | .addOp core ecc => Sys2Proof.Machine.execAddOp core ecc s
  | .subOp core ecc => Sys2Proof.Machine.execSubOp core ecc s
  | .adds core ecc => Sys2Proof.Machine.execAdds core ecc s
  | .subs core ecc => Sys2Proof.Machine.execSubs core ecc s
  | .andOp core ecc => Sys2Proof.Machine.execAndOp core ecc s
  | .orOp core ecc => Sys2Proof.Machine.execOrOp core ecc s
  | .xorOp core ecc => Sys2Proof.Machine.execXorOp core ecc s
  | .andn core ecc => Sys2Proof.Machine.execAndn core ecc s
  | .shl core ecc => Sys2Proof.Machine.execShl core ecc s
  | .shr core ecc => Sys2Proof.Machine.execShr core ecc s
  | .asr core ecc => Sys2Proof.Machine.execAsr core ecc s
  | .cmp core ecc => Sys2Proof.Machine.execCmp core ecc s
  | .negOp core ecc => Sys2Proof.Machine.execNegOp core ecc s
  | .absOp core ecc => Sys2Proof.Machine.execAbsOp core ecc s
  | .minOp core ecc => Sys2Proof.Machine.execMinOp core ecc s
  | .maxOp core ecc => Sys2Proof.Machine.execMaxOp core ecc s
  | .aluMov core ecc => Sys2Proof.Machine.execAluMov core ecc s
  | .moviData core ecc => Sys2Proof.Machine.execMoviData core ecc s
  | .moviAddr core ecc => Sys2Proof.Machine.execMoviAddr core ecc s
  | .movReg core ecc => Sys2Proof.Machine.execMovReg core ecc s
  | .mac core ecc => Sys2Proof.Machine.execMac core ecc s
  | .macd core ecc => Sys2Proof.Machine.execMacd core ecc s
  | .macs core ecc => Sys2Proof.Machine.execMacs core ecc s
  | .cmac core ecc => Sys2Proof.Machine.execCmac core ecc s
  | .rnd core ecc => Sys2Proof.Machine.execRnd core ecc s
  | .ld core ecc => Sys2Proof.Machine.execLd core ecc s
  | .st core ecc => Sys2Proof.Machine.execSt core ecc s
  | .stAcc core ecc => Sys2Proof.Machine.execStAcc core ecc s
  | .ldStPair core ecc => Sys2Proof.Machine.execLdStPair core ecc s
  | .ftap core ecc => Sys2Proof.Machine.execFtap core ecc s
  | .illegalInstruction core ecc => Sys2Proof.Machine.execIllegalInstruction core ecc s
  | .sinc2FastResult input fast => Sys2Proof.Machine.execSinc2FastResult input fast s
  | .sdInputStuck input level => Sys2Proof.Machine.execSdInputStuck input level s
  | .gateDriverFault input fault => Sys2Proof.Machine.execGateDriverFault input fault s
  | .tripClear who w => Sys2Proof.Machine.execTripClear who w s
  | .gridLossClear who w => Sys2Proof.Machine.execGridLossClear who w s
  | .brkTmagElapsed => Sys2Proof.Machine.execBrkTmagElapsed s
  | .brkTpreElapsed => Sys2Proof.Machine.execBrkTpreElapsed s
  | .brkTliftElapsed => Sys2Proof.Machine.execBrkTliftElapsed s
  | .brkTstartElapsed => Sys2Proof.Machine.execBrkTstartElapsed s
  | .brkTpickElapsed => Sys2Proof.Machine.execBrkTpickElapsed s
  | .brkTsetElapsed => Sys2Proof.Machine.execBrkTsetElapsed s
  | .brkTdropElapsed => Sys2Proof.Machine.execBrkTdropElapsed s
  | .brkTrampElapsed => Sys2Proof.Machine.execBrkTrampElapsed s
  | .brakeTestStart who w => Sys2Proof.Machine.execBrakeTestStart who w s
  | .brakeTestRampEnd => Sys2Proof.Machine.execBrakeTestRampEnd s
  | .brakeTestHoldEnd => Sys2Proof.Machine.execBrakeTestHoldEnd s
  | .brakeTestAbort who => Sys2Proof.Machine.execBrakeTestAbort who s
  | .doorOpen who door seq => Sys2Proof.Machine.execDoorOpen who door seq s
  | .doorClose who door seq => Sys2Proof.Machine.execDoorClose who door seq s
  | .doorHold who door seq => Sys2Proof.Machine.execDoorHold who door seq s
  | .doorRelease who door seq => Sys2Proof.Machine.execDoorRelease who door seq s
  | .doorNudge who door seq => Sys2Proof.Machine.execDoorNudge who door seq s
  | .doorStop who door seq => Sys2Proof.Machine.execDoorStop who door seq s
  | .doorHandover who door seq => Sys2Proof.Machine.execDoorHandover who door seq s
  | .doorTakeback who door seq => Sys2Proof.Machine.execDoorTakeback who door seq s
  | .doorClear who door seq => Sys2Proof.Machine.execDoorClear who door seq s
  | .doorIllop who door w => Sys2Proof.Machine.execDoorIllop who door w s
  | .doorUnlockTimeout door => Sys2Proof.Machine.execDoorUnlockTimeout door s
  | .doorDwellElapsed door => Sys2Proof.Machine.execDoorDwellElapsed door s
  | .doorNudgeTimeElapsed door => Sys2Proof.Machine.execDoorNudgeTimeElapsed door s
  | .doorLockTimeout door => Sys2Proof.Machine.execDoorLockTimeout door s
  | .doorRetryElapsed door => Sys2Proof.Machine.execDoorRetryElapsed door s
  | .relevelRequest => Sys2Proof.Machine.execRelevelRequest s
  | .contactLevelChange monitor closed rejected => Sys2Proof.Machine.execContactLevelChange monitor closed rejected s
  | .contactBypass monitor => Sys2Proof.Machine.execContactBypass monitor s
  | .visFrameEnd rx ecc crc lines => Sys2Proof.Machine.execVisFrameEnd rx ecc crc lines s
  | .visStale rx => Sys2Proof.Machine.execVisStale rx s
  | .slotClear who slot => Sys2Proof.Machine.execSlotClear who slot s
  | .safetyInputChange input closed seen => Sys2Proof.Machine.execSafetyInputChange input closed seen s
  | .sinDiscrepancy pair => Sys2Proof.Machine.execSinDiscrepancy pair s
  | .testPulse k => Sys2Proof.Machine.execTestPulse k s
  | .testPulseEnd k sawOpen => Sys2Proof.Machine.execTestPulseEnd k sawOpen s
  | .brakeLagElapsed => Sys2Proof.Machine.execBrakeLagElapsed s
  | .outputReadbackFault output => Sys2Proof.Machine.execOutputReadbackFault output s
  | .faultArrival page cause => Sys2Proof.Machine.execFaultArrival page cause s
  | .faultDone who w => Sys2Proof.Machine.execFaultDone who w s
  | .faultInFaultHandling kind => Sys2Proof.Machine.execFaultInFaultHandling kind s
  | .watchdogKick who w => Sys2Proof.Machine.execWatchdogKick who w s
  | .watchdogExpiry => Sys2Proof.Machine.execWatchdogExpiry s
  | .modeSet who w => Sys2Proof.Machine.execModeSet who w s
  | .standstillReached => Sys2Proof.Machine.execStandstillReached s
  | .parkIdleElapsed => Sys2Proof.Machine.execParkIdleElapsed s
  | .deadboltPortWrite who w => Sys2Proof.Machine.execDeadboltPortWrite who w s
  | .deadboltPortDone okA okB => Sys2Proof.Machine.execDeadboltPortDone okA okB s
  | .tokokExpiry => Sys2Proof.Machine.execTokokExpiry s
  | .serviceAckHeld => Sys2Proof.Machine.execServiceAckHeld s
  | .deadboltRelease who w nonceOk wordAOk wordBOk => Sys2Proof.Machine.execDeadboltRelease who w nonceOk wordAOk wordBOk s
  | .laneLock => Sys2Proof.Machine.execLaneLock s
  | .pairWaitElapsed => Sys2Proof.Machine.execPairWaitElapsed s
  | .pairingFrameReceive frame => Sys2Proof.Machine.execPairingFrameReceive frame s
  | .inputSegmentReceive head seg records parkReady => Sys2Proof.Machine.execInputSegmentReceive head seg records parkReady s
  | .outputFrameReceive head records => Sys2Proof.Machine.execOutputFrameReceive head records s
  | .heartbeatReceive second head health => Sys2Proof.Machine.execHeartbeatReceive second head health s
  | .snapshotReceive head whole seed => Sys2Proof.Machine.execSnapshotReceive head whole seed s
  | .syncComplete => Sys2Proof.Machine.execSyncComplete s
  | .leaseExpiry => Sys2Proof.Machine.execLeaseExpiry s
  | .keyClaim => Sys2Proof.Machine.execKeyClaim s
  | .keyHandoff who w => Sys2Proof.Machine.execKeyHandoff who w s
  | .repair who w => Sys2Proof.Machine.execRepair who w s
  | .laneLoss lane => Sys2Proof.Machine.execLaneLoss lane s
  | .selFbChange a b => Sys2Proof.Machine.execSelFbChange a b s
  | .selectorNoneShown => Sys2Proof.Machine.execSelectorNoneShown s
  | .selfltClear => Sys2Proof.Machine.execSelfltClear s
  | .canCtlWrite who ctrl w => Sys2Proof.Machine.execCanCtlWrite who ctrl w s
  | .canFrameReceive ctrl frame => Sys2Proof.Machine.execCanFrameReceive ctrl frame s
  | .canObjectLock who ctrl obj => Sys2Proof.Machine.execCanObjectLock who ctrl obj s
  | .canObjectUnlock who ctrl obj word => Sys2Proof.Machine.execCanObjectUnlock who ctrl obj word s
  | .canLockTimeout ctrl obj => Sys2Proof.Machine.execCanLockTimeout ctrl obj s
  | .canQueuePop who ctrl queue => Sys2Proof.Machine.execCanQueuePop who ctrl queue s
  | .canTxRequest who ctrl index w => Sys2Proof.Machine.execCanTxRequest who ctrl index w s
  | .canTxCancel who ctrl index w onBus => Sys2Proof.Machine.execCanTxCancel who ctrl index w onBus s
  | .canTxComplete ctrl obj stamp tdcv => Sys2Proof.Machine.execCanTxComplete ctrl obj stamp tdcv s
  | .canBusError ctrl kind dataPhase tx won count => Sys2Proof.Machine.execCanBusError ctrl kind dataPhase tx won count s
  | .canBusoffRecovery ctrl => Sys2Proof.Machine.execCanBusoffRecovery ctrl s
  | .canNegStart who ctrl w => Sys2Proof.Machine.execCanNegStart who ctrl w s
  | .canNegTimeout ctrl => Sys2Proof.Machine.execCanNegTimeout ctrl s
  | .canCapabilityAnswer ctrl => Sys2Proof.Machine.execCanCapabilityAnswer ctrl s
  | .canReferenceRequest ctrl => Sys2Proof.Machine.execCanReferenceRequest ctrl s
  | .canTtFire ctrl obj => Sys2Proof.Machine.execCanTtFire ctrl obj s
  | .canRefLost ctrl => Sys2Proof.Machine.execCanRefLost ctrl s
  | .canVirtualReference ctrl => Sys2Proof.Machine.execCanVirtualReference ctrl s
  | .canWakePatternRequest who ctrl w => Sys2Proof.Machine.execCanWakePatternRequest who ctrl w s
  | .canWakePatternSent ctrl => Sys2Proof.Machine.execCanWakePatternSent ctrl s
  | .ethFrameReceive port frame => Sys2Proof.Machine.execEthFrameReceive port frame s
  | .ethFrameTransmit port t => Sys2Proof.Machine.execEthFrameTransmit port t s
  | .ethRingIndexWrite who port tx w => Sys2Proof.Machine.execEthRingIndexWrite who port tx w s
  | .ethLinkChange port locked => Sys2Proof.Machine.execEthLinkChange port locked s
  | .phyPoll port value => Sys2Proof.Machine.execPhyPoll port value s
  | .phyInterrupt port value => Sys2Proof.Machine.execPhyInterrupt port value s
  | .ethRetrainDone port => Sys2Proof.Machine.execEthRetrainDone port s
  | .mdioCommand who port w => Sys2Proof.Machine.execMdioCommand who port w s
  | .mdioDone port data => Sys2Proof.Machine.execMdioDone port data s
  | .ptpSyncSend port => Sys2Proof.Machine.execPtpSyncSend port s
  | .ptpSyncReceive port offset => Sys2Proof.Machine.execPtpSyncReceive port offset s
  | .ptpPdelay port delay => Sys2Proof.Machine.execPtpPdelay port delay s
  | .ptpSyncLost => Sys2Proof.Machine.execPtpSyncLost s
  | .skovesafeProduce conn => Sys2Proof.Machine.execSkovesafeProduce conn s
  | .skovesafeFrameReceive path frame now => Sys2Proof.Machine.execSkovesafeFrameReceive path frame now s
  | .skovesafeWatchdogExpiry conn => Sys2Proof.Machine.execSkovesafeWatchdogExpiry conn s
  | .skovesafePathTimeout conn path => Sys2Proof.Machine.execSkovesafePathTimeout conn path s
  | .sseBufferSwitch who conn w => Sys2Proof.Machine.execSseBufferSwitch who conn w s
  | .mlbConfigWrite who n w => Sys2Proof.Machine.execMlbConfigWrite who n w s
  | .mlbPost who n => Sys2Proof.Machine.execMlbPost who n s
  | .mlbWithdraw who n => Sys2Proof.Machine.execMlbWithdraw who n s
  | .mlbTake who n => Sys2Proof.Machine.execMlbTake who n s
  | .mlbAck who n w => Sys2Proof.Machine.execMlbAck who n w s
  | .mlbPayloadWrite who n k w => Sys2Proof.Machine.execMlbPayloadWrite who n k w s
  | .mlbPayloadRead who n k => Sys2Proof.Machine.execMlbPayloadRead who n k s
  | .doorbellRing who a w => Sys2Proof.Machine.execDoorbellRing who a w s
  | .doorbellClear who a w => Sys2Proof.Machine.execDoorbellClear who a w s
  | .doorbellMaskWrite who a w => Sys2Proof.Machine.execDoorbellMaskWrite who a w s
  | .latchAcquire who j => Sys2Proof.Machine.execLatchAcquire who j s
  | .latchRelease who j w => Sys2Proof.Machine.execLatchRelease who j w s
  | .latchForceFree who k w => Sys2Proof.Machine.execLatchForceFree who k w s
  | .recordSubmit who w => Sys2Proof.Machine.execRecordSubmit who w s
  | .recordWriteDone answered slotOk sparesOk => Sys2Proof.Machine.execRecordWriteDone answered slotOk sparesOk s
  | .headerRefresh => Sys2Proof.Machine.execHeaderRefresh s
  | .wallClockSet who hi => Sys2Proof.Machine.execWallClockSet who hi s
  | .recordReadTranslate who w => Sys2Proof.Machine.execRecordReadTranslate who w s
  | .orderProvision => Sys2Proof.Machine.execOrderProvision s
  | .orderLc burn => Sys2Proof.Machine.execOrderLc burn s
  | .orderKeyload => Sys2Proof.Machine.execOrderKeyload s
  | .orderPair => Sys2Proof.Machine.execOrderPair s
  | .orderSvn burnOk => Sys2Proof.Machine.execOrderSvn burnOk s
  | .orderRevoke burnOk => Sys2Proof.Machine.execOrderRevoke burnOk s
  | .tokenSubmit => Sys2Proof.Machine.execTokenSubmit s
  | .mapSeal => Sys2Proof.Machine.execMapSeal s
  | .mapOpen => Sys2Proof.Machine.execMapOpen s
  | .mapCommandDone => Sys2Proof.Machine.execMapCommandDone s
  | .keyExchangeRequest => Sys2Proof.Machine.execKeyExchangeRequest s
  | .keyExchangeAnswer => Sys2Proof.Machine.execKeyExchangeAnswer s
  | .keyExchangeAccept => Sys2Proof.Machine.execKeyExchangeAccept s
  | .keywayChallenge => Sys2Proof.Machine.execKeywayChallenge s
  | .keywayResponse bytes => Sys2Proof.Machine.execKeywayResponse bytes s
  | .keywaySessionExpiry => Sys2Proof.Machine.execKeywaySessionExpiry s
  | .keywayClose who w => Sys2Proof.Machine.execKeywayClose who w s
  | .keywayWrite addr w => Sys2Proof.Machine.execKeywayWrite addr w s
  | .xspRead => Sys2Proof.Machine.execXspRead s
  | .xspProgram => Sys2Proof.Machine.execXspProgram s
  | .xspErase4k => Sys2Proof.Machine.execXspErase4k s
  | .xspErase64k => Sys2Proof.Machine.execXspErase64k s
  | .xspRdsr sr => Sys2Proof.Machine.execXspRdsr sr s
  | .xspCommandDone how => Sys2Proof.Machine.execXspCommandDone how s
  | .xspWindowTimeout => Sys2Proof.Machine.execXspWindowTimeout s
  | .xspBankSwitch who w => Sys2Proof.Machine.execXspBankSwitch who w s
  | .hspRead addr n inTime soon cut => Sys2Proof.Machine.execHspRead addr n inTime soon cut s
  | .hspWrite addr data cut => Sys2Proof.Machine.execHspWrite addr data cut s
  | .hspStatus => Sys2Proof.Machine.execHspStatus s
  | .hspUnknownInstruction code => Sys2Proof.Machine.execHspUnknownInstruction code s
  | .stqSetRequest who map k w => Sys2Proof.Machine.execStqSetRequest who map k w s
  | .stqClearRequest who map k w => Sys2Proof.Machine.execStqClearRequest who map k w s
  | .tstCommand who w => Sys2Proof.Machine.execTstCommand who w s
  | .rollingStepStart => Sys2Proof.Machine.execRollingStepStart s
  | .tapBypass ir => Sys2Proof.Machine.execTapBypass ir s
  | .tapIdcode => Sys2Proof.Machine.execTapIdcode s
  | .tapSamplePreload cells => Sys2Proof.Machine.execTapSamplePreload cells s
  | .tapExtest => Sys2Proof.Machine.execTapExtest s
  | .tapClamp => Sys2Proof.Machine.execTapClamp s
  | .tapHighz => Sys2Proof.Machine.execTapHighz s
  | .carrierValley set => Sys2Proof.Machine.execCarrierValley set s
  | .canArbitrationLost ctrl obj => Sys2Proof.Machine.execCanArbitrationLost ctrl obj s
  | .csiLaneSyncLoss rx => Sys2Proof.Machine.execCsiLaneSyncLoss rx s
  | .tapReset => Sys2Proof.Machine.execTapReset s
  | .chopperMinonElapsed set leg => Sys2Proof.Machine.execChopperMinonElapsed set leg s
  | .sisIcClaim who complete => Sys2Proof.Machine.execSisIcClaim who complete s

end Sys2Proof.Machine
end

