-- ==== Sys2Proof/Safety.lean ====
section
/-! DEFINITION. What statements about the block speak of: how a command ends, what it leaves alone, and the form every
state keeps. -/

namespace Sys2Proof

/-- The rows that can store in a memory of the address map or in the flash. -/
def Instr.stores : Instr → Bool
  | .supplyMonitorTrip .. => true
  | .nresetRelease .. => false
  | .resetRelease .. => true
  | .warmResetRequest .. => true
  | .wipeComplete .. => true
  | .bootComplete .. => true
  | .clockMonitorTrip .. => false
  | .appDividerChange .. => false
  | .clockDomainEnable .. => false
  | .optimeWrite .. => false
  | .agentResetWrite .. => false
  | .parkRequest .. => false
  | .wakeRecognised .. => false
  | .parkedWatchMove .. => false
  | .hingeGroupFire .. => false
  | .plicClaim .. => false
  | .plicComplete .. => false
  | .blkEnable .. => false
  | .blkDisable .. => false
  | .blkQuiesceRequest .. => false
  | .blkQuiesceRelease .. => false
  | .blkQuiet .. => false
  | .blkBolt .. => false
  | .blkUnbolt .. => false
  | .blkSoftReset .. => false
  | .hingeSwapRequest .. => false
  | .hingeCancel .. => false
  | .hingeSwap .. => false
  | .hingeSyncDone .. => false
  | .blkLockWrite .. => false
  | .bistStart .. => false
  | .bistDone .. => true
  | .bistTimeout .. => false
  | .pairLoRead .. => false
  | .pairHiWrite .. => true
  | .rcRead .. => false
  | .registerWrite .. => true
  | .positionCycleT0 .. => true
  | .sinc3Result .. => false
  | .quadCount .. => false
  | .illegalWindowEnd .. => false
  | .indexEvent .. => false
  | .countPreset .. => false
  | .serialFrameEnd .. => false
  | .serialNegotiationDone .. => false
  | .serialLostClear .. => false
  | .dinEdge .. => false
  | .dcapPop .. => false
  | .emuStep .. => false
  | .tumblerAlign .. => false
  | .sourceFrozen .. => false
  | .loopReturn .. => false
  | .mapReloadStart .. => false
  | .mapPageReload .. => false
  | .mapRebuildStart .. => false
  | .mapRebuildCancel .. => false
  | .mapImport .. => false
  | .prfMove .. => false
  | .prfStop .. => false
  | .prfResume .. => false
  | .prfAbort .. => false
  | .prfGear .. => false
  | .prfUngear .. => false
  | .prfPreset .. => false
  | .prfGrarm .. => false
  | .prfIllop .. => false
  | .axisStandstill .. => false
  | .axisStall .. => false
  | .stepIssue .. => false
  | .wardCapWrite .. => false
  | .tceGo .. => false
  | .tceHalt .. => false
  | .tceSolo .. => false
  | .tceSoftwareTrigger .. => false
  | .tceAuthStart .. => false
  | .tceAuthDone .. => false
  | .tceProgramWrite .. => true
  | .taskTick .. => false
  | .tceInterruptEntry .. => false
  | .nop .. => false
  | .endTask .. => false
  | .br .. => false
  | .jal .. => false
  | .jr .. => false
  | .loop .. => false
  | .loopr .. => false
  | .lexit .. => false
  | .reti .. => false
  | .swi .. => false
  | .addOp .. => false
  | .subOp .. => false
  | .adds .. => false
  | .subs .. => false
  | .andOp .. => false
  | .orOp .. => false
  | .xorOp .. => false
  | .andn .. => false
  | .shl .. => false
  | .shr .. => false
  | .asr .. => false
  | .cmp .. => false
  | .negOp .. => false
  | .absOp .. => false
  | .minOp .. => false
  | .maxOp .. => false
  | .aluMov .. => false
  | .moviData .. => false
  | .moviAddr .. => false
  | .movReg .. => false
  | .mac .. => false
  | .macd .. => false
  | .macs .. => false
  | .cmac .. => false
  | .rnd .. => false
  | .ld .. => false
  | .st .. => true
  | .stAcc .. => true
  | .ldStPair .. => true
  | .ftap .. => true
  | .illegalInstruction .. => false
  | .sinc2FastResult .. => false
  | .sdInputStuck .. => false
  | .gateDriverFault .. => false
  | .tripClear .. => false
  | .gridLossClear .. => false
  | .brakeTestStart .. => false
  | .brakeTestAbort .. => false
  | .doorOpen .. => false
  | .doorClose .. => false
  | .doorHold .. => false
  | .doorRelease .. => false
  | .doorNudge .. => false
  | .doorStop .. => false
  | .doorHandover .. => false
  | .doorTakeback .. => false
  | .doorClear .. => false
  | .doorIllop .. => false
  | .doorUnlockTimeout .. => false
  | .doorDwellElapsed .. => false
  | .doorNudgeTimeElapsed .. => false
  | .doorLockTimeout .. => false
  | .doorRetryElapsed .. => false
  | .contactLevelChange .. => false
  | .contactBypass .. => false
  | .visFrameEnd .. => false
  | .visStale .. => false
  | .slotClear .. => false
  | .safetyInputChange .. => false
  | .sinDiscrepancy .. => false
  | .testPulse .. => false
  | .testPulseEnd .. => false
  | .outputReadbackFault .. => false
  | .faultArrival .. => false
  | .faultDone .. => false
  | .faultInFaultHandling .. => false
  | .watchdogKick .. => false
  | .modeSet .. => false
  | .deadboltPortWrite .. => false
  | .deadboltPortDone .. => true
  | .deadboltRelease .. => true
  | .pairingFrameReceive .. => false
  | .inputSegmentReceive .. => false
  | .outputFrameReceive .. => false
  | .heartbeatReceive .. => false
  | .snapshotReceive .. => false
  | .keyHandoff .. => false
  | .repair .. => false
  | .laneLoss .. => false
  | .selFbChange .. => false
  | .canCtlWrite .. => false
  | .canFrameReceive .. => false
  | .canObjectLock .. => false
  | .canObjectUnlock .. => false
  | .canLockTimeout .. => false
  | .canQueuePop .. => false
  | .canTxRequest .. => false
  | .canTxCancel .. => false
  | .canTxComplete .. => false
  | .canBusError .. => false
  | .canBusoffRecovery .. => false
  | .canNegStart .. => false
  | .canNegTimeout .. => false
  | .canCapabilityAnswer .. => false
  | .canReferenceRequest .. => false
  | .canTtFire .. => false
  | .canRefLost .. => false
  | .canVirtualReference .. => false
  | .canWakePatternRequest .. => false
  | .canWakePatternSent .. => false
  | .ethFrameReceive .. => true
  | .ethFrameTransmit .. => true
  | .ethRingIndexWrite .. => false
  | .ethLinkChange .. => false
  | .phyPoll .. => false
  | .phyInterrupt .. => false
  | .ethRetrainDone .. => false
  | .mdioCommand .. => false
  | .mdioDone .. => false
  | .ptpSyncSend .. => false
  | .ptpSyncReceive .. => false
  | .ptpPdelay .. => false
  | .skovesafeProduce .. => false
  | .skovesafeFrameReceive .. => true
  | .skovesafeWatchdogExpiry .. => true
  | .skovesafePathTimeout .. => false
  | .sseBufferSwitch .. => false
  | .mlbConfigWrite .. => false
  | .mlbPost .. => false
  | .mlbWithdraw .. => false
  | .mlbTake .. => false
  | .mlbAck .. => false
  | .mlbPayloadWrite .. => false
  | .mlbPayloadRead .. => false
  | .doorbellRing .. => false
  | .doorbellClear .. => false
  | .doorbellMaskWrite .. => false
  | .latchAcquire .. => false
  | .latchRelease .. => false
  | .latchForceFree .. => false
  | .recordSubmit .. => false
  | .recordWriteDone .. => true
  | .wallClockSet .. => false
  | .recordReadTranslate .. => false
  | .orderLc .. => true
  | .orderSvn .. => false
  | .orderRevoke .. => false
  | .keywayResponse .. => false
  | .keywayClose .. => false
  | .keywayWrite .. => true
  | .xspRdsr .. => false
  | .xspCommandDone .. => true
  | .xspBankSwitch .. => false
  | .hspRead .. => false
  | .hspWrite .. => true
  | .hspUnknownInstruction .. => false
  | .stqSetRequest .. => false
  | .stqClearRequest .. => false
  | .tstCommand .. => false
  | .tapBypass .. => false
  | .tapSamplePreload .. => false
  | .carrierValley .. => false
  | .canArbitrationLost .. => false
  | .csiLaneSyncLoss .. => false
  | .chopperMinonElapsed .. => false
  | .sisIcClaim .. => false
  | .supplyGood => false
  | .powerOnReset => true
  | .nresetAssert => true
  | .keywayReset => true
  | .refloss => false
  | .xtalfail => false
  | .optimeStep => false
  | .parkEntryComplete => false
  | .parkEntryTimeout => false
  | .parkedWatchTimer => false
  | .wakeComplete => false
  | .currentCycleT0 => true
  | .mapPageLoaded => true
  | .mapLearnEntry => true
  | .mapRebuildPageDone => true
  | .mapWritebackDone => true
  | .brkTmagElapsed => false
  | .brkTpreElapsed => false
  | .brkTliftElapsed => false
  | .brkTstartElapsed => false
  | .brkTpickElapsed => false
  | .brkTsetElapsed => false
  | .brkTdropElapsed => false
  | .brkTrampElapsed => false
  | .brakeTestRampEnd => false
  | .brakeTestHoldEnd => false
  | .relevelRequest => false
  | .brakeLagElapsed => false
  | .watchdogExpiry => false
  | .standstillReached => false
  | .parkIdleElapsed => false
  | .tokokExpiry => false
  | .serviceAckHeld => false
  | .laneLock => false
  | .pairWaitElapsed => false
  | .syncComplete => false
  | .leaseExpiry => false
  | .keyClaim => false
  | .selectorNoneShown => false
  | .selfltClear => false
  | .ptpSyncLost => false
  | .headerRefresh => true
  | .orderProvision => true
  | .orderKeyload => false
  | .orderPair => false
  | .tokenSubmit => false
  | .mapSeal => true
  | .mapOpen => true
  | .mapCommandDone => false
  | .keyExchangeRequest => true
  | .keyExchangeAnswer => true
  | .keyExchangeAccept => false
  | .keywayChallenge => false
  | .keywaySessionExpiry => false
  | .xspRead => true
  | .xspProgram => true
  | .xspErase4k => true
  | .xspErase64k => true
  | .xspWindowTimeout => false
  | .hspStatus => false
  | .rollingStepStart => false
  | .tapIdcode => false
  | .tapExtest => false
  | .tapClamp => false
  | .tapHighz => false
  | .tapReset => false

end Sys2Proof

namespace Sys2Proof.Machine

/-- The command ends in a next state of which `P` holds, and the queue of waiting commands is as it was. -/
def Ends (c : Instr) (s : State) (P : State → Prop) : Prop :=
  ∃ t, exec c s = .next t ∧ t.pending = s.pending ∧ P t

/-- A register of the state. -/
def State.reg (s : State) (a : Nat) : Word := s.dev.hw.reg a

/-- A field of a register of the state. -/
def State.rd (s : State) (f : Field) : Nat := s.dev.hw.rd f

/-- A one-bit field of the state. -/
def State.on (s : State) (f : Field) : Bool := s.dev.hw.on f

/-- Memory as it was. -/
def SameMem (s t : State) : Prop := t.dev.mem = s.dev.mem

/-- Every register outside `l`, and every byte of memory, as it was. -/
def OnlyRegs (l : List Nat) (s t : State) : Prop := (∀ a, a ∉ l → t.reg a = s.reg a) ∧ SameMem s t

/-- Every register outside the pages `l` holds its reset value. -/
def AtReset (l : List Nat) (t : State) : Prop := ∀ a, pageOf a ∉ l → t.reg a = regReset a

/-- Every register of page `p` holds its reset value (R56). -/
def PageAtReset (p : Nat) (t : State) : Prop := ∀ a, pageOf a = p → t.reg a = regReset a

/-- The swapped registers of page `p` stand, and their shadows show the same words (R52). -/
def ShadowsCopied (p : Nat) (s t : State) : Prop :=
  ∀ a, swapAddr a = some a → pageOf a = p → t.reg (a + 0x8000) = s.reg a ∧ t.reg a = s.reg a

/-- A write at address `a` reaches its register (R29, R65, R80, R475): the requester can make accesses, and the keyway has
a session that covers the address. -/
abbrev Reaches (who : Who) (a : Nat) (s : State) : Prop :=
  s.dev.hw.canAccess who = true ∧ (who = .keyway → s.on SEC_KW_STAT_OPEN = true ∧ s.dev.hw.kwScope a = true)

/-- A write of an operating register at `a` of page `p` is taken (R5, R48, R54). -/
abbrev MayOperate (who : Who) (p a : Nat) (s : State) : Prop :=
  Reaches who a s ∧ s.dev.hw.absent p = false ∧ s.dev.hw.sisOnlyOk who p = true

/-- A write of a configuration register at `a` of page `p` is taken (R5, R48, R54). -/
abbrev MayConfigure (who : Who) (p a : Nat) (s : State) : Prop :=
  MayOperate who p a s ∧ s.dev.hw.lockOk who p = true

/-- The clocks of the blocks run (R60, R64, R100): an event of a block can happen. -/
abbrev Alive (s : State) : Prop := s.dev.hw.alive = true

/-- An entry is current in the fault manager, with this class, source and cause (R341, R350). -/
def FaultIs (cls src cause : Nat) (t : State) : Prop :=
  t.on SIS_FM_CUR_W0_VALID = true ∧ t.rd SIS_FM_CUR_W0_CLASS = cls ∧ t.rd SIS_FM_CUR_W0_SRC = src ∧
    t.rd SIS_FM_CUR_W0_CAUSE = cause

/-- The fault manager is idle. -/
abbrev NoFault (s : State) : Prop := s.on SIS_FM_CUR_W0_VALID = false

/-- The registers that the arrival of faults can change (R339 to R341): those of the fault manager, the safe outputs, the
deadbolt latch and the recorder, the drive outputs that fall with STO and brake, the Ward's speed cap. -/
def faultRegs : List Nat :=
  [ BLK_IRQ PG_SIS, BLK_FAULT PG_SIS, SIS_FM_STAT, SIS_FM_CUR_W0, SIS_FM_CUR_W1, SIS_OUT_STAT, SIS_DB_STAT,
    BLK_IRQ PG_REC, BLK_FAULT PG_REC, BLK_STAT PG_REC, REC_STAT, REC_SEQ, REC_LOST, REC_DBW,
    BLK_IRQ PG_PST, PST_BRK_STAT, PST_BT_STAT, PST_BT_IREF,
    PST_PSn_STAT 0, PST_PSn_STAT 1, PST_PSn_STAT 2, PST_PSn_STAT 3, PST_PSn_STAT 4, PST_PSn_STAT 5, PRF_WCAP ]

/-- Every register outside `l` that a fault does not change, and every byte of memory, as it was. -/
def OnlyRegsAndFaults (l : List Nat) (s t : State) : Prop :=
  (∀ a, a ∉ l → a ∉ faultRegs → t.reg a = s.reg a) ∧ SameMem s t

/-- Core `c` runs a task and issues `op`, legal where it stands, fetched without an error, in no delay slot and in no
loop (R202, R243 to R245, R259). -/
abbrev Issues (c : Nat) (ecc : CoreEcc) (op : TceOp) (s : State) : Prop :=
  s.dev.hw.coreRuns c = true ∧ ecc.fetch = .clean ∧ s.dev.tceNow c ecc = some op ∧ s.dev.hw.coreSt c = coreTask ∧
    c < s.dev.hw.tce.length ∧ (s.dev.hw.core c).delay = 0 ∧ (s.dev.hw.core c).atIssue.gov.dep = 0

/-- The core as an instruction finds it at issue: what was due has landed (R229). -/
def State.at (s : State) (c : Nat) : Core := (s.dev.hw.core c).atIssue

/-- Core `c` has issued one instruction and goes on with the next: of the core only its pc, its count of cycles, the
results `l` now in flight, and what `f` says have changed. -/
def CoreIssued (c : Nat) (l : List Flight) (f : Core → Core) (s t : State) : Prop :=
  t.dev.hw.core c = f { s.at c with
    pc := ((s.at c).pc + 1) % 16384, cycles := (s.at c).cycles + 1, flight := (s.at c).flight ++ l, bypass := none }

/-- And the registers of the pages too stand, but for TCE_PC and what faults change. -/
def Issued (c : Nat) (l : List Flight) (f : Core → Core) (s t : State) : Prop :=
  CoreIssued c l f s t ∧ (t.reg (TCE_PC c)).toNat = (t.dev.hw.core c).pc % 2 ^ 32 ∧ OnlyRegsAndFaults [TCE_PC c] s t

/-- The form every state keeps: memory is canonical (R28, R34). -/
def State.Inv (s : State) : Prop := memWf s.dev.mem = true

end Sys2Proof.Machine
end

