-- ==== Sys2Proof/Certificates/Slice0/Obligations.lean ====
section
/-! DEFINITION. The statements for the provers. -/

namespace Sys2Proof.Machine

/-- What a change of RUN writes in a page: BLK_CTL, BLK_STAT, and STAT of a CAN controller, which leaves or joins its bus
(R395). -/
def runRegs (p : Nat) : List Nat :=
  [BLK_CTL p, BLK_STAT p] ++ (if PG_CAN 0 ≤ p ∧ p ≤ PG_CAN 3 then [CAN_STAT (p - PG_CAN 0)] else [])

/-- How many of five samples a channel took since its enable (R120). -/
abbrev quadSeen (s : State) (n stamp : Nat) : Nat := (s.dev.hw.q n).since stamp (s.rd (POS_Qn_CTL_FDIV n) + 1)

/-- The filtered level of five samples (R120). -/
abbrev quadLevel (s : State) (n stamp : Nat) (w : BitVec 5) : Bool :=
  majority (if s.on (POS_Qn_CTL_FMAJ n) then 5 else 3) (window (quadSeen s n stamp) w)

/-- The transition that a sample of channel `n` makes. -/
abbrev quadMoves (s : State) (n : Nat) (a b : BitVec 5) (stamp : Nat) : QuadStep :=
  quadStep ((s.dev.hw.q n).begin (quadSeen s n stamp) a b) (s.on (POS_Qn_CTL_SWAPAB n)) (quadLevel s n stamp a)
    (quadLevel s n stamp b)

/-- A rate of a negotiation (R132): not faster than the requested one, its frame fits FRMMAX, and 8 frames passed at it. -/
abbrev rateFits (s : State) (n : Nat) (passes : BitVec 8) (ldly r : Nat) : Prop :=
  s.rd (POS_Sn_CTL_CLKSEL n) ≤ r ∧ passes.getLsbD r = true ∧
    ldly * 5 + 2 * (4 + s.rd (POS_Sn_CTL_LEN n) + s.rd (POS_Sn_CRC_WIDTH n)) * bitTime r ≤ 20 * s.rd (POS_Sn_FRM_FRMMAX n)

/-- Source `n` of the PLIC is pending, enabled for the context, and its block's line is routed to the context's core. -/
abbrev claimable (s : State) (ctx n : Nat) : Bool :=
  s.dev.hw.plicPending n && s.dev.hw.bitAt (PLIC_EN ctx (n / 32)) (n % 32) &&
    bit (s.rd (BLK_IRQ_ROUTE_AGT (n - 1))) (ctx / 2 + 1)

/-- What an ALU instruction puts into flight (R229, R248): the result, but for CMP, and the flags, both landing after one
cycle. -/
def aluFlights (x : Core) (op dd da : Nat) (b : AluArg) : List Flight :=
  let o := aluOp op (x.dReg da) (match b with | .reg n => x.dReg n | .imm w => w)
  (if op = 0x0B then [] else [⟨1, dd, .put o.r.toNat, 0⟩]) ++ [⟨1, 0x7F, .flags o.flags, if o.sat then 0x100 else 0⟩]

/-- A frame of the partner passes R358: its tag verifies, its counter is above the last, its T0 is one of those expected. -/
abbrev FrameFits (f : PairHead) (want : List Nat) (s : State) : Prop :=
  f.tagOk = true ∧ (∀ l, s.dev.hw.rdn.last = some l → l < f.counter.toNat) ∧
  (∀ o, s.dev.hw.rdn.off = some o → idxBy f.t0idx.toNat o ∈ want)

/-- A frame that the controller takes and that is no reference, no capability frame: it goes to the filters alone. -/
abbrev PlainFrame (c : Nat) (f : CanFrame) (s : State) : Prop :=
  Alive s ∧ s.dev.hw.canLive c = true ∧ (f.fdf = true → s.on (CAN_CTL_FDOE c) = true) ∧ s.on (CAN_CTL_NEGEN c) = false ∧
    (getBits (s.dev.hw.cn c).refid 31 1 ≠ b2n f.xtd ∨ getBits (s.dev.hw.cn c).refid 0 29 ≠ f.id.toNat) ∧ c < s.dev.hw.can.length

/-- Filter `j` is the first that matches. -/
abbrev FirstFilter (c : Nat) (f : CanFrame) (j : Nat) (s : State) : Prop :=
  j < 64 ∧ s.dev.hw.filterHit c f j = true ∧ ∀ i ∈ List.range j, s.dev.hw.filterHit c f i = false

/-- The words of object `n`, its bit of NEWDAT, the controller's counters and flags, the loss and holder registers. -/
def canRxRegs (c n : Nat) : List Nat :=
  [BLK_IRQ (PG_CAN c), CAN_ERR c, CAN_STAT c, CAN_LOST c, CAN_HOLD c, CAN_NEWDAT c (n / 32)] ++
    (List.range 20).map fun k => objAddr c n k

/-- The object of a controller that entered arbitration at the SOF. -/
abbrev CanSends (c n : Nat) (s : State) : Prop :=
  Alive s ∧ s.dev.hw.canLive c = true ∧ s.dev.hw.canSilent c = false ∧ s.on (CAN_OBJn_W3_TXRQ c n) = true ∧
    s.dev.hw.onBus c n = true ∧ c < s.dev.hw.can.length

/-- What a fail of object `n` changes. -/
def canTxRegs (c n : Nat) : List Nat :=
  [BLK_IRQ (PG_CAN c), CAN_OBJn_W3 c n, CAN_TXRQ c (n / 32), CAN_TXFAIL c (n / 32)]

/-- Object `n` has failed with `cause`. -/
abbrev CanFails (c n cause : Nat) (t : State) : Prop :=
  t.on (CAN_OBJn_W3_TXRQ c n) = false ∧ t.dev.hw.objBit (CAN_TXRQ c 0) n = false ∧ t.on (CAN_OBJn_W3_TXFAIL c n) = true ∧
    t.dev.hw.objBit (CAN_TXFAIL c 0) n = true ∧ t.rd (CAN_OBJn_W3_FAILCAUSE c n) = cause

/-- What the loss or gain of LINK at port `c` changes. -/
def linkRegs (c : Nat) : List Nat := [ETH_STAT c, ETH_TXCNT c, BLK_IRQ (PG_ETH c)]

/-- LINK stands while the PCS holds lock, no retraining runs and, with AUTO, the PHY reports link (R400, R401). -/
abbrev LinkRight (c : Nat) (s t : State) : Prop :=
  t.on (ETH_STAT_LINK c) = ((t.dev.hw.port c).pcs && (t.dev.hw.port c).retrain.isNone &&
    (s.dev.hw.ethF (ETH_CFG_AUTO c) = 0 || t.on (ETH_STAT_PHYLINK c)))

/-- A working port of the part. -/
abbrev PortRuns (c : Nat) (s : State) : Prop :=
  Alive s ∧ s.dev.hw.portLive c = true ∧ c < s.dev.hw.eth.port.length

/-- A frame the port accepts and gives to the receive ring (R402, R403). -/
abbrev RingFrame (c : Nat) (f : EthFrame) (s : State) : Prop :=
  PortRuns c s ∧ s.on (ETH_STAT_LINK c) = true ∧ f.fcsOk = true ∧ s.dev.hw.dstOk c f.dst = true ∧ f.etype.toNat ≠ 0x8808 ∧
    64 ≤ 14 + f.payload.length + 4 ∧ 14 + f.payload.length + 4 ≤ s.dev.hw.ethF (ETH_CFG_MTU c) ∧ f.etype.toNat ≠ s.dev.hw.ethF ⟨ETH_ETYPE c, 0, 16⟩ ∧
    f.etype.toNat ≠ s.rd RDN_HB2_ETH_ETYPE ∧ f.etype.toNat ≠ 0x88F7

/-- Connection `k` consumes frames of `cid`, the first that does. -/
abbrev Consumes (path k : Nat) (cid : BitVec 16) (s : State) : Prop :=
  Alive s ∧ s.dev.hw.connLive k = true ∧ s.on (SSE_Ck_CFG_DIR k) = false ∧ s.rd (SSE_Ck_CID_CID k) = cid.toNat ∧
    k < s.dev.hw.sse.length ∧ s.dev.hw.skoveHas path k = true ∧ ∀ j ∈ List.range k, (s.dev.hw.connLive j &&
      !s.on (SSE_Ck_CFG_DIR j) && decide (s.rd (SSE_Ck_CID_CID j) = cid.toNat) && s.dev.hw.skoveHas path j) = false

/-- The header a CRC covers. -/
def skoveHead (f : SkoveFrame) : List Byte :=
  leBytes 1 (1 + 16 * b2n f.subset) ++ leBytes 1 (f.payload.length / 4) ++ leBytes 2 f.cid.toNat ++
    leBytes 4 f.seq.toNat ++ leBytes 4 f.tstamp.toNat

/-- What reading a frame of connection `k` changes: on the CAN path its RX object, which is free again (R396). -/
def skoveRx (path : Fin 3) (k : Nat) (s : State) : List Nat :=
  let c := s.rd (SSE_Ck_CFG_CANCTL k)
  let n := s.rd (SSE_Ck_CID_CANOBJ k)
  if path.val = 2 then [CAN_OBJn_W3 c n, CAN_NEWDAT c (n / 32)] else []

/-- The registers of connection `k` that a frame can change, and those beside them. -/
def skoveRegs (k : Nat) : List Nat :=
  [SSE_Ck_STAT k, SSE_Ck_CNT0 k, SSE_Ck_CNT1 k, SSE_Ck_SEQ k, SSE_Ck_AGE k, SSE_PATH, SSE_WD_LO, SSE_WD_HI,
   SIS_SSWD_LO, SIS_SSWD_HI, BLK_IRQ PG_SSE]

/-- Agent `a` may write channel `n`. -/
abbrev Posts (a : Fin 8) (n : Nat) (s : State) : Prop := MayOperate (.agent a) PG_MLB (MLBn_CTL n) s

/-- The write is refused with bit `b` of MLB's fault register, and nothing else changes. -/
abbrev MlbRefused (b : Nat) (s t : State) : Prop :=
  t.dev.hw.bitAt (BLK_FAULT PG_MLB) b = true ∧ OnlyRegs [BLK_FAULT PG_MLB, BLK_IRQ PG_MLB] s t

/-- The registers a verdict changes. -/
def orderRegs : List Nat := [SEC_ORD_CTL, SEC_ORD_RES, SEC_ORD_NONCE, BLK_IRQ PG_SEC, BLK_FAULT PG_SEC]

/-- An order of type `t` is in work. -/
abbrev OrderRuns (t : Nat) (o : Order) (s : State) : Prop :=
  Alive s ∧ s.on SEC_ORD_CTL_BUSY = true ∧ s.on SEC_ORD_CTL_KIND = false ∧ o.typ = t

/-- The verdict `code` on an order of type `t` stands, with a nonce drawn anew and the interrupt. -/
abbrev Verdict (t code : Nat) (s u : State) (more : List Nat := []) : Prop :=
  (u.reg SEC_ORD_RES).toNat = 0x80000000 + 256 * t + code ∧ u.on SEC_ORD_CTL_BUSY = false ∧
    u.reg SEC_ORD_NONCE = Config.freeWord s.dev.hw.fresh ∧ u.dev.hw.bitAt (BLK_IRQ PG_SEC) 0 = true ∧
    (1 ≤ code → code ≤ 5 → u.dev.hw.bitAt (BLK_FAULT PG_SEC) 10 = true) ∧
    (∀ r, r ∉ orderRegs ++ more → u.reg r = s.reg r)

/-- The flash engine has a command of operation `op` before it. -/
abbrev FlashRuns (op : Nat) (s : State) : Prop :=
  Alive s ∧ s.on XSP_CMD_BUSY = true ∧ s.dev.hw.xsp.job.op = op ∧ s.dev.hw.xsp.work = none ∧ s.dev.hw.running PG_XSP = true

/-- Flash address, buffer and length of the command as of its GO; the size of the flash. -/
def State.faddr (s : State) : Nat := s.dev.hw.xsp.job.faddr

def State.fbuf (s : State) : Nat := s.dev.hw.xsp.job.buf

def State.flen (s : State) : Nat := s.dev.hw.xsp.job.len

def State.fsize (s : State) : Nat := s.rd XSP_SIZE_MIB * 1048576

/-- A buffer in the shared SRAM and a range of the flash, aligned as R481 asks. -/
abbrev TransferFits (s : State) : Prop :=
  s.faddr % 4 = 0 ∧ s.fbuf % 4 = 0 ∧ s.flen % 4 = 0 ∧ 4 ≤ s.flen ∧ s.flen ≤ 65536 ∧ s.faddr + s.flen ≤ s.fsize ∧
    0x20000000 ≤ s.fbuf ∧ s.fbuf + s.flen ≤ 0x20400000

/-- The engine has worked the command, with result code `c`, and has not published it. -/
abbrev Worked (c : Nat) (t : State) : Prop := t.dev.hw.xsp.work = some c ∧ t.on XSP_CMD_BUSY = true

/-- HSP answers the host: it is enabled, agents run, no parking is under way. -/
abbrev HostAnswered (s : State) : Prop :=
  s.dev.hw.fabricOn = true ∧ s.on (BLK_CTL_EN PG_HSP) = true ∧ s.dev.hw.cpr.parking = false

/-- And neither agent 7 nor the block is held. -/
abbrev HostServed (s : State) : Prop :=
  HostAnswered s ∧ bit (s.rd CPR_AGT_RST_AGT) 6 = false ∧ s.dev.hw.bolted PG_HSP = false

end Sys2Proof.Machine

open Sys2Proof Sys2Proof.Machine

/-! ## The step and the queue -/

/-- A step carries out the command at the front of the queue on the state with the queue's rest. -/
def Obligations.StepRunsTheFrontCommand : Prop :=
  ∀ (c : Instr) (q : List Instr) (s : State), step { s with pending := c :: q } = exec c { s with pending := q }

/-- The model's choice (log entry 1): with no command waiting the block idles. -/
def Obligations.IdleStep : Prop := ∀ s : State, s.pending = [] → step s = .next s

/-- Every command ends in a next state: no fault, no refusal, and the queue of waiting commands is as it was. -/
def Obligations.EveryCommandEnds : Prop := ∀ (c : Instr) (s : State), Ends c s fun _ => True

/-- Every command whose row stores nothing in a memory leaves every byte as it was. -/
def Obligations.MemoryFrame : Prop :=
  ∀ (c : Instr) (s t : State), c.stores = false → exec c s = .next t →
    ∀ a, memRead t.dev.mem a = memRead s.dev.mem a

/-- The state after reset is in the form that every state keeps. -/
def Obligations.ResetInv : Prop := State.reset.Inv

/-- Every step keeps memory canonical: addresses rise, and no byte is listed that reads as if nothing had written it. -/
def Obligations.StepKeepsInv : Prop := ∀ s t : State, s.Inv → step s = .next t → t.Inv

/-- The state after reset (R38, R99; which boot the model starts from is log entry 2): no command waits, the mode is BOOT,
no fault is current, every safe output is de-energised, and every register but those of the straps, the clocks, the mode
and the axis types holds the reset value of its page's table. -/
def Obligations.ResetState : Prop :=
  State.reset.pending = [] ∧ State.reset.rd SIS_MODE_CUR = 2 ∧ State.reset.rd SIS_OUT_STAT_OUT = 0 ∧
  NoFault State.reset ∧
  ∀ a, a ∉ resetRegs.map Prod.fst → State.reset.reg a = regReset a

/-! ## Resets, supplies, start-up (R71 to R79, R87, R461) -/

/-- Cold resets (R62, R71, R104): from any mode except OFF a supply monitor's trip, nRESET low and the keyway's reset
lead to RESET, with their cause, every block at reset, and the operating time kept; in OFF the device stays OFF. A
power-on reset leaves the device OFF, with every register of the blocks at reset; SUPPLY_GOOD takes it to RESET. A
warm reset: only agent 0, with WARM and the KEY, and outside a reset; the straps are kept. -/
def Obligations.Resets : Prop :=
  ((∀ m s, s.rd SIS_MODE_CUR ≠ 0 → Ends (.supplyMonitorTrip m) s fun t =>
    t.rd SIS_MODE_CUR = 1 ∧ t.rd CPR_RST_CAUSE_SUPMON = 1 ∧ t.dev.hw.bitAt CPR_SUPMON m.val = true ∧
    t.reg CPR_OPTIME_LO = s.reg CPR_OPTIME_LO ∧ t.reg CPR_OPTIME_HI = s.reg CPR_OPTIME_HI ∧
    AtReset [PG_CPR, PG_SIS, PG_REC] t) ∧
  (∀ m s, s.rd SIS_MODE_CUR = 0 → Ends (.supplyMonitorTrip m) s fun t =>
    t.rd SIS_MODE_CUR = 0 ∧ t.dev.hw.bitAt CPR_SUPMON m.val = true ∧ t.dev.hw.cpr.supplies = false ∧
    OnlyRegs [CPR_SUPMON, BLK_IRQ PG_CPR] s t) ∧
  (∀ s, s.rd SIS_MODE_CUR ≠ 0 → Ends .nresetAssert s fun t =>
    t.rd SIS_MODE_CUR = 1 ∧ t.rd CPR_RST_CAUSE_NRST = 1 ∧ t.dev.hw.cpr.nreset = true ∧
    t.reg CPR_OPTIME_LO = s.reg CPR_OPTIME_LO ∧ t.reg CPR_OPTIME_HI = s.reg CPR_OPTIME_HI ∧
    AtReset [PG_CPR, PG_SIS, PG_REC] t) ∧
  (∀ s, s.rd SIS_MODE_CUR = 0 → Ends .nresetAssert s fun t => t.dev.hw.cpr.nreset = true ∧ OnlyRegs [] s t) ∧
  (∀ s, s.dev.hw.perm 3 = true → Ends .keywayReset s fun t =>
    t.rd SIS_MODE_CUR = 1 ∧ t.rd CPR_RST_CAUSE_KEYWAY = 1 ∧
    t.reg CPR_OPTIME_LO = s.reg CPR_OPTIME_LO ∧ t.reg CPR_OPTIME_HI = s.reg CPR_OPTIME_HI ∧
    AtReset [PG_CPR, PG_SIS, PG_REC] t) ∧
  (∀ s, s.dev.hw.perm 3 = false → Ends .keywayReset s fun t => OnlyRegs [] s t)) ∧
  ((∀ s, Ends .powerOnReset s fun t =>
    t.rd SIS_MODE_CUR = 0 ∧ t.dev.hw.cpr.supplies = false ∧
    AtReset [PG_CPR, PG_SIS, PG_REC] t) ∧
  (∀ s, s.rd SIS_MODE_CUR = 0 → Ends .supplyGood s fun t =>
    t.rd SIS_MODE_CUR = 1 ∧ t.dev.hw.cpr.supplies = true ∧ OnlyRegs [SIS_MODE] s t) ∧
  (∀ s, s.rd SIS_MODE_CUR ≠ 0 → Ends .supplyGood s fun t => t.dev.hw.cpr.supplies = true ∧ OnlyRegs [] s t)) ∧
  ((∀ s w, Reaches (.agent 0) CPR_RST_REQ s → getBits w 0 1 = 1 → getBits w 16 16 = 0xA5C3 →
    s.dev.hw.cpr.inReset = false → s.rd CPR_WIPE_STAT_FAIL = 0 → Ends (.warmResetRequest (.agent 0) w) s fun t =>
      t.rd SIS_MODE_CUR = 1 ∧ t.rd CPR_RST_CAUSE_WARM = 1 ∧ t.reg CPR_STRAP = s.reg CPR_STRAP ∧
      AtReset [PG_CPR, PG_SIS, PG_REC] t) ∧
  (∀ s w, Reaches (.agent 0) CPR_RST_REQ s → getBits w 16 16 ≠ 0xA5C3 →
    Ends (.warmResetRequest (.agent 0) w) s fun t =>
      t.dev.hw.bitAt (BLK_FAULT PG_CPR) 9 = true ∧ OnlyRegs [BLK_FAULT PG_CPR, BLK_IRQ PG_CPR] s t) ∧
  (∀ s who w, Reaches who CPR_RST_REQ s → who ≠ .agent 0 → Ends (.warmResetRequest who w) s fun t =>
      t.dev.hw.bitAt (BLK_FAULT PG_CPR) 8 = true ∧ OnlyRegs [BLK_FAULT PG_CPR, BLK_IRQ PG_CPR] s t))

/-- The hold time of nRESET in whole 1/16 s (R89), HELD for more than 3 s (R73); the start of the boot ROM once the
supplies are good and nRESET is high, with the straps sampled after a cold reset alone and the SIS TCM wiped first
(R76, R77, R79). The wipe ends (R77, R78): BUSY clears, each memory shows DONE or FAIL; the memories that read back
as zero hold what an unwritten byte reads as, and no byte outside the wiped memories changes where none failed.
BOOT_COMPLETE without a life-cycle transition under way (R461): the flash's opcodes, latency and size stand in XSP;
a device whose OTP does not read, whose life cycle is TEST or an end, or whose role strap is no role enters
PROVISION; every other enters PROVISION, READY or DEADBOLT. The watchdog is armed. -/
def Obligations.StartUp : Prop :=
  ((∀ ms s, s.dev.hw.cpr.nreset = true → Ends (.nresetRelease ms) s fun t =>
    t.rd CPR_RST_HOLD_HOLD_T = min (ms * 16 / 1000) 0xFFFFFF ∧ t.dev.hw.cpr.nreset = false ∧
    t.rd CPR_RST_CAUSE_HELD = (if 3000 < ms then 1 else s.rd CPR_RST_CAUSE_HELD) ∧
    OnlyRegs [CPR_RST_HOLD, CPR_RST_CAUSE] s t) ∧
  (∀ role unitB tcmOk s, s.rd SIS_MODE_CUR = 1 → s.dev.hw.cpr.supplies = true → s.dev.hw.cpr.nreset = false →
    Ends (.resetRelease role unitB tcmOk) s fun t =>
      t.rd SIS_MODE_CUR = 2 ∧
      t.rd CPR_STRAP_ROLE = (if s.dev.hw.cpr.cold then role.val else s.rd CPR_STRAP_ROLE) ∧
      t.rd CPR_STRAP_UNIT_AB = (if s.dev.hw.cpr.cold then b2n unitB else s.rd CPR_STRAP_UNIT_AB) ∧
      t.rd CPR_CLK_STAT_REF_OK = 1 ∧ t.rd CPR_CLK_STAT_LOCK = 15 ∧
      t.dev.hw.bitAt CPR_WIPE_STAT (if tcmOk then 5 else 21) = true ∧
      (tcmOk = true → ∀ a, 0x10000000 ≤ a → a < 0x10040000 → memRead t.dev.mem a = memDefault a) ∧
      (∀ a, (a < 0x10000000 ∨ 0x10040000 ≤ a) → memRead t.dev.mem a = memRead s.dev.mem a))) ∧
  (∀ failed s, s.rd SIS_MODE_CUR = 2 → s.on CPR_WIPE_STAT_BUSY = true → s.dev.hw.cpr.wipeWait = [] →
    Ends (.wipeComplete failed) s fun t =>
    t.rd CPR_WIPE_STAT_BUSY = 0 ∧ t.dev.hw.cpr.inReset = false ∧
    (∀ i : Fin 5, t.dev.hw.bitAt CPR_WIPE_STAT (16 + i.val) =
      (s.dev.hw.bitAt CPR_WIPE_STAT (16 + i.val) || bit failed.toNat i.val)) ∧
    (∀ i : Fin 5, t.dev.hw.bitAt CPR_WIPE_STAT i.val = (s.dev.hw.bitAt CPR_WIPE_STAT i.val || !bit failed.toNat i.val)) ∧
    (∀ i : Fin 5, bit failed.toNat i.val = false → ∀ r ∈ wipeRanges i.val, ∀ a, r.1 ≤ a → a < r.2 →
      memRead t.dev.mem a = memDefault a) ∧
    (failed = 0 → ∀ a, (∀ i : Fin 5, ∀ r ∈ wipeRanges i.val, a < r.1 ∨ r.2 ≤ a) →
      memRead t.dev.mem a = memRead s.dev.mem a)) ∧
  (∀ found s, s.rd SIS_MODE_CUR = 2 → s.on CPR_WIPE_STAT_BUSY = false → s.rd CPR_WIPE_STAT_DONE = 63 →
    s.rd CPR_WIPE_STAT_FAIL = 0 → s.dev.hw.otp.pending = none → Ends (.bootComplete found) s fun t =>
      (t.rd SIS_MODE_CUR = 0xD ∨ t.rd SIS_MODE_CUR = 4 ∨ t.rd SIS_MODE_CUR = 0xC) ∧
      (found.otpOk = false ∨ s.dev.hw.otp.lc = 0 ∨ 3 ≤ s.dev.hw.otp.lc ∨ s.rd CPR_STRAP_ROLE = 0 ∨
        s.rd CPR_STRAP_ROLE = 3 → t.rd SIS_MODE_CUR = 0xD) ∧
      t.reg XSP_OPC = found.opcodes ∧ t.dev.hw.sis.wdgOn = true)

/-! ## Clocks, operating time, agents (R60, R61, R63, R80, R88, R91, R93) -/

/-- The monitor of a running clock that trips (R60): its TRIP bit and CPR's clock interrupt; in the SAF domain a fault
in fault handling, in the others a fault of the class of R340, current where none was. REFLOSS trips every
PLL-derived domain; XTALFAIL is of class INFO. CPR_CLK_DIV takes APP_DIV (R61, R93); CPR_CLK_EN sets the domains
asked for, and clears one only where every block of it is absent, QUIET or BOLTED, otherwise CLKSEQ (R91). The
operating time counts on by one, in 48 bits; it can be written forward once, before the agents are released (R63).
Agent 0 holds agents in reset and releases them (R80, R88): as it asks; in PROVISION the TCE cores stay held (R108),
after a failed wipe every one (R78). -/
def Obligations.ClocksAndAgents : Prop :=
  ((∀ dom s, dom.val ≠ 0 → dom.val ≠ 1 → bit (s.rd CPR_CLK_STAT_RUN) dom.val = true →
    bit (s.rd CPR_CLKMON_TRIP) dom.val = false → NoFault s →
    Ends (.clockMonitorTrip dom) s fun t =>
      t.rd CPR_CLKMON_TRIP = setBitN (s.rd CPR_CLKMON_TRIP) dom.val true ∧ t.dev.hw.bitAt (BLK_IRQ PG_CPR) 1 = true ∧
      FaultIs (tripClass dom.val) PG_CPR dom.val t ∧ OnlyRegsAndFaults [CPR_CLKMON, BLK_IRQ PG_CPR] s t) ∧
  (∀ s, Ends .refloss s fun t =>
      t.rd CPR_CLKMON_REFLOSS = 1 ∧ t.rd CPR_CLKMON_TRIP = 0x1FE ∧ t.rd CPR_CLK_STAT_REF_OK = 0 ∧
      t.dev.hw.alive = false ∧ SameMem s t) ∧
  (∀ s, s.on CPR_CLKMON_XTALFAIL = false → NoFault s → Ends .xtalfail s fun t =>
      t.rd CPR_CLKMON_XTALFAIL = 1 ∧ t.rd CPR_CLK_STAT_XTAL_OK = 0 ∧ t.dev.hw.bitAt (BLK_IRQ PG_CPR) 1 = true ∧
      FaultIs 0 PG_CPR 17 t ∧ OnlyRegsAndFaults [CPR_CLKMON, CPR_CLK_STAT, BLK_IRQ PG_CPR] s t)) ∧
  ((∀ who w s, MayConfigure who PG_CPR CPR_CLK_DIV s → Ends (.appDividerChange who w) s fun t =>
      t.rd CPR_CLK_DIV_APP_DIV = getBits w 0 2 ∧ OnlyRegs [CPR_CLK_DIV] s t) ∧
  (∀ w s, Reaches (.agent 0) CPR_CLK_EN s → Ends (.clockDomainEnable (.agent 0) w) s fun t =>
      (∀ dom ∈ [2, 3, 6, 7], t.dev.hw.bitAt CPR_CLK_EN dom =
        (bit w.toNat dom || (s.dev.hw.bitAt CPR_CLK_EN dom &&
          !(domainPages dom).all fun p => s.dev.hw.absent p || s.dev.hw.quiet p || s.dev.hw.bolted p))) ∧
      OnlyRegs [CPR_CLK_EN, CPR_CLK_STAT, BLK_FAULT PG_CPR, BLK_IRQ PG_CPR] s t) ∧
  (∀ who w s, Reaches who CPR_CLK_EN s → who ≠ .agent 0 → Ends (.clockDomainEnable who w) s fun t =>
      t.dev.hw.bitAt (BLK_FAULT PG_CPR) 8 = true ∧ OnlyRegs [BLK_FAULT PG_CPR, BLK_IRQ PG_CPR] s t)) ∧
  ((∀ s, Ends .optimeStep s fun t =>
      t.dev.hw.opTime = (s.dev.hw.opTime + 1) % 2 ^ 48 ∧ OnlyRegs [CPR_OPTIME_LO, CPR_OPTIME_HI] s t) ∧
  (∀ a hi lo s, MayOperate (.agent a) PG_CPR CPR_OPTIME_HI s → s.dev.hw.cpr.optSpent = false → s.dev.hw.cpr.agtWritten = false →
    holderOf s.dev.hw.hdr.wrHold a.val CPR_OPTIME_LO = some lo →
    s.dev.hw.opTime ≤ lo.toNat + 4294967296 * getBits hi 0 16 → Ends (.optimeWrite (.agent a) hi) s fun t =>
      t.dev.hw.opTime = lo.toNat + 4294967296 * getBits hi 0 16 ∧ t.dev.hw.cpr.optSpent = true ∧
      OnlyRegs [CPR_OPTIME_LO, CPR_OPTIME_HI] s t) ∧
  (∀ who hi s, MayOperate who PG_CPR CPR_OPTIME_HI s → (s.dev.hw.cpr.optSpent = true ∨ s.dev.hw.cpr.agtWritten = true) →
    Ends (.optimeWrite who hi) s fun t => OnlyRegs [] s t)) ∧
  ((∀ w s, Reaches (.agent 0) CPR_AGT_RST s → Ends (.agentResetWrite (.agent 0) w) s fun t =>
      (s.rd CPR_WIPE_STAT_FAIL = 0 → s.rd SIS_MODE_CUR ≠ 0xD → t.rd CPR_AGT_RST_AGT = getBits w 1 7) ∧
      (s.rd CPR_WIPE_STAT_FAIL = 0 → s.rd SIS_MODE_CUR = 0xD → t.rd CPR_AGT_RST_AGT = getBits w 1 7 ||| 0x30) ∧
      (s.rd CPR_WIPE_STAT_FAIL ≠ 0 → t.rd CPR_AGT_RST_AGT = 127) ∧ t.dev.hw.cpr.agtWritten = true ∧ SameMem s t) ∧
  (∀ who w s, Reaches who CPR_AGT_RST s → who ≠ .agent 0 → Ends (.agentResetWrite who w) s fun t =>
      t.rd CPR_AGT_RST_AGT = s.rd CPR_AGT_RST_AGT ∧ t.dev.hw.bitAt (BLK_FAULT PG_CPR) 8 = true ∧
      OnlyRegs [BLK_FAULT PG_CPR, BLK_IRQ PG_CPR] s t))

/-! ## PARKED (R64 to R70) -/

/-- Entry to PARKED: a request in READY starts it, every block that may still work is asked to be quiet (R64), it
completes with the outputs off and the clocks stopped (R65, R67), or times out and rolls back (R64, R95). A wake
source counts where CPR_WAKE_EN enables it: in PARKED it starts the wake, WAKE_SRC records it; a CAN controller's RX
counts under CANRX in place of the wake balls, an input where it differs from its snapshot (R68). The parked watch
wakes on movement above LIMIT, on a changed door-zone input and on its timer (R68, R70). The wake completes (R69):
READY, the outputs handed back, the clocks running as CPR_CLK_EN has them, PLL_N where NET is on; one by movement
while PARKED is a fault PARKMOVE of class DEADBOLT (R343). -/
def Obligations.Parking : Prop :=
  ((∀ w s, Reaches (.agent 0) CPR_PARK s → getBits w 0 1 = 1 → s.rd SIS_MODE_CUR = 4 → s.dev.hw.cpr.parking = false →
    Ends (.parkRequest (.agent 0) w) s fun t =>
      t.rd CPR_PARK_REQ = 1 ∧ t.dev.hw.cpr.parking = true ∧
      (∀ p ∈ allPages, ctlFixed p = false → s.dev.hw.absent p = false → t.on (BLK_CTL_QREQ p) = true) ∧
      (t.dev.hw.allQuiet = true → t.dev.hw.cpr.parkAt = true ∧ t.dev.hw.cpr.dinSnap = s.dev.hw.cpr.din ∧
        ∀ p ∈ allPages, s.rd (BLK_HINGE_POINT p) ≠ 0 → t.rd (BLK_STAT_HPEND p) = 0) ∧ SameMem s t) ∧
  (∀ s, s.dev.hw.cpr.clocksDead = false → s.dev.hw.cpr.parking = true → s.dev.hw.cpr.parkAt = true → s.dev.hw.allQuiet = true →
    s.rd SIS_MODE_CUR = 4 → Ends .parkEntryComplete s fun t =>
      t.rd SIS_MODE_CUR = 3 ∧ t.rd SIS_OUT_STAT_OUT = 0 ∧ t.rd CPR_PARK_REQ = 0 ∧ t.rd CPR_CLK_STAT_RUN = 1 ∧
      t.rd CPR_CLK_STAT_LOCK = 0 ∧
      t.reg CPR_PW_STAT = s.reg CPR_PW_STAT ∧ t.dev.hw.cpr.aonHold = true ∧ t.dev.hw.alive = false ∧ SameMem s t) ∧
  (∀ s, s.dev.hw.cpr.clocksDead = false → s.dev.hw.cpr.parking = true → Ends .parkEntryTimeout s fun t =>
      t.rd CPR_PARK_ABORT = 1 ∧ t.rd CPR_PARK_TMO = 1 ∧ t.rd CPR_PARK_REQ = 0 ∧ t.dev.hw.cpr.parking = false ∧
      t.rd SIS_MODE_CUR = s.rd SIS_MODE_CUR ∧ SameMem s t)) ∧
  ((∀ (sources : BitVec 9) (rx : BitVec 2) m s,
    m = (if s.on CPR_WAKE_EN_CANRX = true then rx.toNat else sources.toNat % 4) +
      (sources.toNat &&& (if s.dev.hw.dinMoved = true then 0x19C else 0x18C)) →
    m &&& s.rd CPR_WAKE_EN_SRC &&& 0x1F7 ≠ 0 → s.dev.hw.cpr.clocksDead = false → s.dev.hw.cpr.parking = false → s.rd SIS_MODE_CUR = 3 →
    Ends (.wakeRecognised sources rx) s fun t =>
      t.dev.hw.cpr.waking = true ∧
      t.rd CPR_WAKE_SRC_SRC &&& 0x1F7 = (s.rd CPR_WAKE_SRC_SRC ||| (m &&& s.rd CPR_WAKE_EN_SRC)) &&& 0x1F7 ∧
      OnlyRegs [CPR_WAKE_SRC] s t) ∧
  (∀ (sources : BitVec 9) (rx : BitVec 2) s,
    ((if s.on CPR_WAKE_EN_CANRX = true then rx.toNat else sources.toNat % 4) +
      (sources.toNat &&& (if s.dev.hw.dinMoved = true then 0x19C else 0x18C))) &&& s.rd CPR_WAKE_EN_SRC = 0 →
    Ends (.wakeRecognised sources rx) s fun t => t = s) ∧
  (∀ dz s, s.rd SIS_MODE_CUR = 3 → s.on CPR_PW_CFG_EN = true → bit (s.rd CPR_WAKE_EN_SRC) 5 = true →
    s.dev.hw.cpr.parking = false →
    Ends (.parkedWatchMove dz) s fun t =>
      (s.rd CPR_PW_CFG_LIMIT < s.rd CPR_PW_STAT_MOVED → t.rd CPR_PW_STAT_MOVE = 1 ∧ t.dev.hw.cpr.waking = true) ∧
      (dz = true → s.on CPR_PW_CFG_DZ_EN = true →
        bit s.dev.hw.cpr.din (s.rd CPR_PW_CFG_DZ_IDX) ≠ bit s.dev.hw.cpr.dinSnap (s.rd CPR_PW_CFG_DZ_IDX) →
        t.rd CPR_PW_STAT_DZ = 1 ∧ t.dev.hw.cpr.waking = true) ∧
      OnlyRegs [CPR_PW_STAT, CPR_WAKE_SRC] s t) ∧
  (∀ s, s.rd SIS_MODE_CUR = 3 → s.on CPR_PW_CFG_EN = true → s.rd CPR_PW_CFG_PERIOD ≠ 0 →
    s.dev.hw.cpr.clocksDead = false → s.dev.hw.cpr.parking = false → Ends .parkedWatchTimer s fun t =>
      t.rd CPR_PW_STAT_TIMER = 1 ∧ (bit (s.rd CPR_WAKE_EN_SRC) 6 = true → t.dev.hw.cpr.waking = true) ∧
      OnlyRegs [CPR_PW_STAT, CPR_WAKE_SRC] s t)) ∧
  ((∀ s, s.rd SIS_MODE_CUR = 3 → s.dev.hw.cpr.waking = true → s.dev.hw.cpr.clocksDead = false → Ends .wakeComplete s fun t =>
      t.rd SIS_MODE_CUR = 4 ∧ t.dev.hw.cpr.waking = false ∧ t.dev.hw.cpr.aonHold = false ∧
      t.rd CPR_CLK_STAT_RUN = getBits (s.reg CPR_CLK_EN) 0 9 ∧
      t.rd CPR_CLK_STAT_LOCK = 7 + 8 * s.rd CPR_CLK_EN_NET ∧ t.dev.hw.bitAt (BLK_IRQ PG_CPR) 0 = true ∧ SameMem s t) ∧
  (∀ s, s.rd SIS_MODE_CUR = 3 → s.dev.hw.cpr.waking = true → s.dev.hw.cpr.clocksDead = false → bit s.dev.hw.cpr.wakeBy 5 = true →
    s.on CPR_PW_STAT_MOVE = true → NoFault s → Ends .wakeComplete s fun t => FaultIs 5 PG_CPR 31 t) ∧
  (∀ s, ¬(s.rd SIS_MODE_CUR = 3 ∧ s.dev.hw.cpr.waking = true) → Ends .wakeComplete s fun t => OnlyRegs [] s t))

/-! ## The common page (R42 to R56) -/

/-- EN = 1 and QREQ = 0 let a block run that is neither asked to be quiet nor bolted (R55); EN = 0 of a quiet block
stops it, of a running one waits for its quiesce. BOLT is accepted where the block is QUIET with the Ward's grant,
otherwise BOLTSEQ (R55); BOLT = 0 ends the isolation unless a run is busy (R502); SRST resets a QUIET or BOLTED
block's page but not its message memory, otherwise SRSTSEQ (R56). A header write where no block sits is a bus error
(R29, R33); LOCK and SISONLY only set (R48); under either, another agent's configuration write is refused with LOCKW
(R48, R54). -/
def Obligations.BlockControl : Prop :=
  ((∀ who (p : Fin 41) s, isPage p.val = true → MayConfigure who p.val (BLK_CTL p.val) s →
    Ends (.blkEnable who p) s fun t =>
      t.on (BLK_CTL_EN p.val) = true ∧
      (s.on (BLK_CTL_EN p.val) = false → s.on (BLK_CTL_QREQ p.val) = false → s.dev.hw.bolted p.val = false →
        t.on (BLK_STAT_QUIET p.val) = false ∧ (startsAtOnce p.val = true → t.on (BLK_STAT_RUN p.val) = true)) ∧
      OnlyRegs (runRegs p.val) s t) ∧
  (∀ who (p : Fin 41) s, isPage p.val = true → ctlFixed p.val = false → MayConfigure who p.val (BLK_CTL p.val) s →
    s.on (BLK_CTL_EN p.val) = true → Ends (.blkDisable who p) s fun t =>
      (s.dev.hw.quiet p.val = true → t.on (BLK_CTL_EN p.val) = false ∧ t.on (BLK_STAT_RUN p.val) = false) ∧
      (s.dev.hw.quiet p.val = false → t.on (BLK_CTL_EN p.val) = true ∧ p.val ∈ t.dev.hw.hdr.disabling) ∧
      OnlyRegs [BLK_CTL p.val, BLK_STAT p.val] s t) ∧
  (∀ who (p : Fin 41) s, isPage p.val = true → ctlFixed p.val = false → MayConfigure who p.val (BLK_CTL p.val) s →
    Ends (.blkQuiesceRequest who p) s fun t =>
      t.on (BLK_CTL_QREQ p.val) = true ∧ OnlyRegs [BLK_CTL p.val] s t) ∧
  (∀ who (p : Fin 41) s, isPage p.val = true → ctlFixed p.val = false → MayConfigure who p.val (BLK_CTL p.val) s →
    s.on (BLK_CTL_QREQ p.val) = true → s.on (BLK_TEST_BUSY p.val) = false →
    Ends (.blkQuiesceRelease who p) s fun t =>
      t.on (BLK_CTL_QREQ p.val) = false ∧
      (s.on (BLK_CTL_EN p.val) = true → s.dev.hw.bolted p.val = false → t.on (BLK_STAT_QUIET p.val) = false) ∧
      OnlyRegs (runRegs p.val) s t) ∧
  (∀ (p : Fin 41) s, isPage p.val = true → Alive s → s.on (BLK_CTL_EN p.val) = true →
    s.on (BLK_CTL_QREQ p.val) = true → s.dev.hw.tst.stage ≠ .quiet → s.dev.hw.cpr.parking = false →
    Ends (.blkQuiet p) s fun t =>
      t.on (BLK_STAT_QUIET p.val) = true ∧ t.on (BLK_STAT_RUN p.val) = false ∧ OnlyRegs (runRegs p.val) s t)) ∧
  ((∀ who (p : Fin 41) s, isPage p.val = true → boltable p.val = true → MayConfigure who p.val (BLK_CTL p.val) s →
    s.dev.hw.bolted p.val = false → s.dev.hw.quiet p.val = true → s.dev.hw.boltGrant p.val = true →
    Ends (.blkBolt who p) s fun t =>
      t.on (BLK_CTL_BOLT p.val) = true ∧ t.on (BLK_STAT_BOLTED p.val) = true ∧ t.on (BLK_STAT_RUN p.val) = false ∧
      SameMem s t) ∧
  (∀ who (p : Fin 41) s, isPage p.val = true → p.val ∉ [PG_CPR, PG_SEC, PG_SIS] →
    MayConfigure who p.val (BLK_CTL p.val) s → s.dev.hw.bolted p.val = false →
    (s.dev.hw.quiet p.val = false ∨ s.dev.hw.boltGrant p.val = false) → Ends (.blkBolt who p) s fun t =>
      t.on (BLK_FAULT_BOLTSEQ p.val) = true ∧ OnlyRegs [BLK_FAULT p.val, BLK_IRQ p.val] s t) ∧
  (∀ who (p : Fin 41) s, isPage p.val = true → MayConfigure who p.val (BLK_CTL p.val) s →
    s.dev.hw.bolted p.val = true → s.on (BLK_TEST_BUSY p.val) = false →
    (s.on (BLK_CTL_EN p.val) = false ∨ s.rd (BLK_HINGE_POINT p.val) ≠ 0) → Ends (.blkUnbolt who p) s fun t =>
      t.on (BLK_CTL_BOLT p.val) = false ∧ t.on (BLK_STAT_BOLTED p.val) = false ∧ SameMem s t) ∧
  (∀ who (p : Fin 41) s, isPage p.val = true → MayConfigure who p.val (BLK_CTL p.val) s →
    s.dev.hw.bolted p.val = true → s.on (BLK_TEST_BUSY p.val) = true → Ends (.blkUnbolt who p) s fun t =>
      t.on (BLK_FAULT_BOLTSEQ p.val) = true ∧ OnlyRegs [BLK_FAULT p.val, BLK_IRQ p.val] s t) ∧
  (∀ who (p : Fin 41) s, isPage p.val = true → p.val ∉ [PG_CPR, PG_SEC, PG_PRF, PG_PST] → enResets p.val = false →
    MayConfigure who p.val (BLK_CTL p.val) s → s.on (BLK_TEST_BUSY p.val) = false → s.dev.hw.quiet p.val = true →
    (∀ c, c < 2 → p.val = PG_TCE c → bit (s.rd CPR_AGT_RST_AGT) (4 + c) = true) →
    (p.val = PG_RDN → s.on RDN_KEY_HELD = false) → (∀ c, c < 4 → p.val = PG_CAN c → s.dev.hw.noKey = false) →
    Ends (.blkSoftReset who p) s fun t =>
      (∀ a, pageOf a = p.val → canMemory a = false → t.reg a = regReset a) ∧
      (∀ a, canMemory a = true → t.reg a = s.reg a) ∧ SameMem s t) ∧
  (∀ who (p : Fin 41) s, isPage p.val = true → ctlFixed p.val = false → MayConfigure who p.val (BLK_CTL p.val) s →
    s.on (BLK_TEST_BUSY p.val) = false → s.dev.hw.quiet p.val = false → s.dev.hw.bolted p.val = false →
    Ends (.blkSoftReset who p) s fun t =>
      t.on (BLK_FAULT_SRSTSEQ p.val) = true ∧ OnlyRegs [BLK_FAULT p.val, BLK_IRQ p.val] s t)) ∧
  ((∀ who (p : Fin 41) s, isPage p.val = false → Reaches who (BLK_CTL p.val) s → Ends (.blkEnable who p) s fun t =>
      t.dev.hw.reply.err = true ∧ OnlyRegs [] s t) ∧
  (∀ who (p : Fin 41) w s, isPage p.val = true → MayOperate who p.val (BLK_LOCK p.val) s →
    Ends (.blkLockWrite who p w) s fun t =>
      t.on (BLK_LOCK_LOCK p.val) = (s.on (BLK_LOCK_LOCK p.val) || w.getLsbD 0) ∧
      t.on (BLK_LOCK_SISONLY p.val) = (s.on (BLK_LOCK_SISONLY p.val) || w.getLsbD 1) ∧
      OnlyRegs [BLK_LOCK p.val] s t) ∧
  (∀ who (p : Fin 41) w s, isPage p.val = true → Reaches who (BLK_HINGE p.val) s → s.dev.hw.absent p.val = false →
    who ≠ .agent 0 → (s.on (BLK_LOCK_LOCK p.val) = true ∨ s.on (BLK_LOCK_SISONLY p.val) = true) →
    Ends (.hingeSwapRequest who p w) s fun t =>
      t.on (BLK_FAULT_LOCKW p.val) = true ∧ t.on (BLK_IRQ_FLT p.val) = true ∧
      OnlyRegs [BLK_FAULT p.val, BLK_IRQ p.val] s t) ∧
  (∀ who (p : Fin 41) w s, isPage p.val = true → Reaches who (BLK_LOCK p.val) s → s.dev.hw.absent p.val = true →
    Ends (.blkLockWrite who p w) s fun t => OnlyRegs [] s t))

/-! ## The hinge swap (R46, R51 to R53, R97) -/

/-- A write of BLK_HINGE sets POINT, SYNC and GROUP and makes a swap pending (R46); while one is pending only CANCEL
does anything, and a second request is refused with HREJ (R53). SIS swaps at the position-cycle T0 alone. A swap
(R51): every swapped register of the page exchanges with its shadow, HINGE_CNT counts, HPEND clears and HDONE sets
at once without SYNC; the registers of other pages stand; said of HSP, whose one register takes effect where it is
valid. A swap that is not pending does nothing. Under SYNC the active registers are copied to the shadows before
HDONE (R52). A fire of groups swaps the pages that wait for them alone (R97). -/
def Obligations.Hinge : Prop :=
  ((∀ who (p : Fin 41) w s, isPage p.val = true → MayConfigure who p.val (BLK_HINGE p.val) s →
    s.on (BLK_STAT_HPEND p.val) = false → w.getLsbD 0 = true → w.getLsbD 8 = false →
    Ends (.hingeSwapRequest who p w) s fun t =>
      t.on (BLK_STAT_HPEND p.val) = true ∧
      t.rd (BLK_HINGE_POINT p.val) = (if p.val = PG_SIS then 2 else getBits w 1 2) ∧
      t.on (BLK_HINGE_SYNC p.val) = w.getLsbD 3 ∧ t.rd (BLK_HINGE_GROUP p.val) = getBits w 4 2 ∧
      OnlyRegs [BLK_HINGE p.val, BLK_STAT p.val] s t) ∧
  (∀ who (p : Fin 41) w s, isPage p.val = true → MayConfigure who p.val (BLK_HINGE p.val) s →
    s.on (BLK_STAT_HPEND p.val) = true → w.getLsbD 8 = false → Ends (.hingeSwapRequest who p w) s fun t =>
      t.on (BLK_FAULT_HREJ p.val) = true ∧ t.on (BLK_STAT_HPEND p.val) = true ∧
      OnlyRegs [BLK_FAULT p.val, BLK_IRQ p.val] s t) ∧
  (∀ who (p : Fin 41) w s, isPage p.val = true → MayConfigure who p.val (BLK_HINGE p.val) s →
    s.on (BLK_STAT_HPEND p.val) = true → Ends (.hingeCancel who p w) s fun t =>
      t.on (BLK_STAT_HPEND p.val) = false ∧ p.val ∉ t.dev.hw.hdr.late ∧ OnlyRegs [BLK_STAT p.val] s t)) ∧
  ((∀ s, Alive s → s.on (BLK_STAT_HPEND PG_HSP) = true → s.rd (BLK_HINGE_POINT PG_HSP) = 0 →
    s.dev.hw.bolted PG_HSP = false → s.on (BLK_CTL_EN PG_HSP) = true → PG_HSP ∉ s.dev.hw.hdr.syncing →
    s.on (BLK_HINGE_SYNC PG_HSP) = false → 4 ≤ getBits (s.reg (HSP_CFG + 0x8000)) HSP_CFG_DUMMY.lo HSP_CFG_DUMMY.width →
    Ends (.hingeSwap ⟨PG_HSP, by decide⟩) s fun t =>
      t.reg HSP_CFG = s.reg (HSP_CFG + 0x8000) ∧ t.reg (HSP_CFG + 0x8000) = s.reg HSP_CFG ∧
      (t.reg (BLK_HINGE_CNT PG_HSP)).toNat = ((s.reg (BLK_HINGE_CNT PG_HSP)).toNat + 1) % 2 ^ 32 ∧
      t.on (BLK_STAT_HPEND PG_HSP) = false ∧ t.on (BLK_IRQ_HDONE PG_HSP) = true ∧
      t.dev.hw.hsp.dummy = t.rd HSP_CFG_DUMMY ∧
      OnlyRegs [HSP_CFG, HSP_CFG + 0x8000, BLK_HINGE_CNT PG_HSP, BLK_STAT PG_HSP, BLK_IRQ PG_HSP] s t) ∧
  (∀ (p : Fin 41) s, s.on (BLK_STAT_HPEND p.val) = false → Ends (.hingeSwap p) s fun t => OnlyRegs [] s t) ∧
  (∀ (p : Fin 41) s, Alive s → p.val ∈ s.dev.hw.hdr.syncing → p.val ∉ s.dev.hw.hdr.late →
    s.dev.hw.hdr.stalled = [] → Ends (.hingeSyncDone p) s fun t =>
      t.on (BLK_IRQ_HDONE p.val) = true ∧ p.val ∉ t.dev.hw.hdr.syncing ∧
      ShadowsCopied p.val s t ∧ SameMem s t) ∧
  (∀ who w s, MayOperate who PG_CPR CPR_HINGE_FIRE s →
    (∀ p ∈ allPages, ¬(s.rd (BLK_HINGE_POINT p) = 3 ∧ bit (getBits w 0 4) (s.rd (BLK_HINGE_GROUP p)) = true)) →
    Ends (.hingeGroupFire who w) s fun t => OnlyRegs [] s t) ∧
  (∀ who w s, MayOperate who PG_CPR CPR_HINGE_FIRE s → Alive s →
    (∀ p ∈ allPages, p ≠ PG_HSP → s.rd (BLK_HINGE_POINT p) ≠ 3) → s.rd (BLK_HINGE_POINT PG_HSP) = 3 →
    bit (getBits w 0 4) (s.rd (BLK_HINGE_GROUP PG_HSP)) = true →
    s.on (BLK_STAT_HPEND PG_HSP) = true → s.dev.hw.bolted PG_HSP = false → s.on (BLK_CTL_EN PG_HSP) = true →
    PG_HSP ∉ s.dev.hw.hdr.syncing →
    4 ≤ getBits (s.reg (HSP_CFG + 0x8000)) HSP_CFG_DUMMY.lo HSP_CFG_DUMMY.width →
    Ends (.hingeGroupFire who w) s fun t =>
      t.reg HSP_CFG = s.reg (HSP_CFG + 0x8000) ∧ t.reg (HSP_CFG + 0x8000) = s.reg HSP_CFG ∧
      t.on (BLK_STAT_HPEND PG_HSP) = false ∧ SameMem s t))

/-! ## Position feedback (R120 to R147) -/

/-- A legal filtered transition of a live channel moves its count by one in the direction that A leading B gives (R121,
R122), CNT_LIVE shows the count (R123), and DIR the direction of the latest legal transition; an illegal one counts
in ILLEG, sets ILL and, beyond QILL_LIMIT in its window, QFLT (R121); a channel that is off counts nothing (R120).
The illegal-transition window and the index (R121, R124 to R127): a window that ends clears its count; an edge of
the filtered index into its active level on an illegal sample only sets IDXSKIP, one further off than IDX_TOL sets
IDXERR and leaves the count, a near one sets the count right; with indexing off nothing follows it. -/
def Obligations.QuadratureDecoders : Prop :=
  ((∀ ch a b stamp s, Alive s → s.dev.hw.qLive ch.val = true → s.dev.hw.motionHeld = false → ch.val < s.dev.hw.pos.q.length →
    quadMoves s ch.val a b stamp = .up →
    Ends (.quadCount ch a b stamp) s fun t =>
      (t.dev.hw.q ch.val).ext = ((s.dev.hw.q ch.val).at ((s.dev.hw.q ch.val).ext + 1)).ext ∧ (t.dev.hw.q ch.val).down = false ∧
      (t.reg (POS_Qn_CNT_LIVE ch.val)).toNat = (t.dev.hw.q ch.val).cnt % 2 ^ 32 ∧
      ((s.dev.hw.q ch.val).down = true → t.rd (POS_Qn_STAT_DIR ch.val) = 0) ∧
      OnlyRegsAndFaults [POS_Qn_CNT_LIVE ch.val, POS_Qn_STAT ch.val, BLK_IRQ PG_POS, POS_EMUk_STAT 0, POS_EMUk_STAT 1,
        CPR_PW_STAT] s t) ∧
  (∀ ch a b stamp s, Alive s → s.dev.hw.qLive ch.val = true → s.dev.hw.motionHeld = false → ch.val < s.dev.hw.pos.q.length →
    quadMoves s ch.val a b stamp = .down →
    Ends (.quadCount ch a b stamp) s fun t =>
      (t.dev.hw.q ch.val).ext = ((s.dev.hw.q ch.val).at ((s.dev.hw.q ch.val).ext - 1)).ext ∧ (t.dev.hw.q ch.val).down = true ∧
      (t.reg (POS_Qn_CNT_LIVE ch.val)).toNat = (t.dev.hw.q ch.val).cnt % 2 ^ 32 ∧
      ((s.dev.hw.q ch.val).down = false → t.rd (POS_Qn_STAT_DIR ch.val) = 1) ∧
      OnlyRegsAndFaults [POS_Qn_CNT_LIVE ch.val, POS_Qn_STAT ch.val, BLK_IRQ PG_POS, POS_EMUk_STAT 0, POS_EMUk_STAT 1,
        CPR_PW_STAT] s t) ∧
  (∀ ch a b stamp s, Alive s → s.dev.hw.qLive ch.val = true → s.dev.hw.motionHeld = false → ch.val < s.dev.hw.pos.q.length →
    quadMoves s ch.val a b stamp = .illegal →
    Ends (.quadCount ch a b stamp) s fun t =>
      (t.dev.hw.q ch.val).ext = (s.dev.hw.q ch.val).ext ∧ t.rd (POS_Qn_STAT_ILL ch.val) = 1 ∧
      (t.reg (POS_Qn_ILLEG ch.val)).toNat = min 65535 ((s.reg (POS_Qn_ILLEG ch.val)).toNat + 1) ∧
      (s.rd (POS_Qn_IDXCFG_QILL_LIMIT ch.val) < (s.dev.hw.q ch.val).illegal + 1 → t.on (POS_Qn_STAT_QFLT ch.val) = true) ∧
      OnlyRegsAndFaults [POS_Qn_ILLEG ch.val, POS_Qn_STAT ch.val, BLK_IRQ PG_POS, CPR_PW_STAT] s t) ∧
  (∀ ch a b stamp s, Alive s → s.dev.hw.qLive ch.val = false ∨ s.dev.hw.motionHeld = true → Ends (.quadCount ch a b stamp) s fun t =>
      (t.dev.hw.q ch.val).ext = (s.dev.hw.q ch.val).ext ∧ OnlyRegsAndFaults [CPR_PW_STAT] s t)) ∧
  ((∀ ch s, Alive s → ch.val < s.dev.hw.pos.q.length → Ends (.illegalWindowEnd ch) s fun t =>
      (t.dev.hw.q ch.val).illegal = 0 ∧ OnlyRegs [] s t) ∧
  (∀ ch level since illegal s, Alive s → ch.val < s.dev.hw.pos.q.length → s.rd (POS_Qn_CTL_IDX_MODE ch.val) = 0 →
    Ends (.indexEvent ch level since illegal) s fun t =>
      t.dev.hw.q ch.val = { s.dev.hw.q ch.val with z := level } ∧ OnlyRegs [] s t) ∧
  (∀ ch level since s, Alive s → s.dev.hw.qCounts ch.val = true → ch.val < s.dev.hw.pos.q.length →
    s.rd (POS_Qn_CTL_IDX_MODE ch.val) = 1 → (s.dev.hw.q ch.val).z ≠ level → level ≠ s.on (POS_Qn_CTL_IDXPOL ch.val) →
    Ends (.indexEvent ch level since true) s fun t =>
      t.on (POS_Qn_STAT_IDXSKIP ch.val) = true ∧ t.dev.hw.q ch.val = { s.dev.hw.q ch.val with z := level } ∧
      OnlyRegs [POS_Qn_STAT ch.val] s t) ∧
  (∀ ch level since s, Alive s → s.dev.hw.qCounts ch.val = true → ch.val < s.dev.hw.pos.q.length →
    s.rd (POS_Qn_CTL_IDX_MODE ch.val) = 1 → (s.dev.hw.q ch.val).z ≠ level → level ≠ s.on (POS_Qn_CTL_IDXPOL ch.val) →
    s.rd (POS_Qn_IDXCFG_IDX_TOL ch.val) <
      (indexDev (s.dev.hw.q ch.val) (s.reg (POS_Qn_IDXEXP ch.val)).toNat).natAbs →
    Ends (.indexEvent ch level since false) s fun t =>
      t.on (POS_Qn_STAT_IDXERR ch.val) = true ∧ t.dev.hw.bitAt (BLK_IRQ PG_POS) (4 * ch.val + 3) = true ∧
      t.dev.hw.q ch.val = { s.dev.hw.q ch.val with z := level } ∧
      OnlyRegs [POS_Qn_IDXDEV ch.val, POS_Qn_STAT ch.val, BLK_IRQ PG_POS] s t) ∧
  (∀ ch level since s, Alive s → s.dev.hw.qCounts ch.val = true → ch.val < s.dev.hw.pos.q.length →
    s.rd (POS_Qn_CTL_IDX_MODE ch.val) = 1 → (s.dev.hw.q ch.val).z ≠ level → level ≠ s.on (POS_Qn_CTL_IDXPOL ch.val) →
    (indexDev (s.dev.hw.q ch.val) (s.reg (POS_Qn_IDXEXP ch.val)).toNat).natAbs ≤ s.rd (POS_Qn_IDXCFG_IDX_TOL ch.val) →
    2 < since → Ends (.indexEvent ch level since false) s fun t =>
      (t.dev.hw.q ch.val).ext = ((s.dev.hw.q ch.val).at ((s.dev.hw.q ch.val).ext -
        indexDev (s.dev.hw.q ch.val) (s.reg (POS_Qn_IDXEXP ch.val)).toNat)).ext ∧
      OnlyRegs [POS_Qn_IDXDEV ch.val, POS_Qn_CNT_LIVE ch.val, POS_Qn_STAT ch.val, BLK_IRQ PG_POS] s t))

/-- Which transition counts up: with A leading B, the sequence 00, 10, 11, 01; SWAPAB turns it round; both inputs changing
at once is illegal (R121, R122). -/
def Obligations.QuadratureSequence : Prop :=
  ∀ (c : QChan) (swap a b : Bool),
    quadStep c swap a b =
      if a = c.a ∧ b = c.b then .none
      else if a ≠ c.a ∧ b ≠ c.b then .illegal
      else if (a ≠ c.a) = ((c.a = c.b) ≠ (swap = true)) then .up else .down

/-- Commands to POS that act at the next T0: a preset (R127), an alignment (R141), a return (R143) are noted; no
register changes. Discrete inputs, their capture queue and the emulation outputs (R135 to R137): a level seen often
enough is taken, an enabled edge joins the queue with its stamp and level, the thirty-third sets DOVF and is lost; a
read of POS_DCAP_W0 pops the head for its reader; a step takes one count off the backlog. -/
def Obligations.PositionRegisters : Prop :=
  ((∀ who ch w s, MayOperate who PG_POS (POS_Qn_PRESET ch.val) s → ch.val < s.dev.hw.pos.q.length →
    Ends (.countPreset who ch w) s fun t =>
      (t.dev.hw.q ch.val).preset = some w.toNat ∧ OnlyRegs [] s t) ∧
  (∀ who w s, MayOperate who PG_POS POS_TUM_CTL s → Ends (.tumblerAlign who w) s fun t =>
      t.dev.hw.pos.alignReq = (s.dev.hw.pos.alignReq || w.getLsbD 0) ∧ OnlyRegs [] s t) ∧
  (∀ who w s, MayOperate who PG_POS POS_LOOP_STAT s → Ends (.loopReturn who w) s fun t =>
      t.dev.hw.pos.returnReq = (s.dev.hw.pos.returnReq || w.getLsbD 16) ∧ OnlyRegs [] s t)) ∧
  ((∀ i level stamp seen s, Ends (.dinEdge i level stamp seen) s fun t =>
      bit t.dev.hw.cpr.din i.val = level ∧
      (s.dev.hw.fabricOn = true → s.dev.hw.motionHeld = false → s.dev.hw.dinPasses i.val level seen = true → bit t.dev.hw.pos.din i.val = level) ∧
      (s.dev.hw.fabricOn = false ∨ s.dev.hw.motionHeld = true ∨ s.dev.hw.dinPasses i.val level seen = false → t.dev.hw.pos.din = s.dev.hw.pos.din) ∧
      (s.dev.hw.fabricOn = true → s.dev.hw.motionHeld = false → s.dev.hw.dinPasses i.val level seen = true → bit s.dev.hw.pos.din i.val ≠ level → s.dev.hw.bitAt POS_DIN_EDGEEN i.val = true →
        s.dev.hw.pos.dcap.length < 32 →
        t.dev.hw.pos.dcap.length = s.dev.hw.pos.dcap.length + 1 ∧
        (∀ e ∈ t.dev.hw.pos.dcap.getLast?, e.din = i.val ∧ e.stamp = s.dev.hw.dinStamp i.val stamp.toNat ∧
          e.level = (level != s.dev.hw.bitAt POS_DIN_POL i.val)) ∧
        t.rd POS_DCAP_STAT_LEVEL = s.dev.hw.pos.dcap.length + 1) ∧
      (s.dev.hw.fabricOn = true → s.dev.hw.motionHeld = false → s.dev.hw.dinPasses i.val level seen = true → bit s.dev.hw.pos.din i.val ≠ level →
        s.dev.hw.bitAt POS_DIN_EDGEEN i.val = true → 32 ≤ s.dev.hw.pos.dcap.length →
        t.dev.hw.pos.dcap = s.dev.hw.pos.dcap ∧ t.on POS_DCAP_STAT_DOVF = true) ∧
      OnlyRegs [POS_DCAP_STAT, BLK_IRQ PG_POS, MAP_LRN_STAT] s t) ∧
  (∀ a e l s, s.dev.hw.canAccess (.agent a) = true → s.dev.hw.pos.dcap = e :: l → Ends (.dcapPop (.agent a)) s fun t =>
      t.dev.hw.reply.data = [BitVec.ofNat 32 (0x80000000 + 256 * b2n e.level + e.din)] ∧
      t.dev.hw.reply.err = false ∧ t.dev.hw.pos.dcap = l ∧
      t.dev.hw.capWord a.val 1 = BitVec.ofNat 32 e.stamp ∧ t.dev.hw.capWord a.val 2 = BitVec.ofNat 32 e.count ∧
      OnlyRegs [POS_DCAP_STAT] s t) ∧
  (∀ a s, s.dev.hw.canAccess (.agent a) = true → s.dev.hw.pos.dcap = [] → Ends (.dcapPop (.agent a)) s fun t =>
      t.dev.hw.reply.data = [0] ∧ OnlyRegs [] s t) ∧
  (∀ k s, Alive s → s.dev.hw.emuLive k.val = true → s.dev.hw.motionHeld = false → k.val < s.dev.hw.pos.emu.length →
    (s.dev.hw.em k.val).backlog ≠ 0 → Ends (.emuStep k) s fun t =>
      (t.dev.hw.em k.val).backlog.natAbs + 1 =
        (s.dev.hw.em k.val).backlog.natAbs ∧
      OnlyRegs [POS_EMUk_STAT k.val] s t))

/-- A serial frame (R133): a good one is the channel's position, valid, with its warning bit; a CRC error counts, and three
failures in a row lose the channel; a frame of a negotiation is not latched (R132). LOST clears by W1C only once the last
16 frames were good. A negotiation keeps the first rate that fits, or fails (R132). A frozen source that is named in the
loop or a leg shows FROZEN (R142). -/
def Obligations.SerialChannels : Prop :=
  (∀ ch rx s, Alive s → s.dev.hw.sLive ch.val = true → s.dev.hw.motionHeld = false →
    (s.dev.hw.negotiates ch.val = false ∨ s.on (POS_Sn_STAT_NEGDONE ch.val) = true) →
    (s.on (POS_Sn_CTL_PROTO ch.val) = true ∨ s.rd (POS_Sn_CTL_PAR ch.val) ≠ 3) →
    s.dev.hw.frameFault ch.val rx 0 = ⟨false, false, false⟩ →
    s.on (POS_Sn_CTL_GRAY ch.val) = false → Ends (.serialFrameEnd ch rx) s fun t =>
      t.dev.hw.pair (POS_Sn_POS_LO ch.val) = rx.data.toNat % 2 ^ s.rd (POS_Sn_CTL_LEN ch.val) ∧
      t.on (POS_Sn_STAT_VALID ch.val) = true ∧ t.rd (POS_Sn_STAT_FAILCNT ch.val) = 0 ∧
      t.on (POS_Sn_STAT_WARN ch.val) = (s.on (POS_Sn_CTL_PROTO ch.val) && !rx.nW) ∧
      OnlyRegs [POS_Sn_POS_LO ch.val, POS_Sn_POS_LO ch.val + 4, POS_Sn_STAT ch.val, POS_Sn_SPD ch.val] s t) ∧
  (∀ ch rx s, Alive s → s.dev.hw.sLive ch.val = true → s.dev.hw.motionHeld = false →
    (s.dev.hw.negotiates ch.val = false ∨ s.on (POS_Sn_STAT_NEGDONE ch.val) = true) →
    (s.on (POS_Sn_CTL_PROTO ch.val) = true ∨ s.rd (POS_Sn_CTL_PAR ch.val) ≠ 3) →
    s.dev.hw.frameFault ch.val rx 0 = ⟨true, false, false⟩ → Ends (.serialFrameEnd ch rx) s fun t =>
      t.on (POS_Sn_STAT_VALID ch.val) = false ∧ t.on (POS_Sn_STAT_CRCERR ch.val) = true ∧
      t.rd (POS_Sn_STAT_FAILCNT ch.val) = min 7 (s.rd (POS_Sn_STAT_FAILCNT ch.val) + 1) ∧
      getBits (t.reg (POS_Sn_ERRCNT ch.val)) 0 16 = min 65535 (getBits (s.reg (POS_Sn_ERRCNT ch.val)) 0 16 + 1) ∧
      (s.rd (POS_Sn_STAT_FAILCNT ch.val) = 2 → t.on (POS_Sn_STAT_LOST ch.val) = true) ∧
      OnlyRegs [POS_Sn_STAT ch.val, POS_Sn_ERRCNT ch.val, POS_Sn_SPD ch.val, BLK_IRQ PG_POS] s t) ∧
  (∀ ch rx s, s.dev.hw.negotiates ch.val = true → s.on (POS_Sn_STAT_NEGDONE ch.val) = false →
    Ends (.serialFrameEnd ch rx) s fun t =>
      (t.dev.hw.s ch.val).frames = (s.dev.hw.s ch.val).frames ∧ OnlyRegs [] s t) ∧
  (∀ ch passes ldly s, Alive s → s.dev.hw.sLive ch.val = true → s.dev.hw.negotiates ch.val = true →
    s.dev.hw.motionHeld = false → (s.dev.hw.s ch.val).tried.length ≤ 8 →
    s.on (POS_Sn_STAT_NEGDONE ch.val) = false → s.on (POS_Sn_STAT_NEGFAIL ch.val) = false →
    Ends (.serialNegotiationDone ch passes ldly) s fun t =>
      (t.reg (POS_Sn_LDLY ch.val)).toNat = ldly % 2 ^ 32 ∧
      (800 < ldly ∨ (∀ r : Fin 8, ¬rateFits s ch.val passes ldly r.val) → t.on (POS_Sn_STAT_NEGFAIL ch.val) = true) ∧
      (∀ r : Fin 8, ldly ≤ 800 → rateFits s ch.val passes ldly r.val →
        (∀ q : Fin 8, q < r → ¬rateFits s ch.val passes ldly q.val) →
        t.on (POS_Sn_STAT_NEGDONE ch.val) = true ∧ t.rd (POS_Sn_STAT_RATE ch.val) = r.val) ∧
      OnlyRegs [POS_Sn_LDLY ch.val, POS_Sn_STAT ch.val] s t) ∧
  (∀ who ch w s, MayOperate who PG_POS (POS_Sn_STAT ch.val) s → w.getLsbD 1 = true →
    Ends (.serialLostClear who ch w) s fun t =>
      (16 ≤ (s.dev.hw.s ch.val).frames.length → (s.dev.hw.s ch.val).frames.all (·.2) = true →
        t.on (POS_Sn_STAT_LOST ch.val) = false) ∧
      ((s.dev.hw.s ch.val).frames.all (·.2) = false →
        t.on (POS_Sn_STAT_LOST ch.val) = s.on (POS_Sn_STAT_LOST ch.val)) ∧
      OnlyRegs [POS_Sn_STAT ch.val] s t) ∧
  (∀ src s, Alive s → s.dev.hw.frozenDue src.val = true → Ends (.sourceFrozen src) s fun t =>
      bit t.dev.hw.pos.frozen src.val = true ∧
      (∀ n, n < 6 → src.val = n → t.on (POS_Qn_STAT_FROZEN n) = true) ∧
      (∀ n, n < 4 → src.val = 8 + n → t.on (POS_Sn_STAT_FROZEN n) = true) ∧
      OnlyRegs [POS_Qn_STAT src.val, POS_Sn_STAT (src.val - 8)] s t)

/-! ## The hoistway map (R150 to R171) -/

/-- Orders to MAP: START asks for a reload (R157); a page reload joins the queue (R159); an import of a slot that is free
and authenticated waits for the next T0, any other is refused with REBERR (R170, R466). -/
def Obligations.MapOrders : Prop :=
  (∀ who w s, MayOperate who PG_MAP MAP_RELOAD s → w.getLsbD 0 = true → Ends (.mapReloadStart who w) s fun t =>
      t.on MAP_RELOAD_BUSY = true ∧ t.dev.hw.map.rlStart = true ∧ OnlyRegs [MAP_RELOAD] s t) ∧
  (∀ who page w s, MayOperate who PG_MAP (MAP_DIRn page.val) s → page.val < s.dev.hw.mapPages →
    page.val ∉ s.dev.hw.map.rlQueue → w.getLsbD 24 = false → w.getLsbD 27 = false →
    Ends (.mapPageReload who page w) s fun t =>
      t.dev.hw.map.rlQueue = s.dev.hw.map.rlQueue ++ [page.val] ∧ t.on MAP_STAT_RELOADING = true ∧
      OnlyRegs [MAP_RELOAD, MAP_STAT] s t) ∧
  (∀ who page w s, MayOperate who PG_MAP (MAP_DIRn page.val) s → page.val < s.dev.hw.mapPages →
    w.getLsbD 25 = false → w.getLsbD 27 = false → s.dev.hw.slotUsed (getBits w 16 7) = false →
    s.dev.hw.bitAt (SEC_POOL_AUTH (getBits w 16 7 / 32)) (getBits w 16 7 % 32) = true →
    Ends (.mapImport who page w) s fun t =>
      t.dev.hw.map.imports = s.dev.hw.map.imports ++ [(page.val, getBits w 16 7)] ∧
      getBits (t.dev.hw.dirWord page.val (t.reg (MAP_DIRn page.val))) 16 7 = getBits w 16 7 ∧ OnlyRegs [] s t) ∧
  (∀ who page w s, MayOperate who PG_MAP (MAP_DIRn page.val) s → page.val < s.dev.hw.mapPages →
    w.getLsbD 25 = false → w.getLsbD 27 = false →
    s.dev.hw.bitAt (SEC_POOL_AUTH (getBits w 16 7 / 32)) (getBits w 16 7 % 32) = false →
    Ends (.mapImport who page w) s fun t =>
      t.dev.hw.map.imports = s.dev.hw.map.imports ∧ t.dev.hw.bitAt (BLK_FAULT PG_MAP) 12 = true ∧
      OnlyRegs [BLK_FAULT PG_MAP, BLK_IRQ PG_MAP] s t)

/-- The page in flight (R157 to R159): it leaves the queue and its verdict waits for the next T0. Its copy reaches no
memory but its home of 65,536 bytes. Learning (R166): outside LEARN an entry is dropped; a matched one adds to N,
SUM and SSQ of its mark record and counts MATCHED, one that no mark is near counts UNMATCHED. The rebuild (R167,
R168): START in a mode it is allowed in, over a sorted table, begins at the first loaded page of FIRST to LAST;
CANCEL drops the pending swaps; a page that is done waits in a free pool slot with SWAPREQ; the write-back copies
the oldest landed slot home. -/
def Obligations.MapPages : Prop :=
  ((∀ k q s, Alive s → s.dev.hw.laneRuns = true → s.dev.hw.map.rlQueue = k :: q → Ends .mapPageLoaded s fun t =>
      t.dev.hw.map.rlQueue = q ∧ t.dev.hw.map.done.map Prod.fst = s.dev.hw.map.done.map Prod.fst ++ [k] ∧
      (∀ a, (a < s.dev.hw.homeBase k ∨ s.dev.hw.homeBase k + 65536 ≤ a) →
        memRead t.dev.mem a = memRead s.dev.mem a) ∧
      ∀ a, a ≠ MAP_RELOAD → t.reg a = s.reg a) ∧
  (∀ s, s.dev.hw.map.rlQueue = [] → Ends .mapPageLoaded s fun t => t = s)) ∧
  ((∀ e q s, Alive s → s.dev.hw.pos.capMap = e :: q →
    0 < diff32 s.dev.hw.pos.t0 e.stamp → s.rd SIS_MODE_CUR ≠ 9 → Ends .mapLearnEntry s fun t =>
      t.dev.hw.pos.capMap = q ∧ OnlyRegs [] s t) ∧
  (∀ e q s, Alive s → s.dev.hw.pos.capMap = e :: q →
    0 < diff32 s.dev.hw.pos.t0 e.stamp → s.rd SIS_MODE_CUR = 9 → s.on MAP_CTL_LEARN = true →
    s.rd POS_LOOP_STAT_STATE = 1 → s.dev.hw.running PG_MAP = true → s.rd MAP_MARK_CNT_CNT = 0 →
    Ends .mapLearnEntry s fun t =>
      t.dev.hw.pos.capMap = q ∧
      t.rd MAP_LRN_STAT_UNMATCHED =
        min (s.rd MAP_LRN_STAT_UNMATCHED + 1) (2 ^ MAP_LRN_STAT_UNMATCHED.width - 1) ∧
      OnlyRegs [MAP_LRN_STAT] s t) ∧
  (∀ e q s, Alive s → s.dev.hw.pos.capMap = e :: q → Ends .mapLearnEntry s fun t =>
      (∀ a, (a < (s.reg MAP_MARK_BASE).toNat ∨ (s.reg MAP_MARK_BASE).toNat + 32 * s.rd MAP_MARK_CNT_CNT ≤ a) →
        memRead t.dev.mem a = memRead s.dev.mem a) ∧
      ∀ a, a ≠ MAP_LRN_STAT → t.reg a = s.reg a)) ∧
  ((∀ who w s, MayOperate who PG_MAP MAP_REB_CTL s → w.getLsbD 30 = false → 4 ≤ s.rd SIS_MODE_CUR →
    s.rd SIS_MODE_CUR ≤ 0xA → s.dev.hw.map.rbCur = none → s.dev.marksSorted = true → getBits w 0 10 ≤ getBits w 16 10 →
    getBits w 16 10 < s.dev.hw.mapPages → s.rd (MAP_DIRn_STATE (getBits w 0 10)) = dirLoaded →
    Ends (.mapRebuildStart who w) s fun t =>
      t.on MAP_REB_STAT_BUSY = true ∧ t.rd MAP_REB_STAT_CUR = getBits w 0 10 ∧
      t.dev.hw.map.rbCur = some (getBits w 0 10) ∧ t.dev.hw.map.rbLast = getBits w 16 10 ∧
      t.rd MAP_REB_CTL_FIRST = getBits w 0 10 ∧ t.rd MAP_REB_CTL_LAST = getBits w 16 10 ∧
      OnlyRegs [MAP_REB_CTL, MAP_REB_STAT, MAP_STAT] s t) ∧
  (∀ who w s, MayOperate who PG_MAP MAP_REB_CTL s → (s.rd SIS_MODE_CUR < 4 ∨ 0xA < s.rd SIS_MODE_CUR) →
    w.getLsbD 30 = false → Ends (.mapRebuildStart who w) s fun t =>
      t.dev.hw.map.rbCur = s.dev.hw.map.rbCur ∧ OnlyRegs [MAP_REB_CTL] s t) ∧
  (∀ who w s, MayOperate who PG_MAP MAP_REB_CTL s → Ends (.mapRebuildCancel who w) s fun t =>
      t.rd MAP_REB_STAT_PEND = 0 ∧ (∀ u ∈ t.dev.hw.map.pool, u.stage ≠ .pending) ∧
      t.dev.hw.map.rbStop = s.dev.hw.map.rbCur.isSome ∧ SameMem s t) ∧
  (∀ k slot s, Alive s → s.dev.hw.map.rbCur = some k → s.dev.hw.freeSlot = some slot →
    s.rd (MAP_DIRn_STATE k) = dirLoaded →
    (s.dev.hw.map.pool.any fun u => decide (u.page = k) && decide (u.stage = .pending)) = false →
    Ends .mapRebuildPageDone s fun t =>
      t.on (MAP_DIRn_SWAPREQ k) = true ∧ (⟨slot, k, .pending⟩ : PoolUse) ∈ t.dev.hw.map.pool ∧
      memReadBytes t.dev.mem (poolBase slot) 65536 = s.dev.rebuiltPage k ∧
      ∀ a, (a < poolBase slot ∨ poolBase slot + 65536 ≤ a) → memRead t.dev.mem a = memRead s.dev.mem a) ∧
  (∀ u s, Alive s → (s.dev.hw.map.pool.find? fun v => decide (v.stage = .landed)) = some u →
    Ends .mapWritebackDone s fun t =>
      memReadBytes t.dev.mem (s.dev.hw.homeBase u.page) 65536 = memReadBytes s.dev.mem (poolBase u.slot) 65536 ∧
      (∀ a, (a < s.dev.hw.homeBase u.page ∨ s.dev.hw.homeBase u.page + 65536 ≤ a) →
        memRead t.dev.mem a = memRead s.dev.mem a) ∧
      ∀ a, t.reg a = s.reg a))

/-! ## The motion profile (R173 to R198) -/

/-- A command of PRF waits for the next position-cycle T0 with its OP, SEQ, requester and the target that stands in TGT
at the write (R180, R181; the target is the model's reading, log entry 9); a later one takes its place. A standby's
commands change nothing but RES, which answers MODE (R360). What a command comes to at its T0 (R181, R182): RES
shows its SEQ and result; an unknown OP answers 9, an axis that is off answers 3, and both leave the axis; an ABORT
or STOP with a limit of zero answers 7; GRARM arms the next ratio; PRESET at rest takes the target as position and
is refused with 5 in motion. Standstill and stall (R191, R192): an axis at rest shows STILL, as do the sets that
follow it; a stall that has lasted STALL_N cycles sets STALL with its interrupt, and STALL_ACT 1 raises STALLF. A
step moves CNT by one in the direction of the interval that expired (R193); the speed cap of the Ward is agent 0's
alone (R187, R196). -/
def Obligations.Profile : Prop :=
  (∀ who (n : Fin 4) (seq : BitVec 8) s, MayOperate who PG_PRF (PRF_AXn_CMD n.val) s → s.dev.hw.standby = false →
    n.val < s.dev.hw.prf.ax.length →
    let waits := fun (op : Nat) (t : State) =>
      (t.dev.hw.axis n.val).cmd = some ⟨op, (s.reg (PRF_AXn_TGT n.val)).toNat, seq.toNat, who.num⟩ ∧ OnlyRegs [] s t
    Ends (.prfMove who n seq) s (waits 1) ∧ Ends (.prfStop who n seq) s (waits 2) ∧
    Ends (.prfResume who n seq) s (waits 3) ∧ Ends (.prfAbort who n seq) s (waits 4) ∧
    Ends (.prfGear who n seq) s (waits 5) ∧ Ends (.prfUngear who n seq) s (waits 6) ∧
    Ends (.prfPreset who n seq) s (waits 7) ∧ Ends (.prfGrarm who n seq) s (waits 8) ∧
    ∀ w : Word, w.getLsbD 0 = false → w.getLsbD 1 = false → w.getLsbD 2 = false → w.getLsbD 3 = false →
      getBits w 8 8 = seq.toNat → Ends (.prfIllop who n w) s (waits 0)) ∧
  (∀ who (n : Fin 4) (seq : BitVec 8) s, MayOperate who PG_PRF (PRF_AXn_CMD n.val) s → s.dev.hw.standby = true →
    Ends (.prfMove who n seq) s fun t =>
      (t.reg (PRF_AXn_RES n.val)).toNat = 0x10000 + 256 * seq.toNat + 3 ∧
      t.dev.hw.bitAt (BLK_IRQ PG_PRF) (4 + n.val) = true ∧ t.dev.hw.prf = s.dev.hw.prf ∧
      OnlyRegs [PRF_AXn_RES n.val, BLK_IRQ PG_PRF] s t) ∧
  (∀ n (h : Hw) (c : PrfCmd), n < 4 → n < h.prf.ax.length → (h.axis n).cmd = some c → c.seq < 256 →
    let h' := takeCmd n h
    (h'.axis n).cmd = none ∧ getBits (h'.reg (PRF_AXn_RES n)) 8 8 = c.seq ∧
    getBits (h'.reg (PRF_AXn_RES n)) 16 1 = 1 ∧
    (c.op = 0 ∨ 8 < c.op → getBits (h'.reg (PRF_AXn_RES n)) 0 8 = 9 ∧
      h'.bitAt (BLK_IRQ PG_PRF) (4 + n) = true ∧ (h'.axis n).p = (h.axis n).p ∧ (h'.axis n).mode = (h.axis n).mode) ∧
    (1 ≤ c.op → c.op ≤ 8 → h.axOn n = false → getBits (h'.reg (PRF_AXn_RES n)) 0 8 = 3 ∧
      (h'.axis n).mode = (h.axis n).mode) ∧
    (c.op = 7 → h.cmdGate n c = none → (h.axis n).mode = .idle → getBits (h'.reg (PRF_AXn_RES n)) 0 8 = 0 ∧
      (h'.axis n).p = c.tgt * unitP ∧ (h'.axis n).v = 0 ∧ h'.on (PRF_AXn_STAT_DONE n) = false) ∧
    (c.op = 7 → h.cmdGate n c = none → (h.axis n).mode ≠ .idle → getBits (h'.reg (PRF_AXn_RES n)) 0 8 = 5) ∧
    (c.op = 8 → h.cmdGate n c = none → h.on (PRF_AXn_STAT_GRPEND n) = false →
      getBits (h'.reg (PRF_AXn_RES n)) 0 8 = 0 ∧ h'.on (PRF_AXn_STAT_GRPEND n) = true)) ∧
  ((∀ n s, Alive s → s.dev.hw.running PG_PRF = true → (s.dev.hw.axis n.val).mode = .idle →
    s.reg (PRF_AXn_SP_SPD n.val) = 0 → s.reg (PRF_AXn_SP_ACC n.val) = 0 → s.on (PRF_AXn_STAT_STILL n.val) = false →
    Ends (.axisStandstill n) s fun t =>
      t.on (PRF_AXn_STAT_STILL n.val) = true ∧
      (∀ k, k < 6 → s.on (PST_PSn_CFG_AXEN k) = true → s.rd (PST_PSn_CFG_AXIS k) = n.val →
        t.on (PST_PSn_STAT_STILL k) = true) ∧
      OnlyRegs [PRF_AXn_STAT n.val, PST_PSn_STAT 0, PST_PSn_STAT 1, PST_PSn_STAT 2, PST_PSn_STAT 3, PST_PSn_STAT 4,
        PST_PSn_STAT 5] s t) ∧
  (∀ n s, Alive s → (s.dev.hw.axis n.val).stallCnt ≠ 0 →
    s.rd (PRF_AXn_STALL_N n.val) ≤ (s.dev.hw.axis n.val).stallCnt → s.rd (PRF_AXn_STALL_ACT n.val) = 0 →
    Ends (.axisStall n) s fun t =>
      t.on (PRF_AXn_STAT_STALL n.val) = true ∧ t.dev.hw.bitAt (BLK_IRQ PG_PRF) (8 + n.val) = true ∧
      OnlyRegs [PRF_AXn_STAT n.val, BLK_IRQ PG_PRF] s t) ∧
  (∀ n s, Alive s → (s.dev.hw.axis n.val).stallCnt ≠ 0 → (s.dev.hw.axis n.val).mode = .idle →
    s.rd (PRF_AXn_STALL_N n.val) ≤ (s.dev.hw.axis n.val).stallCnt → s.rd (PRF_AXn_STALL_ACT n.val) = 1 →
    s.dev.hw.bitAt (BLK_FAULT PG_PRF) 9 = false → NoFault s → Ends (.axisStall n) s fun t =>
      t.on (PRF_AXn_STAT_STALL n.val) = true ∧ t.dev.hw.bitAt (BLK_FAULT PG_PRF) 9 = true ∧ FaultIs 1 PG_PRF 9 t)) ∧
  ((∀ k tau s, Alive s → s.dev.hw.stpLive k.val = true → (s.dev.hw.stp k.val).armed = true →
    Ends (.stepIssue k tau) s fun t =>
      t.reg (PRF_STPk_CNT k.val) = s.reg (PRF_STPk_CNT k.val) + (if (s.dev.hw.stp k.val).down then -1 else 1) ∧
      OnlyRegs [PRF_STPk_CNT k.val, PRF_STPk_STAT k.val, PRF_STPk_IVAL k.val, BLK_IRQ PG_PRF] s t) ∧
  (∀ w s, Reaches (.agent 0) PRF_WCAP s → Ends (.wardCapWrite (.agent 0) w) s fun t =>
      t.reg PRF_WCAP = w ∧ OnlyRegs [PRF_WCAP] s t) ∧
  (∀ who w s, Reaches who PRF_WCAP s → who ≠ .agent 0 → Ends (.wardCapWrite who w) s fun t =>
      t.reg PRF_WCAP = s.reg PRF_WCAP ∧ t.dev.hw.bitAt (BLK_FAULT PG_PRF) 12 = true ∧
      OnlyRegs [BLK_FAULT PG_PRF, BLK_IRQ PG_PRF] s t))

/-! ## Self-test runs, interrupt claims, accesses (R34 to R37, R50, R98, R350, R500 to R506) -/

/-- A run of BLK_TEST on a bolted block (R500, R501): START sets BUSY with the pattern, while BUSY it takes a new PAT
and ignores START (R502); it ends with PASS or FAIL and the result word of TST_RES, with code 3, or 4 for an ECC
check; late it ends with FAIL, code 5. What the pattern leaves in the block's own registers apart. TST_CMD (R505):
agent 0 alone; without the Ward's grant the result is NOGRANT and nothing else changes; a rolling step waits for its
conditions (R506), where rolling is enabled. -/
def Obligations.SelfTest : Prop :=
  ((∀ who (p : Fin 41) w s, isPage p.val = true → MayConfigure who p.val (BLK_TEST p.val) s →
    s.on (BLK_TEST_BUSY p.val) = false → s.dev.hw.bolted p.val = true → w.getLsbD 0 = true →
    hasPattern p.val (getBits w 8 8) = true → Ends (.bistStart who p w) s fun t =>
      t.on (BLK_TEST_BUSY p.val) = true ∧ t.rd (BLK_TEST_PAT p.val) = getBits w 8 8 ∧
      t.on (BLK_TEST_PASS p.val) = false ∧ t.on (BLK_TEST_FAIL p.val) = false ∧
      OnlyRegsAndFaults [BLK_TEST p.val] s t) ∧
  (∀ who (p : Fin 41) w s, isPage p.val = true → MayConfigure who p.val (BLK_TEST p.val) s →
    s.on (BLK_TEST_BUSY p.val) = true → Ends (.bistStart who p w) s fun t =>
      t.on (BLK_TEST_BUSY p.val) = true ∧ t.rd (BLK_TEST_PAT p.val) = getBits w 8 8 ∧
      OnlyRegsAndFaults [BLK_TEST p.val] s t) ∧
  (∀ (p : Fin 41) ecc us s, Alive s → s.on (BLK_TEST_BUSY p.val) = true → s.dev.hw.tst.stage = .idle →
    s.dev.hw.runPat p.val = patEcc → Ends (.bistDone p true ecc us) s fun t =>
      t.on (BLK_TEST_BUSY p.val) = false ∧ t.on (BLK_TEST_PASS p.val) = true ∧ t.on (BLK_TEST_FAIL p.val) = false ∧
      (t.reg TST_RES).toNat = 0xC0000400 + 65536 * p.val ∧
      OnlyRegsAndFaults [BLK_TEST p.val, TST_RES, TST_TIME] s t) ∧
  (∀ (p : Fin 41) ecc us s, Alive s → s.on (BLK_TEST_BUSY p.val) = true → s.dev.hw.tst.stage = .idle →
    s.dev.hw.runPat p.val = patEcc → p.val ≠ PG_TST → Ends (.bistDone p false ecc us) s fun t =>
      t.on (BLK_TEST_BUSY p.val) = false ∧ t.on (BLK_TEST_PASS p.val) = false ∧ t.on (BLK_TEST_FAIL p.val) = true ∧
      (t.reg TST_RES).toNat = 0xA0000400 + 65536 * p.val + (if ecc then 4 else 3) ∧
      (s.on TST_FAILLOG_VALID = false → t.reg TST_FAILLOG = t.reg TST_RES) ∧
      (s.on TST_FAILLOG_VALID = true → t.reg TST_FAILLOG = s.reg TST_FAILLOG) ∧
      t.dev.hw.bitAt (BLK_FAULT PG_TST) 8 = true ∧
      OnlyRegsAndFaults [BLK_TEST p.val, TST_RES, TST_TIME, TST_FAILLOG, BLK_IRQ PG_TST, BLK_FAULT PG_TST] s t) ∧
  (∀ (p : Fin 41) s, Alive s → s.on (BLK_TEST_BUSY p.val) = true → s.dev.hw.tst.stage = .idle → p.val ≠ PG_TST →
    Ends (.bistTimeout p) s fun t =>
      t.on (BLK_TEST_BUSY p.val) = false ∧ t.on (BLK_TEST_FAIL p.val) = true ∧
      (t.reg TST_RES).toNat = 0xA0000005 + 65536 * p.val + 256 * s.dev.hw.runPat p.val ∧
      OnlyRegsAndFaults [BLK_TEST p.val, TST_RES, TST_TIME, TST_FAILLOG, BLK_IRQ PG_TST, BLK_FAULT PG_TST] s t)) ∧
  ((∀ w s, Reaches (.agent 0) TST_CMD s → s.on TST_CMD_BUSY = false → s.dev.hw.tst.stage = .idle →
    w.getLsbD 24 = true → s.dev.hw.boltGrant (getBits w 16 6) = false → Ends (.tstCommand (.agent 0) w) s fun t =>
      (t.reg TST_RES).toNat = 0x80000001 + 65536 * getBits w 16 6 + 256 * getBits w 8 8 ∧
      t.rd TST_CMD_PAGE = getBits w 16 6 ∧ t.rd TST_CMD_PAT = getBits w 8 8 ∧ t.on TST_CMD_BUSY = false ∧
      t.dev.hw.bitAt (BLK_IRQ PG_TST) 0 = true ∧ OnlyRegsAndFaults [TST_CMD, TST_RES, BLK_IRQ PG_TST] s t) ∧
  (∀ w p s, Reaches (.agent 0) TST_CMD s → s.on TST_CMD_BUSY = false → s.dev.hw.tst.stage = .idle →
    w.getLsbD 24 = true → p = getBits w 16 6 → isPage p = true → s.dev.hw.absent p = false →
    s.dev.hw.boltGrant p = true → s.dev.hw.bolted p = false → s.dev.hw.quiet p = false →
    Ends (.tstCommand (.agent 0) w) s fun t =>
      t.on TST_CMD_BUSY = true ∧ t.on (BLK_CTL_QREQ p) = true ∧ t.dev.hw.tst.stage = .quiet ∧
      t.dev.hw.tst.todo = [(p, [getBits w 8 8])] ∧ OnlyRegsAndFaults [TST_CMD, BLK_CTL p] s t) ∧
  (∀ who w s, Reaches who TST_CMD s → who ≠ .agent 0 → Ends (.tstCommand who w) s fun t =>
      t.dev.hw.bitAt (BLK_FAULT PG_TST) 9 = true ∧ OnlyRegsAndFaults [BLK_FAULT PG_TST, BLK_IRQ PG_TST] s t) ∧
  (∀ s, Alive s → Ends .rollingStepStart s fun t =>
      t.dev.hw.tst.due = (s.dev.hw.tst.due || s.on TST_CFG_ROLLEN) ∧ OnlyRegs [] s t))

/-- A claim answers the pending enabled source with the highest priority, whatever the threshold, and takes its pending bit
off until it is completed; with none it answers 0; a completion counts where the source is enabled for the context (R98;
that a context claims what is routed to its own core is log entry 55). The Ward's own controller answers the lowest pending
enabled source (R350). -/
def Obligations.InterruptClaims : Prop :=
  (∀ a (ctx : Fin 8) n s, s.dev.hw.canAccess (.agent a) = true → s.dev.hw.plicBest ctx.val = n → n ≠ 0 →
    Ends (.plicClaim (.agent a) ctx) s fun t =>
      t.dev.hw.reply.data = [BitVec.ofNat 32 n] ∧ t.dev.hw.reply.err = false ∧
      n < 42 ∧ claimable s ctx.val n = true ∧ t.dev.hw.plicPending n = false ∧
      (∀ m : Fin 42, claimable s ctx.val m.val = true → s.rd (PLIC_PRIO_PRIO m.val) ≤ s.rd (PLIC_PRIO_PRIO n) ∧
        (m.val < n → s.rd (PLIC_PRIO_PRIO m.val) < s.rd (PLIC_PRIO_PRIO n))) ∧
      (∀ m : Fin 42, m.val ≠ n → t.dev.hw.plicPending m.val = s.dev.hw.plicPending m.val) ∧ OnlyRegs [] s t) ∧
  (∀ a (ctx : Fin 8) s, s.dev.hw.canAccess (.agent a) = true → s.dev.hw.plicBest ctx.val = 0 →
    Ends (.plicClaim (.agent a) ctx) s fun t =>
      t.dev.hw.reply.data = [0] ∧ (∀ m : Fin 42, t.dev.hw.plicPending m.val = s.dev.hw.plicPending m.val) ∧
      OnlyRegs [] s t) ∧
  (∀ who (ctx : Fin 8) w s, MayConfigure who PG_CPR (PLIC_CLAIM ctx.val) s → Ends (.plicComplete who ctx w) s fun t =>
      (w.toNat < 42 → s.dev.hw.bitAt (PLIC_EN ctx.val (w.toNat / 32)) (w.toNat % 32) = true →
        bit t.dev.hw.cpr.plicBusy w.toNat = false) ∧
      (42 ≤ w.toNat ∨ s.dev.hw.bitAt (PLIC_EN ctx.val (w.toNat / 32)) (w.toNat % 32) = false →
        t.dev.hw.cpr.plicBusy = s.dev.hw.cpr.plicBusy) ∧ OnlyRegs [] s t) ∧
  (∀ a n s, s.dev.hw.canAccess (.agent a) = true → n ≠ 0 → n < 43 → s.dev.hw.icPending n = true →
    s.dev.hw.bitAt (SIS_IC_EN (n / 32)) (n % 32) = true →
    (∀ m, m < n → (s.dev.hw.icPending m && s.dev.hw.bitAt (SIS_IC_EN (m / 32)) (m % 32)) = false) →
    Ends (.sisIcClaim (.agent a) none) s fun t =>
      t.dev.hw.reply.data = [BitVec.ofNat 32 n] ∧ t.dev.hw.icPending n = false ∧ OnlyRegsAndFaults [] s t) ∧
  (∀ w s, Reaches (.agent 0) SIS_IC_CLAIM s → Ends (.sisIcClaim (.agent 0) (some w)) s fun t =>
      w.toNat ∉ t.dev.hw.sis.icClaimed ∧ OnlyRegsAndFaults [] s t)

/-- Reads and writes of the address map (R29, R34 to R37): an RC field clears as it is read; a pair's _LO read holds the _HI
of that moment for its reader; a written _HI takes the writer's own _LO; the SRAM takes and gives bytes, in 1 to 8 at a time; a W1C header write clears the
ones written; a misaligned access, and one where nothing stands, is a bus error that changes nothing. In OFF, RESET and
PARKED, and by an agent in reset, no access is made (R65, R80); the keyway's write outside its scope changes nothing but DENIED (R475). -/
def Obligations.Accesses : Prop :=
  (∀ a s, s.dev.hw.canAccess (.agent a) = true → Ends (.rcRead (.agent a) (BitVec.ofNat 64 TST_FAILLOG) 2) s fun t =>
      t.dev.hw.reply.data = [s.reg TST_FAILLOG] ∧ t.dev.hw.reply.err = false ∧
      t.reg TST_FAILLOG = s.reg TST_FAILLOG &&& ~~~ 0xF000FFFF#32 ∧ OnlyRegsAndFaults [TST_FAILLOG] s t) ∧
  (∀ a s, s.dev.hw.canAccess (.agent a) = true → Ends (.pairLoRead (.agent a) (BitVec.ofNat 32 CPR_OPTIME_LO)) s fun t =>
      t.dev.hw.reply.data = [s.reg CPR_OPTIME_LO] ∧
      holderOf t.dev.hw.hdr.rdHold a.val CPR_OPTIME_HI = some (s.reg CPR_OPTIME_HI) ∧ OnlyRegsAndFaults [] s t) ∧
  (∀ a hi s, s.dev.hw.canAccess (.agent a) = true → holderOf s.dev.hw.hdr.rdHold a.val CPR_OPTIME_HI = some hi →
    Ends (.rcRead (.agent a) (BitVec.ofNat 64 CPR_OPTIME_HI) 2) s fun t =>
      t.dev.hw.reply.data = [hi] ∧ OnlyRegsAndFaults [] s t) ∧
  (∀ a lo w s, MayConfigure (.agent a) (PG_ETH 0) (ETH_MAC_HI 0) s →
    holderOf s.dev.hw.hdr.wrHold a.val (ETH_MAC_LO 0) = some lo →
    Ends (.pairHiWrite (.agent a) (BitVec.ofNat 32 (ETH_MAC_HI 0)) w) s fun t =>
      t.reg (ETH_MAC_LO 0) = lo ∧ t.reg (ETH_MAC_HI 0) = (w &&& 0xFFFF) ∧
      OnlyRegsAndFaults [ETH_MAC_LO 0, ETH_MAC_HI 0] s t) ∧
  (∀ who (a : Nat) (size : Fin 4) data s, 0x20000000 ≤ a → a + 2 ^ size.val ≤ 0x20400000 → a % 2 ^ size.val = 0 →
    s.on CPR_WIPE_STAT_BUSY = false → Reaches who a s →
    Ends (.registerWrite who (BitVec.ofNat 64 a) size data) s fun t =>
      t.dev.hw.reply.err = false ∧ memNat t.dev.mem a (2 ^ size.val) = data.toNat % 2 ^ (8 * 2 ^ size.val) ∧
      (∀ b, (b < a ∨ a + 2 ^ size.val ≤ b) → memRead t.dev.mem b = memRead s.dev.mem b) ∧
      (∀ r, r ∉ faultRegs → t.reg r = s.reg r)) ∧
  (∀ a (addr : Nat) (size : Fin 4) s, 0x20000000 ≤ addr → addr + 2 ^ size.val ≤ 0x20400000 → addr % 2 ^ size.val = 0 →
    s.on CPR_WIPE_STAT_BUSY = false → s.dev.hw.canAccess (.agent a) = true →
    Ends (.rcRead (.agent a) (BitVec.ofNat 64 addr) size) s fun t =>
      t.dev.hw.reply.err = false ∧ t.dev.hw.reply.data = replyWords (2 ^ size.val) (memNat s.dev.mem addr (2 ^ size.val)) ∧
      OnlyRegsAndFaults [] s t) ∧
  (∀ a (addr : BitVec 64) (size : Fin 4) s, s.dev.hw.canAccess (.agent a) = true → 0x100000000 ≤ addr.toNat →
    Ends (.rcRead (.agent a) addr size) s fun t => t.dev.hw.reply.err = true ∧ OnlyRegsAndFaults [] s t) ∧
  (∀ who (p : Fin 41) (w : Word) s, isPage p.val = true → MayOperate who p.val (BLK_IRQ p.val) s →
    BLK_IRQ p.val ∉ faultRegs →
    Ends (.registerWrite who (BitVec.ofNat 64 (BLK_IRQ p.val)) 2 (BitVec.ofNat 64 w.toNat)) s fun t =>
      t.reg (BLK_IRQ p.val) = s.reg (BLK_IRQ p.val) &&& ~~~ w ∧ OnlyRegsAndFaults [BLK_IRQ p.val] s t) ∧
  (∀ who (a : BitVec 64) (size : Fin 4) data s, Reaches who a.toNat s → a.toNat % 2 ^ size.val ≠ 0 →
    Ends (.registerWrite who a size data) s fun t => t.dev.hw.reply.err = true ∧ OnlyRegsAndFaults [] s t) ∧
  (∀ who (a : BitVec 64) (size : Fin 4) data s, s.dev.hw.canAccess who = false →
    Ends (.registerWrite who a size data) s fun t => OnlyRegsAndFaults [] s t) ∧
  (∀ (a : BitVec 64) (size : Fin 4) data s, s.dev.hw.fabricOn = true → s.on SEC_KW_STAT_OPEN = true →
    s.dev.hw.kwScope a.toNat = false → Ends (.registerWrite .keyway a size data) s fun t =>
      t.on SEC_KW_STAT_DENIED = true ∧ OnlyRegsAndFaults [SEC_KW_STAT] s t)

/-! ## The control engine (R199 to R219) -/

/-- GO, HALT and SOLO (R202, R212): GO = 1 starts a halted core whose program is authentic, otherwise AUTHF; GO = 0 halts
one that runs no task; SOLO is noted for the next position cycle; only agent 0 may. A software trigger makes ticks due; a
check of the program runs (R215) and passes or fails. -/
def Obligations.CoreOrders : Prop :=
  (∀ (c : Fin 2) w s, Reaches (.agent 0) (TCE_CTL c.val) s → s.dev.hw.coreSt c.val = coreHalt →
    s.on (TCE_STAT_AUTH c.val) = true → s.on (BLK_CTL_EN (PG_TCE c.val)) = true →
    s.on (TCE_BGPC_BGEN c.val) = false → w.getLsbD 8 = s.on (TCE_CTL_SOLO c.val) → c.val < s.dev.hw.tce.length →
    Ends (.tceGo (.agent 0) c w) s fun t =>
      t.on (TCE_CTL_GO c.val) = true ∧ t.dev.hw.coreSt c.val = coreWait ∧ (t.dev.hw.core c.val).enabling = true ∧
      OnlyRegs [TCE_CTL c.val, TCE_STAT c.val] s t) ∧
  (∀ (c : Fin 2) w s, Reaches (.agent 0) (TCE_CTL c.val) s → s.dev.hw.coreSt c.val = coreHalt →
    (s.on (TCE_STAT_AUTH c.val) = false ∨ s.on (BLK_CTL_EN (PG_TCE c.val)) = false) →
    w.getLsbD 8 = s.on (TCE_CTL_SOLO c.val) → Ends (.tceGo (.agent 0) c w) s fun t =>
      t.dev.hw.bitAt (BLK_FAULT (PG_TCE c.val)) 14 = true ∧ t.dev.hw.coreSt c.val = coreHalt ∧
      OnlyRegs [BLK_FAULT (PG_TCE c.val), BLK_IRQ (PG_TCE c.val)] s t) ∧
  (∀ (c : Fin 2) w s, Reaches (.agent 0) (TCE_CTL c.val) s →
    (s.dev.hw.coreSt c.val = coreWait ∨ s.dev.hw.coreSt c.val = coreBack) → w.getLsbD 8 = s.on (TCE_CTL_SOLO c.val) →
    c.val < s.dev.hw.tce.length → Ends (.tceHalt (.agent 0) c w) s fun t =>
      t.on (TCE_CTL_GO c.val) = false ∧ t.dev.hw.coreSt c.val = coreHalt ∧
      (t.dev.hw.core c.val).dispatch = false ∧ t.dev.hw.bitAt (BLK_IRQ (PG_TCE c.val)) 2 = true ∧
      OnlyRegs [TCE_CTL c.val, TCE_STAT c.val, BLK_IRQ (PG_TCE c.val)] s t) ∧
  (∀ (c : Fin 2) w s, Reaches (.agent 0) (TCE_CTL c.val) s → s.dev.hw.coreSt c.val = coreTask →
    w.getLsbD 8 = s.on (TCE_CTL_SOLO c.val) → c.val < s.dev.hw.tce.length → (s.dev.hw.core c.val).pend = [] →
    Ends (.tceHalt (.agent 0) c w) s fun t =>
      t.dev.hw.coreSt c.val = coreTask ∧ (t.dev.hw.core c.val).haltReq = true ∧ OnlyRegs [TCE_CTL c.val] s t) ∧
  (∀ (c : Fin 2) w s, Reaches (.agent 0) (TCE_CTL c.val) s → w.getLsbD 0 = true → w.getLsbD 8 = true →
    s.on (TCE_CTL_SOLO c.val) = false → s.on (TCE_STAT_SOLOACT (1 - c.val)) = false →
    s.dev.hw.coreSt c.val = coreWait → c.val < s.dev.hw.tce.length → Ends (.tceSolo (.agent 0) c w) s fun t =>
      t.on (TCE_CTL_SOLO c.val) = true ∧ (t.dev.hw.core c.val).soloReq = some true ∧ OnlyRegs [TCE_CTL c.val] s t) ∧
  (∀ who (c : Fin 2) w s, Reaches who (TCE_CTL c.val) s → who ≠ .agent 0 → Ends (.tceSolo who c w) s fun t =>
      t.dev.hw.bitAt (BLK_FAULT (PG_TCE c.val)) 15 = true ∧
      OnlyRegs [BLK_FAULT (PG_TCE c.val), BLK_IRQ (PG_TCE c.val)] s t) ∧
  (∀ who (c : Fin 2) w s, MayOperate who (PG_TCE c.val) (TCE_TRIG c.val) s →
    s.dev.hw.carrier c.val < s.dev.hw.tce.length → s.dev.hw.dispatchOn (s.dev.hw.carrier c.val) = true →
    Ends (.tceSoftwareTrigger who c w) s fun t =>
      (∀ k, k < 16 → w.getLsbD k = true → s.rd (TCE_TASKk_CFG_TRIG c.val k) = 4 → s.dev.hw.taskOn ⟨c.val, k⟩ = true →
        (⟨c.val, k⟩ : TaskRef) ∈ (t.dev.hw.core (s.dev.hw.carrier c.val)).due) ∧ OnlyRegs [] s t) ∧
  (∀ who (c : Fin 2) w s, MayOperate who (PG_TCE c.val) (TCE_PCAUTH c.val) s → Ends (.tceAuthStart who c w) s fun t =>
      t.on (TCE_PCAUTH_BUSY c.val) = (s.on (TCE_PCAUTH_BUSY c.val) || w.getLsbD 0) ∧ OnlyRegs [TCE_PCAUTH c.val] s t) ∧
  (∀ (c : Fin 2) s, Alive s → s.on (TCE_PCAUTH_BUSY c.val) = true → s.dev.hw.laneRuns = true →
    Ends (.tceAuthDone c) s fun t =>
      t.on (TCE_PCAUTH_BUSY c.val) = false ∧
      OnlyRegs [TCE_PCAUTH c.val, TCE_STAT c.val, BLK_FAULT (PG_TCE c.val), BLK_IRQ (PG_TCE c.val)] s t)

/-- Writes of program memory (R201): carried out in RESET or HALT with no check running, which clears AUTH; at another time
not carried out, with PWRITE. A tick (R204, R209) starts its task on a waiting core, leaves it pending behind a running
one, or overruns; a tick that is not due does nothing. A word that is illegal where it stands halts the core with ILLOP
(R202, R243). An interrupt enters the handler at index 0 (R262). -/
def Obligations.ProgramsAndTicks : Prop :=
  (∀ who (c : Fin 2) (off : BitVec 16) (size : Fin 4) data s, Reaches who (progBase c.val + off.toNat) s →
    off.toNat % 2 ^ size.val = 0 → s.on CPR_WIPE_STAT_BUSY = false → s.dev.hw.programOpen c.val = true → Ends (.tceProgramWrite who c off size data) s fun t =>
      memNat t.dev.mem (progBase c.val + off.toNat) (2 ^ size.val) = data.toNat % 2 ^ (8 * 2 ^ size.val) ∧
      (∀ b, (b < progBase c.val + off.toNat ∨ progBase c.val + off.toNat + 2 ^ size.val ≤ b) →
        memRead t.dev.mem b = memRead s.dev.mem b) ∧
      t.on (TCE_STAT_AUTH c.val) = false ∧ (∀ a, a ≠ TCE_STAT c.val → a ∉ faultRegs → t.reg a = s.reg a)) ∧
  (∀ who (c : Fin 2) (off : BitVec 16) (size : Fin 4) data s, Reaches who (progBase c.val + off.toNat) s →
    off.toNat % 2 ^ size.val = 0 → s.on CPR_WIPE_STAT_BUSY = false → s.dev.hw.programOpen c.val = false → Ends (.tceProgramWrite who c off size data) s fun t =>
      t.dev.hw.bitAt (BLK_FAULT (PG_TCE c.val)) 12 = true ∧
      OnlyRegsAndFaults [BLK_FAULT (PG_TCE c.val), BLK_IRQ (PG_TCE c.val)] s t) ∧
  (∀ (p : Fin 2) (k : Fin 16) c s, Alive s → s.dev.hw.carrier p.val = c → c < s.dev.hw.tce.length →
    (⟨p.val, k.val⟩ : TaskRef) ∈ (s.dev.hw.core c).due → s.dev.hw.dispatchOn c = true →
    s.dev.hw.coreSt c = coreWait → (s.dev.hw.core c).run = none → (s.dev.hw.core c).pend = [] →
    Ends (.taskTick p k) s fun t =>
      t.dev.hw.coreSt c = coreTask ∧ (t.dev.hw.core c).run = some ⟨p.val, k.val⟩ ∧ t.rd (TCE_STAT_CURTASK c) = k.val ∧
      (t.dev.hw.core c).pc = (if p.val = c then s.rd (TCE_TASKk_ENTRY_ENTRY p.val k.val)
        else s.rd (TCE_TASKk_ENTRY_SENTRY p.val k.val)) ∧
      (t.dev.hw.core c).sw = 65536 * s.rd (TCE_TASKk_CFG_IEN p.val k.val) ∧
      t.on (TCE_TASKk_STAT_RUN p.val k.val) = true ∧
      OnlyRegsAndFaults [TCE_STAT c, TCE_PC c, TCE_TASKk_STAT p.val k.val] s t) ∧
  (∀ (p : Fin 2) (k : Fin 16) c s, Alive s → s.dev.hw.carrier p.val = c → c < s.dev.hw.tce.length →
    (⟨p.val, k.val⟩ : TaskRef) ∈ (s.dev.hw.core c).due → s.dev.hw.dispatchOn c = true →
    s.dev.hw.coreSt c = coreTask → (s.dev.hw.core c).run ≠ some ⟨p.val, k.val⟩ →
    (⟨p.val, k.val⟩ : TaskRef) ∉ (s.dev.hw.core c).pend → Ends (.taskTick p k) s fun t =>
      (⟨p.val, k.val⟩ : TaskRef) ∈ (t.dev.hw.core c).pend ∧ t.on (TCE_TASKk_STAT_PEND p.val k.val) = true ∧
      (t.dev.hw.core c).run = (s.dev.hw.core c).run ∧ OnlyRegsAndFaults [TCE_TASKk_STAT p.val k.val] s t) ∧
  (∀ (p : Fin 2) (k : Fin 16) c s, Alive s → s.dev.hw.carrier p.val = c → c < s.dev.hw.tce.length →
    (⟨p.val, k.val⟩ : TaskRef) ∈ (s.dev.hw.core c).due → s.dev.hw.dispatchOn c = true →
    (s.dev.hw.core c).run = some ⟨p.val, k.val⟩ → Ends (.taskTick p k) s fun t =>
      t.on (TCE_TASKk_STAT_OVR p.val k.val) = true ∧
      t.rd (TCE_OVR_TOTAL c) = min 65535 (s.rd (TCE_OVR_TOTAL c) + 1) ∧
      t.rd (TCE_OVR_CONSEC c) = min 15 (s.rd (TCE_OVR_CONSEC c) + 1) ∧
      (t.dev.hw.core c).run = some ⟨p.val, k.val⟩ ∧
      OnlyRegsAndFaults [TCE_OVR c, TCE_TASKk_OVR p.val k.val, TCE_TASKk_STAT p.val k.val, BLK_IRQ (PG_TCE c),
        BLK_FAULT (PG_TCE c)] s t) ∧
  (∀ (p : Fin 2) (k : Fin 16) s, (⟨p.val, k.val⟩ : TaskRef) ∉ (s.dev.hw.core (s.dev.hw.carrier p.val)).due →
    Ends (.taskTick p k) s fun t => OnlyRegsAndFaults [] s t) ∧
  (∀ (c : Fin 2) (ecc : CoreEcc) s, s.dev.hw.coreRuns c.val = true → ecc.fetch = .clean → s.dev.tceNow c.val ecc = none →
    c.val < s.dev.hw.tce.length → (s.dev.hw.core c.val).pend = [] → NoFault s →
    s.dev.hw.bitAt (BLK_FAULT (PG_TCE c.val)) 9 = false → Ends (.illegalInstruction c ecc) s fun t =>
      t.dev.hw.coreSt c.val = coreHalt ∧ t.on (TCE_STAT_ILLOP c.val) = true ∧ t.on (TCE_CTL_GO c.val) = false ∧
      (t.dev.hw.core c.val).run = none ∧ t.dev.hw.bitAt (BLK_FAULT (PG_TCE c.val)) 9 = true ∧ SameMem s t) ∧
  (∀ (c : Fin 2) s, s.dev.hw.coreRuns c.val = true → s.dev.hw.tceTakes c.val = true → c.val < s.dev.hw.tce.length →
    Ends (.tceInterruptEntry c) s fun t =>
      (t.dev.hw.core c.val).pc = 0 ∧ bit (t.dev.hw.core c.val).sw 16 = false ∧
      (t.dev.hw.core c.val).saved.map Prod.fst = some (s.dev.hw.core c.val).pc ∧
      t.reg (TCE_PC c.val) = 0 ∧ OnlyRegs [TCE_PC c.val] s t)

/-- Instructions of a core that compute (R229, R230, R248 to R252): the results go into flight, one cycle for the ALU, MOVI
and MOV, two for RND, three for the multiply-accumulates, with the flags beside an ALU result; CMP writes no register; the
core goes on at the next index and nothing else changes. -/
def Obligations.CoreComputes : Prop :=
  (∀ (c : Fin 2) ecc s dd da b, Issues c.val ecc (.alu 0x00 dd da b) s →
    Ends (.addOp c ecc) s (Issued c.val (aluFlights (s.at c.val) 0x00 dd da b) id s)) ∧
  (∀ (c : Fin 2) ecc s dd da b, Issues c.val ecc (.alu 0x01 dd da b) s →
    Ends (.subOp c ecc) s (Issued c.val (aluFlights (s.at c.val) 0x01 dd da b) id s)) ∧
  (∀ (c : Fin 2) ecc s dd da b, Issues c.val ecc (.alu 0x02 dd da b) s →
    Ends (.adds c ecc) s (Issued c.val (aluFlights (s.at c.val) 0x02 dd da b) id s)) ∧
  (∀ (c : Fin 2) ecc s dd da b, Issues c.val ecc (.alu 0x03 dd da b) s →
    Ends (.subs c ecc) s (Issued c.val (aluFlights (s.at c.val) 0x03 dd da b) id s)) ∧
  (∀ (c : Fin 2) ecc s dd da b, Issues c.val ecc (.alu 0x04 dd da b) s →
    Ends (.andOp c ecc) s (Issued c.val (aluFlights (s.at c.val) 0x04 dd da b) id s)) ∧
  (∀ (c : Fin 2) ecc s dd da b, Issues c.val ecc (.alu 0x05 dd da b) s →
    Ends (.orOp c ecc) s (Issued c.val (aluFlights (s.at c.val) 0x05 dd da b) id s)) ∧
  (∀ (c : Fin 2) ecc s dd da b, Issues c.val ecc (.alu 0x06 dd da b) s →
    Ends (.xorOp c ecc) s (Issued c.val (aluFlights (s.at c.val) 0x06 dd da b) id s)) ∧
  (∀ (c : Fin 2) ecc s dd da b, Issues c.val ecc (.alu 0x07 dd da b) s →
    Ends (.andn c ecc) s (Issued c.val (aluFlights (s.at c.val) 0x07 dd da b) id s)) ∧
  (∀ (c : Fin 2) ecc s dd da b, Issues c.val ecc (.alu 0x08 dd da b) s →
    Ends (.shl c ecc) s (Issued c.val (aluFlights (s.at c.val) 0x08 dd da b) id s)) ∧
  (∀ (c : Fin 2) ecc s dd da b, Issues c.val ecc (.alu 0x09 dd da b) s →
    Ends (.shr c ecc) s (Issued c.val (aluFlights (s.at c.val) 0x09 dd da b) id s)) ∧
  (∀ (c : Fin 2) ecc s dd da b, Issues c.val ecc (.alu 0x0A dd da b) s →
    Ends (.asr c ecc) s (Issued c.val (aluFlights (s.at c.val) 0x0A dd da b) id s)) ∧
  (∀ (c : Fin 2) ecc s dd da b, Issues c.val ecc (.alu 0x0B dd da b) s →
    Ends (.cmp c ecc) s (Issued c.val (aluFlights (s.at c.val) 0x0B dd da b) id s)) ∧
  (∀ (c : Fin 2) ecc s dd da b, Issues c.val ecc (.alu 0x0C dd da b) s →
    Ends (.negOp c ecc) s (Issued c.val (aluFlights (s.at c.val) 0x0C dd da b) id s)) ∧
  (∀ (c : Fin 2) ecc s dd da b, Issues c.val ecc (.alu 0x0D dd da b) s →
    Ends (.absOp c ecc) s (Issued c.val (aluFlights (s.at c.val) 0x0D dd da b) id s)) ∧
  (∀ (c : Fin 2) ecc s dd da b, Issues c.val ecc (.alu 0x0E dd da b) s →
    Ends (.minOp c ecc) s (Issued c.val (aluFlights (s.at c.val) 0x0E dd da b) id s)) ∧
  (∀ (c : Fin 2) ecc s dd da b, Issues c.val ecc (.alu 0x0F dd da b) s →
    Ends (.maxOp c ecc) s (Issued c.val (aluFlights (s.at c.val) 0x0F dd da b) id s)) ∧
  (∀ (c : Fin 2) ecc s dd da b, Issues c.val ecc (.alu 0x10 dd da b) s →
    Ends (.aluMov c ecc) s (Issued c.val (aluFlights (s.at c.val) 0x10 dd da b) id s)) ∧
  (∀ (c : Fin 2) ecc s high dd imm, Issues c.val ecc (.moviData high dd imm) s → Ends (.moviData c ecc) s fun t =>
      Issued c.val [⟨1, dd, .put (if high then 65536 * imm + ((s.at c.val).dReg dd).toNat % 65536
        else (BitVec.ofInt 32 (signed 16 imm)).toNat), 0⟩] id s t) ∧
  (∀ (c : Fin 2) ecc s file i imm, Issues c.val ecc (.moviAddr file i imm) s → Ends (.moviAddr c ecc) s fun t =>
      Issued c.val [⟨1, 0x10 + 8 * file + i, .put (4 * imm), 0⟩] id s t) ∧
  (∀ (c : Fin 2) ecc s dst src, Issues c.val ecc (.mov dst src) s → Ends (.movReg c ecc) s fun t =>
      let v := ((s.at c.val).byCode src).toNat
      Issued c.val (if 0x40 ≤ dst then [⟨1, 0x40 + dst % 4, .view (dst / 4 % 4) v, 0⟩]
        else ⟨1, dst, .put v, 0⟩ ::
          (if dst = 0x31 ∨ dst = 0x32 ∨ (0x34 ≤ dst ∧ dst ≤ 0x38) then [⟨3, dst + 0x80, .put v, 0⟩] else [])) id s t) ∧
  (∀ (c : Fin 2) ecc s o conj k x y u w, Issues c.val ecc (.mac 0 o conj k x y u w) s → Ends (.mac c ecc) s fun t =>
      let d := fun n => ((s.at c.val).dReg n).toInt
      Issued c.val [⟨3, 0x40 + k, .acc o (d x * d y), 0⟩] id s t) ∧
  (∀ (c : Fin 2) ecc s o conj k x y u w, Issues c.val ecc (.mac 1 o conj k x y u w) s → Ends (.macd c ecc) s fun t =>
      let d := fun n => ((s.at c.val).dReg n).toInt
      Issued c.val [⟨3, 0x40 + k, .acc o (d x * d y), 0⟩, ⟨3, 0x40 + (k + 1), .acc o (d u * d w), 0⟩] id s t) ∧
  (∀ (c : Fin 2) ecc s o conj k x y u w, Issues c.val ecc (.mac 2 o conj k x y u w) s → Ends (.macs c ecc) s fun t =>
      let d := fun n => ((s.at c.val).dReg n).toInt
      Issued c.val [⟨3, 0x40 + k, .acc o (d x * d y + d u * d w), 0⟩] id s t) ∧
  (∀ (c : Fin 2) ecc s o conj k x y u w, Issues c.val ecc (.mac 3 o conj k x y u w) s → Ends (.cmac c ecc) s fun t =>
      let d := fun n => ((s.at c.val).dReg n).toInt
      let yi := if conj then -d (y + 1) else d (y + 1)
      Issued c.val [⟨3, 0x40 + k, .acc o (d x * d y - d (x + 1) * yi), 0⟩,
        ⟨3, 0x40 + (k + 1), .acc o (d x * yi + d (x + 1) * d y), 0⟩] id s t) ∧
  (∀ (c : Fin 2) ecc s pair k dd ssh, Issues c.val ecc (.rnd pair k dd ssh) s → Ends (.rnd c ecc) s fun t =>
      Issued c.val ((s.at c.val).rndFlight k dd ssh ::
        (if pair then [(s.at c.val).rndFlight (k + 1) (dd + 1) ssh] else [])) id s t)

/-- The values of the ALU (R248): sums and differences modulo 2^32 with carry, borrow and signed overflow; the saturating
forms; the shifts with the last bit shifted out; the absolute value; and the rounded accumulator of R228. -/
def Obligations.AluValues : Prop :=
  (∀ a b, (aluOp 0x00 a b).r = a + b ∧ ((aluOp 0x00 a b).c = true ↔ 2 ^ 32 ≤ a.toNat + b.toNat) ∧
    ((aluOp 0x00 a b).v = true ↔ (a + b).toInt ≠ a.toInt + b.toInt)) ∧
  (∀ a b, (aluOp 0x01 a b).r = a - b ∧ ((aluOp 0x01 a b).c = true ↔ a.toNat < b.toNat) ∧
    ((aluOp 0x01 a b).v = true ↔ (a - b).toInt ≠ a.toInt - b.toInt)) ∧
  (∀ a b, (aluOp 0x02 a b).r.toInt = max (-2 ^ 31) (min (2 ^ 31 - 1) (a.toInt + b.toInt)) ∧
    ((aluOp 0x02 a b).sat = true ↔ (a + b).toInt ≠ a.toInt + b.toInt)) ∧
  (∀ a b, (aluOp 0x03 a b).r.toInt = max (-2 ^ 31) (min (2 ^ 31 - 1) (a.toInt - b.toInt)) ∧
    ((aluOp 0x03 a b).sat = true ↔ (a - b).toInt ≠ a.toInt - b.toInt)) ∧
  (∀ a b, (aluOp 0x0B a b).flags = (aluOp 0x01 a b).flags) ∧
  (∀ a b, (aluOp 0x08 a b).r.toNat = a.toNat * 2 ^ (b.toNat % 32) % 2 ^ 32 ∧
    ((aluOp 0x08 a b).c = true ↔ a.toNat * 2 ^ (b.toNat % 32) / 2 ^ 32 % 2 = 1)) ∧
  (∀ a b, (aluOp 0x09 a b).r.toNat = a.toNat / 2 ^ (b.toNat % 32) ∧
    ((aluOp 0x09 a b).c = true ↔ a.toNat * 2 / 2 ^ (b.toNat % 32) % 2 = 1 ∧ b.toNat % 32 ≠ 0)) ∧
  (∀ a b, (aluOp 0x0A a b).r.toInt = a.toInt / 2 ^ (b.toNat % 32)) ∧
  (∀ a b, (aluOp 0x0D a b).r.toNat = min (2 ^ 31 - 1) a.toInt.natAbs ∧
    ((aluOp 0x0D a b).sat = true ↔ a.toInt = -2 ^ 31)) ∧
  (∀ a b, (aluOp 0x0E a b).r.toInt = min a.toInt b.toInt ∧ (aluOp 0x0F a b).r.toInt = max a.toInt b.toInt) ∧
  (∀ acc ssh, ssh < 8 → (rndWord acc ssh).toInt = max (-2 ^ 31) (min (2 ^ 31 - 1) ((acc.toInt * 2 ^ ssh + 2 ^ 30) / 2 ^ 31)))

/-- Control instructions of a core (R244, R245, R258, R259, R263): NOP goes on; BR, JAL and JR lead to their target after
two delay slots, JAL keeping the index after them; LOOP with a count begins at the next index, with 0 it goes past its end;
LEXIT leaves the active loop; RETI leads back to the saved index; SWI sets the interrupt bit; END ends the instance, and a
core with no other task waits. -/
def Obligations.CoreControl : Prop :=
  (∀ (c : Fin 2) ecc s, Issues c.val ecc .nop s → Ends (.nop c ecc) s fun t => Issued c.val [] id s t) ∧
  (∀ (c : Fin 2) ecc s cond target, Issues c.val ecc (.br cond target) s → Ends (.br c ecc) s fun t =>
      Issued c.val [] (fun x => { x with
        delay := 2, target := if condHolds cond (s.at c.val).sw then some target else none, retSlots := false }) s t) ∧
  (∀ (c : Fin 2) ecc s r target, Issues c.val ecc (.jal r target) s → Ends (.jal c ecc) s fun t =>
      Issued c.val [⟨1, r, .put ((s.at c.val).pc + 3), 0⟩] (fun x => { x with
        delay := 2, target := some target, retSlots := false }) s t) ∧
  (∀ (c : Fin 2) ecc s r, Issues c.val ecc (.jr r) s → Ends (.jr c ecc) s fun t =>
      Issued c.val [] (fun x => { x with
        delay := 2, target := some (((s.at c.val).dReg r).toNat % 16384), retSlots := false }) s t) ∧
  (∀ (c : Fin 2) ecc s n le, Issues c.val ecc (.loop n le) s → Ends (.loop c ecc) s fun t =>
      (n = 0 → Issued c.val [] (fun x => { x with pc := (le + 1) % 16384 }) s t) ∧
      (n ≠ 0 → (t.dev.hw.core c.val).lc = n ∧ (t.dev.hw.core c.val).loops.ls = ((s.at c.val).pc + 1) % 16384 ∧
        (t.dev.hw.core c.val).loops.le = le ∧ (t.dev.hw.core c.val).pc = ((s.at c.val).pc + 1) % 16384 ∧
        (t.dev.hw.core c.val).d = (s.at c.val).d ∧ OnlyRegsAndFaults [TCE_PC c.val] s t)) ∧
  (∀ (c : Fin 2) ecc s r le, Issues c.val ecc (.loopr r le) s → ((s.at c.val).dReg r).toNat % 65536 ≠ 0 →
    Ends (.loopr c ecc) s fun t =>
      (t.dev.hw.core c.val).lc = ((s.at c.val).dReg r).toNat % 65536 ∧
      (t.dev.hw.core c.val).loops.ls = ((s.at c.val).pc + 1) % 16384 ∧ (t.dev.hw.core c.val).loops.le = le ∧
      (t.dev.hw.core c.val).pc = ((s.at c.val).pc + 1) % 16384 ∧
      (t.dev.hw.core c.val).d = (s.at c.val).d ∧ OnlyRegsAndFaults [TCE_PC c.val] s t) ∧
  (∀ (c : Fin 2) ecc s, Issues c.val ecc .lexit s → Ends (.lexit c ecc) s fun t =>
      (t.dev.hw.core c.val).loops.dep = (s.at c.val).loops.dep - 1 ∧
      ((s.at c.val).loops.dep ≠ 0 → (t.dev.hw.core c.val).lc = (s.at c.val).loops.e0.c ∧
        (t.dev.hw.core c.val).loops.ls = (s.at c.val).loops.e0.s ∧
        (t.dev.hw.core c.val).loops.le = (s.at c.val).loops.e0.e) ∧
      (t.dev.hw.core c.val).pc = ((s.at c.val).pc + 1) % 16384 ∧ OnlyRegsAndFaults [TCE_PC c.val] s t) ∧
  (∀ (c : Fin 2) ecc s, Issues c.val ecc .reti s → ∀ i sw, (s.at c.val).saved = some (i, sw) →
    Ends (.reti c ecc) s fun t =>
      Issued c.val [] (fun x => { x with delay := 2, target := some i, retSlots := true }) s t) ∧
  (∀ (c : Fin 2) ecc s, Issues c.val ecc .swi s → Ends (.swi c ecc) s fun t =>
      CoreIssued c.val [] id s t ∧ t.dev.hw.bitAt (BLK_IRQ (PG_TCE c.val)) 5 = true ∧
      OnlyRegsAndFaults [TCE_PC c.val, BLK_IRQ (PG_TCE c.val)] s t) ∧
  (∀ (c : Fin 2) ecc time s, Issues c.val ecc .endT s → ∀ p k, (s.dev.hw.core c.val).run = some ⟨p, k⟩ →
    (s.dev.hw.core c.val).pend = [] → (s.dev.hw.core c.val).haltReq = false → (s.dev.hw.core c.val).bg = none →
    s.on (TCE_BGPC_BGEN c.val) = false → Ends (.endTask c ecc time) s fun t =>
      (t.dev.hw.core c.val).run = none ∧ t.dev.hw.coreSt c.val = coreWait ∧ (t.dev.hw.core c.val).flight = [] ∧
      t.on (TCE_TASKk_STAT_RUN p k) = false ∧ t.rd (TCE_TASKk_TIME_LAST p k) = min time 65535 ∧ SameMem s t)

/-- Loads, stores and the filter tap of a core in its own X and Y memory (R229, R236, R253 to R256): a load is two cycles in
flight; a store stands at once; the pointer modify follows in one cycle; a pair is two accesses; a filter tap reads its
coefficient and its sample, stores the new sample and accumulates the product. -/
def Obligations.CoreMemory : Prop :=
  (∀ (c : Fin 2) ecc s, ecc.m0 = .clean → ∀ m, Issues c.val ecc (.mem false m) s → m.st = false →
    ((s.at c.val).ptr m.a).toNat < 0x20000 → ((s.at c.val).ptr m.a).toNat % 4 = 0 → Ends (.ld c ecc) s fun t =>
      Issued c.val (⟨2, m.d, .put (memNat s.dev.mem (progBase c.val + 0x10000 + ((s.at c.val).ptr m.a).toNat) 4), 0⟩ ::
        (s.at c.val).postModify m 4) id s t) ∧
  (∀ (c : Fin 2) ecc s m, Issues c.val ecc (.mem false m) s → m.st = true →
    ((s.at c.val).ptr m.a).toNat < 0x20000 → ((s.at c.val).ptr m.a).toNat % 4 = 0 → Ends (.st c ecc) s fun t =>
      let a := progBase c.val + 0x10000 + ((s.at c.val).ptr m.a).toNat
      CoreIssued c.val ((s.at c.val).postModify m 4) id s t ∧ memNat t.dev.mem a 4 = ((s.at c.val).dReg m.d).toNat ∧
      (∀ b, (b < a ∨ a + 4 ≤ b) → memRead t.dev.mem b = memRead s.dev.mem b) ∧
      (∀ r, r ≠ TCE_PC c.val → r ∉ faultRegs → t.reg r = s.reg r)) ∧
  (∀ (c : Fin 2) ecc s k ssh m, Issues c.val ecc (.stAcc k ssh m) s →
    ((s.at c.val).ptr m.a).toNat < 0x20000 → ((s.at c.val).ptr m.a).toNat % 4 = 0 → Ends (.stAcc c ecc) s fun t =>
      let a := progBase c.val + 0x10000 + ((s.at c.val).ptr m.a).toNat
      memNat t.dev.mem a 4 = (rndWord ((s.at c.val).accReg k) ssh).toNat ∧
      (∀ b, (b < a ∨ a + 4 ≤ b) → memRead t.dev.mem b = memRead s.dev.mem b) ∧
      (t.dev.hw.core c.val).pc = ((s.at c.val).pc + 1) % 16384 ∧ (t.dev.hw.core c.val).d = (s.at c.val).d ∧
      (∀ r, r ≠ TCE_PC c.val → r ∉ faultRegs → t.reg r = s.reg r)) ∧
  (∀ (c : Fin 2) ecc s, ecc.m0 = .clean → ecc.m1 = .clean → ∀ m n, Issues c.val ecc (.pair false m n) s →
    m.st = false → n.st = false → ((s.at c.val).ptr m.a).toNat < 0x20000 → ((s.at c.val).ptr m.a).toNat % 4 = 0 →
    ((s.at c.val).ptr n.a).toNat < 0x20000 → ((s.at c.val).ptr n.a).toNat % 4 = 0 → Ends (.ldStPair c ecc) s fun t =>
      Issued c.val (⟨2, m.d, .put (memNat s.dev.mem (progBase c.val + 0x10000 + ((s.at c.val).ptr m.a).toNat) 4), 0⟩ ::
        (s.at c.val).postModify m 4 ++
        ⟨2, n.d, .put (memNat s.dev.mem (progBase c.val + 0x10000 + ((s.at c.val).ptr n.a).toNat) 4), 0⟩ ::
        (s.at c.val).postModify n 4) id s t) ∧
  (∀ (c : Fin 2) ecc s, ecc.m0 = .clean → ecc.m1 = .clean → ∀ o k dx m n, Issues c.val ecc (.ftap o k dx m n) s →
    (s.at c.val).bypass = none → ((s.at c.val).ptr m.a).toNat < 0x20000 → ((s.at c.val).ptr m.a).toNat % 4 = 0 →
    ((s.at c.val).ptr n.a).toNat < 0x20000 → ((s.at c.val).ptr n.a).toNat % 4 = 0 → Ends (.ftap c ecc) s fun t =>
      let a := progBase c.val + 0x10000 + ((s.at c.val).ptr n.a).toNat
      let coef := memNat s.dev.mem (progBase c.val + 0x10000 + ((s.at c.val).ptr m.a).toNat) 4
      CoreIssued c.val ([⟨3, 0x40 + k, .acc o ((BitVec.ofNat 32 coef).toInt * ((s.at c.val).dReg dx).toInt), 0⟩,
          ⟨2, dx, .put (memNat s.dev.mem a 4), 0⟩] ++ (s.at c.val).postModify m 4 ++ (s.at c.val).postModify n 4)
        (fun x => { x with bypass := some (dx, BitVec.ofNat 32 (memNat s.dev.mem a 4)) }) s t ∧
      memNat t.dev.mem a 4 = ((s.at c.val).dReg dx).toNat ∧
      (∀ b, (b < a ∨ a + 4 ≤ b) → memRead t.dev.mem b = memRead s.dev.mem b) ∧
      (∀ r, r ≠ TCE_PC c.val → r ∉ faultRegs → t.reg r = s.reg r))

/-! ## The power stage (R265 to R289) -/

/-- Sigma-delta results (R274, R275): a sinc3 window of S at DEC = d gives (S - D^3/2) * 2^(32 - 3d), saturated, D = 2^d,
in every enabled input of a valid group; a fast result inside OCLIM stands in FAST; one outside that is the OC_N-th in a row
trips the input's set, with GRP in the sets of its groups. -/
def Obligations.SigmaDelta : Prop :=
  (∀ sums s, Alive s → s.dev.hw.rdn.replaying = false → s.on PST_DCB_CFG_EN = false → s.on PST_GRID_CFG_EN = false →
    Ends (.sinc3Result sums) s fun t =>
      (∀ i, i < 24 → bit (s.rd PST_SD_EN_EN) i = true → bit s.dev.hw.pst.badGroup (i / 6) = false →
        ∀ d ∈ [2, 3, 4, 5], getBits (s.reg PST_SD_DEC) (4 * (i / 6)) 4 = d → sums.getD i 0 ≤ 2 ^ (3 * d) →
        (t.reg (PST_SDn_RES i)).toInt = max (-2 ^ 31) (min (2 ^ 31 - 1)
          (((sums.getD i 0 : Nat) : Int) - 2 ^ (3 * d - 1)) * 2 ^ (32 - 3 * d))) ∧
      (∀ i, i < 24 → bit (s.rd PST_SD_EN_EN) i = false → t.reg (PST_SDn_RES i) = s.reg (PST_SDn_RES i)) ∧
      ((∀ n, n < 2 → s.dev.hw.doorOn n = false) →
        OnlyRegsAndFaults (PST_DCB :: (List.range 24).map fun i => PST_SDn_RES i) s t)) ∧
  (∀ (i : Fin 24) fast s, Alive s → bit (s.rd PST_SD_EN_EN) i.val = true → s.dev.hw.ocOutside i.val fast.toNat = false →
    (s.on PST_DCB_CFG_EN = false ∨ s.rd PST_DCB_CFG_SRC ≠ i.val) → i.val < s.dev.hw.pst.ocCnt.length →
    Ends (.sinc2FastResult i fast) s fun t =>
      t.reg (PST_SDn_FAST i.val) = fast ∧ t.dev.hw.pst.ocCnt.getD i.val 1 = 0 ∧
      OnlyRegsAndFaults [PST_SDn_FAST i.val] s t) ∧
  (∀ (i : Fin 24) fast s, Alive s → bit (s.rd PST_SD_EN_EN) i.val = true → s.dev.hw.ocOutside i.val fast.toNat = true →
    (s.on PST_DCB_CFG_EN = false ∨ s.rd PST_DCB_CFG_SRC ≠ i.val) → i.val / 4 < s.dev.hw.pwmSets →
    bit (s.rd PST_TRIP_OC) (i.val / 4) = false → s.rd PST_OC_CFG_OC_N ≤ s.dev.hw.pst.ocCnt.getD i.val 0 + 1 →
    s.dev.hw.bitAt (BLK_FAULT PG_PST) 9 = false → NoFault s → Ends (.sinc2FastResult i fast) s fun t =>
      t.reg (PST_SDn_FAST i.val) = fast ∧ bit (t.rd PST_TRIP_OC) (i.val / 4) = true ∧
      (∀ k, k < 6 → bit (s.dev.hw.groupMates (i.val / 4)) k = true → bit (t.rd PST_TRIP_GRP) k = true) ∧
      t.on (PST_PSn_STAT_TRIPPED (i.val / 4)) = true ∧ t.dev.hw.bitAt (BLK_FAULT PG_PST) 9 = true ∧
      FaultIs 3 PG_PST 9 t ∧ OnlyRegsAndFaults [PST_SDn_FAST i.val, PST_TRIP, BLK_FAULT PG_PST] s t) ∧
  (∀ (i : Fin 24) level s, Alive s → bit (s.rd PST_SD_EN_EN) i.val = true → Ends (.sdInputStuck i level) s fun t =>
      bit (t.rd PST_SD_STAT_FAIL) i.val = true ∧
      t.reg (PST_SDn_RES i.val) = (if level then 0x7FFFFFFF else 0x80000000) ∧
      t.reg (PST_SDn_FAST i.val) = (if level then 0x7FFFFFFF else 0x80000000) ∧
      t.dev.hw.bitAt (BLK_FAULT PG_PST) 17 = true ∧ t.dev.hw.bitAt (BLK_IRQ PG_PST) 11 = true ∧ SameMem s t) ∧
  (∀ (i : Fin 24) fast s, Alive s → bit (s.rd PST_SD_EN_EN) i.val = false → Ends (.sinc2FastResult i fast) s fun t =>
      OnlyRegsAndFaults [] s t)

/-- Trips and the mains (R277 to R280): a gate-driver fault latches and trips the set it is mapped to, an unmapped one
only shows; a W1C write of PST_TRIP clears what no standing cause holds; LOSS clears only while LOCK = 1. A set that nothing
holds off switches from its valley on (R271); a chopper leg whose least time has run out turns off if the bus is low
(R279). -/
def Obligations.TripsAndMains : Prop :=
  (∀ (i : Fin 8) s, s.dev.hw.bitAt PST_GDF_MAP (4 * i.val + 3) = true →
    getBits (s.reg PST_GDF_MAP) (4 * i.val) 3 < s.dev.hw.pwmSets → s.dev.hw.bitAt (BLK_FAULT PG_PST) 10 = false →
    NoFault s → Ends (.gateDriverFault i true) s fun t =>
      bit (t.rd PST_GDF_STAT_LEVEL) i.val = true ∧ bit (t.rd PST_GDF_STAT_LATCH) i.val = true ∧
      bit (t.rd PST_TRIP_GDF) (getBits (s.reg PST_GDF_MAP) (4 * i.val) 3) = true ∧
      t.dev.hw.bitAt (BLK_FAULT PG_PST) 10 = true ∧ FaultIs 3 PG_PST 10 t ∧
      OnlyRegsAndFaults [PST_GDF_STAT, PST_TRIP, BLK_FAULT PG_PST] s t) ∧
  (∀ (i : Fin 8) fault s, (fault = false ∨ s.dev.hw.bitAt PST_GDF_MAP (4 * i.val + 3) = false) →
    Ends (.gateDriverFault i fault) s fun t =>
      bit (t.rd PST_GDF_STAT_LEVEL) i.val = fault ∧
      bit (t.rd PST_GDF_STAT_LATCH) i.val = (bit (s.rd PST_GDF_STAT_LATCH) i.val || fault) ∧
      OnlyRegsAndFaults [PST_GDF_STAT] s t) ∧
  (∀ who w s, MayOperate who PG_PST PST_TRIP s → Ends (.tripClear who w) s fun t =>
      (∀ n, n < 6 →
        bit (t.rd PST_TRIP_OC) n = (bit (s.rd PST_TRIP_OC) n && !(w.getLsbD n && !s.dev.hw.tripCause n)) ∧
        bit (t.rd PST_TRIP_GDF) n = (bit (s.rd PST_TRIP_GDF) n && !(w.getLsbD (8 + n) && !s.dev.hw.tripCause n)) ∧
        bit (t.rd PST_TRIP_GRP) n = (bit (s.rd PST_TRIP_GRP) n && !(w.getLsbD (16 + n) && !s.dev.hw.tripCause n)) ∧
        t.on (PST_PSn_STAT_TRIPPED n) = t.dev.hw.setTripped n) ∧
      OnlyRegs (PST_TRIP :: (List.range 6).map fun n => PST_PSn_STAT n) s t) ∧
  (∀ who w s, MayOperate who PG_PST PST_GRID_STAT s → Ends (.gridLossClear who w) s fun t =>
      t.on PST_GRID_STAT_LOSS = (s.on PST_GRID_STAT_LOSS && !(w.getLsbD 1 && s.on PST_GRID_STAT_LOCK)) ∧
      OnlyRegs (PST_GRID_STAT :: (List.range 6).map fun n => PST_PSn_STAT n) s t) ∧
  (∀ (n : Fin 6) s, Alive s → s.dev.hw.setOff n.val = false → s.dev.hw.legsPwm n.val = true →
    s.dev.hw.pst.valleys.getD n.val 0 < s.dev.hw.valleysIn n.val → Ends (.carrierValley n) s fun t =>
      t.on (PST_PSn_STAT_SWITCHING n.val) = true ∧ OnlyRegs [PST_PSn_STAT n.val] s t) ∧
  (∀ (n : Fin 6) s, Alive s →
    (s.dev.hw.setOff n.val = true ∨ s.dev.hw.valleysIn n.val ≤ s.dev.hw.pst.valleys.getD n.val 0) →
    Ends (.carrierValley n) s fun t => OnlyRegs [] s t) ∧
  (∀ (n : Fin 6) (l : Fin 3) s, Alive s → Ends (.chopperMinonElapsed n l) s fun t =>
      bit t.dev.hw.pst.minon (3 * n.val + l.val) = false ∧
      bit t.dev.hw.pst.chopOn (3 * n.val + l.val) =
        (bit s.dev.hw.pst.chopOn (3 * n.val + l.val) && !s.dev.hw.pst.busLow) ∧ OnlyRegs [] s t)

/-- The brake sequencer's timers (R284), each in the state it belongs to: 1 MAGNETISE, 2 PRETORQUE, 3 LIFTING, 4 OPEN, 5
CLOSING, 6 RELEASE, 0 APPLIED; a brake that does not lift closes with CAUSE 1, one that does not drop stands with
CAUSE 3, a circuit test apart. A timer of another state does nothing. The brake test (R286, R287): it starts in
PROOF at standstill with an authenticated order, and otherwise nothing changes; the ramp ends at the full torque in
its direction; it passes, and the reference ramps down from then on, or it fails for slip; an abort ends it with
ABORTED and the other circuit applied. -/
def Obligations.Brake : Prop :=
  ((∀ s, Alive s → s.rd PST_BRK_STAT_STATE = 1 → s.on PST_BT_STAT_BUSY = false → Ends .brkTmagElapsed s fun t =>
      t.rd PST_BRK_STAT_STATE = 2 ∧ OnlyRegs [PST_BRK_STAT, BLK_IRQ PG_PST] s t) ∧
  (∀ s, Alive s → s.rd PST_BRK_STAT_STATE = 2 → Ends .brkTpreElapsed s fun t =>
      t.rd PST_BRK_STAT_STATE = 3 ∧ t.dev.hw.pst.lift = true ∧ OnlyRegs [PST_BRK_STAT, BLK_IRQ PG_PST] s t) ∧
  (∀ s, Alive s → s.rd PST_BRK_STAT_STATE = 3 → s.on PST_BT_STAT_BUSY = false → NoFault s → s.dev.hw.isMachine = false →
    s.dev.hw.bitAt (BLK_FAULT PG_PST) 14 = false → Ends .brkTliftElapsed s fun t =>
      t.rd PST_BRK_STAT_STATE = 5 ∧ t.rd PST_BRK_STAT_CAUSE = 1 ∧ t.on PST_BRK_STAT_START = false ∧
      t.dev.hw.pst.lift = false ∧ t.dev.hw.bitAt (BLK_FAULT PG_PST) 14 = true ∧ FaultIs 3 PG_PST 14 t ∧
      OnlyRegsAndFaults [PST_BRK_STAT, BLK_FAULT PG_PST] s t) ∧
  (∀ s, Alive s → s.rd PST_BRK_STAT_STATE = 4 → s.on PST_BT_STAT_BUSY = false → Ends .brkTstartElapsed s fun t =>
      t.on PST_BRK_STAT_RUN = true ∧ t.on PST_BRK_STAT_START = false ∧ OnlyRegs [PST_BRK_STAT] s t) ∧
  (∀ s, Alive s → s.rd PST_BRK_STAT_STATE = 4 → Ends .brkTpickElapsed s fun t =>
      t.on PST_BRK_STAT_HOLDD = true ∧ OnlyRegs [PST_BRK_STAT] s t) ∧
  (∀ s, Alive s → s.rd PST_BRK_STAT_STATE = 5 → s.dev.hw.pst.settled = true → Ends .brkTsetElapsed s fun t =>
      t.rd PST_BRK_STAT_STATE = 6 ∧ OnlyRegs [PST_BRK_STAT, BLK_IRQ PG_PST] s t) ∧
  (∀ s, Alive s → s.rd PST_BRK_STAT_STATE = 5 → s.dev.hw.pst.settled = false → NoFault s →
    s.dev.hw.bitAt (BLK_FAULT PG_PST) 14 = false → Ends .brkTdropElapsed s fun t =>
      t.rd PST_BRK_STAT_CAUSE = 3 ∧ t.dev.hw.bitAt (BLK_FAULT PG_PST) 14 = true ∧ FaultIs 5 PG_PST 14 t ∧
      OnlyRegsAndFaults [PST_BRK_STAT, BLK_FAULT PG_PST] s t) ∧
  (∀ s, Alive s → s.rd PST_BRK_STAT_STATE = 6 → Ends .brkTrampElapsed s fun t =>
      t.rd PST_BRK_STAT_STATE = 0 ∧ t.dev.hw.pst.drive = s.dev.hw.pst.keepStart ∧
      t.on PST_BRK_STAT_START = s.dev.hw.pst.keepStart ∧ OnlyRegs [PST_BRK_STAT, BLK_IRQ PG_PST] s t) ∧
  (∀ s, s.rd PST_BRK_STAT_STATE = 0 → Ends .brkTmagElapsed s (OnlyRegs [] s) ∧ Ends .brkTpreElapsed s (OnlyRegs [] s) ∧
    Ends .brkTstartElapsed s (OnlyRegs [] s) ∧ Ends .brkTpickElapsed s (OnlyRegs [] s) ∧
    Ends .brkTsetElapsed s (OnlyRegs [] s) ∧ Ends .brkTrampElapsed s (OnlyRegs [] s))) ∧
  ((∀ w s, Reaches (.agent 0) PST_BT_CTL s → s.rd SIS_MODE_CUR = 0xA → s.dev.hw.bitAt SIS_COND 6 = true →
    s.dev.hw.brkEnabled = true → s.rd PST_BRK_STAT_STATE = 0 → s.dev.hw.sis.proofOrder = true →
    s.on PST_BT_STAT_BUSY = false → Ends (.brakeTestStart (.agent 0) w) s fun t =>
      t.reg PST_BT_STAT = 0x80000000 ∧ t.reg PST_BT_IREF = 0 ∧ t.rd PST_BT_CTL_CIRC = getBits w 4 1 ∧
      t.rd PST_BT_CTL_DIR = getBits w 5 1 ∧ t.rd PST_BT_CTL_SRC = getBits w 8 3 ∧ t.dev.hw.pst.drive = true ∧
      OnlyRegs [PST_BT_CTL, PST_BT_STAT, PST_BT_IREF] s t) ∧
  (∀ w s, Reaches (.agent 0) PST_BT_CTL s →
    (s.rd SIS_MODE_CUR ≠ 0xA ∨ s.dev.hw.bitAt SIS_COND 6 = false ∨ s.rd PST_BRK_STAT_STATE ≠ 0 ∨
      s.dev.hw.sis.proofOrder = false ∨ s.on PST_BT_STAT_BUSY = true) → Ends (.brakeTestStart (.agent 0) w) s fun t =>
      OnlyRegs [] s t) ∧
  (∀ s, Alive s → s.on PST_BT_STAT_BUSY = true → s.rd PST_BT_STAT_STEP = 1 → Ends .brakeTestRampEnd s fun t =>
      t.rd PST_BT_STAT_STEP = 2 ∧
      t.reg PST_BT_IREF = (if s.on PST_BT_CTL_DIR then - s.reg PST_BT_TQ else s.reg PST_BT_TQ) ∧
      OnlyRegs [PST_BT_STAT, PST_BT_IREF] s t) ∧
  (∀ s, Alive s → s.on PST_BT_STAT_BUSY = true → s.rd PST_BT_STAT_STEP = 2 →
    s.rd PST_BT_STAT_SLIPMAX ≤ s.rd PST_BT_CFG_SLIP → Ends .brakeTestHoldEnd s fun t =>
      t.on PST_BT_STAT_BUSY = true ∧ t.rd PST_BT_STAT_STEP = 3 ∧ t.dev.hw.pst.btT = 0 ∧
      t.dev.hw.pst.btStart = s.dev.hw.pst.btStart ∧ OnlyRegs [PST_BT_STAT] s t) ∧
  (∀ s, Alive s → s.on PST_BT_STAT_BUSY = true → s.rd PST_BT_STAT_STEP = 2 →
    s.rd PST_BT_CFG_SLIP < s.rd PST_BT_STAT_SLIPMAX → Ends .brakeTestHoldEnd s fun t =>
      t.on PST_BT_STAT_BUSY = false ∧ t.on PST_BT_STAT_FAIL = true ∧ t.reg PST_BT_IREF = 0 ∧
      t.dev.hw.bitAt (BLK_FAULT PG_PST) 15 = true ∧ SameMem s t) ∧
  (∀ s, Reaches (.agent 0) PST_BT_CTL s → s.on PST_BT_STAT_BUSY = true → Ends (.brakeTestAbort (.agent 0)) s fun t =>
      t.on PST_BT_STAT_BUSY = false ∧ t.on PST_BT_STAT_ABORTED = true ∧ t.reg PST_BT_IREF = 0 ∧
      t.rd PST_BRK_STAT_STATE = 6 ∧ t.dev.hw.pst.lift = false ∧
      OnlyRegs [PST_BT_STAT, PST_BT_IREF, PST_BRK_STAT, BLK_IRQ PG_PST] s t) ∧
  (∀ who s, Reaches who PST_BT_CTL s → who ≠ .agent 0 → Ends (.brakeTestAbort who) s fun t =>
      t.dev.hw.bitAt (BLK_FAULT PG_PST) 16 = true ∧ OnlyRegs [BLK_FAULT PG_PST, BLK_IRQ PG_PST] s t) ∧
  (∀ h : Hw, h.on PST_BT_STAT_BUSY = true → h.rd PST_BT_STAT_STEP = 3 → h.rd PST_BRK_STAT_STATE = 4 →
    bit (h.rd PST_BRK_STAT_FB) h.btCirc = false → bit (h.rd PST_BRK_STAT_FB) (1 - h.btCirc) = true →
    (h.pos.ext.getD (h.rd PST_BT_CTL_SRC) 0 - h.pst.btStart).natAbs ≤ h.rd PST_BT_CFG_SLIP →
    h.rd PST_BT_STAT_SLIPMAX ≤ h.rd PST_BT_CFG_SLIP →
    h.btT0.int PST_BT_IREF = h.btRef (h.pst.btT + 1) true ∧ h.btT0.on PST_BT_STAT_BUSY = true ∧
      (h.btRef (h.pst.btT + 1) true = 0 → h.btT0.rd PST_BRK_STAT_STATE = 6)))

/-! ## Doors and vision (R291 to R317) -/

/-- A command of a door waits for its T0 with OP, SEQ and requester (R293); a standby answers MODE at once (R360). Its
result by R293, R294 and R297: an unknown OP 8, a door that is off 6, CLEAR by another than agent 0 7, FAULT 5, a mode that
forbids it 1. -/
def Obligations.DoorCommands : Prop :=
  (∀ who (n : Fin 2) (seq : BitVec 8) s, MayOperate who PG_DOR (DOR_Dn_CMD n.val) s → s.dev.hw.standby = false →
    n.val < s.dev.hw.dor.door.length →
    let waits := fun (op : Nat) (t : State) =>
      (t.dev.hw.dr n.val).cmd = some ⟨op, seq.toNat, who.num⟩ ∧ OnlyRegs [] s t
    Ends (.doorOpen who n seq) s (waits 1) ∧ Ends (.doorClose who n seq) s (waits 2) ∧
    Ends (.doorHold who n seq) s (waits 3) ∧ Ends (.doorRelease who n seq) s (waits 4) ∧
    Ends (.doorNudge who n seq) s (waits 5) ∧ Ends (.doorStop who n seq) s (waits 6) ∧
    Ends (.doorHandover who n seq) s (waits 7) ∧ Ends (.doorTakeback who n seq) s (waits 8) ∧
    Ends (.doorClear who n seq) s (waits 9) ∧
    ∀ w : Word, getBits w 8 8 = seq.toNat → Ends (.doorIllop who n w) s (waits (getBits w 0 4))) ∧
  (∀ who (n : Fin 2) (seq : BitVec 8) s, MayOperate who PG_DOR (DOR_Dn_CMD n.val) s → s.dev.hw.standby = true →
    Ends (.doorOpen who n seq) s fun t =>
      (t.reg (DOR_Dn_RES n.val)).toNat = 0x10001 + 256 * seq.toNat ∧ OnlyRegs [DOR_Dn_RES n.val] s t) ∧
  (∀ (h : Hw) n, n < 2 → n < h.dor.door.length → ∀ c, (h.dr n).cmd = some c → c.seq < 256 →
    let h' := h.takeDoorCmd n
    let code := getBits (h'.reg (DOR_Dn_RES n)) 0 8
    (h'.dr n).cmd = none ∧ getBits (h'.reg (DOR_Dn_RES n)) 8 8 = c.seq ∧ getBits (h'.reg (DOR_Dn_RES n)) 16 1 = 1 ∧
    (c.op = 0 ∨ 9 < c.op → code = 8) ∧
    (1 ≤ c.op → c.op ≤ 9 → h.doorOn n = false → code = 6) ∧
    (c.op = 9 → h.doorOn n = true → (h.dr n).held = false → c.who ≠ 0 → code = 7 ∧ h'.dst n = h.dst n) ∧
    (1 ≤ c.op → c.op ≤ 8 → h.doorOn n = true → (h.dr n).held = false → h.dst n = 11 → code = 5 ∧ h'.dst n = 11) ∧
    (c.op = 9 → h.doorOn n = true → (h.dr n).held = false → c.who = 0 → h.doorModeOk n 9 = true → h.dst n = 11 →
      code = 0 ∧ h'.dst n = 8) ∧
    (c.op = 1 → h.doorOn n = true → (h.dr n).held = false → h.dst n = 0 → h.doorModeOk n 1 = true →
      h.carStill = true → h.doorZone n = true →
      code = 0 ∧ h'.dst n = (if h.grant n then 2 else 1) ∧ bit h'.dor.unlock n = true))

/-- Timers of a door (R296): no unlocking in time leads back to CLOSED with LOCKFAIL; the dwell closes a door that nothing
holds; nudging begins after NUDGE_T; a lock that does not lock is tried again, then the door stands in FAULT; a door held by
a stall opens again. -/
def Obligations.DoorTimers : Prop :=
  (∀ (n : Fin 2) s, Alive s → s.dev.hw.doorRuns n.val = true → s.dev.hw.dst n.val = 1 → NoFault s →
    s.dev.hw.bitAt (BLK_FAULT PG_DOR) 12 = false → Ends (.doorUnlockTimeout n) s fun t =>
      t.dev.hw.dst n.val = 0 ∧ bit t.dev.hw.dor.unlock n.val = false ∧ t.dev.hw.bitAt (BLK_FAULT PG_DOR) 12 = true ∧
      FaultIs 1 PG_DOR 12 t ∧ OnlyRegsAndFaults [DOR_Dn_STAT n.val, BLK_IRQ PG_DOR, BLK_FAULT PG_DOR] s t) ∧
  (∀ (n : Fin 2) s, Alive s → s.dev.hw.doorRuns n.val = true → s.dev.hw.dst n.val = 3 →
    (s.dev.hw.dr n.val).hold = false → s.dev.hw.heldOpen n.val = false → Ends (.doorDwellElapsed n) s fun t =>
      t.dev.hw.dst n.val = (if s.rd (DOR_Dn_CFG_NUDGE_N n.val) ≠ 0 ∧
        s.rd (DOR_Dn_CFG_NUDGE_N n.val) ≤ s.rd (DOR_Dn_STAT_REVCNT n.val) then 6 else 4) ∧
      OnlyRegs [DOR_Dn_STAT n.val, BLK_IRQ PG_DOR] s t) ∧
  (∀ (n : Fin 2) s, Alive s → s.dev.hw.doorRuns n.val = true → s.dev.hw.dst n.val = 3 → s.dev.hw.heldOpen n.val = true →
    s.rd (DOR_Dn_TIM1_NUDGE_T n.val) ≠ 0 → Ends (.doorNudgeTimeElapsed n) s fun t =>
      t.dev.hw.dst n.val = 6 ∧ t.on (DOR_Dn_STAT_NUDGE n.val) = true ∧
      OnlyRegs [DOR_Dn_STAT n.val, BLK_IRQ PG_DOR] s t) ∧
  (∀ (n : Fin 2) s, Alive s → s.dev.hw.doorRuns n.val = true → s.dev.hw.dst n.val = 7 →
    n.val < s.dev.hw.dor.door.length → Ends (.doorLockTimeout n) s fun t =>
      t.dev.hw.dst n.val = (if (s.dev.hw.dr n.val).lockTries < s.rd (DOR_Dn_CFG_LOCK_RETRY n.val) then 5 else 11) ∧
      t.dev.hw.bitAt (BLK_FAULT PG_DOR) 12 = true ∧
      OnlyRegsAndFaults [DOR_Dn_STAT n.val, BLK_IRQ PG_DOR, BLK_FAULT PG_DOR] s t) ∧
  (∀ (n : Fin 2) s, Alive s → s.dev.hw.doorRuns n.val = true → s.dev.hw.dst n.val = 8 →
    (s.dev.hw.dr n.val).retry = true → s.dev.hw.doorCode n.val ⟨1, 0, 0⟩ = 0 → Ends (.doorRetryElapsed n) s fun t =>
      t.dev.hw.dst n.val = (if s.dev.hw.grant n.val then 2 else 1) ∧ bit t.dev.hw.dor.unlock n.val = true ∧
      OnlyRegs [DOR_Dn_STAT n.val, BLK_IRQ PG_DOR] s t) ∧
  (∀ (n : Fin 2) s, Alive s → s.dev.hw.doorRuns n.val = true → s.dev.hw.doorCode n.val ⟨1, 0, 0⟩ ≠ 0 →
    Ends (.doorRetryElapsed n) s (OnlyRegs [] s)) ∧
  (∀ (n : Fin 2) s, s.dev.hw.doorRuns n.val = false →
    Ends (.doorUnlockTimeout n) s (OnlyRegsAndFaults [] s) ∧ Ends (.doorDwellElapsed n) s (OnlyRegs [] s) ∧
    Ends (.doorNudgeTimeElapsed n) s (OnlyRegs [] s) ∧ Ends (.doorLockTimeout n) s (OnlyRegsAndFaults [] s) ∧
    Ends (.doorRetryElapsed n) s (OnlyRegs [] s)) ∧
  (∀ s, Alive s → s.dev.hw.isCar = true → s.dev.hw.running PG_DOR = true →
    (s.dev.hw.doorOn 0 && s.dev.hw.dst 0 ≠ 0 || s.dev.hw.doorOn 1 && s.dev.hw.dst 1 ≠ 0) = true →
    s.dev.hw.carStill = true → s.on DOR_DZ_STAT_IN = true → s.on DOR_RLV_STAT_REQ = false →
    s.rd DOR_RLV_CFG_RLV_TOL * 4096 < (s.dev.hw.int DOR_DZ_DIST).natAbs → Ends .relevelRequest s fun t =>
      t.on DOR_RLV_STAT_REQ = true ∧ t.rd DOR_RLV_STAT_LANDING = s.rd DOR_DZ_STAT_LANDING ∧
      t.dev.hw.bitAt (BLK_IRQ PG_DOR) 9 = true ∧ OnlyRegs [DOR_RLV_STAT, BLK_IRQ PG_DOR] s t)

/-- Contacts and vision (R307, R308, R311, R312, R317): a monitor shows its level and counts the changes its filter rejected;
closed over a door that stands open it sets BYPASS and raises the fault of class 5; a bad frame is dropped with its error
bits and counted, a good one counts, shows its cells, and ends STALE; a receiver without frames goes STALE. -/
def Obligations.ContactsAndVision : Prop :=
  (∀ (k : Fin 8) rejected s, s.on (DOR_CTk_CFG_EN k.val) = true → s.dev.hw.bolted PG_DOR = false →
    Ends (.contactLevelChange k true rejected) s fun t =>
      t.on (DOR_CTk_STAT_LEVEL k.val) = true ∧
      t.rd (DOR_CTk_STAT_CHAT k.val) = min (2 ^ (DOR_CTk_STAT_CHAT k.val).width - 1) (s.rd (DOR_CTk_STAT_CHAT k.val) + rejected) ∧
      OnlyRegsAndFaults [DOR_CTk_STAT k.val, BLK_IRQ PG_DOR] s t) ∧
  (∀ (k : Fin 8) closed rejected s, s.on (DOR_CTk_CFG_EN k.val) = false →
    Ends (.contactLevelChange k closed rejected) s fun t => OnlyRegsAndFaults [] s t) ∧
  (∀ (k : Fin 8) s, Alive s → s.dev.hw.isCar = true → s.on (DOR_CTk_CFG_EN k.val) = true →
    s.rd (DOR_CTk_CFG_KIND k.val) ≠ 3 → s.on (DOR_CTk_STAT_LEVEL k.val) = true →
    s.dev.hw.doorOn (s.rd (DOR_CTk_CFG_DOOR k.val)) = true →
    (s.rd DOR_BYP_CFG_BYP_GAP * 4096 : Int) < s.dev.hw.int (DOR_Dn_POS (s.rd (DOR_CTk_CFG_DOOR k.val))) →
    Ends (.contactBypass k) s fun t =>
      t.on (DOR_CTk_STAT_BYPASS k.val) = true ∧ t.dev.hw.dst (s.rd (DOR_CTk_CFG_DOOR k.val)) = 11 ∧
      t.dev.hw.bitAt (BLK_FAULT PG_DOR) 10 = true ∧
      OnlyRegsAndFaults [DOR_CTk_STAT k.val, DOR_Dn_STAT (s.rd (DOR_CTk_CFG_DOOR k.val)), BLK_IRQ PG_DOR,
        BLK_FAULT PG_DOR] s t) ∧
  (∀ (k : Fin 2) ecc crc lines s, Alive s → s.dev.hw.visLive k.val = true → (ecc = true ∨ crc = true) →
    Ends (.visFrameEnd k ecc crc lines) s fun t =>
      t.on (VIS_Rk_STAT_ECCERR k.val) = (s.on (VIS_Rk_STAT_ECCERR k.val) || ecc) ∧
      t.on (VIS_Rk_STAT_CRCERR k.val) = (s.on (VIS_Rk_STAT_CRCERR k.val) || crc) ∧
      t.rd (VIS_Rk_FRAMES_DROPPED k.val) = min 65535 (s.rd (VIS_Rk_FRAMES_DROPPED k.val) + 1) ∧
      t.dev.hw.bitAt (BLK_IRQ PG_VIS) (4 + k.val) = true ∧
      OnlyRegs [VIS_Rk_STAT k.val, VIS_Rk_FRAMES k.val, BLK_IRQ PG_VIS] s t) ∧
  (∀ (k : Fin 2) lines s, Alive s → s.dev.hw.visLive k.val = true → lines.length = s.rd (VIS_Rk_SIZE_LINES k.val) →
    lines.all (fun l => l.length = s.rd (VIS_Rk_SIZE_PIXELS k.val)) = true →
    Ends (.visFrameEnd k false false lines) s fun t =>
      (∀ c, c < 2048 → t.dev.hw.bitAt (VIS_GRID k.val (c / 32)) (c % 32) = decide (s.rd (VIS_Rk_HIT_PIX_N k.val) ≤
        min 255 ((hitCells s.dev.hw s.dev.mem k.val (s.dev.hw.nat (VIS_Rk_CAL k.val)) lines.flatten).count c))) ∧
      t.on (VIS_Rk_STAT_STALE k.val) = false ∧
      t.rd (VIS_Rk_FRAMES_GOOD k.val) = min 65535 (s.rd (VIS_Rk_FRAMES_GOOD k.val) + 1) ∧
      t.reg (VIS_Rk_FRAME_T k.val) = s.reg PST_TB_CNT_LO ∧ t.dev.hw.bitAt (BLK_IRQ PG_VIS) k.val = true ∧
      OnlyRegs ([VIS_Rk_STAT k.val, VIS_Rk_FRAMES k.val, VIS_Rk_FRAME_T k.val, BLK_IRQ PG_VIS] ++
        (List.range 64).map fun w => VIS_GRID k.val w) s t) ∧
  (∀ (k : Fin 2) s, Alive s → s.dev.hw.visLive k.val = true → s.on (VIS_Rk_STAT_STALE k.val) = false →
    Ends (.visStale k) s fun t =>
      t.on (VIS_Rk_STAT_STALE k.val) = true ∧ t.dev.hw.bitAt (BLK_IRQ PG_VIS) (6 + k.val) = true ∧
      OnlyRegs [VIS_Rk_STAT k.val, BLK_IRQ PG_VIS] s t) ∧
  (∀ (k : Fin 2) s, Alive s → s.dev.hw.visLive k.val = true → Ends (.csiLaneSyncLoss k) s fun t =>
      t.dev.hw.bitAt (BLK_FAULT PG_VIS) 9 = true ∧ OnlyRegs [BLK_FAULT PG_VIS, BLK_IRQ PG_VIS] s t)

/-! ## The two cycles (R22, R23, R328) -/

/-- The current-cycle T0 moves the time base on: its count by the length of the cycle, its index by one (R22, R265, R408). The
position-cycle T0 follows it in the same instant: the time base stands, and DOR has taken the commands of its doors
(R23, R293). -/
def Obligations.Cycles : Prop :=
  (∀ s, Alive s → Ends .currentCycleT0 s fun t =>
      t.dev.hw.pair PST_TB_CNT_LO =
        (s.dev.hw.pair PST_TB_CNT_LO + ((s.dev.hw.pst.curPer : Int) + s.dev.hw.tickAdjust).toNat) % 2 ^ 64 ∧
      (t.reg PST_TB_IDX).toNat = ((s.reg PST_TB_IDX).toNat + 1) % 2 ^ 32) ∧
  (∀ eccLo eccHi proof empty fast s, Alive s → s.dev.hw.rdn.replaying = false →
    s.dev.hw.pst.posDue = true → Ends (.positionCycleT0 eccLo eccHi proof empty fast) s fun t =>
      t.dev.hw.pair PST_TB_CNT_LO = s.dev.hw.pair PST_TB_CNT_LO ∧ t.reg PST_TB_IDX = s.reg PST_TB_IDX ∧
      t.dev.hw.sis.proofOrder = proof ∧ t.dev.hw.sis.carEmpty = empty ∧
      (s.dev.hw.bolted PG_DOR = false → s.dev.hw.running PG_DOR = true → s.on (BLK_STAT_HPEND PG_DOR) = false →
        ∀ n, n < 2 → n < s.dev.hw.dor.door.length → (t.dev.hw.dr n).cmd = none)) ∧
  (∀ s, s.dev.hw.alive = false → Ends .currentCycleT0 s (OnlyRegs [] s) ∧
    ∀ eccLo eccHi proof empty fast, Ends (.positionCycleT0 eccLo eccHi proof empty fast) s (OnlyRegs [] s))

/-- Which safe outputs a T0 leaves energised (R328, R335, R339): only balls that are armed, requested, permitted by the mode
and in no hold of a latched slot or of the fault manager, but for a brake inside its lag; a standby energises none. -/
def Obligations.SafeOutputs : Prop :=
  ∀ (h : Hw) k, k < 10 → bit (h.outputsT0.rd SIS_OUT_STAT_OUT) k = true → (h.sis.lag = false ∨ k < 2 ∨ 4 ≤ k) →
    bit h.armMask k = true ∧ bit h.latchRequests.reqMask k = true ∧ bit h.modeMask k = true ∧
    bit h.slotHold k = false ∧ bit h.classHold k = false ∧ h.on SIS_MODE_STBY = false

/-! ## The Ward (R318 to R350) -/

/-- Safety inputs and their test (R324): a new level shows in SIS_SIN_RAW; channels of a pair that stay apart set DISC;
a test pulse that an input under test does not see sets TPFAIL and its fault. Slots, outputs, watchdog (R322, R329,
R330, R335): a clear is taken where the slot's test failed at the last T0, and otherwise sets CLRREJ; the lag's end
drops the brake; a readback that disagrees raises OUTRB, of class 5 where the ball is stuck energised; a kick with
the KEY starts the interval again; an expiry raises WDG. -/
def Obligations.WardInputsAndEvents : Prop :=
  ((∀ (i : Fin 16) closed seen s, Ends (.safetyInputChange i closed seen) s fun t =>
      t.dev.hw.bitAt SIS_SIN_RAW i.val = closed ∧
      (s.dev.hw.sinHeld i.val = false → s.dev.hw.sinNeeds i.val ≤ seen → bit t.dev.hw.sis.sin i.val = closed) ∧
      (s.dev.hw.sinHeld i.val = true ∨ seen < s.dev.hw.sinNeeds i.val → t.dev.hw.sis.sin = s.dev.hw.sis.sin) ∧
      OnlyRegs [SIS_SIN_RAW, SIS_SIN_DIAG] s t) ∧
  (∀ (m : Fin 8) s, Alive s → bit (s.rd SIS_SIN_CFG_PAIR) m.val = true →
    s.dev.hw.sinChannel (2 * m.val) ≠ s.dev.hw.sinChannel (2 * m.val + 1) → NoFault s →
    s.dev.hw.bitAt (BLK_FAULT PG_SIS) 12 = false → Ends (.sinDiscrepancy m) s fun t =>
      bit (t.rd SIS_SIN_DIAG_DISC) m.val = true ∧ t.dev.hw.bitAt (BLK_FAULT PG_SIS) 12 = true ∧ FaultIs 1 PG_SIS 12 t ∧
      OnlyRegsAndFaults [SIS_SIN_DIAG] s t) ∧
  (∀ (k : Fin 4) s, Alive s → Ends (.testPulse k) s fun t => bit t.dev.hw.sis.tpLow k.val = true ∧ OnlyRegs [] s t) ∧
  (∀ (k : Fin 4) saw s, Alive s → Ends (.testPulseEnd k saw) s fun t =>
      bit t.dev.hw.sis.tpLow k.val = false ∧
      (∀ n, n < 16 → n % 4 = k.val → bit (s.rd SIS_TP_EN_EN) n = true →
        bit (t.rd SIS_SIN_DIAG_TPFAIL) n = !saw.getLsbD n) ∧
      (∀ n, n < 16 → (n % 4 ≠ k.val ∨ bit (s.rd SIS_TP_EN_EN) n = false) →
        bit (t.rd SIS_SIN_DIAG_TPFAIL) n = bit (s.rd SIS_SIN_DIAG_TPFAIL) n) ∧
      OnlyRegsAndFaults [SIS_SIN_DIAG] s t)) ∧
  ((∀ (k : Fin 24) s, Reaches (.agent 0) (SIS_SFk_STAT k.val) s → bit s.dev.hw.sis.tested k.val = false →
    Ends (.slotClear (.agent 0) k) s fun t =>
      t.on (SIS_SFk_STAT_TRIP k.val) = false ∧ t.dev.hw.bitAt SIS_SF_TRIP k.val = false ∧
      t.dev.hw.bitAt SIS_OUT_HOLD k.val = false ∧ OnlyRegs [SIS_SFk_STAT k.val, SIS_SF_TRIP, SIS_OUT_HOLD] s t) ∧
  (∀ (k : Fin 24) s, Reaches (.agent 0) (SIS_SFk_STAT k.val) s → bit s.dev.hw.sis.tested k.val = true →
    Ends (.slotClear (.agent 0) k) s fun t =>
      t.on (SIS_SFk_STAT_CLRREJ k.val) = true ∧ t.on (SIS_SFk_STAT_TRIP k.val) = s.on (SIS_SFk_STAT_TRIP k.val) ∧
      OnlyRegs [SIS_SFk_STAT k.val] s t) ∧
  (∀ s, Alive s → s.dev.hw.sis.lag = true → Ends .brakeLagElapsed s fun t =>
      t.dev.hw.sis.lag = false ∧ t.rd SIS_OUT_STAT_OUT = s.rd SIS_OUT_STAT_OUT &&& 0x3F3 ∧
      OnlyRegsAndFaults [] s t) ∧
  (∀ (k : Fin 10) s, Alive s → NoFault s → s.dev.hw.bitAt (BLK_FAULT PG_SIS) 11 = false →
    Ends (.outputReadbackFault k) s fun t =>
      t.dev.hw.bitAt (BLK_FAULT PG_SIS) 11 = true ∧
      FaultIs (if bit (s.rd SIS_OUT_STAT_OUT) k.val then 3 else 5) PG_SIS 11 t ∧ OnlyRegsAndFaults [] s t) ∧
  (∀ (w : Word) s, Reaches (.agent 0) SIS_WDG_KICK s → Ends (.watchdogKick (.agent 0) w) s fun t =>
      t.dev.hw.sis.wdgAge = (if getBits w 0 16 = 0x5A96 then 0 else s.dev.hw.sis.wdgAge) ∧ OnlyRegs [] s t) ∧
  (∀ s, Alive s → s.dev.hw.sis.wdgOn = true → s.dev.hw.sis.dead = false → NoFault s →
    s.dev.hw.bitAt (BLK_FAULT PG_SIS) 13 = false → Ends .watchdogExpiry s fun t =>
      t.dev.hw.bitAt (BLK_FAULT PG_SIS) 13 = true ∧ FaultIs 5 PG_SIS 13 t ∧ t.on SIS_DB_STAT_SET = true ∧
      OnlyRegsAndFaults [] s t))

/-- The fault manager (R339, R341, R342): an arriving cause sets its bit and, with none current, becomes current with its
class; done, the head of the queue follows; a fault inside fault handling drops every safe output and latches the deadbolt
with its code. -/
def Obligations.FaultManager : Prop :=
  (∀ (p : Fin 41) (b : Fin 24) cls s, Alive s → isPage p.val = true → s.dev.hw.absent p.val = false → 8 ≤ b.val →
    b.val ≤ topFault p.val → s.dev.hw.bitAt (BLK_FAULT p.val) b.val = false → s.dev.hw.faultClass p.val b.val = some cls →
    NoFault s → Ends (.faultArrival p b) s fun t =>
      t.dev.hw.bitAt (BLK_FAULT p.val) b.val = true ∧ FaultIs cls p.val b.val t ∧ t.on SIS_FM_STAT_BUSY = true ∧
      t.rd SIS_FM_STAT_CURCLASS = cls ∧ (cls = 5 → t.on SIS_DB_STAT_SET = true) ∧
      (4 ≤ cls → (s.rd SIS_OUT_CFG_BRK_LAG = 0 → t.rd SIS_OUT_STAT_OUT &&& 0xF = 0)) ∧
      OnlyRegsAndFaults [BLK_FAULT p.val, BLK_IRQ p.val] s t) ∧
  (∀ (p : Fin 41) (b : Fin 24) s, Alive s → s.dev.hw.bitAt (BLK_FAULT p.val) b.val = true →
    Ends (.faultArrival p b) s fun t => OnlyRegs [] s t) ∧
  (∀ w s, Reaches (.agent 0) SIS_FM_DONE s → w.getLsbD 0 = true → s.dev.hw.sis.queue = [] →
    Ends (.faultDone (.agent 0) w) s fun t =>
      NoFault t ∧ t.on SIS_FM_STAT_BUSY = false ∧ t.rd SIS_FM_STAT_CURCLASS = 0 ∧
      OnlyRegs [SIS_FM_STAT, SIS_FM_CUR_W0, SIS_FM_CUR_W1] s t) ∧
  (∀ w s, Reaches (.agent 0) SIS_FM_DONE s → w.getLsbD 0 = true → ∀ e q, s.dev.hw.sis.queue = e :: q →
    e.cls < 6 → e.src < 64 → e.cause < 32 → Ends (.faultDone (.agent 0) w) s fun t =>
      FaultIs e.cls e.src e.cause t ∧ t.dev.hw.sis.queue = q ∧ t.on SIS_FM_STAT_BUSY = true ∧
      OnlyRegsAndFaults [] s t) ∧
  (∀ who w s, Reaches who SIS_FM_DONE s → who ≠ .agent 0 → Ends (.faultDone who w) s fun t =>
      t.dev.hw.bitAt (BLK_FAULT PG_SIS) 8 = true ∧ OnlyRegsAndFaults [] s t) ∧
  (∀ (k : Fin 3) s, s.dev.hw.fabricOn = true → s.on SIS_DB_STAT_SET = false → s.rd SIS_OUT_CFG_BRK_LAG = 0 →
    Ends (.faultInFaultHandling k) s fun t =>
      t.rd SIS_OUT_STAT_OUT = 0 ∧ t.on SIS_DB_STAT_SET = true ∧ t.rd SIS_DB_STAT_CAUSE = 0x80 + k.val ∧
      t.dev.hw.sis.dead = true ∧ OnlyRegsAndFaults [] s t)

/-- Modes and the deadbolt (R99, R102, R111, R344, R347, R350, R441): an order of agent 0 is noted for the next T0;
standstill and idleness are noted; the port writes the deadbolt words with their CRC, or fails; tokens expire; a release
needs token, service key and KEY, and ends in a cold reset. -/
def Obligations.ModesAndDeadbolt : Prop :=
  (∀ (w : Word) s, Reaches (.agent 0) SIS_MODE_SET s → Ends (.modeSet (.agent 0) w) s fun t =>
      t.dev.hw.sis.order = s.dev.hw.sis.order ++ (if w.getLsbD 8 then [getBits w 0 4] else []) ∧ OnlyRegs [] s t) ∧
  (∀ s, Alive s → Ends .standstillReached s fun t =>
      t.dev.hw.sis.still = (s.dev.hw.sis.still || (!s.dev.hw.bitAt SIS_COND 0 && s.dev.hw.bitAt SIS_COND 5)) ∧
      OnlyRegs [] s t) ∧
  (∀ s, Alive s → s.rd SIS_MODE_CUR = 4 → s.rd SIS_SS_CFG_PARK_IDLE ≠ 0 → Ends .parkIdleElapsed s fun t =>
      t.dev.hw.sis.parkIdle = true ∧ OnlyRegs [] s t) ∧
  (∀ s, Alive s → Ends .tokokExpiry s fun t => t.on SIS_DB_STAT_TOKOK = false ∧ OnlyRegs [SIS_DB_STAT] s t) ∧
  (∀ s, Alive s → Ends .serviceAckHeld s fun t =>
      t.on SIS_DB_STAT_SRVOK = (s.on SIS_DB_STAT_SRVOK || (s.on SIS_DB_STAT_TOKOK && s.dev.hw.bitAt SIS_COND 6)) ∧
      OnlyRegs [SIS_DB_STAT] s t) ∧
  (∀ (w : Word) s, Reaches (.agent 0) REC_DBW s → Ends (.deadboltPortWrite (.agent 0) w) s fun t =>
      t.rd REC_DBW_CAUSE = getBits w 8 8 ∧ t.on REC_DBW_BUSY = (s.on REC_DBW_BUSY || w.getLsbD 0) ∧
      OnlyRegs [REC_DBW] s t) ∧
  (∀ s, s.on REC_DBW_BUSY = true → s.on REC_STAT_DEGRADED = false → s.dev.hw.cpr.mramBlocked = false →
    Ends (.deadboltPortDone true true) s fun t =>
      t.on REC_DBW_BUSY = false ∧ t.on REC_DBW_FAIL = false ∧ t.on SIS_DB_STAT_WORDA = true ∧
      t.on SIS_DB_STAT_WORDB = true ∧
      memRead t.dev.mem 0x60000080 = 0xDB ∧ (memRead t.dev.mem 0x60000081).toNat = s.rd REC_DBW_CAUSE ∧
      memNat t.dev.mem 0x60000084 4 = s.dev.hw.sis.dbNonce % 2 ^ 32 ∧ memRead t.dev.mem 0x600000C0 = 0xDB ∧
      (∀ a, a < 0x60000080 ∨ 0x60000100 ≤ a → memRead t.dev.mem a = memRead s.dev.mem a) ∧
      (∀ a, a ∉ [REC_DBW, SIS_DB_STAT] → t.reg a = s.reg a)) ∧
  (∀ okA okB s, s.on REC_DBW_BUSY = true → (okA = false ∨ okB = false) → Ends (.deadboltPortDone okA okB) s fun t =>
      t.on REC_DBW_BUSY = false ∧ t.on REC_DBW_FAIL = true ∧ (∀ a, a ∉ [REC_DBW, SIS_DB_STAT] → t.reg a = s.reg a)) ∧
  (∀ w s, Reaches (.agent 0) SIS_DB_REL s → getBits w 16 16 = 0xD3B1 → w.getLsbD 0 = true → s.rd SIS_MODE_CUR = 0xC →
    s.on SIS_DB_STAT_TOKOK = true → s.on SIS_DB_STAT_SRVOK = true → s.on REC_STAT_DEGRADED = false →
    s.dev.hw.cpr.mramBlocked = false → Ends (.deadboltRelease (.agent 0) w true true true) s fun t =>
      t.rd SIS_MODE_CUR = 1 ∧ t.on SIS_DB_STAT_SET = false ∧
      (t.reg SIS_DB_NONCE).toNat = ((s.reg SIS_DB_NONCE).toNat + 1) % 2 ^ 32 ∧
      memRead t.dev.mem 0x60000080 = 0 ∧ memRead t.dev.mem 0x600000C0 = 0) ∧
  (∀ w n a b s, Reaches (.agent 0) SIS_DB_REL s →
    (getBits w 16 16 ≠ 0xD3B1 ∨ w.getLsbD 0 = false ∨ s.rd SIS_MODE_CUR ≠ 0xC ∨ s.on SIS_DB_STAT_TOKOK = false ∨
      s.on SIS_DB_STAT_SRVOK = false) → Ends (.deadboltRelease (.agent 0) w n a b) s fun t => OnlyRegs [] s t)

/-! ## Redundant pairs (R351 to R373) -/

/-- Pairing (R354 to R356, R467): the lanes lock, HELLO is checked (FAILCODE 2 for the same unit letter, 4 for another
build), nonces and proofs are exchanged, and both agree on a link mode; a partner in SYNC may ask for a snapshot; a wait without a partner ends with the key where the selector shows none; a lost
lane is dropped at the next T0. -/
def Obligations.Pairing : Prop :=
  (∀ s, Alive s → s.dev.hw.rdnLive = true → s.dev.hw.rst = 1 → Ends .laneLock s fun t =>
      t.dev.hw.rst = 2 ∧ t.dev.hw.bitAt (BLK_IRQ PG_RDN) 0 = true ∧ OnlyRegs [RDN_STAT, BLK_IRQ PG_RDN] s t) ∧
  (∀ (f : PairHead) b role compat formats s, Alive s → s.dev.hw.rdnLive = true → s.dev.hw.rst = 2 → b ≠ s.dev.hw.unitB →
    role.val = s.rd CPR_STRAP_ROLE → compat.toNat = s.rd RDN_COMPAT_PAIRCOMPAT →
    formats.toNat &&& s.rd RDN_COMPAT_FORMATS ≠ 0 → (s.dev.hw.stored 3).isSome = true →
    Ends (.pairingFrameReceive ⟨f, .hello b role compat formats⟩) s fun t =>
      t.dev.hw.rst = 3 ∧ t.dev.hw.rdn.nonce.length = 32 ∧ t.rd RDN_PEER_COMPAT = compat.toNat ∧
      OnlyRegsAndFaults [RDN_STAT, RDN_PEER, BLK_IRQ PG_RDN] s t) ∧
  (∀ (f : PairHead) role compat formats s, Alive s → s.dev.hw.rdnLive = true → s.dev.hw.rst = 2 →
    Ends (.pairingFrameReceive ⟨f, .hello s.dev.hw.unitB role compat formats⟩) s fun t =>
      t.dev.hw.rst = 9 ∧ t.rd RDN_STAT_FAILCODE = 2 ∧ t.dev.hw.bitAt (BLK_FAULT PG_RDN) 12 = true ∧
      OnlyRegsAndFaults [RDN_STAT, RDN_PEER, BLK_IRQ PG_RDN, BLK_FAULT PG_RDN] s t) ∧
  (∀ (f : PairHead) (n : List Byte) s, Alive s → s.dev.hw.rdnLive = true → s.dev.hw.rst = 3 → Ends (.pairingFrameReceive ⟨f, .nonce n⟩) s fun t =>
      t.dev.hw.rdn.peerNonce = some n ∧ t.dev.hw.rst = 3 ∧ OnlyRegs [] s t) ∧
  (∀ (f : PairHead) ok s, Alive s → s.dev.hw.rdnLive = true → s.dev.hw.rst = 3 → s.dev.hw.rdn.peerNonce.isSome = true →
    Ends (.pairingFrameReceive ⟨f, .auth ok⟩) s fun t =>
      t.dev.hw.rst = (if ok then 4 else 9) ∧ (ok = false → t.rd RDN_STAT_FAILCODE = 7) ∧
      OnlyRegsAndFaults [RDN_STAT, BLK_IRQ PG_RDN, BLK_FAULT PG_RDN] s t) ∧
  (∀ (f : PairHead) offer locks key s, Alive s → s.dev.hw.rdnLive = true → s.dev.hw.rst = 4 → s.on RDN_KEY_HELD = false →
    FrameFits f [s.dev.hw.rdn.posIdx, s.dev.hw.rdn.prevIdx] s →
    s.dev.hw.linkMode offer.val locks.toNat = none → Ends (.pairingFrameReceive ⟨f, .agree offer locks key⟩) s fun t =>
      t.dev.hw.rst = 9 ∧ t.rd RDN_STAT_FAILCODE = 8 ∧ t.dev.hw.rdn.last = some f.counter.toNat ∧
      OnlyRegsAndFaults [RDN_STAT, RDN_PEER, BLK_IRQ PG_RDN, BLK_FAULT PG_RDN] s t) ∧
  (∀ (f : PairHead) offer locks m s, Alive s → s.dev.hw.rdnLive = true → s.dev.hw.rst = 4 → s.on RDN_KEY_HELD = false →
    FrameFits f [s.dev.hw.rdn.posIdx, s.dev.hw.rdn.prevIdx] s →
    s.dev.hw.linkMode offer.val locks.toNat = some m → Ends (.pairingFrameReceive ⟨f, .agree offer locks true⟩) s fun t =>
      t.dev.hw.rst = 5 ∧ t.rd RDN_STAT_LMODE = m ∧ t.dev.hw.rdn.askIn = 3 ∧
      OnlyRegsAndFaults [RDN_STAT, RDN_PEER, BLK_IRQ PG_RDN] s t) ∧
  (∀ (f : PairHead) s, Alive s → s.dev.hw.rdnLive = true → s.dev.hw.rst = 6 → s.dev.hw.unitB = false →
    256 ≤ s.rd RDN_HEALTH_HEALTH → FrameFits f [s.dev.hw.rdn.posIdx, s.dev.hw.rdn.prevIdx] s →
    Ends (.pairingFrameReceive ⟨f, .request⟩) s fun t =>
      t.dev.hw.rdn.wantCapture = true ∧ t.dev.hw.rst = 6 ∧ OnlyRegs [RDN_PEER] s t) ∧
  (∀ s, Alive s → s.dev.hw.rdnLive = true → s.dev.hw.rst = 1 → s.dev.hw.selNone = true → Ends .pairWaitElapsed s fun t =>
      t.dev.hw.rst = 6 ∧ t.on RDN_KEY_HELD = true ∧ t.dev.hw.bitAt (BLK_FAULT PG_RDN) 13 = true ∧ SameMem s t) ∧
  (∀ s, Alive s → s.dev.hw.rdnLive = true → s.dev.hw.rst = 1 → s.on RDN_KEY_SELFSEL = false →
    s.on RDN_KEY_PEERSEL = true → Ends .pairWaitElapsed s fun t =>
      t.dev.hw.rst = 8 ∧ t.rd RDN_STAT_FAILCODE = 1 ∧ OnlyRegsAndFaults [RDN_STAT, BLK_IRQ PG_RDN] s t) ∧
  (∀ l s, Alive s → s.dev.hw.rdnLive = true → Ends (.laneLoss l) s fun t =>
      t.dev.hw.rdn.laneDue = true ∧ OnlyRegs [] s t)

/-- The partner's frames (R357, R358, R362, R363, R367): a frame with a good tag and a counter above the last, for the T0
expected, gives its age, records and mode; another is dropped, and one whose tag or counter fails counts in RDN_AUTHERR. -/
def Obligations.PartnerFrames : Prop :=
  (∀ (f : PairHead) seg rs park s, Alive s → s.dev.hw.rdnLive = true → s.dev.hw.rst = 7 → s.on RDN_STAT_COAST = false →
    s.on RDN_KEY_HELD = false →
    f.tagOk = true → (∀ l, s.dev.hw.rdn.last = some l → l < f.counter.toNat) →
    (∀ o, s.dev.hw.rdn.off = some o → idxBy f.t0idx.toNat o = (s.dev.hw.rdn.posIdx + seg.toNat) % 2 ^ 32) →
    Ends (.inputSegmentReceive f seg rs park) s fun t =>
      t.dev.hw.rdn.last = some f.counter.toNat ∧ (seg.toNat, rs) ∈ t.dev.hw.rdn.segs ∧
      (seg = 0 → t.dev.hw.rdn.frameMode = some f.mode.toNat) ∧ t.rd RDN_PEER_MODE = f.mode.toNat ∧
      t.on RDN_PEER_KEY = f.key ∧
      OnlyRegsAndFaults [RDN_PEER, BLK_IRQ PG_RDN, BLK_FAULT PG_RDN] s t) ∧
  (∀ (f : PairHead) rs s, Alive s → s.dev.hw.rdnLive = true → s.dev.hw.rst = 7 → s.on RDN_KEY_HELD = false →
    f.tagOk = true → (∀ l, s.dev.hw.rdn.last = some l → l < f.counter.toNat) →
    (∀ o, s.dev.hw.rdn.off = some o → idxBy f.t0idx.toNat o = s.dev.hw.rdn.prevIdx) →
    Ends (.outputFrameReceive f rs) s fun t =>
      t.dev.hw.rdn.outRx = some rs ∧ t.dev.hw.rdn.pl = some s.dev.hw.rdn.prevIdx ∧
      t.dev.hw.rdn.last = some f.counter.toNat ∧ OnlyRegsAndFaults [RDN_PEER] s t) ∧
  (∀ (f : PairHead) health s, Alive s → s.dev.hw.rdnLive = true → s.dev.hw.rst = 7 → s.on RDN_KEY_HELD = false →
    f.tagOk = true → (∀ l, s.dev.hw.rdn.last = some l → l < f.counter.toNat) →
    (∀ o, s.dev.hw.rdn.off = some o → idxBy f.t0idx.toNat o = s.dev.hw.rdn.posIdx) →
    Ends (.heartbeatReceive true f health) s fun t =>
      t.dev.hw.rdn.hb2 = some (idxBy f.t0idx.toNat (t.dev.hw.rdn.off.getD 0)) ∧
      t.dev.hw.rdn.pl = s.dev.hw.rdn.pl ∧ t.rd RDN_PEER_HEALTH_HEALTH = health.toNat ∧
      OnlyRegsAndFaults [RDN_PEER, RDN_PEER_HEALTH, BLK_IRQ PG_RDN, BLK_FAULT PG_RDN] s t) ∧
  (∀ (f : PairHead) seed s, Alive s → s.dev.hw.rdnLive = true → s.dev.hw.rst = 5 → s.on RDN_KEY_HELD = false →
    f.tagOk = true → (∀ l, s.dev.hw.rdn.last = some l → l < f.counter.toNat) →
    (∀ o, s.dev.hw.rdn.off = some o → idxBy f.t0idx.toNat o = s.dev.hw.rdn.posIdx) →
    Ends (.snapshotReceive f true seed) s fun t =>
      t.dev.hw.rdn.seed = some seed ∧ OnlyRegsAndFaults [RDN_PEER] s t) ∧
  (∀ (f : PairHead) rs s, Alive s → s.dev.hw.rdnLive = true → f.tagOk = false → Ends (.outputFrameReceive f rs) s fun t =>
      t.rd RDN_AUTHERR_CNT = min 65535 (s.rd RDN_AUTHERR_CNT + 1) ∧ t.dev.hw.bitAt (BLK_FAULT PG_RDN) 11 = true ∧
      t.dev.hw.rdn.last = s.dev.hw.rdn.last ∧ t.dev.hw.rdn.outRx = s.dev.hw.rdn.outRx ∧
      OnlyRegsAndFaults [RDN_AUTHERR, BLK_FAULT PG_RDN, BLK_IRQ PG_RDN] s t)

/-- The key (R354, R366, R368, R370, R372): SYNC becomes STANDBY after its clean cycles; a standby with good health claims the
key once both ages have run out or the active has released it; the lease of a unit in fault handling ends with its outputs; a
handoff is noted; RE-PAIR goes back to LINK; the selector shows in RDN_KEY; a selector that shows none against the key, or
both, is a fault that 256 good T0s clear. -/
def Obligations.PairKey : Prop :=
  (∀ s, Alive s → s.dev.hw.rdnLive = true → s.dev.hw.rst = 5 → s.dev.hw.rdn.seeded = true →
    s.dev.hw.rdnF RDN_PAIRWAIT_SYNC_N ≤ s.dev.hw.rdn.clean → Ends .syncComplete s fun t =>
      t.dev.hw.rst = 7 ∧ t.dev.hw.rdn.inCnt = 0 ∧ t.dev.hw.rdn.outCnt = 0 ∧ SameMem s t) ∧
  (∀ s, Alive s → s.dev.hw.rdnLive = true → s.dev.hw.rst = 7 → s.dev.hw.claimHealth = true → s.dev.hw.claimAged = true →
    s.dev.hw.selNone = true → s.dev.hw.rdn.selflt = false → s.dev.hw.rdn.woke = false → Ends .keyClaim s fun t =>
      t.dev.hw.rst = 6 ∧ t.on RDN_KEY_HELD = true ∧ t.rd SIS_MODE_CUR = s.dev.hw.takenMode % 16 ∧
      t.dev.hw.rdn.replaying = false ∧ SameMem s t) ∧
  (∀ s, Alive s → (s.dev.hw.claimHealth = false ∨ s.dev.hw.claimAged = false ∨ s.dev.hw.selNone = false ∨
      s.dev.hw.rst ≠ 7) → Ends .keyClaim s fun t => OnlyRegs [] s t) ∧
  (∀ s, Alive s → s.dev.hw.paired = true → s.on RDN_KEY_HELD = true → s.dev.hw.sis.dead = true →
    Ends .leaseExpiry s fun t =>
      t.on RDN_KEY_HELD = false ∧ t.on SIS_MODE_STBY = true ∧ t.dev.hw.bitAt (BLK_IRQ PG_RDN) 1 = true ∧
      (s.rd SIS_OUT_CFG_BRK_LAG = 0 → t.rd SIS_OUT_STAT_OUT = 0) ∧
      OnlyRegsAndFaults [RDN_KEY, SIS_MODE, BLK_IRQ PG_RDN, ETH_TBD_STAT 0, CAN_STAT 0, CAN_STAT 1, CAN_STAT 2, CAN_STAT 3] s t) ∧
  (∀ w s, Reaches (.agent 0) RDN_KEY s → s.dev.hw.handoffOk = true → Ends (.keyHandoff (.agent 0) w) s fun t =>
      t.dev.hw.rdn.hand = 1 ∧ OnlyRegs [] s t) ∧
  (∀ w s, Reaches (.agent 0) RDN_KEY s → w.getLsbD 0 = false → s.dev.hw.rdnLive = true →
    (s.dev.hw.rst = 8 ∨ s.dev.hw.rst = 9) → Ends (.repair (.agent 0) w) s fun t =>
      t.dev.hw.rst = 1 ∧ t.dev.hw.rdn.last = none ∧ OnlyRegs [RDN_STAT, BLK_IRQ PG_RDN] s t) ∧
  (∀ who w s, Reaches who RDN_KEY s → who ≠ .agent 0 → Ends (.keyHandoff who w) s fun t =>
      t.dev.hw.bitAt (BLK_FAULT PG_RDN) 14 = true ∧ t.dev.hw.rdn = s.dev.hw.rdn ∧
      OnlyRegsAndFaults [BLK_FAULT PG_RDN, BLK_IRQ PG_RDN] s t) ∧
  (∀ a b s, s.dev.hw.rdnLive = false → Ends (.selFbChange a b) s fun t =>
      t.on RDN_KEY_SELFSEL = (if s.dev.hw.unitB then b else a) ∧
      t.on RDN_KEY_PEERSEL = (if s.dev.hw.unitB then a else b) ∧ OnlyRegs [RDN_KEY] s t) ∧
  (∀ s, s.dev.hw.rdnLive = true → s.dev.hw.rdn.selflt = false → Ends (.selFbChange true true) s fun t =>
      t.dev.hw.rdn.selflt = true ∧ t.rd RDN_SPLIT_KIND = 5 ∧ t.dev.hw.bitAt (BLK_FAULT PG_RDN) 10 = true ∧
      OnlyRegsAndFaults [RDN_KEY, RDN_SPLIT, BLK_IRQ PG_RDN, BLK_FAULT PG_RDN] s t) ∧
  (∀ s, Alive s → s.dev.hw.rdnLive = true → s.on RDN_KEY_HELD = true → s.dev.hw.selNone = true →
    s.dev.hw.rdn.selflt = false → Ends .selectorNoneShown s fun t =>
      t.dev.hw.rdn.selflt = true ∧ t.rd RDN_SPLIT_KIND = 4 ∧ t.dev.hw.bitAt (BLK_FAULT PG_RDN) 10 = true ∧
      OnlyRegsAndFaults [RDN_SPLIT, BLK_IRQ PG_RDN, BLK_FAULT PG_RDN] s t) ∧
  (∀ s, Alive s → Ends .selfltClear s fun t =>
      t.dev.hw.rdn.selflt = (s.dev.hw.rdn.selflt && decide (s.dev.hw.rdn.selOk < 256)) ∧ OnlyRegs [] s t)

/-! ## CAN (R377 to R399) -/

/-- Reception into objects and queues (R381 to R385): the first matching filter decides; an object takes identifier,
length, stamp, data and filter number and shows NEWDAT; with NEWDAT set and OVW = 0 it keeps the old frame; a locked
object's frame waits in the holder, or is lost; a full queue drops the frame. A read of W0 locks, a read of LASTW by the same agent
unlocks and clears NEWDAT, LOCK_TMO unlocks; a read of a queue's W0 pops its head. -/
def Obligations.CanReception : Prop :=
  (∀ (c : Fin 4) f j n s, PlainFrame c.val f s → f.rtr = false → FirstFilter c.val f j s →
    s.on (CAN_FLTj_ACT_REPLAY c.val j) = false → s.rd (CAN_FLTj_ACT_ACT c.val j) = 0 →
    n = s.rd (CAN_FLTj_ACT_OBJ c.val j) → s.on (CAN_OBJn_W3_LOCKED c.val n) = false →
    (s.on (CAN_OBJn_W3_NEWDAT c.val n) = false ∨ s.on (CAN_OBJn_W1_OVW c.val n) = true) →
    Ends (.canFrameReceive c f) s fun t =>
      getBits (t.reg (CAN_OBJn_W0 c.val n)) 0 29 = f.id.toNat ∧ getBits (t.reg (CAN_OBJn_W0 c.val n)) 29 1 = b2n f.xtd ∧
      t.rd (CAN_OBJn_W1_DLC c.val n) = f.dlc.val ∧ t.rd (CAN_OBJn_W1_LASTW c.val n) = lastWord f.dlc.val ∧
      t.reg (CAN_OBJn_W2 c.val n) = f.stamp ∧ t.rd (CAN_OBJn_W3_FILTER c.val n) = j ∧
      (∀ k, k < dlcLen f.dlc.val →
        getBits (t.reg (CAN_OBJn_DATA c.val n (k / 4))) (8 * (k % 4)) 8 = (f.data.getD k 0).toNat) ∧
      t.on (CAN_OBJn_W3_NEWDAT c.val n) = true ∧ t.dev.hw.objBit (CAN_NEWDAT c.val 0) n = true ∧
      t.on (CAN_OBJn_W3_OVWR c.val n) = (s.on (CAN_OBJn_W3_OVWR c.val n) || s.on (CAN_OBJn_W3_NEWDAT c.val n)) ∧
      OnlyRegs (canRxRegs c.val n) s t) ∧
  (∀ (c : Fin 4) f j n s, PlainFrame c.val f s → f.rtr = false → FirstFilter c.val f j s →
    s.on (CAN_FLTj_ACT_REPLAY c.val j) = false → s.rd (CAN_FLTj_ACT_ACT c.val j) = 0 →
    n = s.rd (CAN_FLTj_ACT_OBJ c.val j) → (if s.on (CAN_OBJn_W3_LOCKED c.val n) then (s.dev.hw.cn c.val).hold.isSome
      else s.on (CAN_OBJn_W3_NEWDAT c.val n) && !s.on (CAN_OBJn_W1_OVW c.val n)) = true →
    Ends (.canFrameReceive c f) s fun t =>
      t.on (CAN_LOST_LOST c.val) = true ∧ t.rd (CAN_LOST_LOBJ c.val) = n ∧ t.on (CAN_OBJn_W3_LOST c.val n) = true ∧
      (t.dev.hw.cn c.val).hold = (s.dev.hw.cn c.val).hold ∧
      OnlyRegs [BLK_IRQ (PG_CAN c.val), CAN_ERR c.val, CAN_STAT c.val, CAN_LOST c.val, CAN_OBJn_W3 c.val n] s t) ∧
  (∀ (c : Fin 4) f j n s, PlainFrame c.val f s → f.rtr = false → FirstFilter c.val f j s →
    s.on (CAN_FLTj_ACT_REPLAY c.val j) = false → s.rd (CAN_FLTj_ACT_ACT c.val j) = 0 →
    n = s.rd (CAN_FLTj_ACT_OBJ c.val j) → s.on (CAN_OBJn_W3_LOCKED c.val n) = true → (s.dev.hw.cn c.val).hold = none →
    Ends (.canFrameReceive c f) s fun t =>
      t.on (CAN_HOLD_FULL c.val) = true ∧ t.rd (CAN_HOLD_OBJ c.val) = n ∧
      (t.dev.hw.cn c.val).hold = some (n, canWords f j) ∧
      OnlyRegs [BLK_IRQ (PG_CAN c.val), CAN_ERR c.val, CAN_STAT c.val, CAN_HOLD c.val] s t) ∧
  (∀ (c : Fin 4) f j s, PlainFrame c.val f s → f.rtr = false → FirstFilter c.val f j s →
    s.on (CAN_FLTj_ACT_REPLAY c.val j) = false → s.rd (CAN_FLTj_ACT_ACT c.val j) = 1 →
    Ends (.canFrameReceive c f) s fun t =>
      if 64 ≤ (s.dev.hw.cn c.val).q0.length then
        getBits (t.reg (CAN_RQ_STAT c.val)) 16 1 = 1 ∧ t.dev.hw.bitAt (BLK_FAULT (PG_CAN c.val)) 15 = true ∧
        (t.dev.hw.cn c.val).q0 = (s.dev.hw.cn c.val).q0
      else
        (t.dev.hw.cn c.val).q0.length = (s.dev.hw.cn c.val).q0.length + 1 ∧
        t.rd (CAN_RQ_STAT_Q0LVL c.val) = (s.dev.hw.cn c.val).q0.length + 1 ∧
        OnlyRegs [BLK_IRQ (PG_CAN c.val), CAN_ERR c.val, CAN_STAT c.val, CAN_RQ_STAT c.val] s t) ∧
  (∀ a (c : Fin 4) (n : Fin 128) s, s.dev.hw.canAccess (.agent a) = true → s.dev.hw.absent (PG_CAN c.val) = false →
    s.rd (CAN_OBJn_W0_TYPE c.val n.val) = canRx → s.on (CAN_OBJn_W3_LOCKED c.val n.val) = false →
    s.dev.hw.objFree c.val n.val = true → Ends (.canObjectLock (.agent a) c n) s fun t =>
      t.dev.hw.reply.data = [s.reg (CAN_OBJn_W0 c.val n.val)] ∧ t.on (CAN_OBJn_W3_LOCKED c.val n.val) = true ∧
      t.rd (CAN_OBJn_W3_LOCKAG c.val n.val) = a.val ∧ OnlyRegs [CAN_OBJn_W3 c.val n.val] s t) ∧
  (∀ a (c : Fin 4) (n : Fin 128) s, s.dev.hw.canAccess (.agent a) = true → s.dev.hw.absent (PG_CAN c.val) = false →
    (s.rd (CAN_OBJn_W0_TYPE c.val n.val) ≠ canRx ∨ s.on (CAN_OBJn_W3_LOCKED c.val n.val) = true) →
    Ends (.canObjectLock (.agent a) c n) s fun t =>
      t.dev.hw.reply.data = [s.reg (CAN_OBJn_W0 c.val n.val)] ∧ OnlyRegs [] s t) ∧
  (∀ a (c : Fin 4) (n : Fin 128) (k : Fin 20) s, s.dev.hw.canAccess (.agent a) = true → s.dev.hw.absent (PG_CAN c.val) = false →
    k.val ≠ 0 → s.on (CAN_OBJn_W3_LOCKED c.val n.val) = true → s.rd (CAN_OBJn_W3_LOCKAG c.val n.val) = a.val →
    (n.val, k.val) ∈ (s.dev.hw.cn c.val).lastw → (s.dev.hw.cn c.val).hold = none →
    Ends (.canObjectUnlock (.agent a) c n k) s fun t =>
      t.dev.hw.reply.data = [s.reg (objAddr c.val n.val k.val)] ∧ t.on (CAN_OBJn_W3_LOCKED c.val n.val) = false ∧
      t.on (CAN_OBJn_W3_NEWDAT c.val n.val) = false ∧ t.dev.hw.objBit (CAN_NEWDAT c.val 0) n.val = false ∧
      OnlyRegs [CAN_OBJn_W3 c.val n.val, CAN_NEWDAT c.val (n.val / 32)] s t) ∧
  (∀ (c : Fin 4) (n : Fin 128) s, Alive s → s.on (CAN_OBJn_W3_LOCKED c.val n.val) = true →
    Ends (.canLockTimeout c n) s fun t =>
      t.on (CAN_LOST_LOCKTO c.val) = true ∧ t.on (CAN_OBJn_W3_LOCKED c.val n.val) = false ∧
      OnlyRegs (canRxRegs c.val n.val) s t) ∧
  (∀ a (c : Fin 4) s, s.dev.hw.canAccess (.agent a) = true → (s.dev.hw.cn c.val).q1 = [] →
    Ends (.canQueuePop (.agent a) c 1) s fun t =>
      t.dev.hw.reply.data = [0] ∧ t.dev.hw.can = s.dev.hw.can ∧ OnlyRegs [] s t) ∧
  (∀ a (c : Fin 4) s, s.dev.hw.canAccess (.agent a) = true → (s.dev.hw.cn c.val).q0 ≠ [] → c.val < s.dev.hw.can.length →
    Ends (.canQueuePop (.agent a) c 0) s fun t =>
      t.dev.hw.reply.data = [((s.dev.hw.cn c.val).q0.headD []).headD 0] ∧
      (t.dev.hw.cn c.val).q0 = (s.dev.hw.cn c.val).q0.tail ∧
      (∀ k ∈ List.range 20, k ≠ 0 → t.dev.hw.queueWord a.val c.val 0 k = ((s.dev.hw.cn c.val).q0.headD []).getD k 0) ∧
      OnlyRegs [CAN_RQ_STAT c.val] s t)

/-- Transmission and errors (R386 to R391): a request makes an object pending, without the key it fails with NOKEY, for an
object of another kind it sets OBJW; a cancel fails it unless its frame is on the bus; success sets TXOK and stamps W2;
a one-shot object fails at the first error or lost arbitration; the third collision suspends; TEC above 255 is bus-off;
recovery clears the counters. -/
def Obligations.CanTransmission : Prop :=
  (∀ who (c n : Fin 4) s, MayOperate who (PG_CAN c.val) (CAN_TXRQ c.val 0) s →
    s.dev.hw.objFree c.val n.val = true → canTx ≤ s.rd (CAN_OBJn_W0_TYPE c.val n.val) → s.dev.hw.noKey = false →
    (s.on (CAN_STAT_BOFF c.val) && s.on (CAN_OBJn_W1_OS c.val n.val)) = false →
    Ends (.canTxRequest who c 0 (BitVec.ofNat 32 (2 ^ n.val))) s fun t =>
      t.on (CAN_OBJn_W3_TXRQ c.val n.val) = true ∧ t.dev.hw.objBit (CAN_TXRQ c.val 0) n.val = true ∧
      t.on (CAN_OBJn_W3_SUSP c.val n.val) = false ∧ t.rd (CAN_OBJn_W3_IDCOLCNT c.val n.val) = 0 ∧
      OnlyRegs [CAN_OBJn_W3 c.val n.val, CAN_TXRQ c.val 0] s t) ∧
  (∀ who (c n : Fin 4) s, MayOperate who (PG_CAN c.val) (CAN_TXRQ c.val 0) s →
    s.dev.hw.objFree c.val n.val = true → canTx ≤ s.rd (CAN_OBJn_W0_TYPE c.val n.val) → s.dev.hw.noKey = true →
    c.val < s.dev.hw.can.length →
    Ends (.canTxRequest who c 0 (BitVec.ofNat 32 (2 ^ n.val))) s fun t =>
      CanFails c.val n.val 5 t ∧ OnlyRegs (canTxRegs c.val n.val) s t) ∧
  (∀ who (c n : Fin 4) s, MayOperate who (PG_CAN c.val) (CAN_TXRQ c.val 0) s →
    (s.dev.hw.objFree c.val n.val = false ∨ s.rd (CAN_OBJn_W0_TYPE c.val n.val) < canTx) →
    Ends (.canTxRequest who c 0 (BitVec.ofNat 32 (2 ^ n.val))) s fun t =>
      t.dev.hw.bitAt (BLK_FAULT (PG_CAN c.val)) 14 = true ∧
      OnlyRegs [BLK_FAULT (PG_CAN c.val), BLK_IRQ (PG_CAN c.val)] s t) ∧
  (∀ who (c n : Fin 4) bus s, MayOperate who (PG_CAN c.val) (CAN_TXCAN c.val 0) s → c.val < s.dev.hw.can.length →
    Ends (.canTxCancel who c 0 (BitVec.ofNat 32 (2 ^ n.val)) bus) s fun t =>
      if s.on (CAN_OBJn_W3_TXRQ c.val n.val) = false then OnlyRegs [] s t
      else if bus = some ⟨n.val, by omega⟩ then n.val ∈ (t.dev.hw.cn c.val).cancel ∧ OnlyRegs [] s t
      else CanFails c.val n.val 6 t ∧ OnlyRegs (canTxRegs c.val n.val) s t) ∧
  (∀ (c : Fin 4) (n : Fin 128) stamp tdcv s, CanSends c.val n.val s → s.dev.hw.canMaster c.val = false →
    s.rd (CAN_OBJn_W0_TYPE c.val n.val) = canTx → Ends (.canTxComplete c n stamp tdcv) s fun t =>
      t.on (CAN_OBJn_W3_TXOK c.val n.val) = true ∧ t.dev.hw.objBit (CAN_TXOK c.val 0) n.val = true ∧
      t.on (CAN_OBJn_W3_TXRQ c.val n.val) = false ∧ t.dev.hw.objBit (CAN_TXRQ c.val 0) n.val = false ∧
      t.reg (CAN_OBJn_W2 c.val n.val) = stamp ∧ t.rd (CAN_OBJn_W3_IDCOLCNT c.val n.val) = 0 ∧
      (s.dev.hw.canCountsHeld c.val = false → t.rd (CAN_ERR_TEC c.val) = s.rd (CAN_ERR_TEC c.val) - 1) ∧
      OnlyRegs [BLK_IRQ (PG_CAN c.val), CAN_OBJn_W3 c.val n.val, CAN_OBJn_W2 c.val n.val, CAN_TXRQ c.val (n.val / 32),
        CAN_TXOK c.val (n.val / 32), CAN_ERR c.val, CAN_STAT c.val] s t) ∧
  (∀ (c : Fin 4) (n : Fin 128) s, Alive s → s.dev.hw.canLive c.val = true → s.on (CAN_OBJn_W3_TXRQ c.val n.val) = true →
    n.val ∉ (s.dev.hw.cn c.val).cancel → c.val < s.dev.hw.can.length →
    Ends (.canArbitrationLost c n) s fun t =>
      if s.on (CAN_OBJn_W1_OS c.val n.val) then CanFails c.val n.val 2 t ∧ OnlyRegs (canTxRegs c.val n.val) s t
      else OnlyRegs [] s t) ∧
  (∀ (c : Fin 4) (n : Fin 128) (kind : Fin 7) dp won s, CanSends c.val n.val s → s.on (CAN_OBJn_W1_OS c.val n.val) = true →
    (won && (kind = 4 ∨ kind = 5)) = false → n.val ∉ (s.dev.hw.cn c.val).cancel →
    Ends (.canBusError c kind dp (some n) won .none) s fun t =>
      CanFails c.val n.val 1 t ∧ t.rd (if dp then CAN_ERR_DLEC c.val else CAN_ERR_LEC c.val) = kind.val ∧
      OnlyRegs (CAN_ERR c.val :: canTxRegs c.val n.val) s t) ∧
  (∀ (c : Fin 4) (n : Fin 128) s, CanSends c.val n.val s → s.on (CAN_OBJn_W1_OS c.val n.val) = false →
    n.val ∉ (s.dev.hw.cn c.val).cancel → Ends (.canBusError c 4 false (some n) true .none) s fun t =>
      t.rd (CAN_IDCOL_COUNT c.val) = min 65535 (s.rd (CAN_IDCOL_COUNT c.val) + 1) ∧ t.rd (CAN_IDCOL_LOBJ c.val) = n.val ∧
      t.rd (CAN_OBJn_W3_IDCOLCNT c.val n.val) = min 3 (s.rd (CAN_OBJn_W3_IDCOLCNT c.val n.val) + 1) ∧
      (2 ≤ s.rd (CAN_OBJn_W3_IDCOLCNT c.val n.val) → t.on (CAN_OBJn_W3_SUSP c.val n.val) = true ∧
        t.on (CAN_OBJn_W3_TXRQ c.val n.val) = false ∧ t.rd (CAN_OBJn_W3_FAILCAUSE c.val n.val) = 4 ∧
        t.dev.hw.bitAt (BLK_FAULT (PG_CAN c.val)) 10 = true) ∧
      OnlyRegs [BLK_IRQ (PG_CAN c.val), BLK_FAULT (PG_CAN c.val), CAN_ERR c.val, CAN_IDCOL c.val, CAN_OBJn_W3 c.val n.val,
        CAN_TXRQ c.val (n.val / 32)] s t) ∧
  (∀ (c : Fin 4) (kind : Fin 7) dp s, Alive s → s.dev.hw.canLive c.val = true → s.dev.hw.canCountsHeld c.val = false →
    248 ≤ s.rd (CAN_ERR_TEC c.val) → Ends (.canBusError c kind dp none false .transmitter8) s fun t =>
      t.on (CAN_STAT_BOFF c.val) = true ∧ t.on (CAN_STAT_ACT c.val) = false ∧ t.rd (CAN_STAT_BORC c.val) = 0 ∧
      t.dev.hw.bitAt (BLK_FAULT (PG_CAN c.val)) 9 = true ∧ t.dev.hw.sis = s.dev.hw.sis) ∧
  (∀ (c : Fin 4) s, Alive s → s.on (CAN_STAT_BOFF c.val) = true → Ends (.canBusoffRecovery c) s fun t =>
      t.on (CAN_STAT_BOFF c.val) = false ∧ t.rd (CAN_STAT_BORC c.val) = 128 ∧ t.rd (CAN_ERR_TEC c.val) = 0 ∧
      t.rd (CAN_ERR_REC c.val) = 0 ∧ t.on (CAN_STAT_EP c.val) = false ∧ t.on (CAN_STAT_EWARN c.val) = false ∧
      t.on (CAN_STAT_ACT c.val) = (s.dev.hw.running (PG_CAN c.val) && !s.on (CAN_CTL_INIT c.val)) ∧
      OnlyRegs [BLK_IRQ (PG_CAN c.val), CAN_STAT c.val, CAN_ERR c.val] s t)

/-- Control, negotiation, network time and wake pattern (R377 to R379, R392 to R394): CTL is written only under INIT, and
leaves INIT only with legal timing; a negotiation starts empty; a timeout without all expected nodes sets NEGMISS and asks again; a
request makes object 0 pending with the next count; a TT object fires once a cycle; a lost reference fails the fired ones
or runs on local time. -/
def Obligations.CanControl : Prop :=
  (∀ who (c : Fin 4) w s, MayConfigure who (PG_CAN c.val) (CAN_CTL c.val) s → s.on (CAN_CTL_INIT c.val) = true →
    w.getLsbD 0 = true → Ends (.canCtlWrite who c w) s fun t =>
      t.reg (CAN_CTL c.val) = (w &&& 0x1F) ∧ OnlyRegs [CAN_CTL c.val] s t) ∧
  (∀ who (c : Fin 4) w s, MayConfigure who (PG_CAN c.val) (CAN_CTL c.val) s → s.on (CAN_CTL_INIT c.val) = false →
    getBits w 1 4 ≠ getBits (s.reg (CAN_CTL c.val)) 1 4 → w.getLsbD 0 = false → Ends (.canCtlWrite who c w) s fun t =>
      t.dev.hw.bitAt (BLK_FAULT (PG_CAN c.val)) 8 = true ∧
      OnlyRegs [BLK_FAULT (PG_CAN c.val), BLK_IRQ (PG_CAN c.val)] s t) ∧
  (∀ who (c : Fin 4) w s, MayConfigure who (PG_CAN c.val) (CAN_CTL c.val) s → s.on (CAN_CTL_INIT c.val) = true →
    w.getLsbD 0 = false → (s.dev.hw.nbtOk c.val = false ∨ ∃ k ∈ List.range 5, bit (s.rd (CAN_NEG_MASK c.val)) k = true ∧
      s.dev.hw.dbtOk c.val k = false) → Ends (.canCtlWrite who c w) s fun t =>
      t.on (CAN_CTL_INIT c.val) = true ∧ t.dev.hw.bitAt (BLK_FAULT (PG_CAN c.val)) 8 = true ∧
      OnlyRegs [CAN_CTL c.val, BLK_FAULT (PG_CAN c.val), BLK_IRQ (PG_CAN c.val)] s t) ∧
  (∀ who (c : Fin 4) w s, MayOperate who (PG_CAN c.val) (CAN_NEG_STAT c.val) s → w.getLsbD 24 = true →
    s.on (CAN_CTL_NEGEN c.val) = true → s.dev.hw.canLive c.val = true → c.val < s.dev.hw.can.length →
    Ends (.canNegStart who c w) s fun t =>
      t.on (CAN_NEG_STAT_DONE c.val) = false ∧ t.rd (CAN_NEG_STAT_RATE c.val) = 15 ∧ t.rd (CAN_NEG_STAT_HEARD c.val) = 0 ∧
      (t.dev.hw.cn c.val).heard = [] ∧ (s.dev.hw.canSilent c.val = false →
        (t.dev.hw.cn c.val).capBuf = [BitVec.ofNat 8 (s.rd (CAN_NEG_NODE c.val)), BitVec.ofNat 8 (s.dev.hw.offered c.val),
          15, 1]) ∧ OnlyRegs [CAN_NEG_STAT c.val] s t) ∧
  (∀ (c : Fin 4) s, Alive s → s.dev.hw.canLive c.val = true → s.on (CAN_CTL_NEGEN c.val) = true →
    s.on (CAN_NEG_STAT_DONE c.val) = false → s.on (CAN_NEG_STAT_NEGFAIL c.val) = false →
    s.dev.hw.allHeard c.val = false → Ends (.canNegTimeout c) s fun t =>
      t.on (CAN_NEG_STAT_NEGMISS c.val) = true ∧ t.on (CAN_STAT_QUIET c.val) = false ∧ t.on (CAN_NEG_STAT_DONE c.val) = false ∧
      OnlyRegs [CAN_NEG_STAT c.val, CAN_STAT c.val] s t) ∧
  (∀ (c : Fin 4) s, Alive s → s.dev.hw.canLive c.val = true → s.on (CAN_CTL_NEGEN c.val) = true →
    s.on (CAN_NEG_STAT_DONE c.val) = false → s.on (CAN_NEG_STAT_NEGFAIL c.val) = false → c.val < s.dev.hw.can.length →
    s.dev.hw.allHeard c.val = true → Ends (.canNegTimeout c) s fun t =>
      t.on (CAN_NEG_STAT_DONE c.val) = true ∧ t.rd (CAN_NEG_STAT_RATE c.val) =
        topRate ((s.dev.hw.cn c.val).heard.foldl (fun m p => m &&& p.2) (s.dev.hw.offered c.val)) ∧
      OnlyRegs [BLK_IRQ (PG_CAN c.val), CAN_NEG_STAT c.val, CAN_STAT c.val] s t) ∧
  (∀ (c : Fin 4) s, Alive s → s.dev.hw.canLive c.val = true → (s.dev.hw.cn c.val).answerDue = true →
    Ends (.canCapabilityAnswer c) s fun t => (t.dev.hw.cn c.val).answerDue = false ∧
      (s.dev.hw.canSilent c.val = false → (t.dev.hw.cn c.val).capBuf = [BitVec.ofNat 8 (s.rd (CAN_NEG_NODE c.val)),
        BitVec.ofNat 8 (s.dev.hw.offered c.val), BitVec.ofNat 8 (s.rd (CAN_NEG_STAT_RATE c.val)), 0]) ∧ OnlyRegs [] s t) ∧
  (∀ (c : Fin 4) s, Alive s → s.dev.hw.canLive c.val = true → s.dev.hw.canSilent c.val = false →
    s.dev.hw.canMaster c.val = true → (s.dev.hw.cn c.val).refStop = false → Ends (.canReferenceRequest c) s fun t =>
      t.on (CAN_OBJn_W3_TXRQ c.val 0) = true ∧ t.rd (CAN_OBJn_W1_DLC c.val 0) = 2 ∧
      getBits (t.reg (CAN_OBJn_W0 c.val 0)) 0 29 = getBits (s.dev.hw.cn c.val).refid 0 29 ∧
      getBits (t.reg (CAN_OBJn_DATA c.val 0 0)) 0 8 = ((s.dev.hw.cn c.val).refCnt + 1) % 256 ∧
      getBits (t.reg (CAN_OBJn_DATA c.val 0 0)) 8 8 = getBits (s.dev.hw.cn c.val).time 30 1 ∧
      (t.dev.hw.cn c.val).refCnt = ((s.dev.hw.cn c.val).refCnt + 1) % 256 ∧
      OnlyRegs [CAN_OBJn_W0 c.val 0, CAN_OBJn_W1 c.val 0, CAN_OBJn_DATA c.val 0 0, CAN_OBJn_W3 c.val 0,
        CAN_TXRQ c.val 0] s t) ∧
  (∀ (c : Fin 4) (n : Fin 128) s, Alive s → s.dev.hw.canLive c.val = true → s.rd (CAN_OBJn_W0_TYPE c.val n.val) = canTt →
    s.on (CAN_OBJn_W3_TXRQ c.val n.val) = true → (s.on (CAN_TIME_STAT_REFOK c.val) = true ∨ s.on (CAN_TIME_STAT_LOCALT c.val) = true) →
    n.val ∉ (s.dev.hw.cn c.val).fired → n.val ∉ (s.dev.hw.cn c.val).done → c.val < s.dev.hw.can.length →
    Ends (.canTtFire c n) s fun t =>
      n.val ∈ (t.dev.hw.cn c.val).fired ∧ n.val ∈ (t.dev.hw.cn c.val).done ∧
      t.rd (CAN_TIME_STAT_CYCTIME c.val) = getBits (s.reg (CAN_OBJn_W2 c.val n.val)) 0 16 ∧
      OnlyRegs [CAN_TIME_STAT c.val] s t) ∧
  (∀ (c : Fin 4) s, Alive s → s.dev.hw.canLive c.val = true → Ends (.canRefLost c) s fun t =>
      t.on (CAN_TIME_STAT_REFLOST c.val) = true ∧ t.on (CAN_TIME_STAT_REFOK c.val) = false ∧
      t.on (CAN_TIME_STAT_LOCALT c.val) = (s.on (CAN_TIME_STAT_LOCALT c.val) ||
        decide (getBits (s.dev.hw.cn c.val).time 29 1 = 1)) ∧
      t.dev.hw.bitAt (BLK_IRQ (PG_CAN c.val)) 10 = true ∧
      (getBits (s.dev.hw.cn c.val).time 29 1 = 0 → ∀ n ∈ (s.dev.hw.cn c.val).fired, n < 128 →
        t.rd (CAN_OBJn_W3_FAILCAUSE c.val n) = 7 ∧ t.on (CAN_OBJn_W3_TXRQ c.val n) = false)) ∧
  (∀ (c : Fin 4) s, Alive s → s.dev.hw.canLive c.val = true → s.on (CAN_TIME_STAT_LOCALT c.val) = true →
    Ends (.canVirtualReference c) s fun t =>
      t.rd (CAN_TIME_STAT_CYCTIME c.val) = 0 ∧
      t.rd (CAN_TIME_STAT_CYCCNT c.val) = (s.rd (CAN_TIME_STAT_CYCCNT c.val) + 1) % 256 ∧
      (t.dev.hw.cn c.val).fired = [] ∧ (t.dev.hw.cn c.val).done = [] ∧ SameMem s t) ∧
  (∀ who (c : Fin 4) w s, MayOperate who (PG_CAN c.val) (CAN_WUP c.val) s → c.val < s.dev.hw.can.length →
    Ends (.canWakePatternRequest who c w) s fun t => (t.dev.hw.cn c.val).wup = ((s.dev.hw.cn c.val).wup ||
      (w.getLsbD 0 && !s.on (CAN_CTL_INIT c.val) && !s.on (CAN_CTL_LOM c.val) && !s.dev.hw.noKey)) ∧ OnlyRegs [] s t) ∧
  (∀ (c : Fin 4) s, Alive s → s.dev.hw.canLive c.val = true → (s.dev.hw.cn c.val).wup = true →
    Ends (.canWakePatternSent c) s fun t => (t.dev.hw.cn c.val).wup = false ∧
      t.dev.hw.bitAt (BLK_IRQ (PG_CAN c.val)) 14 = true ∧ OnlyRegs [BLK_IRQ (PG_CAN c.val)] s t)

/-! ## Ethernet, time and SkoveSafe (R400 to R420) -/

/-- Ports (R400 to R404, R419): LINK follows the PCS, the retraining and the PHY; a loss of lock raises PCSERR and drops the
queue; a PHY that does not answer raises MDIOERR, one that resolves another mode retrains; MDIO runs one operation at a
time; a frame for the ring fills the buffer and the descriptor of HEAD, or finds none and raises RXOVF; without a link
nothing is received, and the APC's frame goes back with its error flag. -/
def Obligations.EthernetPorts : Prop :=
  (∀ (c : Fin 2) locked s, PortRuns c.val s → Ends (.ethLinkChange c locked) s fun t =>
      (t.dev.hw.port c.val).pcs = locked ∧ LinkRight c.val s t ∧
      (t.on (ETH_STAT_LINK c.val) = false → (t.dev.hw.port c.val).txq = [] ∧ t.rd (ETH_TXCNT_DROP c.val) =
        min 65535 (s.rd (ETH_TXCNT_DROP c.val) + (s.dev.hw.port c.val).txq.length)) ∧
      ((s.dev.hw.port c.val).pcs = true → locked = false → t.dev.hw.bitAt (BLK_FAULT (PG_ETH c.val)) 9 = true) ∧
      OnlyRegs (BLK_FAULT (PG_ETH c.val) :: linkRegs c.val) s t) ∧
  (∀ (c : Fin 2) s, PortRuns c.val s → s.dev.hw.ethF (ETH_CFG_AUTO c.val) = 1 →
    let lost := fun t => t.dev.hw.bitAt (BLK_FAULT (PG_ETH c.val)) 10 = true ∧
      OnlyRegs [BLK_FAULT (PG_ETH c.val), BLK_IRQ (PG_ETH c.val)] s t
    Ends (.phyPoll c none) s lost ∧ Ends (.phyInterrupt c none) s lost) ∧
  (∀ (c : Fin 2) v s, PortRuns c.val s → s.dev.hw.ethF (ETH_CFG_AUTO c.val) = 1 →
    let m := getBits (BitVec.ofNat 32 (s.dev.hw.ethF (ETH_MDIO_MAP_RMAP c.val)))
      (2 * (v.toNat / 2 ^ s.dev.hw.ethF (ETH_MDIO_MAP_FPOS c.val) % 4)) 2
    let done := fun (t : State) =>
      t.on (ETH_STAT_PHYLINK c.val) = bit v.toNat (s.dev.hw.ethF (ETH_MDIO_MAP_LPOS c.val)) ∧ LinkRight c.val s t ∧
      (bit v.toNat (s.dev.hw.ethF (ETH_MDIO_MAP_LPOS c.val)) = true → m ≠ s.rd (ETH_STAT_MODE c.val) →
        (t.dev.hw.port c.val).retrain = some m ∧ t.on (ETH_STAT_LINK c.val) = false ∧
        t.dev.hw.bitAt (BLK_IRQ (PG_ETH c.val)) 4 = true) ∧
      OnlyRegs (linkRegs c.val) s t
    Ends (.phyPoll c (some v)) s done ∧ Ends (.phyInterrupt c (some v)) s done) ∧
  (∀ (c : Fin 2) s, PortRuns c.val s → ∀ m, (s.dev.hw.port c.val).retrain = some m → m < 4 →
    Ends (.ethRetrainDone c) s fun t =>
      t.rd (ETH_STAT_MODE c.val) = m ∧ (t.dev.hw.port c.val).retrain = none ∧ OnlyRegs (linkRegs c.val) s t) ∧
  (∀ who (c : Fin 2) w s, MayOperate who (PG_ETH c.val) (ETH_MDIO_CMD c.val) s → s.on (ETH_MDIO_CMD_BUSY c.val) = false →
    Ends (.mdioCommand who c w) s fun t =>
      t.rd (ETH_MDIO_CMD_OP c.val) = getBits w 20 2 ∧ t.rd (ETH_MDIO_CMD_DEVAD c.val) = getBits w 8 5 ∧
      t.rd (ETH_MDIO_CMD_PHYAD c.val) = getBits w 0 5 ∧ t.on (ETH_MDIO_CMD_BUSY c.val) = w.getLsbD 24 ∧
      t.on (ETH_MDIO_CMD_ERR c.val) = (s.on (ETH_MDIO_CMD_ERR c.val) && !w.getLsbD 30) ∧
      OnlyRegs [ETH_MDIO_CMD c.val] s t) ∧
  (∀ (c : Fin 2) data s, Alive s → s.on (ETH_MDIO_CMD_BUSY c.val) = true → Ends (.mdioDone c data) s fun t =>
      t.on (ETH_MDIO_CMD_BUSY c.val) = false ∧ t.dev.hw.bitAt (BLK_IRQ (PG_ETH c.val)) 3 = true ∧
      (data = none → t.on (ETH_MDIO_CMD_ERR c.val) = true ∧ t.dev.hw.bitAt (BLK_FAULT (PG_ETH c.val)) 10 = true) ∧
      (∀ v, data = some v → s.rd (ETH_MDIO_CMD_OP c.val) = 3 → (t.reg (ETH_MDIO_DATA c.val)).toNat = v.toNat) ∧
      OnlyRegs [ETH_MDIO_CMD c.val, ETH_MDIO_DATA c.val, BLK_IRQ (PG_ETH c.val), BLK_FAULT (PG_ETH c.val)] s t) ∧
  (∀ who (c : Fin 2) w s, MayOperate who (PG_ETH c.val) (ETH_RXIDX c.val) s →
    Ends (.ethRingIndexWrite who c false w) s fun t =>
      t.rd (ETH_RXIDX_TAIL c.val) = getBits w 0 8 ∧ t.rd (ETH_RXIDX_HEAD c.val) = s.rd (ETH_RXIDX_HEAD c.val) ∧
      OnlyRegs [ETH_RXIDX c.val] s t) ∧
  (∀ (c : Fin 2) f i a n s, RingFrame c.val f s → i = s.rd (ETH_RXIDX_HEAD c.val) →
    a = s.dev.hw.nat (ETH_RXRING c.val) / 4096 * 4096 + 16 * i → n = 14 + f.payload.length →
    n ≤ 64 * s.rd (ETH_RXRING_BUFSZ c.val) → memNat s.dev.mem (a + 6) 2 % 2 = 1 → i ≠ s.rd (ETH_RXIDX_TAIL c.val) →
    (a + 16 ≤ memNat s.dev.mem a 4 ∨ memNat s.dev.mem a 4 + n ≤ a) → Ends (.ethFrameReceive c f) s fun t =>
      memReadBytes t.dev.mem (memNat s.dev.mem a 4) n = (leBytes 6 f.dst.toNat).reverse ++
        (leBytes 6 f.src.toNat).reverse ++ (leBytes 2 f.etype.toNat).reverse ++ f.payload ∧
      memNat t.dev.mem (a + 4) 2 = n ∧ memNat t.dev.mem (a + 6) 2 % 4 = 0 ∧ memNat t.dev.mem (a + 8) 8 = f.stamp.toNat ∧
      (∀ b, (b < a + 4 ∨ a + 16 ≤ b) → (b < memNat s.dev.mem a 4 ∨ memNat s.dev.mem a 4 + n ≤ b) →
        memRead t.dev.mem b = memRead s.dev.mem b) ∧
      t.rd (ETH_RXIDX_HEAD c.val) = (i + 1) % 256 ∧ t.dev.hw.bitAt (BLK_IRQ (PG_ETH c.val)) 1 = true ∧
      t.rd (ETH_RXCNT_OK c.val) = min 65535 (s.rd (ETH_RXCNT_OK c.val) + 1) ∧
      (∀ r, r ∉ [ETH_RXIDX c.val, ETH_RXCNT c.val, BLK_IRQ (PG_ETH c.val)] → t.reg r = s.reg r)) ∧
  (∀ (c : Fin 2) f s, RingFrame c.val f s → 14 + f.payload.length ≤ 64 * s.rd (ETH_RXRING_BUFSZ c.val) →
    s.rd (ETH_RXIDX_HEAD c.val) = s.rd (ETH_RXIDX_TAIL c.val) → Ends (.ethFrameReceive c f) s fun t =>
      t.dev.hw.bitAt (BLK_FAULT (PG_ETH c.val)) 11 = true ∧
      t.rd (ETH_RXCNT_ERR c.val) = min 65535 (s.rd (ETH_RXCNT_ERR c.val) + 1) ∧
      OnlyRegs [ETH_RXCNT c.val, BLK_FAULT (PG_ETH c.val), BLK_IRQ (PG_ETH c.val)] s t) ∧
  (∀ (c : Fin 2) f s, (s.on (ETH_STAT_LINK c.val) = false ∨ f.fcsOk = false ∨ s.dev.hw.dstOk c.val f.dst = false ∨
      14 + f.payload.length + 4 < 64 ∨ s.dev.hw.ethF (ETH_CFG_MTU c.val) < 14 + f.payload.length + 4) →
    Ends (.ethFrameReceive c f) s (OnlyRegs [] s)) ∧
  (∀ (c : Fin 2) cyc e s, PortRuns c.val s → s.on (ETH_STAT_LINK c.val) = true → s.dev.apcNext c.val = none →
    (s.dev.hw.port c.val).txq = [e] → (s.dev.hw.port c.val).gated = false → e.queue < 8 →
    e.len + 4 ≤ s.dev.hw.ethF (ETH_CFG_MTU c.val) →
    wireTime (s.rd (ETH_STAT_MODE c.val)) e.len ≤ s.dev.hw.pst.curPer * s.dev.hw.pst.posDiv - cyc →
    cyc < s.dev.hw.pst.curPer * s.dev.hw.pst.posDiv → Ends (.ethFrameTransmit c cyc) s fun t =>
      (t.dev.hw.port c.val).txq = [] ∧ t.rd (ETH_TXCNT_OK c.val) = min 65535 (s.rd (ETH_TXCNT_OK c.val) + 1) ∧
      t.dev.hw.bitAt (BLK_IRQ (PG_ETH c.val)) 2 = true ∧ OnlyRegs [ETH_TXCNT c.val, BLK_IRQ (PG_ETH c.val)] s t) ∧
  (∀ (c : Fin 2) cyc s, PortRuns c.val s → s.on (ETH_STAT_LINK c.val) = false → ∀ x, s.dev.apcNext c.val = some x →
    Ends (.ethFrameTransmit c cyc) s fun t =>
      memNat t.dev.mem (s.dev.hw.nat (ETH_TXRING c.val) / 4096 * 4096 + 16 * x.1 + 6) 2 % 4 = 2 ∧
      t.rd (ETH_TXIDX_HEAD c.val) = (x.1 + 1) % 256 ∧
      t.rd (ETH_TXCNT_DROP c.val) = min 65535 (s.rd (ETH_TXCNT_DROP c.val) + 1) ∧
      (∀ r, r ∉ [ETH_TXIDX c.val, ETH_TXCNT c.val] → t.reg r = s.reg r))

/-- The clock (R405 to R409): a grandmaster queues Sync and Follow_Up on queue 6; a slave takes the offset of its PTPPORT,
steps above 1 µs and trims its rate below; a measured link delay shows; three intervals without a Sync end the lock. -/
def Obligations.TimeEngine : Prop :=
  (∀ (c : Fin 2) s, PortRuns c.val s → s.on (ETH_STAT_LINK c.val) = true → Ends (.ptpSyncSend c) s fun t =>
      (t.dev.hw.port c.val).txq = (s.dev.hw.port c.val).txq ++
        (if s.dev.hw.gmActive then [⟨6, 58, 0x88F7⟩, ⟨6, 90, 0x88F7⟩] else []) ∧ OnlyRegs [] s t) ∧
  (∀ (c : Fin 2) (o : BitVec 32) s, PortRuns c.val s → s.dev.hw.gmActive = false →
    s.dev.hw.ethF (ETH_PTP_CFG_PTPPORT 0) = c.val → 1000 < o.toInt.natAbs → Ends (.ptpSyncReceive c o) s fun t =>
      t.dev.hw.int (ETH_PTP_OFS 0) = o.toInt ∧
      (t.dev.hw.pair (ETH_PTP_NS_LO 0) : Int) = ((s.dev.hw.pair (ETH_PTP_NS_LO 0) : Int) - o.toInt) % 2 ^ 64 ∧
      OnlyRegs [ETH_PTP_OFS 0, ETH_PTP_NS_LO 0, ETH_PTP_NS_HI 0] s t) ∧
  (∀ (c : Fin 2) (o : BitVec 32) s, PortRuns c.val s → s.dev.hw.gmActive = false →
    s.dev.hw.ethF (ETH_PTP_CFG_PTPPORT 0) = c.val → o.toInt.natAbs ≤ 1000 → Ends (.ptpSyncReceive c o) s fun t =>
      t.dev.hw.int (ETH_PTP_OFS 0) = o.toInt ∧ (o.toInt = 0 → t.reg (ETH_PTP_RATE 0) = s.reg (ETH_PTP_RATE 0)) ∧
      (0 < o.toInt → t.dev.hw.int (ETH_PTP_RATE 0) ≤ s.dev.hw.int (ETH_PTP_RATE 0)) ∧
      (o.toInt < 0 → s.dev.hw.int (ETH_PTP_RATE 0) ≤ t.dev.hw.int (ETH_PTP_RATE 0)) ∧
      OnlyRegs [ETH_PTP_OFS 0, ETH_PTP_RATE 0] s t) ∧
  (∀ (c : Fin 2) (o : BitVec 32) s, s.dev.hw.gmActive = true ∨ s.dev.hw.ethF (ETH_PTP_CFG_PTPPORT 0) ≠ c.val →
    Ends (.ptpSyncReceive c o) s (OnlyRegs [] s)) ∧
  (∀ (c : Fin 2) d s, PortRuns c.val s → s.on (ETH_STAT_LINK c.val) = true → Ends (.ptpPdelay c d) s fun t =>
      t.reg (ETH_PTP_PDLY 0) = (if s.dev.hw.ethF (ETH_PTP_CFG_PTPPORT 0) = c.val then d else s.reg (ETH_PTP_PDLY 0)) ∧
      (t.dev.hw.port c.val).txq = (s.dev.hw.port c.val).txq ++ [⟨6, 68, 0x88F7⟩] ∧ OnlyRegs [ETH_PTP_PDLY 0] s t) ∧
  (∀ s, Alive s → s.dev.hw.gmActive = false → Ends .ptpSyncLost s fun t =>
      t.on (ETH_TBD_STAT_SYNCLOST 0) = true ∧ t.on (ETH_TBD_STAT_LOCKED 0) = false ∧
      t.dev.hw.bitAt (BLK_IRQ (PG_ETH 0)) 6 = true ∧ OnlyRegs [ETH_TBD_STAT 0, BLK_IRQ (PG_ETH 0)] s t) ∧
  (∀ s, s.dev.hw.gmActive = true → Ends .ptpSyncLost s (OnlyRegs [] s))

/-- SkoveSafe (R411 to R416): a producer's frame is header, payload, CRC and tag with its counter, once in PERIOD cycles; a
received frame is checked for connection, tag, CRC, sequence and age in that order, and what is dropped is counted and not
delivered; an accepted one fills the connection's buffer; the watchdog sets EXP here and in the Ward, with the substitute;
a path that falls silent goes. -/
def Obligations.SkoveSafe : Prop :=
  (∀ (k : Fin 64) s, Alive s → s.dev.hw.connLive k.val = true → s.on (SSE_Ck_CFG_DIR k.val) = true →
    max 1 (s.rd (SSE_Ck_CFG_PERIOD k.val)) ≤ (s.dev.hw.conn k.val).cyc → s.rd (SSE_Ck_CFG_KIND k.val) = 0 →
    s.rd (SSE_Ck_CFG_PATHS k.val) = 1 → k.val < s.dev.hw.sse.length → Ends (.skovesafeProduce k) s fun t =>
      let x := s.dev.hw.conn k.val
      let n := 4 * s.rd (SSE_Ck_CFG_LEN k.val)
      let buf := (if (s.on (SSE_Ck_STAT_BUFCUR k.val) ^^ x.bsel) = true then s.dev.hw.nat (SSE_Ck_BUFB k.val)
        else s.dev.hw.nat (SSE_Ck_BUFA k.val))
      (t.dev.hw.conn k.val).out.length = 28 + n ∧
      (t.dev.hw.conn k.val).out.take 12 = leBytes 1 1 ++ leBytes 1 (n / 4) ++ leBytes 2 (s.rd (SSE_Ck_CID_CID k.val)) ++
        leBytes 4 x.ctr ++ leBytes 4 (s.dev.hw.nat (ETH_T0_STAMP_LO 0)) ∧
      ((t.dev.hw.conn k.val).out.drop 12).take n = memReadBytes s.dev.mem buf n ∧
      ((t.dev.hw.conn k.val).out.drop (12 + n)).take 4 = leBytes 4 (crc32c (leBytes 4 (s.dev.hw.nat (SSE_Ck_VID k.val)) ++
        (t.dev.hw.conn k.val).out.take (12 + n))) ∧
      (t.dev.hw.conn k.val).ctr = x.ctr + 1 ∧ (t.dev.hw.conn k.val).cyc = 0 ∧
      (t.reg (SSE_Ck_SEQ k.val)).toNat = x.ctr % 2 ^ 32 ∧
      OnlyRegs [SSE_Ck_SEQ k.val, SSE_Ck_STAT k.val, SSE_Ck_CTL k.val, ETH_TXCNT 0] s t) ∧
  (∀ (k : Fin 64) s, s.dev.hw.connLive k.val = false ∨ (s.dev.hw.conn k.val).cyc < s.rd (SSE_Ck_CFG_PERIOD k.val) →
    Ends (.skovesafeProduce k) s (OnlyRegs [] s)) ∧
  (∀ path (f : SkoveFrame) now s, Alive s → s.dev.hw.running PG_SSE = true →
    (∀ k ∈ List.range 64, (s.dev.hw.connLive k && !s.on (SSE_Ck_CFG_DIR k) &&
      decide (s.rd (SSE_Ck_CID_CID k) = f.cid.toNat) && s.dev.hw.skoveHas path.val k) = false) →
    (List.range 64).any (s.dev.hw.skoveHas path.val) = true →
    Ends (.skovesafeFrameReceive path f now) s fun t =>
      t.rd SSE_UNK_CNT = min 65535 (s.rd SSE_UNK_CNT + 1) ∧
      OnlyRegs ([SSE_UNK, BLK_IRQ PG_SSE] ++ (List.range 64).flatMap fun k => skoveRx path k s) s t) ∧
  (∀ (k : Fin 64) path f now s, Consumes path.val k.val f.cid s → f.tagOk = false →
    Ends (.skovesafeFrameReceive path f now) s fun t =>
      t.on (SSE_Ck_STAT_AUTHE k.val) = true ∧ t.rd (SSE_Ck_CNT1_REJ k.val) = min 65535 (s.rd (SSE_Ck_CNT1_REJ k.val) + 1) ∧
      t.rd SSE_ERR_AUTHERR = min 65535 (s.rd SSE_ERR_AUTHERR + 1) ∧ t.dev.hw.bitAt (BLK_FAULT PG_SSE) 9 = true ∧
      OnlyRegs ([SSE_Ck_STAT k.val, SSE_Ck_CNT1 k.val, SSE_ERR, BLK_IRQ PG_SSE, BLK_FAULT PG_SSE] ++ skoveRx path k.val s) s t) ∧
  (∀ (k : Fin 64) path f now s, Consumes path.val k.val f.cid s → f.tagOk = true →
    crc32c (leBytes 4 (s.dev.hw.nat (SSE_Ck_VID k.val)) ++ skoveHead f ++ f.payload) ≠ f.crc.toNat →
    Ends (.skovesafeFrameReceive path f now) s fun t =>
      t.on (SSE_Ck_STAT_CRCE k.val) = true ∧ t.rd (SSE_Ck_CNT1_REJ k.val) = min 65535 (s.rd (SSE_Ck_CNT1_REJ k.val) + 1) ∧
      t.rd SSE_ERR_CRCERR = min 65535 (s.rd SSE_ERR_CRCERR + 1) ∧ t.dev.hw.bitAt (BLK_FAULT PG_SSE) 10 = true ∧
      OnlyRegs ([SSE_Ck_STAT k.val, SSE_Ck_CNT1 k.val, SSE_ERR, BLK_IRQ PG_SSE, BLK_FAULT PG_SSE] ++ skoveRx path k.val s) s t) ∧
  (∀ (k : Fin 64) path f now s l, (s.dev.hw.conn k.val).last = some l → Consumes path.val k.val f.cid s → f.tagOk = true →
    crc32c (leBytes 4 (s.dev.hw.nat (SSE_Ck_VID k.val)) ++ skoveHead f ++ f.payload) = f.crc.toNat →
    (s.dev.hw.conn k.val).first = false → f.seq.toNat = l % 2 ^ 32 →
    Ends (.skovesafeFrameReceive path f now) s fun t =>
      t.rd (SSE_Ck_CNT0_DUP k.val) = min 65535 (s.rd (SSE_Ck_CNT0_DUP k.val) + 1) ∧
      t.dev.hw.conn k.val = s.dev.hw.conn k.val ∧
      OnlyRegs ([SSE_Ck_CNT0 k.val, SSE_Ck_STAT k.val, SSE_PATH] ++ skoveRx path k.val s) s t) ∧
  (∀ (k : Fin 64) path f (now : BitVec 32) s l, (s.dev.hw.conn k.val).last = some l → Consumes path.val k.val f.cid s → f.tagOk = true →
    crc32c (leBytes 4 (s.dev.hw.nat (SSE_Ck_VID k.val)) ++ skoveHead f ++ f.payload) = f.crc.toNat →
    f.seq.toNat = (l + 1) % 2 ^ 32 → s.on (ETH_TBD_STAT_LOCKED 0) = true →
    (now - f.tstamp).toInt < -10000 ∨ 1000 * s.rd (SSE_Ck_TIM_MAXAGE k.val) < (now - f.tstamp).toInt →
    Ends (.skovesafeFrameReceive path f now) s fun t =>
      t.on (SSE_Ck_STAT_STALE k.val) = true ∧ t.rd (SSE_Ck_CNT1_REJ k.val) = min 65535 (s.rd (SSE_Ck_CNT1_REJ k.val) + 1) ∧
      OnlyRegs ([SSE_Ck_STAT k.val, SSE_Ck_CNT1 k.val, BLK_IRQ PG_SSE] ++ skoveRx path k.val s) s t) ∧
  (∀ (k : Fin 64) path f (now : BitVec 32) s l, (s.dev.hw.conn k.val).last = some l → Consumes path.val k.val f.cid s → f.tagOk = true →
    crc32c (leBytes 4 (s.dev.hw.nat (SSE_Ck_VID k.val)) ++ skoveHead f ++ f.payload) = f.crc.toNat →
    (s.dev.hw.conn k.val).first = false → f.seq.toNat = (l + 1) % 2 ^ 32 →
    -10000 ≤ (now - f.tstamp).toInt → (now - f.tstamp).toInt ≤ 1000 * s.rd (SSE_Ck_TIM_MAXAGE k.val) →
    s.rd (SSE_Ck_CFG_KIND k.val) = 0 → s.dev.hw.rdn.replaying = false →
    f.payload.length = 4 * s.rd (SSE_Ck_CFG_LEN k.val) → Ends (.skovesafeFrameReceive path f now) s fun t =>
      let n := 4 * s.rd (SSE_Ck_CFG_LEN k.val)
      let buf := if s.on (SSE_Ck_STAT_BUFCUR k.val) then s.dev.hw.nat (SSE_Ck_BUFB k.val) else s.dev.hw.nat (SSE_Ck_BUFA k.val)
      memReadBytes t.dev.mem buf n = f.payload ∧
      (∀ b, (b < buf ∨ buf + n ≤ b) → memRead t.dev.mem b = memRead s.dev.mem b) ∧
      t.rd (SSE_Ck_CNT0_ACC k.val) = min 65535 (s.rd (SSE_Ck_CNT0_ACC k.val) + 1) ∧ t.reg (SSE_Ck_SEQ k.val) = f.seq ∧
      (t.dev.hw.conn k.val).last = some (l + 1) ∧ t.rd (SSE_Ck_AGE_SINCE k.val) = 0 ∧
      bit (t.rd (SSE_Ck_STAT_PATHOK k.val)) path.val = true ∧
      t.on (SSE_Ck_STAT_UNTIMED k.val) = !s.on (ETH_TBD_STAT_LOCKED 0) ∧
      t.rd (SSE_Ck_CNT1_LOST k.val) = s.rd (SSE_Ck_CNT1_LOST k.val) ∧
      (1 ≤ (s.dev.hw.conn k.val).run → t.on (SSE_Ck_STAT_EXP k.val) = false) ∧
      (∀ r, r ∉ skoveRegs k.val ++ skoveRx path k.val s → t.reg r = s.reg r)) ∧
  (∀ (k : Fin 64) s, Alive s → s.on (SSE_Ck_CFG_EN k.val) = true → s.on (SSE_Ck_CFG_DIR k.val) = false →
    (s.dev.hw.conn k.val).held = false → (s.dev.hw.conn k.val).last ≠ none → s.on (SSE_Ck_STAT_EXP k.val) = false →
    s.rd (SSE_Ck_CFG_KIND k.val) = 0 → s.on (SSE_Ck_CFG_SUBST k.val) = false →
    Ends (.skovesafeWatchdogExpiry k) s fun t =>
      t.on (SSE_Ck_STAT_EXP k.val) = true ∧ t.dev.hw.bitAt (SSE_WD_LO + 4 * (k.val / 32)) (k.val % 32) = true ∧
      t.dev.hw.bitAt (SIS_SSWD_LO + 4 * (k.val / 32)) (k.val % 32) = true ∧
      t.on (SSE_Ck_STAT_SUBACT k.val) = s.on (SSE_Ck_STAT_SUBACT k.val) ∧ OnlyRegs (skoveRegs k.val) s t) ∧
  (∀ (k : Fin 64) s, Alive s → s.on (SSE_Ck_CFG_EN k.val) = true → s.on (SSE_Ck_CFG_DIR k.val) = false →
    (s.dev.hw.conn k.val).held = false → (s.dev.hw.conn k.val).last ≠ none → s.on (SSE_Ck_STAT_EXP k.val) = false →
    s.rd (SSE_Ck_CFG_KIND k.val) = 0 → s.on (SSE_Ck_CFG_SUBST k.val) = true →
    let n := 4 * s.rd (SSE_Ck_CFG_LEN k.val)
    let buf := if s.on (SSE_Ck_STAT_BUFCUR k.val) then s.dev.hw.nat (SSE_Ck_BUFB k.val) else s.dev.hw.nat (SSE_Ck_BUFA k.val)
    Ends (.skovesafeWatchdogExpiry k) s fun t =>
      t.on (SSE_Ck_STAT_EXP k.val) = true ∧ t.on (SSE_Ck_STAT_SUBACT k.val) = true ∧
      memReadBytes t.dev.mem buf n = memReadBytes s.dev.mem (s.dev.hw.nat (SSE_Ck_SUB k.val)) n ∧
      (∀ b, (b < buf ∨ buf + n ≤ b) → memRead t.dev.mem b = memRead s.dev.mem b)) ∧
  (∀ (k : Fin 64) s, (s.dev.hw.conn k.val).last = none → Ends (.skovesafeWatchdogExpiry k) s (OnlyRegs [] s)) ∧
  (∀ (k : Fin 64) (p : Fin 3) s, Alive s → bit (s.rd (SSE_Ck_STAT_PATHOK k.val)) p.val = true →
    Ends (.skovesafePathTimeout k p) s fun t =>
      bit (t.rd (SSE_Ck_STAT_PATHOK k.val)) p.val = false ∧ t.dev.hw.bitAt (BLK_FAULT PG_SSE) 11 = true ∧
      OnlyRegs [SSE_Ck_STAT k.val, SSE_PATH, BLK_IRQ PG_SSE, BLK_FAULT PG_SSE] s t) ∧
  (∀ who (k : Fin 64) w s, MayOperate who PG_SSE (SSE_Ck_CTL k.val) s → k.val < s.dev.hw.sse.length →
    w.getLsbD 0 = true → Ends (.sseBufferSwitch who k w) s fun t =>
      t.on (SSE_Ck_CTL_BSEL k.val) = true ∧ (t.dev.hw.conn k.val).bsel = true ∧ OnlyRegs [SSE_Ck_CTL k.val] s t) ∧
  (∀ path (f : SkoveFrame) now s, Alive s → s.dev.hw.running PG_SSE = true →
    (List.range 64).any (s.dev.hw.skoveHas path.val) = false →
    Ends (.skovesafeFrameReceive path f now) s fun t => OnlyRegs [] s t)

/-! ## Mailboxes, latches, recorder, stop queue (R423 to R433, R440 to R455, R490) -/

/-- Agent 0 alone configures a channel, EMPTY, with two different agents (R424): another state is BUSY, the same agent twice
CFGREJ, another writer NOTSIS; a refused write changes nothing and is no bus error. -/
def Obligations.ChannelConfiguration : Prop :=
  (∀ (n : Fin 16) w s, Reaches (.agent 0) (MLBn_CFG n.val) s → s.dev.hw.chan n.val = chanEmpty →
    getBits w 16 3 ≠ getBits w 24 3 → Ends (.mlbConfigWrite (.agent 0) n w) s fun t =>
      t.rd (MLBn_CFG_SND n.val) = getBits w 16 3 ∧ t.rd (MLBn_CFG_RCV n.val) = getBits w 24 3 ∧
      t.rd (MLBn_CFG_RDB n.val) = getBits w 0 5 ∧ t.rd (MLBn_CFG_ADB n.val) = getBits w 8 5 ∧
      t.on (MLBn_CFG_EN n.val) = w.getLsbD 31 ∧ OnlyRegs [MLBn_CFG n.val] s t) ∧
  (∀ who (n : Fin 16) w s, Reaches who (MLBn_CFG n.val) s →
    (who ≠ .agent 0 ∨ s.dev.hw.chan n.val ≠ chanEmpty ∨ getBits w 16 3 = getBits w 24 3) →
    Ends (.mlbConfigWrite who n w) s fun t =>
      t.dev.hw.bitAt (BLK_FAULT PG_MLB)
        (if who ≠ .agent 0 then 8 else if s.dev.hw.chan n.val ≠ chanEmpty then 10 else 12) = true ∧
      t.dev.hw.reply.err = false ∧ OnlyRegs [BLK_FAULT PG_MLB, BLK_IRQ PG_MLB] s t)

/-- A channel's message (R425, R426): SND fills the payload while it is not POSTED and posts, which rings RCV; RCV's
read sets RD, its acknowledge rings SND; SND withdraws or takes; any other control write is SEQ, another agent's
NOTPARTY. Doorbells and latches (R423, R427, R432, R433): any agent rings, the agent itself clears and masks; a read
of a free latch acquires it, the owner's write releases it, another's write is NOTOWN, agent 0 frees; the keyway
changes nothing. -/
def Obligations.Mailboxes : Prop :=
  ((∀ (a : Fin 8) (n : Fin 16) s, Posts a n.val s → s.dev.hw.snd n.val = a.val →
    (s.dev.hw.chan n.val = chanEmpty ∧ s.on (MLBn_CFG_EN n.val) = true ∨
      s.dev.hw.chan n.val = chanAcked ∧ s.on (MLBn_STAT_SND_STALE n.val) = false) →
    Ends (.mlbPost (.agent a) n) s fun t =>
      t.dev.hw.chan n.val = chanPosted ∧ t.rd (MLBn_STAT_EPOCH n.val) = s.dev.hw.epoch a.val ∧
      t.on (MLBn_STAT_RD n.val) = false ∧ t.reg (MLBn_ACK n.val) = 0 ∧
      t.reg (MLB_DBa (s.dev.hw.rcv n.val)) =
        s.reg (MLB_DBa (s.dev.hw.rcv n.val)) ||| BitVec.ofNat 32 (2 ^ s.rd (MLBn_CFG_RDB n.val)) ∧
      OnlyRegs [MLBn_STAT n.val, MLBn_ACK n.val, MLB_DBa (s.dev.hw.rcv n.val)] s t) ∧
  (∀ (a : Fin 8) (n : Fin 16) s, Posts a n.val s → s.dev.hw.snd n.val = a.val →
    (s.dev.hw.chan n.val = chanPosted ∨ s.dev.hw.chan n.val = chanEmpty ∧ s.on (MLBn_CFG_EN n.val) = false ∨
      s.dev.hw.chan n.val = chanAcked ∧ s.on (MLBn_STAT_SND_STALE n.val) = true) →
    Ends (.mlbPost (.agent a) n) s (MlbRefused 11 s)) ∧
  (∀ (a : Fin 8) (n : Fin 16) s, Posts a n.val s → s.dev.hw.snd n.val = a.val →
    (Ends (.mlbWithdraw (.agent a) n) s fun t => if s.dev.hw.chan n.val = chanPosted then
      t.reg (MLBn_STAT n.val) = 0 ∧ t.reg (MLBn_ACK n.val) = 0 ∧ OnlyRegs [MLBn_STAT n.val, MLBn_ACK n.val] s t
      else MlbRefused 11 s t) ∧
    (Ends (.mlbTake (.agent a) n) s fun t => if s.dev.hw.chan n.val = chanAcked then
      t.reg (MLBn_STAT n.val) = 0 ∧ t.reg (MLBn_ACK n.val) = 0 ∧ OnlyRegs [MLBn_STAT n.val, MLBn_ACK n.val] s t
      else MlbRefused 11 s t)) ∧
  (∀ (a : Fin 8) (n : Fin 16) w s, Posts a n.val s → s.dev.hw.rcv n.val = a.val → Ends (.mlbAck (.agent a) n w) s fun t =>
      if s.dev.hw.chan n.val = chanPosted then
        t.dev.hw.chan n.val = chanAcked ∧ t.on (MLBn_ACK_VALID n.val) = true ∧ t.rd (MLBn_ACK_CODE n.val) = getBits w 0 8 ∧
        t.rd (MLBn_ACK_EPOCH n.val) = s.rd (MLBn_STAT_EPOCH n.val) ∧ t.reg (MLB_DBa (s.dev.hw.snd n.val)) =
          s.reg (MLB_DBa (s.dev.hw.snd n.val)) ||| BitVec.ofNat 32 (2 ^ s.rd (MLBn_CFG_ADB n.val)) ∧
        OnlyRegs [MLBn_STAT n.val, MLBn_ACK n.val, MLB_DBa (s.dev.hw.snd n.val)] s t
      else MlbRefused 11 s t) ∧
  (∀ (a : Fin 8) (n : Fin 16) (k : Fin 8) w s, Posts a n.val s → s.dev.hw.snd n.val = a.val →
    Ends (.mlbPayloadWrite (.agent a) n k w) s fun t => if s.dev.hw.chan n.val = chanPosted then MlbRefused 10 s t
      else t.reg (MLBn_D n.val k.val) = w ∧ OnlyRegs [MLBn_D n.val k.val] s t) ∧
  (∀ (a : Fin 8) (n : Fin 16) (k : Fin 8) w s, Posts a n.val s → s.dev.hw.snd n.val ≠ a.val →
    Ends (.mlbPost (.agent a) n) s (MlbRefused 9 s) ∧ Ends (.mlbWithdraw (.agent a) n) s (MlbRefused 9 s) ∧
    Ends (.mlbTake (.agent a) n) s (MlbRefused 9 s) ∧ Ends (.mlbPayloadWrite (.agent a) n k w) s (MlbRefused 9 s)) ∧
  (∀ (a : Fin 8) (n : Fin 16) w s, Posts a n.val s → s.dev.hw.rcv n.val ≠ a.val →
    Ends (.mlbAck (.agent a) n w) s (MlbRefused 9 s)) ∧
  (∀ (a : Fin 8) (n : Fin 16) (k : Fin 8) s, s.dev.hw.canAccess (.agent a) = true → s.dev.hw.rcv n.val = a.val →
    s.dev.hw.snd n.val ≠ a.val → s.dev.hw.chan n.val ≠ chanEmpty → Ends (.mlbPayloadRead (.agent a) n k) s fun t =>
      t.dev.hw.reply.data = [s.reg (MLBn_D n.val k.val)] ∧ t.on (MLBn_STAT_RD n.val) = true ∧
      OnlyRegs [MLBn_STAT n.val] s t) ∧
  (∀ (a : Fin 8) (n : Fin 16) (k : Fin 8) s, s.dev.hw.canAccess (.agent a) = true → s.dev.hw.snd n.val = a.val →
    Ends (.mlbPayloadRead (.agent a) n k) s fun t =>
      t.dev.hw.reply.data = [s.reg (MLBn_D n.val k.val)] ∧ OnlyRegs [] s t) ∧
  (∀ (a : Fin 8) (n : Fin 16) (k : Fin 8) s, s.dev.hw.canAccess (.agent a) = true → s.dev.hw.snd n.val ≠ a.val →
    s.dev.hw.rcv n.val ≠ a.val → a ≠ 0 → Ends (.mlbPayloadRead (.agent a) n k) s fun t =>
      t.dev.hw.reply.data = [0] ∧ MlbRefused 9 s t)) ∧
  ((∀ (a b : Fin 8) w s, MayOperate (.agent b) PG_MLB (MLB_DBa_SET a.val) s → Ends (.doorbellRing (.agent b) a w) s fun t =>
      t.reg (MLB_DBa a.val) = s.reg (MLB_DBa a.val) ||| w ∧ OnlyRegs [MLB_DBa a.val] s t) ∧
  (∀ (a b : Fin 8) w s, MayOperate (.agent b) PG_MLB (MLB_DBa a.val) s → Ends (.doorbellClear (.agent b) a w) s fun t =>
      if a = b then t.reg (MLB_DBa a.val) = s.reg (MLB_DBa a.val) &&& ~~~ w ∧ OnlyRegs [MLB_DBa a.val] s t
      else t.dev.hw.bitAt (BLK_FAULT PG_MLB) 9 = true ∧ OnlyRegs [BLK_FAULT PG_MLB, BLK_IRQ PG_MLB] s t) ∧
  (∀ (a b : Fin 8) w s, MayOperate (.agent b) PG_MLB (MLB_DBa_MASK a.val) s →
    Ends (.doorbellMaskWrite (.agent b) a w) s fun t =>
      if a = b then t.reg (MLB_DBa_MASK a.val) = w ∧ t.dev.hw.dbPend a.val = s.reg (MLB_DBa a.val) &&& ~~~ w ∧
        OnlyRegs [MLB_DBa_MASK a.val] s t
      else t.dev.hw.bitAt (BLK_FAULT PG_MLB) 9 = true ∧ OnlyRegs [BLK_FAULT PG_MLB, BLK_IRQ PG_MLB] s t) ∧
  (∀ (a : Fin 8) (j : Fin 64) s, s.dev.hw.canAccess (.agent a) = true → s.dev.hw.latch j.val = none →
    Ends (.latchAcquire (.agent a) j) s fun t =>
      t.dev.hw.reply.data = [0] ∧ t.dev.hw.latch j.val = some a.val ∧
      t.dev.hw.bitAt (LAT_HELD0 + 4 * (j.val / 32)) (j.val % 32) = true ∧
      (∀ i ∈ List.range 64, i ≠ j.val → t.dev.hw.latch i = s.dev.hw.latch i) ∧
      OnlyRegs [LAT_OWNi (j.val / 8), LAT_HELD0 + 4 * (j.val / 32)] s t) ∧
  (∀ (a : Fin 8) (j : Fin 64) s, s.dev.hw.canAccess (.agent a) = true → s.dev.hw.latch j.val ≠ none →
    Ends (.latchAcquire (.agent a) j) s fun t =>
      t.dev.hw.reply.data = [0x8000#32 ||| BitVec.ofNat 32 ((s.dev.hw.latch j.val).getD 0)] ∧ OnlyRegs [] s t) ∧
  (∀ (a : Fin 8) (j : Fin 64) w s, MayOperate (.agent a) PG_LAT (LAT_Lj j.val) s →
    Ends (.latchRelease (.agent a) j w) s fun t =>
      if s.dev.hw.latch j.val = some a.val then t.dev.hw.latch j.val = none ∧
        t.dev.hw.bitAt (LAT_HELD0 + 4 * (j.val / 32)) (j.val % 32) = false ∧
        (∀ i ∈ List.range 64, i ≠ j.val → t.dev.hw.latch i = s.dev.hw.latch i) ∧
        OnlyRegs [LAT_OWNi (j.val / 8), LAT_HELD0 + 4 * (j.val / 32)] s t
      else t.dev.hw.bitAt (BLK_FAULT PG_LAT) 8 = true ∧ OnlyRegs [BLK_FAULT PG_LAT, BLK_IRQ PG_LAT] s t) ∧
  (∀ (k : Fin 2) w s, Reaches (.agent 0) (if k.val = 0 then LAT_FREE0 else LAT_FREE1) s →
    Ends (.latchForceFree (.agent 0) k w) s fun t =>
      (∀ i ∈ List.range 64, t.dev.hw.latch i = if i / 32 = k.val ∧ bit w.toNat (i % 32) then none else s.dev.hw.latch i) ∧
      (∀ r, r ∉ LAT_HELD0 :: LAT_HELD1 :: (List.range 8).map LAT_OWNi → t.reg r = s.reg r) ∧ SameMem s t) ∧
  (∀ (n : Fin 16) (k : Fin 8) (j : Fin 64) (a : Fin 8) w s, s.dev.hw.fabricOn = true → s.on SEC_KW_STAT_OPEN = true →
    s.dev.hw.kwScope (MLBn_CTL n.val) = true → s.dev.hw.kwScope (LAT_Lj j.val) = true →
    s.dev.hw.kwScope (MLB_DBa_SET a.val) = true →
    let refused := fun (p b : Nat) (t : State) => t.dev.hw.bitAt (BLK_FAULT p) b = true ∧
      OnlyRegs [BLK_FAULT p, BLK_IRQ p] s t
    Ends (.mlbPost .keyway n) s (refused PG_MLB 8) ∧ Ends (.doorbellRing .keyway a w) s (refused PG_MLB 8) ∧
    Ends (.latchRelease .keyway j w) s (refused PG_LAT 9)) ∧
  (∀ (n : Fin 16) (k : Fin 8) (j : Fin 64) s,
    Ends (.mlbPayloadRead .keyway n k) s (OnlyRegs [] s) ∧ Ends (.latchAcquire .keyway j) s (OnlyRegs [] s)))

/-- Arrivals (R449): 32 entries, the last 8 for the hardware; a submit that finds 24 is answered FULL, a hardware record
that finds 32 is dropped and counted. -/
def Obligations.RecordQueue : Prop :=
  (∀ who w s, MayOperate who PG_REC REC_SUB_CTL s → w.getLsbD 31 = true → 0x8000 ≤ getBits w 0 16 →
    24 ≤ s.dev.hw.rcd.queue.length → Ends (.recordSubmit who w) s fun t =>
      (t.dev.hw.subRegs who.num).getD 1 0 = 2 ∧ t.dev.hw.rcd.queue = s.dev.hw.rcd.queue ∧ OnlyRegs [] s t) ∧
  (∀ who w s, MayOperate who PG_REC REC_SUB_CTL s → w.getLsbD 31 = true → 0x8000 ≤ getBits w 0 16 →
    s.dev.hw.rcd.queue.length < 24 → s.dev.hw.recAonMode = false → s.reg REC_SEQ ≠ 0xFFFFFFFF →
    Ends (.recordSubmit who w) s fun t =>
      (t.dev.hw.subRegs who.num).getD 1 0 = 1 ∧ (t.dev.hw.subRegs who.num).getD 2 0 = s.reg REC_SEQ ∧
      t.reg REC_SEQ = s.reg REC_SEQ + 1 ∧ t.rd REC_STAT_LEVEL = s.dev.hw.rcd.queue.length + 1 ∧
      t.dev.hw.rcd.queue.take s.dev.hw.rcd.queue.length = s.dev.hw.rcd.queue ∧
      (t.dev.hw.rcd.queue.drop s.dev.hw.rcd.queue.length).map (fun r => (r.seq, r.typ, r.src, r.prot)) =
        [((s.reg REC_SEQ).toNat, getBits w 0 16, who.num % 8, s.on REC_CFG_SWPROT && w.getLsbD 16)] ∧
      OnlyRegs [REC_SEQ, REC_STAT, BLK_IRQ PG_REC, BLK_STAT PG_REC] s t) ∧
  (∀ who w s, MayOperate who PG_REC REC_SUB_CTL s → w.getLsbD 31 = true → getBits w 0 16 < 0x8000 →
    Ends (.recordSubmit who w) s fun t =>
      (t.dev.hw.subRegs who.num).getD 1 0 = 3 ∧ t.dev.hw.rcd.queue = s.dev.hw.rcd.queue ∧ OnlyRegs [] s t) ∧
  (∀ (h : Hw) typ prot data, h.recAonMode = false → h.nat REC_SEQ ≠ 0xFFFFFFFF → 32 ≤ h.rcd.queue.length →
    (h.recWard typ prot data).rcd.queue = h.rcd.queue ∧
    (h.recWard typ prot data).rd REC_LOST_HWLOST = min 65535 (h.rd REC_LOST_HWLOST + 1) ∧
    (h.recWard typ prot data).reg REC_SEQ = h.reg REC_SEQ) ∧
  (∀ (h : Hw) typ prot data, h.recAonMode = false → h.nat REC_SEQ ≠ 0xFFFFFFFF → h.rcd.queue.length < 32 →
    (h.recWard typ prot data).rcd.queue.length = h.rcd.queue.length + 1)

/-- The recorder at work (R440, R447, R448, R450, R452, R455): a verified slot holds the record, its ring head advances, the
header copy with the older generation follows; a bad slot goes to a spare; a header refresh writes a header; a clock
setting queues two CLOCK_SET records; a read index is translated. -/
def Obligations.RecorderWork : Prop :=
  (∀ spares s r, s.dev.hw.rcd.loaded = true → s.dev.hw.rcd.queue.head? = some r → s.dev.hw.recAonMode = false → r.prot = false →
    s.dev.hw.rcd.remap = [] → (s.reg REC_HEAD_G).toNat < 239999 →
    Ends (.recordWriteDone true true spares) s fun t =>
      memReadBytes t.dev.mem (0x60000000 + 64 * (16896 + (s.reg REC_HEAD_G).toNat)) 64 = recordBytes s.dev.hw r ∧
      t.reg REC_HEAD_G = s.reg REC_HEAD_G + 1 ∧ t.dev.hw.rcd.queue = s.dev.hw.rcd.queue.tail ∧
      t.rd REC_STAT_LEVEL = s.dev.hw.rcd.queue.tail.length % 64 ∧ t.dev.hw.bitAt (BLK_IRQ PG_REC) 0 = true ∧
      (headerOk t.dev.mem 0x60000000 = true ∨ headerOk t.dev.mem 0x60000040 = true) ∧
      (∀ r, r ∉ REC_HEAD_G :: faultRegs → t.reg r = s.reg r)) ∧
  (∀ s, s.dev.hw.rcd.loaded = true → s.dev.hw.recAonMode = false → 0 ≤ diff32 s.dev.hw.rcd.genA s.dev.hw.rcd.genB → Ends .headerRefresh s fun t =>
      headerOk t.dev.mem 0x60000040 = true ∧ t.dev.hw.rcd.genB = (s.dev.hw.rcd.genA + 1) % 2 ^ 32 ∧
      memNat t.dev.mem 0x60000044 4 = t.dev.hw.rcd.genB % 2 ^ 32 ∧
      memNat t.dev.mem 0x6000004C 4 = (s.reg REC_SEQ).toNat ∧
      (∀ b, (b < 0x60000040 ∨ 0x60000080 ≤ b) → memRead t.dev.mem b = memRead s.dev.mem b) ∧
      (∀ r, t.reg r = s.reg r)) ∧
  (∀ s, s.dev.hw.recAonMode = true → Ends .headerRefresh s (OnlyRegs [] s)) ∧
  (∀ (a : Fin 8) hi s lo, holderOf s.dev.hw.hdr.wrHold a.val REC_WALL_LO = some lo →
    MayOperate (.agent a) PG_REC REC_WALL_HI s → s.dev.hw.recAonMode = false →
    s.dev.hw.rcd.queue.length < 31 → s.reg REC_SEQ < 0xFFFFFFF0#32 → Ends (.wallClockSet (.agent a) hi) s fun t =>
      t.reg REC_WALL_LO = lo ∧ t.reg REC_WALL_HI = hi ∧ t.on REC_STAT_WALLVALID = true ∧
      t.dev.hw.rcd.wallBase = lo.toNat + 2 ^ 32 * hi.toNat ∧ t.dev.hw.rcd.optBase = s.dev.hw.opTime ∧
      t.reg REC_SEQ = s.reg REC_SEQ + 2 ∧ t.dev.hw.bitAt (BLK_IRQ PG_REC) 4 = true ∧
      t.dev.hw.rcd.queue.take s.dev.hw.rcd.queue.length = s.dev.hw.rcd.queue ∧
      (t.dev.hw.rcd.queue.drop s.dev.hw.rcd.queue.length).map (fun r => (r.typ, r.cont, r.wvalid, r.data)) =
        [(0x40, false, s.on REC_STAT_WALLVALID, [s.dev.hw.opTime % 2 ^ 32, s.dev.hw.opTime / 2 ^ 32]),
         (0x40, true, true, [s.dev.hw.opTime % 2 ^ 32, s.dev.hw.opTime / 2 ^ 32])] ∧
      (t.dev.hw.rcd.queue.getLast?).map (·.wall) = some (lo.toNat + 2 ^ 32 * hi.toNat) ∧
      OnlyRegs [REC_WALL_LO, REC_WALL_HI, REC_STAT, REC_SEQ, BLK_IRQ PG_REC, BLK_STAT PG_REC] s t) ∧
  (∀ who w s, MayOperate who PG_REC REC_RD_IDX s → getBits w 0 18 < 16384 → s.dev.hw.rcd.remap = [] →
    Ends (.recordReadTranslate who w) s fun t =>
      (t.reg REC_RD_ADDR).toNat = 0x60000000 + 64 * (getBits w 0 18 + if w.getLsbD 18 then 512 else 16896) ∧
      (t.reg REC_RD_IDX).toNat = getBits w 0 19 ∧ OnlyRegs [REC_RD_IDX, REC_RD_ADDR] s t) ∧
  (∀ who w s x, s.dev.hw.rcd.remap.head? = some x → MayOperate who PG_REC REC_RD_IDX s →
    x.1 = 16896 + getBits w 0 18 → getBits w 18 1 = 0 → x.2 < 262144 → Ends (.recordReadTranslate who w) s fun t =>
      (t.reg REC_RD_ADDR).toNat = 0x60000000 + 64 * x.2)

/-- Requests of the stop queue wait for the next T0 (R490); in the MACHINE role a set is ROLE (R495); a standby drops both
(R360). -/
def Obligations.CallRequests : Prop :=
  (∀ who (m : Fin 3) (k : Fin 8) w s, MayOperate who PG_STQ (stqWord m.val k.val + 0x20) s → s.dev.hw.standby = false →
    s.dev.hw.isMachine = false → m.val < s.dev.hw.stq.set.length → Ends (.stqSetRequest who m k w) s fun t =>
      t.dev.hw.stq.set.getD m.val 0 = s.dev.hw.stq.set.getD m.val 0 ||| w.toNat * 2 ^ (32 * k.val) ∧
      t.dev.hw.stq.clr = s.dev.hw.stq.clr ∧ OnlyRegs [] s t) ∧
  (∀ who (m : Fin 3) (k : Fin 8) w s, MayOperate who PG_STQ (stqWord m.val k.val + 0x20) s →
    s.dev.hw.isMachine = true → w ≠ 0 → Ends (.stqSetRequest who m k w) s fun t =>
      t.dev.hw.bitAt (BLK_FAULT PG_STQ) 9 = true ∧ t.dev.hw.stq = s.dev.hw.stq ∧
      OnlyRegs [BLK_FAULT PG_STQ, BLK_IRQ PG_STQ] s t) ∧
  (∀ who (m : Fin 3) (k : Fin 8) w s, MayOperate who PG_STQ (stqWord m.val k.val + 0x40) s → s.dev.hw.standby = false →
    m.val < s.dev.hw.stq.clr.length → Ends (.stqClearRequest who m k w) s fun t =>
      t.dev.hw.stq.clr.getD m.val 0 = s.dev.hw.stq.clr.getD m.val 0 ||| w.toNat * 2 ^ (32 * k.val) ∧
      t.dev.hw.stq.set = s.dev.hw.stq.set ∧ OnlyRegs [] s t) ∧
  (∀ who (m : Fin 3) (k : Fin 8) w s, s.dev.hw.standby = true → s.on (BLK_LOCK_SISONLY PG_STQ) = false →
    Reaches who (stqWord m.val k.val + 0x20) s → Reaches who (stqWord m.val k.val + 0x40) s →
    (s.dev.hw.isMachine = false → Ends (.stqSetRequest who m k w) s (OnlyRegs [] s)) ∧
      Ends (.stqClearRequest who m k w) s (OnlyRegs [] s))

/-! ## Security and life cycle (R463 to R475) -/

/-- Orders (R465, R467, R470 to R473): the verdict's code is 7 for a body of the wrong length, 2 for a key that may not sign it,
1 for a bad signature, 3, 4, 5 for another device, nonce or an expired time, 6 for the mode (the order of these checks is
log entry 12); an order that passes has its effect: the floor rises, a slot is revoked, a key is stored, the pair key is
derived, PROVISION and a complete life-cycle transition end in a cold reset. -/
def Obligations.Orders : Prop :=
  (∀ ok s o, s.dev.order = some o → OrderRuns 5 o s → Ends (.orderSvn ok) s fun t =>
      let code := if s.dev.hw.orderCode o ≠ 0 then s.dev.hw.orderCode o else if 64 < ofLE o.body then 7 else if ok then 0 else 8
      Verdict 5 code s t ∧ SameMem s t ∧
      t.dev.hw.otp.floor = (if code = 0 then max s.dev.hw.otp.floor (ofLE o.body) else s.dev.hw.otp.floor)) ∧
  (∀ ok s o, s.dev.order = some o → OrderRuns 6 o s → Ends (.orderRevoke ok) s fun t =>
      let code := if s.dev.hw.orderCode o ≠ 0 then s.dev.hw.orderCode o else if ok then 0 else 8
      Verdict 6 code s t ∧ SameMem s t ∧ t.dev.hw.otp.oemRev =
        (if code = 0 then setBitN s.dev.hw.otp.oemRev o.arg true else s.dev.hw.otp.oemRev)) ∧
  (∀ s o, s.dev.order = some o → OrderRuns 3 o s → o.arg < s.dev.hw.otp.keys.length → Ends .orderKeyload s fun t =>
      let kek := Config.hkdf (Config.dakEcdh s.dev.hw.otp.duk ((o.body.drop 1).take 96)) [] [] 32
      let key := Config.gcmOpen kek ((o.body.drop 97).take 12) [] ((o.body.drop 109).take 32) ((o.body.drop 141).take 16)
      let code := if s.dev.hw.orderCode o ≠ 0 then s.dev.hw.orderCode o else if key.isSome then 0 else 2
      Verdict 3 code s t [SEC_KS] ∧ SameMem s t ∧ (code = 0 → t.dev.hw.stored o.arg = key) ∧
      (code ≠ 0 → t.dev.hw.otp = s.dev.hw.otp)) ∧
  (∀ s o, s.dev.order = some o → OrderRuns 4 o s → s.dev.hw.otp.keys.length = 4 → Ends .orderPair s fun t =>
      Verdict 4 (s.dev.hw.orderCode o) s t [SEC_KS] ∧ SameMem s t ∧ (s.dev.hw.orderCode o = 0 → t.dev.hw.stored 3 =
        some (Config.hkdf (Config.dakEcdh s.dev.hw.otp.duk (o.body.drop 16))
          (if s.on CPR_STRAP_UNIT_AB then o.body.take 16 ++ s.dev.hw.otp.devuid else s.dev.hw.otp.devuid ++ o.body.take 16)
          (ascii "PAIR") 32))) ∧
  (∀ s o, s.dev.order = some o → OrderRuns 1 o s → Ends .orderProvision s fun t =>
      if s.dev.hw.orderCode o = 0 then t.rd SIS_MODE_CUR = 1 ∧ t.on CPR_RST_CAUSE_LIFECYC = true ∧ t.dev.hw.cpr.provFlag = true
      else Verdict 1 (s.dev.hw.orderCode o) s t ∧ SameMem s t) ∧
  (∀ how s o, s.dev.order = some o → OrderRuns 2 o s → Ends (.orderLc how) s fun t =>
      if s.dev.hw.orderCode o ≠ 0 then Verdict 2 (s.dev.hw.orderCode o) s t ∧ SameMem s t ∧ t.dev.hw.otp = s.dev.hw.otp
      else
        (how = .intentFails → Verdict 2 8 s t ∧ SameMem s t ∧ t.dev.hw.otp = s.dev.hw.otp ∧
          t.dev.hw.bitAt (BLK_FAULT PG_SEC) 12 = true) ∧
        (how = .cutShort → Verdict 2 0 s t ∧ SameMem s t ∧
          t.dev.hw.otp.intent = setBitN s.dev.hw.otp.intent (o.arg - 1) true ∧ t.dev.hw.otp.done = s.dev.hw.otp.done) ∧
        (how = .doneFails → Verdict 2 8 s t ∧ t.dev.hw.otp.intent = setBitN s.dev.hw.otp.intent (o.arg - 1) true ∧
          t.dev.hw.otp.done = s.dev.hw.otp.done ∧ t.dev.hw.bitAt (BLK_FAULT PG_SEC) 12 = true ∧
          (∀ b, (b < 0x60000000 ∨ 0x61000000 ≤ b) → memRead t.dev.mem b = memRead s.dev.mem b)) ∧
        (how = .complete → t.rd SIS_MODE_CUR = 1 ∧ t.on CPR_RST_CAUSE_LIFECYC = true ∧ t.dev.hw.cpr.provFlag = false ∧
          t.dev.hw.otp.intent = setBitN s.dev.hw.otp.intent (o.arg - 1) true ∧
          t.dev.hw.otp.done = setBitN s.dev.hw.otp.done (o.arg - 1) true ∧
          (o.arg = 3 ∨ o.arg = 4 → t.dev.hw.keysValid = 0) ∧
          (o.arg = 3 → s.dev.hw.rcd.queue = [] → memNat t.dev.mem 0x60000100 4 = 0x4C414553))) ∧
  (∀ s, Alive s → s.on SEC_ORD_CTL_BUSY = true → s.on SEC_ORD_CTL_KIND = true → Ends .tokenSubmit s fun t =>
      (t.reg SEC_ORD_RES).toNat = 0x80000000 + s.dev.tokenCode ∧ t.on SEC_ORD_CTL_BUSY = false ∧
      (s.dev.tokenCode = 0 → t.on SIS_DB_STAT_TOKOK = true) ∧
      (s.dev.tokenCode ≠ 0 → t.reg SIS_DB_STAT = s.reg SIS_DB_STAT) ∧
      OnlyRegs (SIS_DB_STAT :: BLK_IRQ PG_SIS :: orderRegs) s t)

/-- Map pages and keys (R466, R468): SEAL writes a trailer with PAGE, VALID, the page's PGEN and MGEN, and the ciphertext;
OPEN refuses a slot in use, a trailer that is not valid or of another page, and a bad tag, and on a pass sets POOL_AUTH; the
result shows once the command is done, and the next one that waits is in work. A request draws a challenge, an answer carries BOOTNONCE, an accept with a bad MAC
installs nothing; without IK each ends with result 2. -/
def Obligations.MapAndExchange : Prop :=
  (∀ mk j s, Alive s → s.dev.hw.mapJob 1 = some j → s.dev.hw.stored 1 = some mk → j.page < 65536 →
    s.dev.hw.busRam j.trl 64 = true → Ends .mapSeal s fun t =>
      t.dev.hw.sec.mapRes = some 0 ∧ memNat t.dev.mem j.trl 2 = j.page ∧ memNat t.dev.mem (j.trl + 2) 2 = 1 ∧
      memNat t.dev.mem (j.trl + 4) 4 = s.dev.hw.pgen j.page % 2 ^ 32 ∧ memNat t.dev.mem (j.trl + 8) 2 = s.rd MAP_GEN_GEN ∧
      (∀ b, (b < j.trl ∨ j.trl + 64 ≤ b) → (b < j.dst ∨ j.dst + 65536 ≤ b) →
        memRead t.dev.mem b = memRead s.dev.mem b) ∧ ∀ r, t.reg r = s.reg r) ∧
  (∀ j s, Alive s → s.dev.hw.mapJob 1 = some j → s.dev.hw.stored 1 = none → Ends .mapSeal s fun t =>
      t.dev.hw.sec.mapRes = some 1 ∧ OnlyRegs [] s t) ∧
  (∀ j s, Alive s → s.dev.hw.mapJob 2 = some j → s.dev.hw.busRam j.trl 64 = true → Ends .mapOpen s fun t =>
      (s.dev.hw.slotUsed j.slot = true → t.dev.hw.sec.mapRes = some 4) ∧
      (s.dev.hw.slotUsed j.slot = false → memNat s.dev.mem (j.trl + 2) 2 % 2 = 0 → t.dev.hw.sec.mapRes = some 3) ∧
      (s.dev.hw.slotUsed j.slot = false → memNat s.dev.mem (j.trl + 2) 2 % 2 = 1 → memNat s.dev.mem j.trl 2 ≠ j.page →
        t.dev.hw.sec.mapRes = some 2) ∧
      (t.dev.hw.sec.mapRes ≠ some 0 → OnlyRegs [] s t) ∧
      (t.dev.hw.sec.mapRes = some 0 → t.dev.hw.bitAt (SEC_POOL_AUTH (j.slot / 32)) (j.slot % 32) = true ∧
        (∀ b, (b < poolBase j.slot ∨ poolBase j.slot + 65536 ≤ b) → memRead t.dev.mem b = memRead s.dev.mem b) ∧
        ∀ r, r ≠ SEC_POOL_AUTH (j.slot / 32) → t.reg r = s.reg r)) ∧
  (∀ c s, Alive s → s.on SEC_MAP_CMD_BUSY = true → s.dev.hw.sec.mapRes = some c → c < 8 → Ends .mapCommandDone s fun t =>
      (t.reg SEC_MAP_RES).toNat = 0x80000000 + c ∧ t.on SEC_MAP_CMD_BUSY = decide (s.dev.hw.sec.mapJobs.tail ≠ []) ∧
      t.dev.hw.sec.mapJobs = s.dev.hw.sec.mapJobs.tail ∧ t.dev.hw.sec.mapRes = none ∧
      t.dev.hw.bitAt (BLK_IRQ PG_SEC) 1 = true ∧ OnlyRegs [SEC_MAP_CMD, SEC_MAP_RES, BLK_IRQ PG_SEC] s t) ∧
  (∀ op s, Alive s → s.on SEC_SKX_CTL_BUSY = true → s.rd SEC_SKX_CTL_OP = op → s.dev.hw.stored 2 = none →
    let done := fun (t : State) => t.on SEC_SKX_CTL_BUSY = false ∧ t.rd SEC_SKX_CTL_RES = 2 ∧
      t.dev.hw.bitAt (BLK_IRQ PG_SEC) 4 = true ∧ OnlyRegs [SEC_SKX_CTL, BLK_IRQ PG_SEC] s t
    (op = 1 → Ends .keyExchangeRequest s done) ∧ (op = 2 → Ends .keyExchangeAnswer s done) ∧
    (op = 3 → Ends .keyExchangeAccept s done)) ∧
  (∀ ik s, Alive s → s.on SEC_SKX_CTL_BUSY = true → s.rd SEC_SKX_CTL_OP = 1 → s.dev.hw.stored 2 = some ik →
    inSram s.dev.hw.sec.skxAddr 32 = true → Ends .keyExchangeRequest s fun t =>
      t.rd SEC_SKX_CTL_RES = 0 ∧ t.dev.hw.sec.skx.length = 32 ∧
      memReadBytes t.dev.mem s.dev.hw.sec.skxAddr 32 = t.dev.hw.sec.skx ∧
      ∀ r, r ∉ [SEC_SKX_CTL, BLK_IRQ PG_SEC] → t.reg r = s.reg r) ∧
  (∀ ik a s, Alive s → s.on SEC_SKX_CTL_BUSY = true → s.rd SEC_SKX_CTL_OP = 2 → s.dev.hw.stored 2 = some ik →
    a = s.dev.hw.sec.skxAddr → inSram a 372 = true → s.dev.hw.sec.bootNonce.length = 32 → Ends .keyExchangeAnswer s fun t =>
      t.rd SEC_SKX_CTL_RES = 0 ∧ memReadBytes t.dev.mem a 32 = memReadBytes s.dev.mem a 32 ∧
      memReadBytes t.dev.mem (a + 32) 32 = s.dev.hw.sec.bootNonce ∧
      memNat t.dev.mem (a + 64) 4 = s.dev.hw.ownVids.length / 4 ∧
      ∀ r, r ∉ [SEC_SKX_CTL, BLK_IRQ PG_SEC] → t.reg r = s.reg r) ∧
  (∀ ik s, Alive s → s.on SEC_SKX_CTL_BUSY = true → s.rd SEC_SKX_CTL_OP = 3 → s.dev.hw.stored 2 = some ik →
    Ends .keyExchangeAccept s fun t =>
      (t.rd SEC_SKX_CTL_RES = 0 ∨ t.rd SEC_SKX_CTL_RES = 1) ∧
      (t.rd SEC_SKX_CTL_RES = 1 → t.dev.hw.sse = s.dev.hw.sse) ∧
      (∀ r, r ∉ [SEC_SKX_CTL, BLK_IRQ PG_SEC] ++ (List.range 64).map SSE_Ck_STAT → t.reg r = s.reg r) ∧ SameMem s t)

/-- The keyway (R474, R475): a challenge of 64 bytes with the identity, life cycle, options, nonce and time, no sooner than 1 s
after a failure; a response of another length or key sets KWFAIL; the session ends at NOTAFTER or by agent 0's CLOSE; a write
outside its scope sets DENIED alone. -/
def Obligations.Keyway : Prop :=
  (∀ s, Alive s → (∀ x, s.dev.hw.sec.failAt = some x → x + 16 ≤ s.dev.hw.opTime) → s.dev.hw.otp.devuid.length = 16 →
    Ends .keywayChallenge s fun t =>
      let c := t.dev.hw.sec.challenge.getD []
      c.length = 64 ∧ c.take 16 = s.dev.hw.otp.devuid ∧
        (c.drop 16).take 8 = leBytes 4 s.dev.hw.secLcs ++ leBytes 4 s.dev.hw.secOpt ∧
        c.drop 56 = leBytes 6 s.dev.hw.opTime ++ leBytes 2 0 ∧ t.dev.hw.reply.data = packWords c ∧
        OnlyRegs [TST_BSCAN] s t) ∧
  (∀ x s, s.dev.hw.sec.failAt = some x → s.dev.hw.opTime < x + 16 → Ends .keywayChallenge s fun t =>
      t.dev.hw.sec = s.dev.hw.sec ∧ OnlyRegs [] s t) ∧
  (∀ b c s, Alive s → s.dev.hw.sec.challenge = some c → Ends (.keywayResponse b) s fun t =>
      let pub := (b.drop 12).take 96
      t.dev.hw.sec.challenge = none ∧
      (if b.length = 204 ∧ s.dev.hw.otp.kwKey = some (Config.sha384 pub) ∧
          Config.ecdsaOk pub (Config.sha384 (c ++ b.take 12)) (b.drop 108) = true then
        t.on SEC_KW_STAT_OPEN = true ∧ t.dev.hw.sec.notAfter = ofLE ((b.drop 4).take 8) ∧
        t.rd SEC_KW_STAT_PERM = (if s.dev.hw.otp.lc = 3 then ofLE (b.take 4) % 32 &&& 0x11 else ofLE (b.take 4) % 32) ∧
        t.dev.hw.bitAt (BLK_IRQ PG_SEC) 2 = true ∧ OnlyRegs [SEC_KW_STAT, BLK_IRQ PG_SEC] s t
      else t.dev.hw.bitAt (BLK_FAULT PG_SEC) 11 = true ∧ t.dev.hw.sec.failAt = some s.dev.hw.opTime ∧
        OnlyRegs [BLK_FAULT PG_SEC, BLK_IRQ PG_SEC] s t)) ∧
  (∀ s, Alive s → s.on SEC_KW_STAT_OPEN = true → Ends .keywaySessionExpiry s fun t =>
      t.on SEC_KW_STAT_OPEN = decide (s.dev.hw.opTime < s.dev.hw.sec.notAfter) ∧
      OnlyRegs [SEC_KW_STAT, BLK_IRQ PG_SEC, TST_BSCAN] s t) ∧
  (∀ w s, Reaches (.agent 0) SEC_KW_STAT s → s.on SEC_KW_STAT_OPEN = true → w.getLsbD 8 = true →
    Ends (.keywayClose (.agent 0) w) s fun t =>
      t.on SEC_KW_STAT_OPEN = false ∧ t.rd SEC_KW_STAT_PERM = 0 ∧ t.dev.hw.bitAt (BLK_IRQ PG_SEC) 3 = true ∧
      OnlyRegs [SEC_KW_STAT, BLK_IRQ PG_SEC, TST_BSCAN] s t) ∧
  (∀ who w s, Reaches who SEC_KW_STAT s → who ≠ .agent 0 → Ends (.keywayClose who w) s fun t =>
      t.dev.hw.bitAt (BLK_FAULT PG_SEC) 8 = true ∧ OnlyRegs [BLK_FAULT PG_SEC, BLK_IRQ PG_SEC] s t) ∧
  (∀ a w s, s.dev.hw.fabricOn = true → s.on SEC_KW_STAT_OPEN = true → s.dev.hw.kwScope a.toNat = false → a.toNat % 4 = 0 →
    Ends (.keywayWrite a w) s fun t =>
      t.on SEC_KW_STAT_DENIED = true ∧ t.dev.hw.reply.err = false ∧ OnlyRegsAndFaults [SEC_KW_STAT] s t) ∧
  (∀ a w s, s.dev.hw.fabricOn = true → s.on CPR_WIPE_STAT_BUSY = false → s.on SEC_KW_STAT_OPEN = true →
    s.dev.hw.kwScope a.toNat = true →
    0x20000000 ≤ a.toNat → a.toNat + 4 ≤ 0x20400000 → a.toNat % 4 = 0 → Ends (.keywayWrite a w) s fun t =>
      memNat t.dev.mem a.toNat 4 = w.toNat ∧ (∀ b, (b < a.toNat ∨ a.toNat + 4 ≤ b) →
        memRead t.dev.mem b = memRead s.dev.mem b) ∧ ∀ r, r ∉ faultRegs → t.reg r = s.reg r)

/-! ## Flash, host interface, boundary scan (R478 to R488, R508, R509) -/

/-- Flash commands (R480 to R483): READ copies flash to the buffer, PROGRAM the buffer to flash, an erase leaves its block
erased, each touching nothing else; a block under write protection outside PROVISION is code 1 with PROT, a misaligned or
wrong length 2, a range above the flash 6; the end of the command shows the code and the status; a window read that waits
too long is a bus error; BANK selects the window's half. That a failed program leaves open bytes is log entry 4, that a program
stores the bytes it is given log entry 13. -/
def Obligations.FlashCommands : Prop :=
  (∀ s, FlashRuns 1 s → TransferFits s → Ends .xspRead s fun t =>
      Worked 0 t ∧ memReadBytes t.dev.mem s.fbuf s.flen = memReadBytes s.dev.mem (flashBase + s.faddr) s.flen ∧
      (∀ b, (b < s.fbuf ∨ s.fbuf + s.flen ≤ b) → memRead t.dev.mem b = memRead s.dev.mem b) ∧ ∀ r, t.reg r = s.reg r) ∧
  (∀ s, FlashRuns 2 s → TransferFits s → s.dev.hw.flashGuard s.faddr s.flen = false → Ends .xspProgram s fun t =>
      Worked 0 t ∧ memReadBytes t.dev.mem (flashBase + s.faddr) s.flen = memReadBytes s.dev.mem s.fbuf s.flen ∧
      (∀ b, (b < flashBase + s.faddr ∨ flashBase + s.faddr + s.flen ≤ b) → memRead t.dev.mem b = memRead s.dev.mem b) ∧
      t.on XSP_STAT_FLBUSY = true ∧ ∀ r, r ≠ XSP_STAT → t.reg r = s.reg r) ∧
  (∀ s, FlashRuns 3 s → s.faddr % 4096 = 0 → s.faddr + 4096 ≤ s.fsize → s.dev.hw.flashGuard s.faddr 4096 = false →
    Ends .xspErase4k s fun t =>
      Worked 0 t ∧ (∀ i, i < 4096 → memRead t.dev.mem (flashBase + s.faddr + i) = memDefault (flashBase + s.faddr + i)) ∧
      (∀ b, (b < flashBase + s.faddr ∨ flashBase + s.faddr + 4096 ≤ b) → memRead t.dev.mem b = memRead s.dev.mem b) ∧
      t.on XSP_STAT_FLBUSY = true ∧ ∀ r, r ≠ XSP_STAT → t.reg r = s.reg r) ∧
  (∀ s, FlashRuns 4 s → s.faddr % 65536 = 0 → s.faddr + 65536 ≤ s.fsize → s.dev.hw.flashGuard s.faddr 65536 = false →
    Ends .xspErase64k s fun t =>
      Worked 0 t ∧ (∀ i, i < 65536 → memRead t.dev.mem (flashBase + s.faddr + i) = memDefault (flashBase + s.faddr + i)) ∧
      (∀ b, (b < flashBase + s.faddr ∨ flashBase + s.faddr + 65536 ≤ b) → memRead t.dev.mem b = memRead s.dev.mem b) ∧
      t.on XSP_STAT_FLBUSY = true ∧ ∀ r, r ≠ XSP_STAT → t.reg r = s.reg r) ∧
  (∀ s, FlashRuns 4 s → s.faddr % 65536 = 0 → s.faddr + 65536 ≤ s.fsize → s.rd SIS_MODE_CUR ≠ 0xD →
    getBits (s.reg XSP_WP0) 0 16 * 65536 ≤ s.faddr → s.faddr < (getBits (s.reg XSP_WP0) 16 16 + 1) * 65536 →
    Ends .xspErase64k s fun t =>
      Worked 1 t ∧ t.dev.hw.bitAt (BLK_FAULT PG_XSP) 10 = true ∧ OnlyRegs [BLK_FAULT PG_XSP, BLK_IRQ PG_XSP] s t) ∧
  (∀ s, FlashRuns 2 s → (s.faddr % 4 ≠ 0 ∨ s.fbuf % 4 ≠ 0 ∨ s.flen % 4 ≠ 0 ∨ s.flen = 0 ∨ 65536 < s.flen) →
    Ends .xspProgram s fun t => Worked 2 t ∧ OnlyRegs [] s t) ∧
  (∀ s, FlashRuns 3 s → s.faddr % 4096 = 0 → s.fsize < s.faddr + 4096 → Ends .xspErase4k s fun t =>
      Worked 6 t ∧ OnlyRegs [] s t) ∧
  (∀ sr s, FlashRuns 5 s → Ends (.xspRdsr sr) s fun t =>
      Worked 0 t ∧ t.dev.hw.xsp.sr = sr.toNat ∧ OnlyRegs [] s t) ∧
  (∀ how c s, Alive s → s.on XSP_CMD_BUSY = true → s.dev.hw.xsp.work = some c → s.dev.hw.xsp.win = [] → c < 8 →
    s.dev.hw.xsp.sr < 256 → Ends (.xspCommandDone how) s fun t =>
      let code := if c ≠ 0 then c else match how with
        | .ready => 0
        | .timeout => 3
        | .error => if 2 ≤ s.dev.hw.xsp.job.op ∧ s.dev.hw.xsp.job.op ≤ 4 then 4 else 0
      (t.reg XSP_CMD_RES).toNat = 0x80000000 + 256 * s.dev.hw.xsp.sr + code ∧ t.on XSP_CMD_BUSY = false ∧
      t.on XSP_STAT_FLBUSY = false ∧ t.dev.hw.bitAt (BLK_IRQ PG_XSP) 0 = true ∧
      (code ≠ 0 → t.dev.hw.bitAt (BLK_IRQ PG_XSP) 1 = true) ∧ (code = 0 ∨ c ≠ 0 → SameMem s t) ∧
      ∀ r, r ∉ [XSP_CMD, XSP_CMD_RES, XSP_STAT, BLK_IRQ PG_XSP] → t.reg r = s.reg r) ∧
  (∀ w l s, Alive s → s.dev.hw.xsp.win = w :: l → Ends .xspWindowTimeout s fun t =>
      t.dev.hw.reply.err = true ∧ t.dev.hw.xsp.win = l ∧ t.on XSP_STAT_WIN = decide (l ≠ []) ∧
      t.dev.hw.bitAt (BLK_FAULT PG_XSP) 9 = true ∧ OnlyRegs [XSP_STAT, BLK_FAULT PG_XSP, BLK_IRQ PG_XSP] s t) ∧
  (∀ who w s, MayOperate who PG_XSP XSP_BANK s → Ends (.xspBankSwitch who w) s fun t =>
      t.rd XSP_BANK_BANK = getBits w 0 1 ∧ OnlyRegs [XSP_BANK] s t)

/-- The host (R485 to R488): a READ answers the status byte and the words, WAIT where word 0 is late, which is kept for the
next READ of that address, BUSERR where the access fails; held or bolted it says so; a WRITE stores its words in order; STATUS
shows and clears the flags; an unknown instruction is PROTO; with EN = 0 nothing is answered. -/
def Obligations.HostInterface : Prop :=
  (∀ (a : Nat) soon s, HostServed s → s.on CPR_WIPE_STAT_BUSY = false → 0x20000000 ≤ a → a + 4 ≤ 0x20400000 → a % 4 = 0 → s.dev.hw.hsp.kept = [] →
    Ends (.hspRead (BitVec.ofNat 32 a) 1 true soon false) s fun t =>
      t.dev.hw.reply.data = [0, BitVec.ofNat 32 (memNat s.dev.mem a 4)] ∧ t.dev.hw.hsp.wake = false ∧
      t.rd HSP_STAT_OK = min 65535 (s.rd HSP_STAT_OK + 1) ∧ OnlyRegsAndFaults [HSP_STAT] s t) ∧
  (∀ (a : Nat) soon s, HostServed s → s.on CPR_WIPE_STAT_BUSY = false → 0x20000000 ≤ a → a + 4 ≤ 0x20400000 → a % 4 = 0 → s.dev.hw.hsp.kept = [] →
    Ends (.hspRead (BitVec.ofNat 32 a) 1 false soon false) s fun t =>
      t.dev.hw.reply.data = [1, 0xFFFFFFFF] ∧ t.dev.hw.hsp.kept = [(a, BitVec.ofNat 32 (memNat s.dev.mem a 4))] ∧
      t.rd HSP_STAT_ERR = min 65535 (s.rd HSP_STAT_ERR + 1) ∧ OnlyRegsAndFaults [HSP_STAT] s t) ∧
  (∀ (a : Nat) w late s, HostServed s → 0x20000000 ≤ a → a + 4 ≤ 0x20400000 → a % 4 = 0 → s.dev.hw.hsp.kept = [(a, w)] →
    Ends (.hspRead (BitVec.ofNat 32 a) 1 late true false) s fun t =>
      t.dev.hw.reply.data = [0, w] ∧ OnlyRegsAndFaults [HSP_STAT] s t) ∧
  (∀ (a : Word) late soon s, HostServed s → a.toNat % 4 ≠ 0 → s.dev.hw.hsp.kept = [] →
    Ends (.hspRead a 1 late soon false) s fun t =>
      t.dev.hw.reply.data = [2, 0xFFFFFFFF] ∧ OnlyRegsAndFaults [HSP_STAT] s t) ∧
  (∀ a n late soon cut s, HostAnswered s → (bit (s.rd CPR_AGT_RST_AGT) 6 = true ∨ s.dev.hw.bolted PG_HSP = true) →
    Ends (.hspRead a n late soon cut) s fun t =>
      t.dev.hw.reply.data = [if bit (s.rd CPR_AGT_RST_AGT) 6 then 4 else 8] ∧
      t.rd HSP_STAT_ERR = min 65535 (s.rd HSP_STAT_ERR + 1) ∧ OnlyRegsAndFaults [HSP_STAT] s t) ∧
  (∀ (a : Nat) x y s, HostServed s → s.on CPR_WIPE_STAT_BUSY = false → 0x20000000 ≤ a → a + 8 ≤ 0x20400000 → a % 4 = 0 →
    Ends (.hspWrite (BitVec.ofNat 32 a) [x, y] false) s fun t =>
      memNat t.dev.mem a 4 = x.toNat ∧ memNat t.dev.mem (a + 4) 4 = y.toNat ∧ t.dev.hw.hsp.wdone = 2 ∧
      (∀ b, (b < a ∨ a + 8 ≤ b) → memRead t.dev.mem b = memRead s.dev.mem b) ∧
      t.rd HSP_STAT_OK = min 65535 (s.rd HSP_STAT_OK + 1) ∧ ∀ r, r ∉ HSP_STAT :: faultRegs → t.reg r = s.reg r) ∧
  (∀ (a : Word) x s, HostServed s → a.toNat % 4 ≠ 0 → Ends (.hspWrite a [x] false) s fun t =>
      t.dev.hw.hsp.werr = true ∧ t.dev.hw.hsp.wdone = 0 ∧ t.dev.hw.bitAt (BLK_IRQ PG_HSP) 1 = true ∧
      OnlyRegsAndFaults [BLK_IRQ PG_HSP] s t) ∧
  (∀ s, HostAnswered s → s.dev.hw.hsp.wdone ≤ 64 → Ends .hspStatus s fun t =>
      let w := t.dev.hw.reply.data.headD 0
      t.dev.hw.reply.data.length = 1 ∧ getBits w 0 4 = s.rd SIS_MODE_CUR ∧ getBits w 16 8 = s.dev.hw.hsp.wdone ∧
      w.getLsbD 30 = bit (s.rd CPR_AGT_RST_AGT) 6 ∧ w.getLsbD 29 = s.dev.hw.hsp.wake ∧
      w.getLsbD 28 = s.dev.hw.hsp.rerr ∧ w.getLsbD 27 = s.dev.hw.hsp.werr ∧ w.getLsbD 26 = s.dev.hw.bolted PG_HSP ∧
      t.dev.hw.hsp.rerr = false ∧ t.dev.hw.hsp.werr = false ∧ t.dev.hw.hsp.wake = false ∧ OnlyRegs [HSP_STAT] s t) ∧
  (∀ c s, HostAnswered s → Ends (.hspUnknownInstruction c) s fun t =>
      t.dev.hw.bitAt (BLK_FAULT PG_HSP) 9 = true ∧ t.rd HSP_STAT_ERR = min 65535 (s.rd HSP_STAT_ERR + 1) ∧
      OnlyRegs [HSP_STAT, BLK_FAULT PG_HSP, BLK_IRQ PG_HSP] s t) ∧
  (∀ c s, s.dev.hw.fabricOn = true → s.on (BLK_CTL_EN PG_HSP) = false → s.dev.hw.cpr.parking = false →
    Ends .hspStatus s (OnlyRegs [] s) ∧ Ends (.hspUnknownInstruction c) s (OnlyRegs [] s))

/-- Boundary scan (R508, R509): each instruction shows in IR with TAPACT; IDCODE answers the variant's code, every unlisted code one
cell that captures 0; EXTEST, CLAMP and HIGHZ hold the balls in PROVISION of a TEST unit or under a session with WRITE, and
are refused otherwise; Test-Logic-Reset selects IDCODE and lets go. -/
def Obligations.BoundaryScan : Prop :=
  (∀ ir s, Ends (.tapBypass ir) s fun t => t.dev.hw.reply.data = [0] ∧ t.rd TST_BSCAN_IR = ir.toNat ∧
      t.on TST_BSCAN_TAPACT = true ∧ t.on TST_BSCAN_HOLD = false ∧ OnlyRegs [TST_BSCAN] s t) ∧
  (∀ s, Ends .tapIdcode s fun t => t.rd TST_BSCAN_IR = 1 ∧ t.dev.hw.reply.data =
      [if s.dev.hw.env.part = 48 then 0x11048973 else if s.dev.hw.env.part = 46 then 0x11046973 else 0x11044973] ∧
      OnlyRegs [TST_BSCAN] s t) ∧
  (∀ cells s, Ends (.tapSamplePreload cells) s fun t => t.dev.hw.tst.cells = cells ∧ t.rd TST_BSCAN_IR = 2 ∧
      OnlyRegs [TST_BSCAN] s t) ∧
  (∀ s, let held := fun (ir : Nat) (t : State) =>
      t.rd TST_BSCAN_IR = ir ∧ t.on TST_BSCAN_TAPACT = true ∧
      (s.rd SIS_MODE_CUR = 0xD → s.dev.hw.otp.done = 0 → t.on TST_BSCAN_HOLD = true) ∧
      (s.rd SIS_MODE_CUR ≠ 0xD → t.on TST_BSCAN_HOLD = false ∧ t.on TST_BSCAN_REFUSED = true) ∧
      (s.dev.hw.otp.done = 3 → s.on SEC_KW_STAT_OPEN = false → t.on TST_BSCAN_HOLD = false ∧ t.on TST_BSCAN_REFUSED = true) ∧
      OnlyRegs [TST_BSCAN] s t
    Ends .tapExtest s (held 0) ∧ Ends .tapClamp s (held 3) ∧ Ends .tapHighz s (held 4)) ∧
  (∀ s, Ends .tapReset s fun t => t.on TST_BSCAN_TAPACT = false ∧ t.rd TST_BSCAN_IR = 1 ∧ t.on TST_BSCAN_HOLD = false ∧
      OnlyRegs [TST_BSCAN] s t)
end

