-- ==== Sys2Proof/Laws/Memory.lean ====
section
/-! SUPPORT. The memories: a byte reads what was written to it, every other byte keeps its value, and every memory
operation keeps the canonical form. -/

namespace Sys2Proof.Machine

/-! ## Reading after writing -/

theorem memLookup_memErase_self (m : List Host.Cell) (a : Nat) : memLookup (memErase m a) a = none := by
  induction m with
  | nil => rfl
  | cons e l ih =>
    obtain ⟨b, w⟩ := e
    by_cases h : b = a <;> simp [memErase, memLookup, h, ih]

theorem memLookup_memErase_ne (m : List Host.Cell) {a b : Nat} (hb : b ≠ a) :
    memLookup (memErase m a) b = memLookup m b := by
  induction m with
  | nil => rfl
  | cons e l ih =>
    obtain ⟨c, w⟩ := e
    by_cases h : c = a
    · subst h; simp [memErase, memLookup, ih, Ne.symm hb]
    · simp only [memErase, if_neg h, memLookup, ih]

theorem memLookup_memInsert_ne (m : List Host.Cell) {a b : Nat} (v : Byte) (hb : b ≠ a) :
    memLookup (memInsert m a v) b = memLookup m b := by
  induction m with
  | nil => simp [memInsert, memLookup, Ne.symm hb]
  | cons e l ih =>
    obtain ⟨c, w⟩ := e
    by_cases h : a < c
    · simp [memInsert, memLookup, h, Ne.symm hb]
    · simp only [memInsert, if_neg h, memLookup, ih]

theorem memLookup_memInsert_self (m : List Host.Cell) (a : Nat) (v : Byte) (hm : memLookup m a = none) :
    memLookup (memInsert m a v) a = some v := by
  induction m with
  | nil => simp [memInsert, memLookup]
  | cons e l ih =>
    obtain ⟨c, w⟩ := e
    by_cases h' : c = a
    · simp [memLookup, h'] at hm
    · simp only [memLookup, h', if_false] at hm
      by_cases h : a < c
      · simp [memInsert, memLookup, h]
      · simp [memInsert, memLookup, h, h', ih hm]

/-- A byte reads what was written to it; every other byte keeps its value. -/
theorem memRead_memWrite (m : List Host.Cell) (a b : Nat) (v : Byte) :
    memRead (memWrite m a v) b = if b = a then v else memRead m b := by
  unfold memRead memWrite
  by_cases hb : b = a
  · subst hb
    by_cases hv : v = memDefault b
    · simp [hv, memLookup_memErase_self]
    · simp [hv, memLookup_memInsert_self _ _ _ (memLookup_memErase_self ..)]
  · by_cases hv : v = memDefault a
    · simp [hv, hb, memLookup_memErase_ne _ hb]
    · simp [hv, hb, memLookup_memInsert_ne _ _ hb, memLookup_memErase_ne _ hb]

/-- Bytes outside the ones written keep their value. -/
theorem memRead_memWriteBytes_out (bs : List Byte) (m : List Host.Cell) (a b : Nat) (hb : b < a ∨ a + bs.length ≤ b) :
    memRead (memWriteBytes m a bs) b = memRead m b := by
  induction bs generalizing m a with
  | nil => rfl
  | cons x xs ih =>
    simp only [List.length_cons] at hb
    have e : b ≠ a := by omega
    rw [memWriteBytes, ih _ _ (by omega), memRead_memWrite, if_neg e]

/-- The bytes written read back. -/
theorem memReadBytes_memWriteBytes (bs : List Byte) (m : List Host.Cell) (a : Nat) :
    memReadBytes (memWriteBytes m a bs) a bs.length = bs := by
  induction bs generalizing m a with
  | nil => rfl
  | cons x xs ih =>
    simp only [List.length_cons, memReadBytes, memWriteBytes, ih]
    rw [memRead_memWriteBytes_out _ _ _ _ (by omega), memRead_memWrite, if_pos rfl]

theorem memLookup_memClear_out (m : List Host.Cell) (lo hi a : Nat) (ha : a < lo ∨ hi ≤ a) :
    memLookup (memClear m lo hi) a = memLookup m a := by
  induction m with
  | nil => rfl
  | cons e l ih =>
    obtain ⟨c, w⟩ := e
    unfold memClear at ih ⊢
    by_cases h' : c = a
    · subst h'; simp [memLookup, ha]
    · by_cases k : c < lo ∨ hi ≤ c
      · simp [k, memLookup, h', ih]
      · simp [k, memLookup, h', ih]

theorem memLookup_memClear_in (m : List Host.Cell) (lo hi a : Nat) (ha : lo ≤ a ∧ a < hi) :
    memLookup (memClear m lo hi) a = none := by
  induction m with
  | nil => rfl
  | cons e l ih =>
    obtain ⟨c, w⟩ := e
    unfold memClear at ih ⊢
    by_cases k : c < lo ∨ hi ≤ c
    · have : c ≠ a := by omega
      simp [k, memLookup, this, ih]
    · simp [k, ih]

/-- A cleared region reads as unwritten, and everything else keeps its value (R77). -/
theorem memRead_memClear (m : List Host.Cell) (lo hi a : Nat) :
    memRead (memClear m lo hi) a = if lo ≤ a ∧ a < hi then memDefault a else memRead m a := by
  unfold memRead
  by_cases k : lo ≤ a ∧ a < hi
  · simp [memLookup_memClear_in _ _ _ _ k, k]
  · rw [memLookup_memClear_out _ _ _ _ (by omega), if_neg k]

/-! ## The canonical form -/

/-- The canonical form, read off the list: keys rise, and no cell holds what an unlisted address reads as. -/
theorem memWf_iff (m : List Host.Cell) :
    memWf m = true ↔ m.Pairwise (fun x y => x.1 < y.1) ∧ ∀ c ∈ m, c.2 ≠ memDefault c.1 := by
  induction m with
  | nil => simp [memWf]
  | cons e l ih =>
    obtain ⟨a, v⟩ := e
    cases l with
    | nil => simp [memWf]
    | cons f l =>
      obtain ⟨b, w⟩ := f
      rw [memWf, Bool.and_eq_true, Bool.and_eq_true, ih, decide_eq_true_iff, decide_eq_true_iff]
      constructor
      · rintro ⟨⟨hv, hab⟩, hp, hd⟩
        refine ⟨List.pairwise_cons.mpr ⟨?_, hp⟩, ?_⟩
        · intro c hc
          rcases List.mem_cons.mp hc with rfl | hc
          · exact hab
          · exact Nat.lt_trans hab ((List.pairwise_cons.mp hp).1 c hc)
        · intro c hc
          rcases List.mem_cons.mp hc with rfl | hc
          · exact hv
          · exact hd c hc
      · rintro ⟨hp, hd⟩
        have hq := List.pairwise_cons.mp hp
        exact ⟨⟨hd (a, v) (by simp), hq.1 (b, w) (by simp)⟩, hq.2, fun c hc => hd c (by simp [hc])⟩

theorem mem_memErase {m : List Host.Cell} {a : Nat} {c : Host.Cell} : c ∈ memErase m a ↔ c ∈ m ∧ c.1 ≠ a := by
  induction m with
  | nil => simp [memErase]
  | cons e l ih =>
    obtain ⟨b, w⟩ := e
    by_cases h : b = a
    · subst h
      simp only [memErase, if_true, ih, List.mem_cons]
      constructor
      · rintro ⟨h1, h2⟩; exact ⟨Or.inr h1, h2⟩
      · rintro ⟨rfl | h1, h2⟩
        · exact absurd rfl h2
        · exact ⟨h1, h2⟩
    · simp only [memErase, if_neg h, List.mem_cons, ih]
      constructor
      · rintro (rfl | ⟨h1, h2⟩)
        · exact ⟨Or.inl rfl, h⟩
        · exact ⟨Or.inr h1, h2⟩
      · rintro ⟨rfl | h1, h2⟩
        · exact Or.inl rfl
        · exact Or.inr ⟨h1, h2⟩

theorem memErase_sublist (m : List Host.Cell) (a : Nat) : (memErase m a).Sublist m := by
  induction m with
  | nil => exact List.Sublist.slnil
  | cons e l ih =>
    obtain ⟨b, w⟩ := e
    by_cases h : b = a
    · simp only [memErase, if_pos h]; exact ih.cons _
    · simp only [memErase, if_neg h]; exact ih.cons_cons _

theorem mem_memInsert {m : List Host.Cell} {a : Nat} {v : Byte} {c : Host.Cell} :
    c ∈ memInsert m a v ↔ c = (a, v) ∨ c ∈ m := by
  induction m with
  | nil => simp [memInsert]
  | cons e l ih =>
    obtain ⟨b, w⟩ := e
    by_cases h : a < b
    · simp [memInsert, h]
    · simp only [memInsert, if_neg h, List.mem_cons, ih]; tauto

theorem memWf_memErase {m : List Host.Cell} (hm : memWf m = true) (a : Nat) : memWf (memErase m a) = true := by
  rw [memWf_iff] at hm ⊢
  exact ⟨hm.1.sublist (memErase_sublist m a), fun c hc => hm.2 c (mem_memErase.mp hc).1⟩

theorem memInsert_pairwise {m : List Host.Cell} {a : Nat} (v : Byte) (hp : m.Pairwise (fun x y => x.1 < y.1))
    (ha : ∀ c ∈ m, c.1 ≠ a) : (memInsert m a v).Pairwise (fun x y => x.1 < y.1) := by
  induction m with
  | nil => simp [memInsert]
  | cons e l ih =>
    obtain ⟨b, w⟩ := e
    have hq := List.pairwise_cons.mp hp
    by_cases h : a < b
    · simp only [memInsert, if_pos h]
      refine List.pairwise_cons.mpr ⟨?_, hp⟩
      intro c hc
      rcases List.mem_cons.mp hc with rfl | hc
      · exact h
      · exact Nat.lt_trans h (hq.1 c hc)
    · simp only [memInsert, if_neg h]
      have hb : b ≠ a := ha (b, w) (by simp)
      refine List.pairwise_cons.mpr ⟨?_, ih hq.2 fun c hc => ha c (by simp [hc])⟩
      intro c hc
      rcases mem_memInsert.mp hc with rfl | hc
      · show b < a; omega
      · exact hq.1 c hc

/-- A write keeps the canonical form. -/
theorem memWf_memWrite {m : List Host.Cell} (hm : memWf m = true) (a : Nat) (v : Byte) :
    memWf (memWrite m a v) = true := by
  unfold memWrite
  by_cases hv : v = memDefault a
  · rw [if_pos hv]; exact memWf_memErase hm a
  · rw [if_neg hv]
    have he := memWf_memErase hm a
    rw [memWf_iff] at he ⊢
    refine ⟨memInsert_pairwise v he.1 fun c hc => (mem_memErase.mp hc).2, ?_⟩
    intro c hc
    rcases mem_memInsert.mp hc with rfl | hc
    · exact hv
    · exact he.2 c hc

theorem memWf_memWriteBytes (bs : List Byte) {m : List Host.Cell} (hm : memWf m = true) (a : Nat) :
    memWf (memWriteBytes m a bs) = true := by
  induction bs generalizing m a with
  | nil => exact hm
  | cons b bs ih => exact ih (memWf_memWrite hm a b) (a + 1)

theorem memWf_memSetNat {m : List Host.Cell} (hm : memWf m = true) (a k n : Nat) : memWf (memSetNat m a k n) = true :=
  memWf_memWriteBytes _ hm a

theorem memWf_filter {m : List Host.Cell} (hm : memWf m = true) (p : Host.Cell → Bool) :
    memWf (m.filter p) = true := by
  rw [memWf_iff] at hm ⊢
  exact ⟨hm.1.sublist List.filter_sublist, fun c hc => hm.2 c (List.mem_filter.mp hc).1⟩

theorem memWf_memClear {m : List Host.Cell} (hm : memWf m = true) (lo hi : Nat) : memWf (memClear m lo hi) = true :=
  memWf_filter hm _

end Sys2Proof.Machine
end

