-- ==== Sys2Proof/Laws/PerInstr.lean ====
section
/-! SUPPORT. The statement made for each command as syntax: spec/opcode_table.json gives no row any bits, so no word spells
it (log entry 6). -/

namespace Sys2Proof.Laws.Spelled

/-- No word of any length spells the command. -/
def Statement (i : Instr) : Prop := ∀ nbits w, decodeTableWord nbits w ≠ some i

theorem supplyGood : Statement (.supplyGood) := nofun
theorem powerOnReset : Statement (.powerOnReset) := nofun
theorem supplyMonitorTrip x0 : Statement (.supplyMonitorTrip x0) := nofun
theorem nresetAssert : Statement (.nresetAssert) := nofun
theorem nresetRelease x0 : Statement (.nresetRelease x0) := nofun
theorem resetRelease x0 x1 x2 : Statement (.resetRelease x0 x1 x2) := nofun
theorem warmResetRequest x0 x1 : Statement (.warmResetRequest x0 x1) := nofun
theorem keywayReset : Statement (.keywayReset) := nofun
theorem wipeComplete x0 : Statement (.wipeComplete x0) := nofun
theorem bootComplete x0 : Statement (.bootComplete x0) := nofun
theorem clockMonitorTrip x0 : Statement (.clockMonitorTrip x0) := nofun
theorem refloss : Statement (.refloss) := nofun
theorem xtalfail : Statement (.xtalfail) := nofun
theorem appDividerChange x0 x1 : Statement (.appDividerChange x0 x1) := nofun
theorem clockDomainEnable x0 x1 : Statement (.clockDomainEnable x0 x1) := nofun
theorem optimeStep : Statement (.optimeStep) := nofun
theorem optimeWrite x0 x1 : Statement (.optimeWrite x0 x1) := nofun
theorem agentResetWrite x0 x1 : Statement (.agentResetWrite x0 x1) := nofun
theorem parkRequest x0 x1 : Statement (.parkRequest x0 x1) := nofun
theorem parkEntryComplete : Statement (.parkEntryComplete) := nofun
theorem parkEntryTimeout : Statement (.parkEntryTimeout) := nofun
theorem wakeRecognised x0 x1 : Statement (.wakeRecognised x0 x1) := nofun
theorem parkedWatchMove x0 : Statement (.parkedWatchMove x0) := nofun
theorem parkedWatchTimer : Statement (.parkedWatchTimer) := nofun
theorem wakeComplete : Statement (.wakeComplete) := nofun
theorem hingeGroupFire x0 x1 : Statement (.hingeGroupFire x0 x1) := nofun
theorem plicClaim x0 x1 : Statement (.plicClaim x0 x1) := nofun
theorem plicComplete x0 x1 x2 : Statement (.plicComplete x0 x1 x2) := nofun
theorem blkEnable x0 x1 : Statement (.blkEnable x0 x1) := nofun
theorem blkDisable x0 x1 : Statement (.blkDisable x0 x1) := nofun
theorem blkQuiesceRequest x0 x1 : Statement (.blkQuiesceRequest x0 x1) := nofun
theorem blkQuiesceRelease x0 x1 : Statement (.blkQuiesceRelease x0 x1) := nofun
theorem blkQuiet x0 : Statement (.blkQuiet x0) := nofun
theorem blkBolt x0 x1 : Statement (.blkBolt x0 x1) := nofun
theorem blkUnbolt x0 x1 : Statement (.blkUnbolt x0 x1) := nofun
theorem blkSoftReset x0 x1 : Statement (.blkSoftReset x0 x1) := nofun
theorem hingeSwapRequest x0 x1 x2 : Statement (.hingeSwapRequest x0 x1 x2) := nofun
theorem hingeCancel x0 x1 x2 : Statement (.hingeCancel x0 x1 x2) := nofun
theorem hingeSwap x0 : Statement (.hingeSwap x0) := nofun
theorem hingeSyncDone x0 : Statement (.hingeSyncDone x0) := nofun
theorem blkLockWrite x0 x1 x2 : Statement (.blkLockWrite x0 x1 x2) := nofun
theorem bistStart x0 x1 x2 : Statement (.bistStart x0 x1 x2) := nofun
theorem bistDone x0 x1 x2 x3 : Statement (.bistDone x0 x1 x2 x3) := nofun
theorem bistTimeout x0 : Statement (.bistTimeout x0) := nofun
theorem pairLoRead x0 x1 : Statement (.pairLoRead x0 x1) := nofun
theorem pairHiWrite x0 x1 x2 : Statement (.pairHiWrite x0 x1 x2) := nofun
theorem rcRead x0 x1 x2 : Statement (.rcRead x0 x1 x2) := nofun
theorem registerWrite x0 x1 x2 x3 : Statement (.registerWrite x0 x1 x2 x3) := nofun
theorem currentCycleT0 : Statement (.currentCycleT0) := nofun
theorem positionCycleT0 x0 x1 x2 x3 x4 : Statement (.positionCycleT0 x0 x1 x2 x3 x4) := nofun
theorem sinc3Result x0 : Statement (.sinc3Result x0) := nofun
theorem quadCount x0 x1 x2 x3 : Statement (.quadCount x0 x1 x2 x3) := nofun
theorem illegalWindowEnd x0 : Statement (.illegalWindowEnd x0) := nofun
theorem indexEvent x0 x1 x2 x3 : Statement (.indexEvent x0 x1 x2 x3) := nofun
theorem countPreset x0 x1 x2 : Statement (.countPreset x0 x1 x2) := nofun
theorem serialFrameEnd x0 x1 : Statement (.serialFrameEnd x0 x1) := nofun
theorem serialNegotiationDone x0 x1 x2 : Statement (.serialNegotiationDone x0 x1 x2) := nofun
theorem serialLostClear x0 x1 x2 : Statement (.serialLostClear x0 x1 x2) := nofun
theorem dinEdge x0 x1 x2 x3 : Statement (.dinEdge x0 x1 x2 x3) := nofun
theorem dcapPop x0 : Statement (.dcapPop x0) := nofun
theorem emuStep x0 : Statement (.emuStep x0) := nofun
theorem tumblerAlign x0 x1 : Statement (.tumblerAlign x0 x1) := nofun
theorem sourceFrozen x0 : Statement (.sourceFrozen x0) := nofun
theorem loopReturn x0 x1 : Statement (.loopReturn x0 x1) := nofun
theorem mapReloadStart x0 x1 : Statement (.mapReloadStart x0 x1) := nofun
theorem mapPageLoaded : Statement (.mapPageLoaded) := nofun
theorem mapPageReload x0 x1 x2 : Statement (.mapPageReload x0 x1 x2) := nofun
theorem mapLearnEntry : Statement (.mapLearnEntry) := nofun
theorem mapRebuildStart x0 x1 : Statement (.mapRebuildStart x0 x1) := nofun
theorem mapRebuildCancel x0 x1 : Statement (.mapRebuildCancel x0 x1) := nofun
theorem mapRebuildPageDone : Statement (.mapRebuildPageDone) := nofun
theorem mapWritebackDone : Statement (.mapWritebackDone) := nofun
theorem mapImport x0 x1 x2 : Statement (.mapImport x0 x1 x2) := nofun
theorem prfMove x0 x1 x2 : Statement (.prfMove x0 x1 x2) := nofun
theorem prfStop x0 x1 x2 : Statement (.prfStop x0 x1 x2) := nofun
theorem prfResume x0 x1 x2 : Statement (.prfResume x0 x1 x2) := nofun
theorem prfAbort x0 x1 x2 : Statement (.prfAbort x0 x1 x2) := nofun
theorem prfGear x0 x1 x2 : Statement (.prfGear x0 x1 x2) := nofun
theorem prfUngear x0 x1 x2 : Statement (.prfUngear x0 x1 x2) := nofun
theorem prfPreset x0 x1 x2 : Statement (.prfPreset x0 x1 x2) := nofun
theorem prfGrarm x0 x1 x2 : Statement (.prfGrarm x0 x1 x2) := nofun
theorem prfIllop x0 x1 x2 : Statement (.prfIllop x0 x1 x2) := nofun
theorem axisStandstill x0 : Statement (.axisStandstill x0) := nofun
theorem axisStall x0 : Statement (.axisStall x0) := nofun
theorem stepIssue x0 x1 : Statement (.stepIssue x0 x1) := nofun
theorem wardCapWrite x0 x1 : Statement (.wardCapWrite x0 x1) := nofun
theorem tceGo x0 x1 x2 : Statement (.tceGo x0 x1 x2) := nofun
theorem tceHalt x0 x1 x2 : Statement (.tceHalt x0 x1 x2) := nofun
theorem tceSolo x0 x1 x2 : Statement (.tceSolo x0 x1 x2) := nofun
theorem tceSoftwareTrigger x0 x1 x2 : Statement (.tceSoftwareTrigger x0 x1 x2) := nofun
theorem tceAuthStart x0 x1 x2 : Statement (.tceAuthStart x0 x1 x2) := nofun
theorem tceAuthDone x0 : Statement (.tceAuthDone x0) := nofun
theorem tceProgramWrite x0 x1 x2 x3 x4 : Statement (.tceProgramWrite x0 x1 x2 x3 x4) := nofun
theorem taskTick x0 x1 : Statement (.taskTick x0 x1) := nofun
theorem tceInterruptEntry x0 : Statement (.tceInterruptEntry x0) := nofun
theorem nop x0 x1 : Statement (.nop x0 x1) := nofun
theorem endTask x0 x1 x2 : Statement (.endTask x0 x1 x2) := nofun
theorem br x0 x1 : Statement (.br x0 x1) := nofun
theorem jal x0 x1 : Statement (.jal x0 x1) := nofun
theorem jr x0 x1 : Statement (.jr x0 x1) := nofun
theorem loop x0 x1 : Statement (.loop x0 x1) := nofun
theorem loopr x0 x1 : Statement (.loopr x0 x1) := nofun
theorem lexit x0 x1 : Statement (.lexit x0 x1) := nofun
theorem reti x0 x1 : Statement (.reti x0 x1) := nofun
theorem swi x0 x1 : Statement (.swi x0 x1) := nofun
theorem addOp x0 x1 : Statement (.addOp x0 x1) := nofun
theorem subOp x0 x1 : Statement (.subOp x0 x1) := nofun
theorem adds x0 x1 : Statement (.adds x0 x1) := nofun
theorem subs x0 x1 : Statement (.subs x0 x1) := nofun
theorem andOp x0 x1 : Statement (.andOp x0 x1) := nofun
theorem orOp x0 x1 : Statement (.orOp x0 x1) := nofun
theorem xorOp x0 x1 : Statement (.xorOp x0 x1) := nofun
theorem andn x0 x1 : Statement (.andn x0 x1) := nofun
theorem shl x0 x1 : Statement (.shl x0 x1) := nofun
theorem shr x0 x1 : Statement (.shr x0 x1) := nofun
theorem asr x0 x1 : Statement (.asr x0 x1) := nofun
theorem cmp x0 x1 : Statement (.cmp x0 x1) := nofun
theorem negOp x0 x1 : Statement (.negOp x0 x1) := nofun
theorem absOp x0 x1 : Statement (.absOp x0 x1) := nofun
theorem minOp x0 x1 : Statement (.minOp x0 x1) := nofun
theorem maxOp x0 x1 : Statement (.maxOp x0 x1) := nofun
theorem aluMov x0 x1 : Statement (.aluMov x0 x1) := nofun
theorem moviData x0 x1 : Statement (.moviData x0 x1) := nofun
theorem moviAddr x0 x1 : Statement (.moviAddr x0 x1) := nofun
theorem movReg x0 x1 : Statement (.movReg x0 x1) := nofun
theorem mac x0 x1 : Statement (.mac x0 x1) := nofun
theorem macd x0 x1 : Statement (.macd x0 x1) := nofun
theorem macs x0 x1 : Statement (.macs x0 x1) := nofun
theorem cmac x0 x1 : Statement (.cmac x0 x1) := nofun
theorem rnd x0 x1 : Statement (.rnd x0 x1) := nofun
theorem ld x0 x1 : Statement (.ld x0 x1) := nofun
theorem st x0 x1 : Statement (.st x0 x1) := nofun
theorem stAcc x0 x1 : Statement (.stAcc x0 x1) := nofun
theorem ldStPair x0 x1 : Statement (.ldStPair x0 x1) := nofun
theorem ftap x0 x1 : Statement (.ftap x0 x1) := nofun
theorem illegalInstruction x0 x1 : Statement (.illegalInstruction x0 x1) := nofun
theorem sinc2FastResult x0 x1 : Statement (.sinc2FastResult x0 x1) := nofun
theorem sdInputStuck x0 x1 : Statement (.sdInputStuck x0 x1) := nofun
theorem gateDriverFault x0 x1 : Statement (.gateDriverFault x0 x1) := nofun
theorem tripClear x0 x1 : Statement (.tripClear x0 x1) := nofun
theorem gridLossClear x0 x1 : Statement (.gridLossClear x0 x1) := nofun
theorem brkTmagElapsed : Statement (.brkTmagElapsed) := nofun
theorem brkTpreElapsed : Statement (.brkTpreElapsed) := nofun
theorem brkTliftElapsed : Statement (.brkTliftElapsed) := nofun
theorem brkTstartElapsed : Statement (.brkTstartElapsed) := nofun
theorem brkTpickElapsed : Statement (.brkTpickElapsed) := nofun
theorem brkTsetElapsed : Statement (.brkTsetElapsed) := nofun
theorem brkTdropElapsed : Statement (.brkTdropElapsed) := nofun
theorem brkTrampElapsed : Statement (.brkTrampElapsed) := nofun
theorem brakeTestStart x0 x1 : Statement (.brakeTestStart x0 x1) := nofun
theorem brakeTestRampEnd : Statement (.brakeTestRampEnd) := nofun
theorem brakeTestHoldEnd : Statement (.brakeTestHoldEnd) := nofun
theorem brakeTestAbort x0 : Statement (.brakeTestAbort x0) := nofun
theorem doorOpen x0 x1 x2 : Statement (.doorOpen x0 x1 x2) := nofun
theorem doorClose x0 x1 x2 : Statement (.doorClose x0 x1 x2) := nofun
theorem doorHold x0 x1 x2 : Statement (.doorHold x0 x1 x2) := nofun
theorem doorRelease x0 x1 x2 : Statement (.doorRelease x0 x1 x2) := nofun
theorem doorNudge x0 x1 x2 : Statement (.doorNudge x0 x1 x2) := nofun
theorem doorStop x0 x1 x2 : Statement (.doorStop x0 x1 x2) := nofun
theorem doorHandover x0 x1 x2 : Statement (.doorHandover x0 x1 x2) := nofun
theorem doorTakeback x0 x1 x2 : Statement (.doorTakeback x0 x1 x2) := nofun
theorem doorClear x0 x1 x2 : Statement (.doorClear x0 x1 x2) := nofun
theorem doorIllop x0 x1 x2 : Statement (.doorIllop x0 x1 x2) := nofun
theorem doorUnlockTimeout x0 : Statement (.doorUnlockTimeout x0) := nofun
theorem doorDwellElapsed x0 : Statement (.doorDwellElapsed x0) := nofun
theorem doorNudgeTimeElapsed x0 : Statement (.doorNudgeTimeElapsed x0) := nofun
theorem doorLockTimeout x0 : Statement (.doorLockTimeout x0) := nofun
theorem doorRetryElapsed x0 : Statement (.doorRetryElapsed x0) := nofun
theorem relevelRequest : Statement (.relevelRequest) := nofun
theorem contactLevelChange x0 x1 x2 : Statement (.contactLevelChange x0 x1 x2) := nofun
theorem contactBypass x0 : Statement (.contactBypass x0) := nofun
theorem visFrameEnd x0 x1 x2 x3 : Statement (.visFrameEnd x0 x1 x2 x3) := nofun
theorem visStale x0 : Statement (.visStale x0) := nofun
theorem slotClear x0 x1 : Statement (.slotClear x0 x1) := nofun
theorem safetyInputChange x0 x1 x2 : Statement (.safetyInputChange x0 x1 x2) := nofun
theorem sinDiscrepancy x0 : Statement (.sinDiscrepancy x0) := nofun
theorem testPulse x0 : Statement (.testPulse x0) := nofun
theorem testPulseEnd x0 x1 : Statement (.testPulseEnd x0 x1) := nofun
theorem brakeLagElapsed : Statement (.brakeLagElapsed) := nofun
theorem outputReadbackFault x0 : Statement (.outputReadbackFault x0) := nofun
theorem faultArrival x0 x1 : Statement (.faultArrival x0 x1) := nofun
theorem faultDone x0 x1 : Statement (.faultDone x0 x1) := nofun
theorem faultInFaultHandling x0 : Statement (.faultInFaultHandling x0) := nofun
theorem watchdogKick x0 x1 : Statement (.watchdogKick x0 x1) := nofun
theorem watchdogExpiry : Statement (.watchdogExpiry) := nofun
theorem modeSet x0 x1 : Statement (.modeSet x0 x1) := nofun
theorem standstillReached : Statement (.standstillReached) := nofun
theorem parkIdleElapsed : Statement (.parkIdleElapsed) := nofun
theorem deadboltPortWrite x0 x1 : Statement (.deadboltPortWrite x0 x1) := nofun
theorem deadboltPortDone x0 x1 : Statement (.deadboltPortDone x0 x1) := nofun
theorem tokokExpiry : Statement (.tokokExpiry) := nofun
theorem serviceAckHeld : Statement (.serviceAckHeld) := nofun
theorem deadboltRelease x0 x1 x2 x3 x4 : Statement (.deadboltRelease x0 x1 x2 x3 x4) := nofun
theorem laneLock : Statement (.laneLock) := nofun
theorem pairWaitElapsed : Statement (.pairWaitElapsed) := nofun
theorem pairingFrameReceive x0 : Statement (.pairingFrameReceive x0) := nofun
theorem inputSegmentReceive x0 x1 x2 x3 : Statement (.inputSegmentReceive x0 x1 x2 x3) := nofun
theorem outputFrameReceive x0 x1 : Statement (.outputFrameReceive x0 x1) := nofun
theorem heartbeatReceive x0 x1 x2 : Statement (.heartbeatReceive x0 x1 x2) := nofun
theorem snapshotReceive x0 x1 x2 : Statement (.snapshotReceive x0 x1 x2) := nofun
theorem syncComplete : Statement (.syncComplete) := nofun
theorem leaseExpiry : Statement (.leaseExpiry) := nofun
theorem keyClaim : Statement (.keyClaim) := nofun
theorem keyHandoff x0 x1 : Statement (.keyHandoff x0 x1) := nofun
theorem repair x0 x1 : Statement (.repair x0 x1) := nofun
theorem laneLoss x0 : Statement (.laneLoss x0) := nofun
theorem selFbChange x0 x1 : Statement (.selFbChange x0 x1) := nofun
theorem selectorNoneShown : Statement (.selectorNoneShown) := nofun
theorem selfltClear : Statement (.selfltClear) := nofun
theorem canCtlWrite x0 x1 x2 : Statement (.canCtlWrite x0 x1 x2) := nofun
theorem canFrameReceive x0 x1 : Statement (.canFrameReceive x0 x1) := nofun
theorem canObjectLock x0 x1 x2 : Statement (.canObjectLock x0 x1 x2) := nofun
theorem canObjectUnlock x0 x1 x2 x3 : Statement (.canObjectUnlock x0 x1 x2 x3) := nofun
theorem canLockTimeout x0 x1 : Statement (.canLockTimeout x0 x1) := nofun
theorem canQueuePop x0 x1 x2 : Statement (.canQueuePop x0 x1 x2) := nofun
theorem canTxRequest x0 x1 x2 x3 : Statement (.canTxRequest x0 x1 x2 x3) := nofun
theorem canTxCancel x0 x1 x2 x3 x4 : Statement (.canTxCancel x0 x1 x2 x3 x4) := nofun
theorem canTxComplete x0 x1 x2 x3 : Statement (.canTxComplete x0 x1 x2 x3) := nofun
theorem canBusError x0 x1 x2 x3 x4 x5 : Statement (.canBusError x0 x1 x2 x3 x4 x5) := nofun
theorem canBusoffRecovery x0 : Statement (.canBusoffRecovery x0) := nofun
theorem canNegStart x0 x1 x2 : Statement (.canNegStart x0 x1 x2) := nofun
theorem canNegTimeout x0 : Statement (.canNegTimeout x0) := nofun
theorem canCapabilityAnswer x0 : Statement (.canCapabilityAnswer x0) := nofun
theorem canReferenceRequest x0 : Statement (.canReferenceRequest x0) := nofun
theorem canTtFire x0 x1 : Statement (.canTtFire x0 x1) := nofun
theorem canRefLost x0 : Statement (.canRefLost x0) := nofun
theorem canVirtualReference x0 : Statement (.canVirtualReference x0) := nofun
theorem canWakePatternRequest x0 x1 x2 : Statement (.canWakePatternRequest x0 x1 x2) := nofun
theorem canWakePatternSent x0 : Statement (.canWakePatternSent x0) := nofun
theorem ethFrameReceive x0 x1 : Statement (.ethFrameReceive x0 x1) := nofun
theorem ethFrameTransmit x0 x1 : Statement (.ethFrameTransmit x0 x1) := nofun
theorem ethRingIndexWrite x0 x1 x2 x3 : Statement (.ethRingIndexWrite x0 x1 x2 x3) := nofun
theorem ethLinkChange x0 x1 : Statement (.ethLinkChange x0 x1) := nofun
theorem phyPoll x0 x1 : Statement (.phyPoll x0 x1) := nofun
theorem phyInterrupt x0 x1 : Statement (.phyInterrupt x0 x1) := nofun
theorem ethRetrainDone x0 : Statement (.ethRetrainDone x0) := nofun
theorem mdioCommand x0 x1 x2 : Statement (.mdioCommand x0 x1 x2) := nofun
theorem mdioDone x0 x1 : Statement (.mdioDone x0 x1) := nofun
theorem ptpSyncSend x0 : Statement (.ptpSyncSend x0) := nofun
theorem ptpSyncReceive x0 x1 : Statement (.ptpSyncReceive x0 x1) := nofun
theorem ptpPdelay x0 x1 : Statement (.ptpPdelay x0 x1) := nofun
theorem ptpSyncLost : Statement (.ptpSyncLost) := nofun
theorem skovesafeProduce x0 : Statement (.skovesafeProduce x0) := nofun
theorem skovesafeFrameReceive x0 x1 x2 : Statement (.skovesafeFrameReceive x0 x1 x2) := nofun
theorem skovesafeWatchdogExpiry x0 : Statement (.skovesafeWatchdogExpiry x0) := nofun
theorem skovesafePathTimeout x0 x1 : Statement (.skovesafePathTimeout x0 x1) := nofun
theorem sseBufferSwitch x0 x1 x2 : Statement (.sseBufferSwitch x0 x1 x2) := nofun
theorem mlbConfigWrite x0 x1 x2 : Statement (.mlbConfigWrite x0 x1 x2) := nofun
theorem mlbPost x0 x1 : Statement (.mlbPost x0 x1) := nofun
theorem mlbWithdraw x0 x1 : Statement (.mlbWithdraw x0 x1) := nofun
theorem mlbTake x0 x1 : Statement (.mlbTake x0 x1) := nofun
theorem mlbAck x0 x1 x2 : Statement (.mlbAck x0 x1 x2) := nofun
theorem mlbPayloadWrite x0 x1 x2 x3 : Statement (.mlbPayloadWrite x0 x1 x2 x3) := nofun
theorem mlbPayloadRead x0 x1 x2 : Statement (.mlbPayloadRead x0 x1 x2) := nofun
theorem doorbellRing x0 x1 x2 : Statement (.doorbellRing x0 x1 x2) := nofun
theorem doorbellClear x0 x1 x2 : Statement (.doorbellClear x0 x1 x2) := nofun
theorem doorbellMaskWrite x0 x1 x2 : Statement (.doorbellMaskWrite x0 x1 x2) := nofun
theorem latchAcquire x0 x1 : Statement (.latchAcquire x0 x1) := nofun
theorem latchRelease x0 x1 x2 : Statement (.latchRelease x0 x1 x2) := nofun
theorem latchForceFree x0 x1 x2 : Statement (.latchForceFree x0 x1 x2) := nofun
theorem recordSubmit x0 x1 : Statement (.recordSubmit x0 x1) := nofun
theorem recordWriteDone x0 x1 x2 : Statement (.recordWriteDone x0 x1 x2) := nofun
theorem headerRefresh : Statement (.headerRefresh) := nofun
theorem wallClockSet x0 x1 : Statement (.wallClockSet x0 x1) := nofun
theorem recordReadTranslate x0 x1 : Statement (.recordReadTranslate x0 x1) := nofun
theorem orderProvision : Statement (.orderProvision) := nofun
theorem orderLc x0 : Statement (.orderLc x0) := nofun
theorem orderKeyload : Statement (.orderKeyload) := nofun
theorem orderPair : Statement (.orderPair) := nofun
theorem orderSvn x0 : Statement (.orderSvn x0) := nofun
theorem orderRevoke x0 : Statement (.orderRevoke x0) := nofun
theorem tokenSubmit : Statement (.tokenSubmit) := nofun
theorem mapSeal : Statement (.mapSeal) := nofun
theorem mapOpen : Statement (.mapOpen) := nofun
theorem mapCommandDone : Statement (.mapCommandDone) := nofun
theorem keyExchangeRequest : Statement (.keyExchangeRequest) := nofun
theorem keyExchangeAnswer : Statement (.keyExchangeAnswer) := nofun
theorem keyExchangeAccept : Statement (.keyExchangeAccept) := nofun
theorem keywayChallenge : Statement (.keywayChallenge) := nofun
theorem keywayResponse x0 : Statement (.keywayResponse x0) := nofun
theorem keywaySessionExpiry : Statement (.keywaySessionExpiry) := nofun
theorem keywayClose x0 x1 : Statement (.keywayClose x0 x1) := nofun
theorem keywayWrite x0 x1 : Statement (.keywayWrite x0 x1) := nofun
theorem xspRead : Statement (.xspRead) := nofun
theorem xspProgram : Statement (.xspProgram) := nofun
theorem xspErase4k : Statement (.xspErase4k) := nofun
theorem xspErase64k : Statement (.xspErase64k) := nofun
theorem xspRdsr x0 : Statement (.xspRdsr x0) := nofun
theorem xspCommandDone x0 : Statement (.xspCommandDone x0) := nofun
theorem xspWindowTimeout : Statement (.xspWindowTimeout) := nofun
theorem xspBankSwitch x0 x1 : Statement (.xspBankSwitch x0 x1) := nofun
theorem hspRead x0 x1 x2 x3 x4 : Statement (.hspRead x0 x1 x2 x3 x4) := nofun
theorem hspWrite x0 x1 x2 : Statement (.hspWrite x0 x1 x2) := nofun
theorem hspStatus : Statement (.hspStatus) := nofun
theorem hspUnknownInstruction x0 : Statement (.hspUnknownInstruction x0) := nofun
theorem stqSetRequest x0 x1 x2 x3 : Statement (.stqSetRequest x0 x1 x2 x3) := nofun
theorem stqClearRequest x0 x1 x2 x3 : Statement (.stqClearRequest x0 x1 x2 x3) := nofun
theorem tstCommand x0 x1 : Statement (.tstCommand x0 x1) := nofun
theorem rollingStepStart : Statement (.rollingStepStart) := nofun
theorem tapBypass x0 : Statement (.tapBypass x0) := nofun
theorem tapIdcode : Statement (.tapIdcode) := nofun
theorem tapSamplePreload x0 : Statement (.tapSamplePreload x0) := nofun
theorem tapExtest : Statement (.tapExtest) := nofun
theorem tapClamp : Statement (.tapClamp) := nofun
theorem tapHighz : Statement (.tapHighz) := nofun
theorem carrierValley x0 : Statement (.carrierValley x0) := nofun
theorem canArbitrationLost x0 x1 : Statement (.canArbitrationLost x0 x1) := nofun
theorem csiLaneSyncLoss x0 : Statement (.csiLaneSyncLoss x0) := nofun
theorem tapReset : Statement (.tapReset) := nofun
theorem chopperMinonElapsed x0 x1 : Statement (.chopperMinonElapsed x0 x1) := nofun
theorem sisIcClaim x0 x1 : Statement (.sisIcClaim x0 x1) := nofun

end Sys2Proof.Laws.Spelled
end

