-- ==== Sys2Proof/Laws/Words.lean ====
section
/-! SUPPORT. Bit fields: what a field reads after a write of a field of the same word. -/

namespace Sys2Proof.Machine

theorem getBits_lt (w : Word) (lo width : Nat) : getBits w lo width < 2 ^ width :=
  Nat.mod_lt _ (Nat.two_pow_pos width)

theorem testBit_getBits (w : Word) (lo width i : Nat) :
    (getBits w lo width).testBit i = (decide (i < width) && w.getLsbD (lo + i)) := by
  simp [getBits, Nat.testBit_mod_two_pow, Nat.testBit_shiftRight, BitVec.getLsbD]

theorem getLsbD_setBits (w : Word) (lo width v i : Nat) (h : i < 32) :
    (setBits w lo width v).getLsbD i =
      if lo ≤ i ∧ i < lo + width then v.testBit (i - lo) else w.getLsbD i := by
  have e : (2 ^ width - 1).testBit (i - lo) = decide (i - lo < width) := Nat.testBit_two_pow_sub_one ..
  simp only [setBits, BitVec.getLsbD_or, BitVec.getLsbD_and, BitVec.getLsbD_not, BitVec.getLsbD_ofNat,
    Nat.testBit_shiftLeft, h, decide_true, Bool.true_and, e]
  by_cases a : lo ≤ i
  · by_cases b : i < lo + width
    · have c : i - lo < width := by omega
      simp [a, b, c]
    · have c : ¬ i - lo < width := by omega
      simp [a, b, c]
  · simp [a]

/-- A field reads the low bits of what was written to it. -/
theorem getBits_setBits_same (w : Word) (lo width v : Nat) (h : lo + width ≤ 32) :
    getBits (setBits w lo width v) lo width = v % 2 ^ width := by
  apply Nat.eq_of_testBit_eq
  intro i
  rw [testBit_getBits, Nat.testBit_mod_two_pow]
  by_cases b : i < width
  · rw [getLsbD_setBits _ _ _ _ _ (by omega)]
    simp [b]
  · simp [b]

/-- A field that shares no bit with the one written keeps its value. -/
theorem getBits_setBits_other (w : Word) (lo width v lo' width' : Nat)
    (h : lo' + width' ≤ lo ∨ lo + width ≤ lo') :
    getBits (setBits w lo width v) lo' width' = getBits w lo' width' := by
  apply Nat.eq_of_testBit_eq
  intro i
  rw [testBit_getBits, testBit_getBits]
  by_cases b : i < width'
  · by_cases c : lo' + i < 32
    · rw [getLsbD_setBits _ _ _ _ _ c, if_neg (by omega)]
    · simp [BitVec.getLsbD_of_ge _ _ (Nat.le_of_not_lt c)]
  · simp [b]

/-- A bit reads what was written to it, and every other bit keeps its value. -/
theorem getLsbD_setBits_one (w : Word) (i j : Nat) (b : Bool) (hj : j < 32) :
    (setBits w i 1 (b2n b)).getLsbD j = if j = i then b else w.getLsbD j := by
  rw [getLsbD_setBits _ _ _ _ _ hj]
  by_cases e : j = i
  · subst e; cases b <;> simp [b2n]
  · rw [if_neg (by omega), if_neg e]

end Sys2Proof.Machine
end

