-- ==== Sys2Proof/Laws/Regs.lean ====
section
/-! SUPPORT. The register store: what a register reads after a write, for every operation that writes registers. -/

namespace Sys2Proof.Machine

/-! ## The list of registers -/

theorem lookupReg_eraseReg_self (l : List (Nat × Word)) (a : Nat) : lookupReg (eraseReg l a) a = none := by
  induction l with
  | nil => rfl
  | cons e l ih =>
    obtain ⟨b, w⟩ := e
    by_cases h : b = a <;> simp [eraseReg, lookupReg, h, ih]

theorem lookupReg_eraseReg_ne (l : List (Nat × Word)) {a b : Nat} (hb : b ≠ a) :
    lookupReg (eraseReg l a) b = lookupReg l b := by
  induction l with
  | nil => rfl
  | cons e l ih =>
    obtain ⟨c, w⟩ := e
    by_cases h : c = a
    · subst h; simp [eraseReg, lookupReg, ih, Ne.symm hb]
    · simp only [eraseReg, if_neg h, lookupReg, ih]

theorem lookupReg_insertReg_ne (l : List (Nat × Word)) {a b : Nat} (v : Word) (hb : b ≠ a) :
    lookupReg (insertReg l a v) b = lookupReg l b := by
  induction l with
  | nil => simp [insertReg, lookupReg, Ne.symm hb]
  | cons e l ih =>
    obtain ⟨c, w⟩ := e
    by_cases h : a < c
    · simp [insertReg, lookupReg, h, Ne.symm hb]
    · simp only [insertReg, if_neg h, lookupReg, ih]

theorem lookupReg_insertReg_self (l : List (Nat × Word)) (a : Nat) (v : Word) (hl : lookupReg l a = none) :
    lookupReg (insertReg l a v) a = some v := by
  induction l with
  | nil => simp [insertReg, lookupReg]
  | cons e l ih =>
    obtain ⟨c, w⟩ := e
    by_cases h' : c = a
    · simp [lookupReg, h'] at hl
    · simp only [lookupReg, h', if_false] at hl
      by_cases h : a < c
      · simp [insertReg, lookupReg, h]
      · simp [insertReg, lookupReg, h, h', ih hl]

/-! ## Whole registers -/

/-- A register reads what was written to it; every other register keeps its value. -/
theorem Hw.reg_setReg (h : Hw) (a b : Nat) (v : Word) :
    (h.setReg a v).reg b = if b = a then v else h.reg b := by
  unfold Hw.setReg Hw.reg
  by_cases hb : b = a
  · subst hb
    by_cases hv : v = regReset b
    · simp [hv, lookupReg_eraseReg_self]
    · simp [hv, lookupReg_insertReg_self _ _ _ (lookupReg_eraseReg_self ..)]
  · by_cases hv : v = regReset a
    · simp [hv, hb, lookupReg_eraseReg_ne _ hb]
    · simp [hv, hb, lookupReg_insertReg_ne _ _ hb, lookupReg_eraseReg_ne _ hb]

theorem Hw.reg_setReg_same (h : Hw) (a : Nat) (v : Word) : (h.setReg a v).reg a = v := by
  simp [Hw.reg_setReg]

theorem Hw.reg_setReg_ne (h : Hw) {a b : Nat} (v : Word) (hb : b ≠ a) : (h.setReg a v).reg b = h.reg b := by
  simp [Hw.reg_setReg, hb]

theorem Hw.nat_setNat_same (h : Hw) (a n : Nat) : (h.setNat a n).nat a = n % 4294967296 := by
  simp [Hw.nat, Hw.setNat, Hw.reg_setReg]

theorem Hw.reg_setNat_same (h : Hw) (a n : Nat) : (h.setNat a n).reg a = BitVec.ofNat 32 n := by
  simp [Hw.setNat, Hw.reg_setReg]

theorem Hw.reg_setNat_ne (h : Hw) {a b : Nat} (n : Nat) (hb : b ≠ a) : (h.setNat a n).reg b = h.reg b :=
  h.reg_setReg_ne _ hb

theorem Hw.reg_setInt_same (h : Hw) (a : Nat) (i : Int) : (h.setInt a i).reg a = BitVec.ofInt 32 i := by
  simp [Hw.setInt, Hw.reg_setReg]

theorem Hw.reg_setInt_ne (h : Hw) {a b : Nat} (i : Int) (hb : b ≠ a) : (h.setInt a i).reg b = h.reg b :=
  h.reg_setReg_ne _ hb

theorem Hw.reg_wr_ne (h : Hw) (f : Field) (v : Nat) {a : Nat} (ha : a ≠ f.addr) : (h.wr f v).reg a = h.reg a :=
  h.reg_setReg_ne _ ha

theorem Hw.reg_setBitAt_ne (h : Hw) {a b : Nat} (i : Nat) (v : Bool) (hb : b ≠ a) :
    (h.setBitAt a i v).reg b = h.reg b :=
  h.reg_setReg_ne _ hb

/-! ## Fields -/

/-- A field reads the low bits of what was written to it. -/
theorem Hw.rd_wr_same (h : Hw) (f : Field) (v : Nat) (hf : f.lo + f.width ≤ 32) :
    (h.wr f v).rd f = v % 2 ^ f.width := by
  simp [Hw.rd, Hw.wr, Hw.reg_setReg, getBits_setBits_same _ _ _ _ hf]

/-- A field of another register, or of other bits of this one, keeps its value. -/
theorem Hw.rd_wr_other (h : Hw) (f g : Field) (v : Nat)
    (hg : g.addr ≠ f.addr ∨ g.lo + g.width ≤ f.lo ∨ f.lo + f.width ≤ g.lo) : (h.wr f v).rd g = h.rd g := by
  unfold Hw.rd Hw.wr
  rw [Hw.reg_setReg]
  by_cases e : g.addr = f.addr
  · rw [if_pos e, e, getBits_setBits_other _ _ _ _ _ _ (by tauto)]
  · rw [if_neg e]

theorem Hw.rd_setReg_ne (h : Hw) {a : Nat} (v : Word) (f : Field) (hf : f.addr ≠ a) :
    (h.setReg a v).rd f = h.rd f := by
  simp [Hw.rd, Hw.reg_setReg, hf]

theorem Hw.rd_setReg_same (h : Hw) (v : Word) (f : Field) : (h.setReg f.addr v).rd f = getBits v f.lo f.width := by
  simp [Hw.rd, Hw.reg_setReg]

theorem Hw.rd_setNat_ne (h : Hw) {a : Nat} (n : Nat) (f : Field) (hf : f.addr ≠ a) : (h.setNat a n).rd f = h.rd f :=
  h.rd_setReg_ne _ f hf

theorem Hw.rd_setBitAt_ne (h : Hw) {a : Nat} (i : Nat) (b : Bool) (f : Field) (hf : f.addr ≠ a) :
    (h.setBitAt a i b).rd f = h.rd f :=
  h.rd_setReg_ne _ f hf

/-- A one-bit field after a write of 1 or 0. -/
theorem Hw.on_wr_same (h : Hw) (f : Field) (b : Bool) (hf : f.lo + 1 ≤ 32) (hw : f.width = 1) :
    (h.wr f (b2n b)).on f = b := by
  unfold Hw.on
  rw [Hw.rd_wr_same _ _ _ (by omega), hw]
  cases b <;> simp [b2n]

theorem Hw.on_wr_other (h : Hw) (f g : Field) (v : Nat)
    (hg : g.addr ≠ f.addr ∨ g.lo + g.width ≤ f.lo ∨ f.lo + f.width ≤ g.lo) : (h.wr f v).on g = h.on g := by
  simp [Hw.on, Hw.rd_wr_other _ _ _ _ hg]

/-- A bit of a register after a write of it. -/
theorem Hw.bitAt_setBitAt_same (h : Hw) (a i : Nat) (b : Bool) (hi : i < 32) : (h.setBitAt a i b).bitAt a i = b := by
  simp [Hw.bitAt, Hw.setBitAt, Hw.reg_setReg, getLsbD_setBits_one _ _ _ _ hi]

theorem Hw.bitAt_setBitAt_ne (h : Hw) {a i c j : Nat} (b : Bool) (hj : j < 32) (hn : c ≠ a ∨ j ≠ i) :
    (h.setBitAt a i b).bitAt c j = h.bitAt c j := by
  unfold Hw.bitAt Hw.setBitAt
  rw [Hw.reg_setReg]
  by_cases e : c = a
  · subst e
    rw [if_pos rfl, getLsbD_setBits_one _ _ _ _ hj, if_neg (by tauto)]
  · rw [if_neg e]

/-- A 64-bit pair reads what was written to it. -/
theorem Hw.pair_setPair (h : Hw) (a n : Nat) : (h.setPair a n).pair a = n % 18446744073709551616 := by
  simp only [Hw.pair, Hw.setPair, Hw.nat_setNat_same]
  have e : (h.setNat a n |>.setNat (a + 4) (n / 4294967296)).nat a = n % 4294967296 := by
    unfold Hw.nat
    rw [Hw.reg_setNat_ne _ _ (by omega)]
    exact h.nat_setNat_same a n
  rw [e]
  omega

/-! ## Interrupt bits and fault causes (R44, R49) -/

theorem Hw.irq_sets (h : Hw) (p b : Nat) (hb : b < 32) : (h.irq p b).bitAt (BLK_IRQ p) b = true :=
  h.bitAt_setBitAt_same _ _ _ hb

theorem Hw.reg_irq_ne (h : Hw) (p b : Nat) {a : Nat} (ha : a ≠ BLK_IRQ p) : (h.irq p b).reg a = h.reg a :=
  h.reg_setBitAt_ne _ _ ha

theorem Hw.reg_blockFault_ne (h : Hw) (p b : Nat) {a : Nat} (hf : a ≠ BLK_FAULT p) (hi : a ≠ BLK_IRQ p) :
    (h.blockFault p b).reg a = h.reg a := by
  unfold Hw.blockFault
  rw [Hw.reg_wr_ne _ _ _ hi, Hw.reg_setBitAt_ne _ _ _ hf]

/-- A fault cause sets its bit and FLT. -/
theorem Hw.blockFault_sets (h : Hw) (p b : Nat) (hb : b < 32) :
    (h.blockFault p b).bitAt (BLK_FAULT p) b = true ∧ (h.blockFault p b).on (BLK_IRQ_FLT p) = true := by
  constructor
  · unfold Hw.blockFault Hw.bitAt
    rw [Hw.reg_wr_ne _ _ _ (by simp [BLK_FAULT, BLK_IRQ])]
    exact h.bitAt_setBitAt_same _ _ _ hb
  · unfold Hw.blockFault
    exact Hw.on_wr_same _ _ true (by simp) rfl

end Sys2Proof.Machine
end

