-- ==== Sys2Proof/Laws/State.lean ====
section
/-! SUPPORT. What the named operations leave unchanged in the hardware's record, and that the readers of registers see the
register store alone: one lemma per field per update. -/

namespace Sys2Proof.Machine

/-! ## Readers after an update of another field -/

@[simp] theorem Hw.reg_upd (h : Hw) {x_env} {x_fresh} {x_reply} {x_otp} {x_cpr} {x_hdr} {x_sis} {x_rcd} {x_pst}
    {x_pos} {x_dor} {x_map} {x_prf} {x_peer} {x_vis} {x_can} {x_rdn} {x_tce} {x_eth} {x_sse} {x_stq} {x_sec} {x_xsp}
    {x_hsp} {x_tst} (a : Nat) : Hw.reg ⟨x_env, x_fresh, x_reply, x_otp, h.regs, x_cpr, x_hdr, x_sis, x_rcd, x_pst,
    x_pos, x_dor, x_map, x_prf, x_peer, x_vis, x_can, x_rdn, x_tce, x_eth, x_sse, x_stq, x_sec, x_xsp, x_hsp, x_tst⟩
    a = h.reg a := rfl
@[simp] theorem Hw.rd_upd (h : Hw) {x_env} {x_fresh} {x_reply} {x_otp} {x_cpr} {x_hdr} {x_sis} {x_rcd} {x_pst}
    {x_pos} {x_dor} {x_map} {x_prf} {x_peer} {x_vis} {x_can} {x_rdn} {x_tce} {x_eth} {x_sse} {x_stq} {x_sec} {x_xsp}
    {x_hsp} {x_tst} (f : Field) : Hw.rd ⟨x_env, x_fresh, x_reply, x_otp, h.regs, x_cpr, x_hdr, x_sis, x_rcd, x_pst,
    x_pos, x_dor, x_map, x_prf, x_peer, x_vis, x_can, x_rdn, x_tce, x_eth, x_sse, x_stq, x_sec, x_xsp, x_hsp, x_tst⟩
    f = h.rd f := rfl
@[simp] theorem Hw.on_upd (h : Hw) {x_env} {x_fresh} {x_reply} {x_otp} {x_cpr} {x_hdr} {x_sis} {x_rcd} {x_pst}
    {x_pos} {x_dor} {x_map} {x_prf} {x_peer} {x_vis} {x_can} {x_rdn} {x_tce} {x_eth} {x_sse} {x_stq} {x_sec} {x_xsp}
    {x_hsp} {x_tst} (f : Field) : Hw.on ⟨x_env, x_fresh, x_reply, x_otp, h.regs, x_cpr, x_hdr, x_sis, x_rcd, x_pst,
    x_pos, x_dor, x_map, x_prf, x_peer, x_vis, x_can, x_rdn, x_tce, x_eth, x_sse, x_stq, x_sec, x_xsp, x_hsp, x_tst⟩
    f = h.on f := rfl
@[simp] theorem Hw.nat_upd (h : Hw) {x_env} {x_fresh} {x_reply} {x_otp} {x_cpr} {x_hdr} {x_sis} {x_rcd} {x_pst}
    {x_pos} {x_dor} {x_map} {x_prf} {x_peer} {x_vis} {x_can} {x_rdn} {x_tce} {x_eth} {x_sse} {x_stq} {x_sec} {x_xsp}
    {x_hsp} {x_tst} (a : Nat) : Hw.nat ⟨x_env, x_fresh, x_reply, x_otp, h.regs, x_cpr, x_hdr, x_sis, x_rcd, x_pst,
    x_pos, x_dor, x_map, x_prf, x_peer, x_vis, x_can, x_rdn, x_tce, x_eth, x_sse, x_stq, x_sec, x_xsp, x_hsp, x_tst⟩
    a = h.nat a := rfl
@[simp] theorem Hw.int_upd (h : Hw) {x_env} {x_fresh} {x_reply} {x_otp} {x_cpr} {x_hdr} {x_sis} {x_rcd} {x_pst}
    {x_pos} {x_dor} {x_map} {x_prf} {x_peer} {x_vis} {x_can} {x_rdn} {x_tce} {x_eth} {x_sse} {x_stq} {x_sec} {x_xsp}
    {x_hsp} {x_tst} (a : Nat) : Hw.int ⟨x_env, x_fresh, x_reply, x_otp, h.regs, x_cpr, x_hdr, x_sis, x_rcd, x_pst,
    x_pos, x_dor, x_map, x_prf, x_peer, x_vis, x_can, x_rdn, x_tce, x_eth, x_sse, x_stq, x_sec, x_xsp, x_hsp, x_tst⟩
    a = h.int a := rfl
@[simp] theorem Hw.bitAt_upd (h : Hw) {x_env} {x_fresh} {x_reply} {x_otp} {x_cpr} {x_hdr} {x_sis} {x_rcd} {x_pst}
    {x_pos} {x_dor} {x_map} {x_prf} {x_peer} {x_vis} {x_can} {x_rdn} {x_tce} {x_eth} {x_sse} {x_stq} {x_sec} {x_xsp}
    {x_hsp} {x_tst} (a i : Nat) : Hw.bitAt ⟨x_env, x_fresh, x_reply, x_otp, h.regs, x_cpr, x_hdr, x_sis, x_rcd,
    x_pst, x_pos, x_dor, x_map, x_prf, x_peer, x_vis, x_can, x_rdn, x_tce, x_eth, x_sse, x_stq, x_sec, x_xsp, x_hsp,
    x_tst⟩ a i = h.bitAt a i := rfl
@[simp] theorem Hw.pair_upd (h : Hw) {x_env} {x_fresh} {x_reply} {x_otp} {x_cpr} {x_hdr} {x_sis} {x_rcd} {x_pst}
    {x_pos} {x_dor} {x_map} {x_prf} {x_peer} {x_vis} {x_can} {x_rdn} {x_tce} {x_eth} {x_sse} {x_stq} {x_sec} {x_xsp}
    {x_hsp} {x_tst} (a : Nat) : Hw.pair ⟨x_env, x_fresh, x_reply, x_otp, h.regs, x_cpr, x_hdr, x_sis, x_rcd, x_pst,
    x_pos, x_dor, x_map, x_prf, x_peer, x_vis, x_can, x_rdn, x_tce, x_eth, x_sse, x_stq, x_sec, x_xsp, x_hsp, x_tst⟩
    a = h.pair a := rfl
@[simp] theorem Hw.mode_upd (h : Hw) {x_env} {x_fresh} {x_reply} {x_otp} {x_cpr} {x_hdr} {x_sis} {x_rcd} {x_pst}
    {x_pos} {x_dor} {x_map} {x_prf} {x_peer} {x_vis} {x_can} {x_rdn} {x_tce} {x_eth} {x_sse} {x_stq} {x_sec} {x_xsp}
    {x_hsp} {x_tst} : Hw.mode ⟨x_env, x_fresh, x_reply, x_otp, h.regs, x_cpr, x_hdr, x_sis, x_rcd, x_pst, x_pos,
    x_dor, x_map, x_prf, x_peer, x_vis, x_can, x_rdn, x_tce, x_eth, x_sse, x_stq, x_sec, x_xsp, x_hsp, x_tst⟩ =
    h.mode := rfl
@[simp] theorem Hw.bolted_upd (h : Hw) {x_env} {x_fresh} {x_reply} {x_otp} {x_cpr} {x_hdr} {x_sis} {x_rcd} {x_pst}
    {x_pos} {x_dor} {x_map} {x_prf} {x_peer} {x_vis} {x_can} {x_rdn} {x_tce} {x_eth} {x_sse} {x_stq} {x_sec} {x_xsp}
    {x_hsp} {x_tst} (p : Nat) : Hw.bolted ⟨x_env, x_fresh, x_reply, x_otp, h.regs, x_cpr, x_hdr, x_sis, x_rcd,
    x_pst, x_pos, x_dor, x_map, x_prf, x_peer, x_vis, x_can, x_rdn, x_tce, x_eth, x_sse, x_stq, x_sec, x_xsp, x_hsp,
    x_tst⟩ p = h.bolted p := rfl
@[simp] theorem Hw.quiet_upd (h : Hw) {x_env} {x_fresh} {x_reply} {x_otp} {x_cpr} {x_hdr} {x_sis} {x_rcd} {x_pst}
    {x_pos} {x_dor} {x_map} {x_prf} {x_peer} {x_vis} {x_can} {x_rdn} {x_tce} {x_eth} {x_sse} {x_stq} {x_sec} {x_xsp}
    {x_hsp} {x_tst} (p : Nat) : Hw.quiet ⟨x_env, x_fresh, x_reply, x_otp, h.regs, x_cpr, x_hdr, x_sis, x_rcd, x_pst,
    x_pos, x_dor, x_map, x_prf, x_peer, x_vis, x_can, x_rdn, x_tce, x_eth, x_sse, x_stq, x_sec, x_xsp, x_hsp, x_tst⟩
    p = h.quiet p := rfl
@[simp] theorem Hw.running_upd (h : Hw) {x_env} {x_fresh} {x_reply} {x_otp} {x_cpr} {x_hdr} {x_sis} {x_rcd} {x_pst}
    {x_pos} {x_dor} {x_map} {x_prf} {x_peer} {x_vis} {x_can} {x_rdn} {x_tce} {x_eth} {x_sse} {x_stq} {x_sec} {x_xsp}
    {x_hsp} {x_tst} (p : Nat) : Hw.running ⟨x_env, x_fresh, x_reply, x_otp, h.regs, x_cpr, x_hdr, x_sis, x_rcd,
    x_pst, x_pos, x_dor, x_map, x_prf, x_peer, x_vis, x_can, x_rdn, x_tce, x_eth, x_sse, x_stq, x_sec, x_xsp, x_hsp,
    x_tst⟩ p = h.running p := rfl
@[simp] theorem Hw.sisOnlyOk_upd (h : Hw) {x_env} {x_fresh} {x_reply} {x_otp} {x_cpr} {x_hdr} {x_sis} {x_rcd}
    {x_pst} {x_pos} {x_dor} {x_map} {x_prf} {x_peer} {x_vis} {x_can} {x_rdn} {x_tce} {x_eth} {x_sse} {x_stq} {x_sec}
    {x_xsp} {x_hsp} {x_tst} (who : Who) (p : Nat) : Hw.sisOnlyOk ⟨x_env, x_fresh, x_reply, x_otp, h.regs, x_cpr,
    x_hdr, x_sis, x_rcd, x_pst, x_pos, x_dor, x_map, x_prf, x_peer, x_vis, x_can, x_rdn, x_tce, x_eth, x_sse, x_stq,
    x_sec, x_xsp, x_hsp, x_tst⟩ who p = h.sisOnlyOk who p := rfl
@[simp] theorem Hw.lockOk_upd (h : Hw) {x_env} {x_fresh} {x_reply} {x_otp} {x_cpr} {x_hdr} {x_sis} {x_rcd} {x_pst}
    {x_pos} {x_dor} {x_map} {x_prf} {x_peer} {x_vis} {x_can} {x_rdn} {x_tce} {x_eth} {x_sse} {x_stq} {x_sec} {x_xsp}
    {x_hsp} {x_tst} (who : Who) (p : Nat) : Hw.lockOk ⟨x_env, x_fresh, x_reply, x_otp, h.regs, x_cpr, x_hdr, x_sis,
    x_rcd, x_pst, x_pos, x_dor, x_map, x_prf, x_peer, x_vis, x_can, x_rdn, x_tce, x_eth, x_sse, x_stq, x_sec, x_xsp,
    x_hsp, x_tst⟩ who p = h.lockOk who p := rfl
@[simp] theorem Hw.isCar_upd (h : Hw) {x_env} {x_fresh} {x_reply} {x_otp} {x_cpr} {x_hdr} {x_sis} {x_rcd} {x_pst}
    {x_pos} {x_dor} {x_map} {x_prf} {x_peer} {x_vis} {x_can} {x_rdn} {x_tce} {x_eth} {x_sse} {x_stq} {x_sec} {x_xsp}
    {x_hsp} {x_tst} : Hw.isCar ⟨x_env, x_fresh, x_reply, x_otp, h.regs, x_cpr, x_hdr, x_sis, x_rcd, x_pst, x_pos,
    x_dor, x_map, x_prf, x_peer, x_vis, x_can, x_rdn, x_tce, x_eth, x_sse, x_stq, x_sec, x_xsp, x_hsp, x_tst⟩ =
    h.isCar := rfl
@[simp] theorem Hw.isMachine_upd (h : Hw) {x_env} {x_fresh} {x_reply} {x_otp} {x_cpr} {x_hdr} {x_sis} {x_rcd}
    {x_pst} {x_pos} {x_dor} {x_map} {x_prf} {x_peer} {x_vis} {x_can} {x_rdn} {x_tce} {x_eth} {x_sse} {x_stq} {x_sec}
    {x_xsp} {x_hsp} {x_tst} : Hw.isMachine ⟨x_env, x_fresh, x_reply, x_otp, h.regs, x_cpr, x_hdr, x_sis, x_rcd,
    x_pst, x_pos, x_dor, x_map, x_prf, x_peer, x_vis, x_can, x_rdn, x_tce, x_eth, x_sse, x_stq, x_sec, x_xsp, x_hsp,
    x_tst⟩ = h.isMachine := rfl

/-! ## Operations that write registers alone -/

@[simp] theorem Hw.setReg_env (h : Hw) (a : Nat) (v : Word) : (h.setReg a v).env = h.env := by
  unfold Hw.setReg; split <;> rfl
@[simp] theorem Hw.setReg_fresh (h : Hw) (a : Nat) (v : Word) : (h.setReg a v).fresh = h.fresh := by
  unfold Hw.setReg; split <;> rfl
@[simp] theorem Hw.setReg_reply (h : Hw) (a : Nat) (v : Word) : (h.setReg a v).reply = h.reply := by
  unfold Hw.setReg; split <;> rfl
@[simp] theorem Hw.setReg_otp (h : Hw) (a : Nat) (v : Word) : (h.setReg a v).otp = h.otp := by
  unfold Hw.setReg; split <;> rfl
@[simp] theorem Hw.setReg_cpr (h : Hw) (a : Nat) (v : Word) : (h.setReg a v).cpr = h.cpr := by
  unfold Hw.setReg; split <;> rfl
@[simp] theorem Hw.setReg_hdr (h : Hw) (a : Nat) (v : Word) : (h.setReg a v).hdr = h.hdr := by
  unfold Hw.setReg; split <;> rfl
@[simp] theorem Hw.setReg_sis (h : Hw) (a : Nat) (v : Word) : (h.setReg a v).sis = h.sis := by
  unfold Hw.setReg; split <;> rfl
@[simp] theorem Hw.setReg_rcd (h : Hw) (a : Nat) (v : Word) : (h.setReg a v).rcd = h.rcd := by
  unfold Hw.setReg; split <;> rfl
@[simp] theorem Hw.setReg_pst (h : Hw) (a : Nat) (v : Word) : (h.setReg a v).pst = h.pst := by
  unfold Hw.setReg; split <;> rfl
@[simp] theorem Hw.setReg_pos (h : Hw) (a : Nat) (v : Word) : (h.setReg a v).pos = h.pos := by
  unfold Hw.setReg; split <;> rfl
@[simp] theorem Hw.setReg_dor (h : Hw) (a : Nat) (v : Word) : (h.setReg a v).dor = h.dor := by
  unfold Hw.setReg; split <;> rfl
@[simp] theorem Hw.setReg_map (h : Hw) (a : Nat) (v : Word) : (h.setReg a v).map = h.map := by
  unfold Hw.setReg; split <;> rfl
@[simp] theorem Hw.setReg_prf (h : Hw) (a : Nat) (v : Word) : (h.setReg a v).prf = h.prf := by
  unfold Hw.setReg; split <;> rfl
@[simp] theorem Hw.setReg_peer (h : Hw) (a : Nat) (v : Word) : (h.setReg a v).peer = h.peer := by
  unfold Hw.setReg; split <;> rfl
@[simp] theorem Hw.setReg_vis (h : Hw) (a : Nat) (v : Word) : (h.setReg a v).vis = h.vis := by
  unfold Hw.setReg; split <;> rfl
@[simp] theorem Hw.setReg_can (h : Hw) (a : Nat) (v : Word) : (h.setReg a v).can = h.can := by
  unfold Hw.setReg; split <;> rfl
@[simp] theorem Hw.setReg_rdn (h : Hw) (a : Nat) (v : Word) : (h.setReg a v).rdn = h.rdn := by
  unfold Hw.setReg; split <;> rfl
@[simp] theorem Hw.setReg_tce (h : Hw) (a : Nat) (v : Word) : (h.setReg a v).tce = h.tce := by
  unfold Hw.setReg; split <;> rfl
@[simp] theorem Hw.setReg_eth (h : Hw) (a : Nat) (v : Word) : (h.setReg a v).eth = h.eth := by
  unfold Hw.setReg; split <;> rfl
@[simp] theorem Hw.setReg_sse (h : Hw) (a : Nat) (v : Word) : (h.setReg a v).sse = h.sse := by
  unfold Hw.setReg; split <;> rfl
@[simp] theorem Hw.setReg_stq (h : Hw) (a : Nat) (v : Word) : (h.setReg a v).stq = h.stq := by
  unfold Hw.setReg; split <;> rfl
@[simp] theorem Hw.setReg_sec (h : Hw) (a : Nat) (v : Word) : (h.setReg a v).sec = h.sec := by
  unfold Hw.setReg; split <;> rfl
@[simp] theorem Hw.setReg_xsp (h : Hw) (a : Nat) (v : Word) : (h.setReg a v).xsp = h.xsp := by
  unfold Hw.setReg; split <;> rfl
@[simp] theorem Hw.setReg_hsp (h : Hw) (a : Nat) (v : Word) : (h.setReg a v).hsp = h.hsp := by
  unfold Hw.setReg; split <;> rfl
@[simp] theorem Hw.setReg_tst (h : Hw) (a : Nat) (v : Word) : (h.setReg a v).tst = h.tst := by
  unfold Hw.setReg; split <;> rfl
@[simp] theorem Hw.wr_env (h : Hw) (f : Field) (v : Nat) : (h.wr f v).env = h.env := Hw.setReg_env ..
@[simp] theorem Hw.wr_fresh (h : Hw) (f : Field) (v : Nat) : (h.wr f v).fresh = h.fresh := Hw.setReg_fresh ..
@[simp] theorem Hw.wr_reply (h : Hw) (f : Field) (v : Nat) : (h.wr f v).reply = h.reply := Hw.setReg_reply ..
@[simp] theorem Hw.wr_otp (h : Hw) (f : Field) (v : Nat) : (h.wr f v).otp = h.otp := Hw.setReg_otp ..
@[simp] theorem Hw.wr_cpr (h : Hw) (f : Field) (v : Nat) : (h.wr f v).cpr = h.cpr := Hw.setReg_cpr ..
@[simp] theorem Hw.wr_hdr (h : Hw) (f : Field) (v : Nat) : (h.wr f v).hdr = h.hdr := Hw.setReg_hdr ..
@[simp] theorem Hw.wr_sis (h : Hw) (f : Field) (v : Nat) : (h.wr f v).sis = h.sis := Hw.setReg_sis ..
@[simp] theorem Hw.wr_rcd (h : Hw) (f : Field) (v : Nat) : (h.wr f v).rcd = h.rcd := Hw.setReg_rcd ..
@[simp] theorem Hw.wr_pst (h : Hw) (f : Field) (v : Nat) : (h.wr f v).pst = h.pst := Hw.setReg_pst ..
@[simp] theorem Hw.wr_pos (h : Hw) (f : Field) (v : Nat) : (h.wr f v).pos = h.pos := Hw.setReg_pos ..
@[simp] theorem Hw.wr_dor (h : Hw) (f : Field) (v : Nat) : (h.wr f v).dor = h.dor := Hw.setReg_dor ..
@[simp] theorem Hw.wr_map (h : Hw) (f : Field) (v : Nat) : (h.wr f v).map = h.map := Hw.setReg_map ..
@[simp] theorem Hw.wr_prf (h : Hw) (f : Field) (v : Nat) : (h.wr f v).prf = h.prf := Hw.setReg_prf ..
@[simp] theorem Hw.wr_peer (h : Hw) (f : Field) (v : Nat) : (h.wr f v).peer = h.peer := Hw.setReg_peer ..
@[simp] theorem Hw.wr_vis (h : Hw) (f : Field) (v : Nat) : (h.wr f v).vis = h.vis := Hw.setReg_vis ..
@[simp] theorem Hw.wr_can (h : Hw) (f : Field) (v : Nat) : (h.wr f v).can = h.can := Hw.setReg_can ..
@[simp] theorem Hw.wr_rdn (h : Hw) (f : Field) (v : Nat) : (h.wr f v).rdn = h.rdn := Hw.setReg_rdn ..
@[simp] theorem Hw.wr_tce (h : Hw) (f : Field) (v : Nat) : (h.wr f v).tce = h.tce := Hw.setReg_tce ..
@[simp] theorem Hw.wr_eth (h : Hw) (f : Field) (v : Nat) : (h.wr f v).eth = h.eth := Hw.setReg_eth ..
@[simp] theorem Hw.wr_sse (h : Hw) (f : Field) (v : Nat) : (h.wr f v).sse = h.sse := Hw.setReg_sse ..
@[simp] theorem Hw.wr_stq (h : Hw) (f : Field) (v : Nat) : (h.wr f v).stq = h.stq := Hw.setReg_stq ..
@[simp] theorem Hw.wr_sec (h : Hw) (f : Field) (v : Nat) : (h.wr f v).sec = h.sec := Hw.setReg_sec ..
@[simp] theorem Hw.wr_xsp (h : Hw) (f : Field) (v : Nat) : (h.wr f v).xsp = h.xsp := Hw.setReg_xsp ..
@[simp] theorem Hw.wr_hsp (h : Hw) (f : Field) (v : Nat) : (h.wr f v).hsp = h.hsp := Hw.setReg_hsp ..
@[simp] theorem Hw.wr_tst (h : Hw) (f : Field) (v : Nat) : (h.wr f v).tst = h.tst := Hw.setReg_tst ..
@[simp] theorem Hw.setNat_env (h : Hw) (a n : Nat) : (h.setNat a n).env = h.env := Hw.setReg_env ..
@[simp] theorem Hw.setNat_fresh (h : Hw) (a n : Nat) : (h.setNat a n).fresh = h.fresh := Hw.setReg_fresh ..
@[simp] theorem Hw.setNat_reply (h : Hw) (a n : Nat) : (h.setNat a n).reply = h.reply := Hw.setReg_reply ..
@[simp] theorem Hw.setNat_otp (h : Hw) (a n : Nat) : (h.setNat a n).otp = h.otp := Hw.setReg_otp ..
@[simp] theorem Hw.setNat_cpr (h : Hw) (a n : Nat) : (h.setNat a n).cpr = h.cpr := Hw.setReg_cpr ..
@[simp] theorem Hw.setNat_hdr (h : Hw) (a n : Nat) : (h.setNat a n).hdr = h.hdr := Hw.setReg_hdr ..
@[simp] theorem Hw.setNat_sis (h : Hw) (a n : Nat) : (h.setNat a n).sis = h.sis := Hw.setReg_sis ..
@[simp] theorem Hw.setNat_rcd (h : Hw) (a n : Nat) : (h.setNat a n).rcd = h.rcd := Hw.setReg_rcd ..
@[simp] theorem Hw.setNat_pst (h : Hw) (a n : Nat) : (h.setNat a n).pst = h.pst := Hw.setReg_pst ..
@[simp] theorem Hw.setNat_pos (h : Hw) (a n : Nat) : (h.setNat a n).pos = h.pos := Hw.setReg_pos ..
@[simp] theorem Hw.setNat_dor (h : Hw) (a n : Nat) : (h.setNat a n).dor = h.dor := Hw.setReg_dor ..
@[simp] theorem Hw.setNat_map (h : Hw) (a n : Nat) : (h.setNat a n).map = h.map := Hw.setReg_map ..
@[simp] theorem Hw.setNat_prf (h : Hw) (a n : Nat) : (h.setNat a n).prf = h.prf := Hw.setReg_prf ..
@[simp] theorem Hw.setNat_peer (h : Hw) (a n : Nat) : (h.setNat a n).peer = h.peer := Hw.setReg_peer ..
@[simp] theorem Hw.setNat_vis (h : Hw) (a n : Nat) : (h.setNat a n).vis = h.vis := Hw.setReg_vis ..
@[simp] theorem Hw.setNat_can (h : Hw) (a n : Nat) : (h.setNat a n).can = h.can := Hw.setReg_can ..
@[simp] theorem Hw.setNat_rdn (h : Hw) (a n : Nat) : (h.setNat a n).rdn = h.rdn := Hw.setReg_rdn ..
@[simp] theorem Hw.setNat_tce (h : Hw) (a n : Nat) : (h.setNat a n).tce = h.tce := Hw.setReg_tce ..
@[simp] theorem Hw.setNat_eth (h : Hw) (a n : Nat) : (h.setNat a n).eth = h.eth := Hw.setReg_eth ..
@[simp] theorem Hw.setNat_sse (h : Hw) (a n : Nat) : (h.setNat a n).sse = h.sse := Hw.setReg_sse ..
@[simp] theorem Hw.setNat_stq (h : Hw) (a n : Nat) : (h.setNat a n).stq = h.stq := Hw.setReg_stq ..
@[simp] theorem Hw.setNat_sec (h : Hw) (a n : Nat) : (h.setNat a n).sec = h.sec := Hw.setReg_sec ..
@[simp] theorem Hw.setNat_xsp (h : Hw) (a n : Nat) : (h.setNat a n).xsp = h.xsp := Hw.setReg_xsp ..
@[simp] theorem Hw.setNat_hsp (h : Hw) (a n : Nat) : (h.setNat a n).hsp = h.hsp := Hw.setReg_hsp ..
@[simp] theorem Hw.setNat_tst (h : Hw) (a n : Nat) : (h.setNat a n).tst = h.tst := Hw.setReg_tst ..
@[simp] theorem Hw.setInt_env (h : Hw) (a : Nat) (i : Int) : (h.setInt a i).env = h.env := Hw.setReg_env ..
@[simp] theorem Hw.setInt_fresh (h : Hw) (a : Nat) (i : Int) : (h.setInt a i).fresh = h.fresh := Hw.setReg_fresh ..
@[simp] theorem Hw.setInt_reply (h : Hw) (a : Nat) (i : Int) : (h.setInt a i).reply = h.reply := Hw.setReg_reply ..
@[simp] theorem Hw.setInt_otp (h : Hw) (a : Nat) (i : Int) : (h.setInt a i).otp = h.otp := Hw.setReg_otp ..
@[simp] theorem Hw.setInt_cpr (h : Hw) (a : Nat) (i : Int) : (h.setInt a i).cpr = h.cpr := Hw.setReg_cpr ..
@[simp] theorem Hw.setInt_hdr (h : Hw) (a : Nat) (i : Int) : (h.setInt a i).hdr = h.hdr := Hw.setReg_hdr ..
@[simp] theorem Hw.setInt_sis (h : Hw) (a : Nat) (i : Int) : (h.setInt a i).sis = h.sis := Hw.setReg_sis ..
@[simp] theorem Hw.setInt_rcd (h : Hw) (a : Nat) (i : Int) : (h.setInt a i).rcd = h.rcd := Hw.setReg_rcd ..
@[simp] theorem Hw.setInt_pst (h : Hw) (a : Nat) (i : Int) : (h.setInt a i).pst = h.pst := Hw.setReg_pst ..
@[simp] theorem Hw.setInt_pos (h : Hw) (a : Nat) (i : Int) : (h.setInt a i).pos = h.pos := Hw.setReg_pos ..
@[simp] theorem Hw.setInt_dor (h : Hw) (a : Nat) (i : Int) : (h.setInt a i).dor = h.dor := Hw.setReg_dor ..
@[simp] theorem Hw.setInt_map (h : Hw) (a : Nat) (i : Int) : (h.setInt a i).map = h.map := Hw.setReg_map ..
@[simp] theorem Hw.setInt_prf (h : Hw) (a : Nat) (i : Int) : (h.setInt a i).prf = h.prf := Hw.setReg_prf ..
@[simp] theorem Hw.setInt_peer (h : Hw) (a : Nat) (i : Int) : (h.setInt a i).peer = h.peer := Hw.setReg_peer ..
@[simp] theorem Hw.setInt_vis (h : Hw) (a : Nat) (i : Int) : (h.setInt a i).vis = h.vis := Hw.setReg_vis ..
@[simp] theorem Hw.setInt_can (h : Hw) (a : Nat) (i : Int) : (h.setInt a i).can = h.can := Hw.setReg_can ..
@[simp] theorem Hw.setInt_rdn (h : Hw) (a : Nat) (i : Int) : (h.setInt a i).rdn = h.rdn := Hw.setReg_rdn ..
@[simp] theorem Hw.setInt_tce (h : Hw) (a : Nat) (i : Int) : (h.setInt a i).tce = h.tce := Hw.setReg_tce ..
@[simp] theorem Hw.setInt_eth (h : Hw) (a : Nat) (i : Int) : (h.setInt a i).eth = h.eth := Hw.setReg_eth ..
@[simp] theorem Hw.setInt_sse (h : Hw) (a : Nat) (i : Int) : (h.setInt a i).sse = h.sse := Hw.setReg_sse ..
@[simp] theorem Hw.setInt_stq (h : Hw) (a : Nat) (i : Int) : (h.setInt a i).stq = h.stq := Hw.setReg_stq ..
@[simp] theorem Hw.setInt_sec (h : Hw) (a : Nat) (i : Int) : (h.setInt a i).sec = h.sec := Hw.setReg_sec ..
@[simp] theorem Hw.setInt_xsp (h : Hw) (a : Nat) (i : Int) : (h.setInt a i).xsp = h.xsp := Hw.setReg_xsp ..
@[simp] theorem Hw.setInt_hsp (h : Hw) (a : Nat) (i : Int) : (h.setInt a i).hsp = h.hsp := Hw.setReg_hsp ..
@[simp] theorem Hw.setInt_tst (h : Hw) (a : Nat) (i : Int) : (h.setInt a i).tst = h.tst := Hw.setReg_tst ..
@[simp] theorem Hw.setBitAt_env (h : Hw) (a i : Nat) (b : Bool) : (h.setBitAt a i b).env = h.env := Hw.setReg_env ..
@[simp] theorem Hw.setBitAt_fresh (h : Hw) (a i : Nat) (b : Bool) : (h.setBitAt a i b).fresh = h.fresh :=
    Hw.setReg_fresh ..
@[simp] theorem Hw.setBitAt_reply (h : Hw) (a i : Nat) (b : Bool) : (h.setBitAt a i b).reply = h.reply :=
    Hw.setReg_reply ..
@[simp] theorem Hw.setBitAt_otp (h : Hw) (a i : Nat) (b : Bool) : (h.setBitAt a i b).otp = h.otp := Hw.setReg_otp ..
@[simp] theorem Hw.setBitAt_cpr (h : Hw) (a i : Nat) (b : Bool) : (h.setBitAt a i b).cpr = h.cpr := Hw.setReg_cpr ..
@[simp] theorem Hw.setBitAt_hdr (h : Hw) (a i : Nat) (b : Bool) : (h.setBitAt a i b).hdr = h.hdr := Hw.setReg_hdr ..
@[simp] theorem Hw.setBitAt_sis (h : Hw) (a i : Nat) (b : Bool) : (h.setBitAt a i b).sis = h.sis := Hw.setReg_sis ..
@[simp] theorem Hw.setBitAt_rcd (h : Hw) (a i : Nat) (b : Bool) : (h.setBitAt a i b).rcd = h.rcd := Hw.setReg_rcd ..
@[simp] theorem Hw.setBitAt_pst (h : Hw) (a i : Nat) (b : Bool) : (h.setBitAt a i b).pst = h.pst := Hw.setReg_pst ..
@[simp] theorem Hw.setBitAt_pos (h : Hw) (a i : Nat) (b : Bool) : (h.setBitAt a i b).pos = h.pos := Hw.setReg_pos ..
@[simp] theorem Hw.setBitAt_dor (h : Hw) (a i : Nat) (b : Bool) : (h.setBitAt a i b).dor = h.dor := Hw.setReg_dor ..
@[simp] theorem Hw.setBitAt_map (h : Hw) (a i : Nat) (b : Bool) : (h.setBitAt a i b).map = h.map := Hw.setReg_map ..
@[simp] theorem Hw.setBitAt_prf (h : Hw) (a i : Nat) (b : Bool) : (h.setBitAt a i b).prf = h.prf := Hw.setReg_prf ..
@[simp] theorem Hw.setBitAt_peer (h : Hw) (a i : Nat) (b : Bool) : (h.setBitAt a i b).peer = h.peer :=
    Hw.setReg_peer ..
@[simp] theorem Hw.setBitAt_vis (h : Hw) (a i : Nat) (b : Bool) : (h.setBitAt a i b).vis = h.vis := Hw.setReg_vis ..
@[simp] theorem Hw.setBitAt_can (h : Hw) (a i : Nat) (b : Bool) : (h.setBitAt a i b).can = h.can := Hw.setReg_can ..
@[simp] theorem Hw.setBitAt_rdn (h : Hw) (a i : Nat) (b : Bool) : (h.setBitAt a i b).rdn = h.rdn := Hw.setReg_rdn ..
@[simp] theorem Hw.setBitAt_tce (h : Hw) (a i : Nat) (b : Bool) : (h.setBitAt a i b).tce = h.tce := Hw.setReg_tce ..
@[simp] theorem Hw.setBitAt_eth (h : Hw) (a i : Nat) (b : Bool) : (h.setBitAt a i b).eth = h.eth := Hw.setReg_eth ..
@[simp] theorem Hw.setBitAt_sse (h : Hw) (a i : Nat) (b : Bool) : (h.setBitAt a i b).sse = h.sse := Hw.setReg_sse ..
@[simp] theorem Hw.setBitAt_stq (h : Hw) (a i : Nat) (b : Bool) : (h.setBitAt a i b).stq = h.stq := Hw.setReg_stq ..
@[simp] theorem Hw.setBitAt_sec (h : Hw) (a i : Nat) (b : Bool) : (h.setBitAt a i b).sec = h.sec := Hw.setReg_sec ..
@[simp] theorem Hw.setBitAt_xsp (h : Hw) (a i : Nat) (b : Bool) : (h.setBitAt a i b).xsp = h.xsp := Hw.setReg_xsp ..
@[simp] theorem Hw.setBitAt_hsp (h : Hw) (a i : Nat) (b : Bool) : (h.setBitAt a i b).hsp = h.hsp := Hw.setReg_hsp ..
@[simp] theorem Hw.setBitAt_tst (h : Hw) (a i : Nat) (b : Bool) : (h.setBitAt a i b).tst = h.tst := Hw.setReg_tst ..
@[simp] theorem Hw.irq_env (h : Hw) (p b : Nat) : (h.irq p b).env = h.env := Hw.setReg_env ..
@[simp] theorem Hw.irq_fresh (h : Hw) (p b : Nat) : (h.irq p b).fresh = h.fresh := Hw.setReg_fresh ..
@[simp] theorem Hw.irq_reply (h : Hw) (p b : Nat) : (h.irq p b).reply = h.reply := Hw.setReg_reply ..
@[simp] theorem Hw.irq_otp (h : Hw) (p b : Nat) : (h.irq p b).otp = h.otp := Hw.setReg_otp ..
@[simp] theorem Hw.irq_cpr (h : Hw) (p b : Nat) : (h.irq p b).cpr = h.cpr := Hw.setReg_cpr ..
@[simp] theorem Hw.irq_hdr (h : Hw) (p b : Nat) : (h.irq p b).hdr = h.hdr := Hw.setReg_hdr ..
@[simp] theorem Hw.irq_sis (h : Hw) (p b : Nat) : (h.irq p b).sis = h.sis := Hw.setReg_sis ..
@[simp] theorem Hw.irq_rcd (h : Hw) (p b : Nat) : (h.irq p b).rcd = h.rcd := Hw.setReg_rcd ..
@[simp] theorem Hw.irq_pst (h : Hw) (p b : Nat) : (h.irq p b).pst = h.pst := Hw.setReg_pst ..
@[simp] theorem Hw.irq_pos (h : Hw) (p b : Nat) : (h.irq p b).pos = h.pos := Hw.setReg_pos ..
@[simp] theorem Hw.irq_dor (h : Hw) (p b : Nat) : (h.irq p b).dor = h.dor := Hw.setReg_dor ..
@[simp] theorem Hw.irq_map (h : Hw) (p b : Nat) : (h.irq p b).map = h.map := Hw.setReg_map ..
@[simp] theorem Hw.irq_prf (h : Hw) (p b : Nat) : (h.irq p b).prf = h.prf := Hw.setReg_prf ..
@[simp] theorem Hw.irq_peer (h : Hw) (p b : Nat) : (h.irq p b).peer = h.peer := Hw.setReg_peer ..
@[simp] theorem Hw.irq_vis (h : Hw) (p b : Nat) : (h.irq p b).vis = h.vis := Hw.setReg_vis ..
@[simp] theorem Hw.irq_can (h : Hw) (p b : Nat) : (h.irq p b).can = h.can := Hw.setReg_can ..
@[simp] theorem Hw.irq_rdn (h : Hw) (p b : Nat) : (h.irq p b).rdn = h.rdn := Hw.setReg_rdn ..
@[simp] theorem Hw.irq_tce (h : Hw) (p b : Nat) : (h.irq p b).tce = h.tce := Hw.setReg_tce ..
@[simp] theorem Hw.irq_eth (h : Hw) (p b : Nat) : (h.irq p b).eth = h.eth := Hw.setReg_eth ..
@[simp] theorem Hw.irq_sse (h : Hw) (p b : Nat) : (h.irq p b).sse = h.sse := Hw.setReg_sse ..
@[simp] theorem Hw.irq_stq (h : Hw) (p b : Nat) : (h.irq p b).stq = h.stq := Hw.setReg_stq ..
@[simp] theorem Hw.irq_sec (h : Hw) (p b : Nat) : (h.irq p b).sec = h.sec := Hw.setReg_sec ..
@[simp] theorem Hw.irq_xsp (h : Hw) (p b : Nat) : (h.irq p b).xsp = h.xsp := Hw.setReg_xsp ..
@[simp] theorem Hw.irq_hsp (h : Hw) (p b : Nat) : (h.irq p b).hsp = h.hsp := Hw.setReg_hsp ..
@[simp] theorem Hw.irq_tst (h : Hw) (p b : Nat) : (h.irq p b).tst = h.tst := Hw.setReg_tst ..
@[simp] theorem Hw.blockFault_env (h : Hw) (p b : Nat) : (h.blockFault p b).env = h.env := (Hw.setReg_env ..).trans
    (Hw.setReg_env ..)
@[simp] theorem Hw.blockFault_fresh (h : Hw) (p b : Nat) : (h.blockFault p b).fresh = h.fresh := (Hw.setReg_fresh
    ..).trans (Hw.setReg_fresh ..)
@[simp] theorem Hw.blockFault_reply (h : Hw) (p b : Nat) : (h.blockFault p b).reply = h.reply := (Hw.setReg_reply
    ..).trans (Hw.setReg_reply ..)
@[simp] theorem Hw.blockFault_otp (h : Hw) (p b : Nat) : (h.blockFault p b).otp = h.otp := (Hw.setReg_otp ..).trans
    (Hw.setReg_otp ..)
@[simp] theorem Hw.blockFault_cpr (h : Hw) (p b : Nat) : (h.blockFault p b).cpr = h.cpr := (Hw.setReg_cpr ..).trans
    (Hw.setReg_cpr ..)
@[simp] theorem Hw.blockFault_hdr (h : Hw) (p b : Nat) : (h.blockFault p b).hdr = h.hdr := (Hw.setReg_hdr ..).trans
    (Hw.setReg_hdr ..)
@[simp] theorem Hw.blockFault_sis (h : Hw) (p b : Nat) : (h.blockFault p b).sis = h.sis := (Hw.setReg_sis ..).trans
    (Hw.setReg_sis ..)
@[simp] theorem Hw.blockFault_rcd (h : Hw) (p b : Nat) : (h.blockFault p b).rcd = h.rcd := (Hw.setReg_rcd ..).trans
    (Hw.setReg_rcd ..)
@[simp] theorem Hw.blockFault_pst (h : Hw) (p b : Nat) : (h.blockFault p b).pst = h.pst := (Hw.setReg_pst ..).trans
    (Hw.setReg_pst ..)
@[simp] theorem Hw.blockFault_pos (h : Hw) (p b : Nat) : (h.blockFault p b).pos = h.pos := (Hw.setReg_pos ..).trans
    (Hw.setReg_pos ..)
@[simp] theorem Hw.blockFault_dor (h : Hw) (p b : Nat) : (h.blockFault p b).dor = h.dor := (Hw.setReg_dor ..).trans
    (Hw.setReg_dor ..)
@[simp] theorem Hw.blockFault_map (h : Hw) (p b : Nat) : (h.blockFault p b).map = h.map := (Hw.setReg_map ..).trans
    (Hw.setReg_map ..)
@[simp] theorem Hw.blockFault_prf (h : Hw) (p b : Nat) : (h.blockFault p b).prf = h.prf := (Hw.setReg_prf ..).trans
    (Hw.setReg_prf ..)
@[simp] theorem Hw.blockFault_peer (h : Hw) (p b : Nat) : (h.blockFault p b).peer = h.peer := (Hw.setReg_peer
    ..).trans (Hw.setReg_peer ..)
@[simp] theorem Hw.blockFault_vis (h : Hw) (p b : Nat) : (h.blockFault p b).vis = h.vis := (Hw.setReg_vis ..).trans
    (Hw.setReg_vis ..)
@[simp] theorem Hw.blockFault_can (h : Hw) (p b : Nat) : (h.blockFault p b).can = h.can := (Hw.setReg_can ..).trans
    (Hw.setReg_can ..)
@[simp] theorem Hw.blockFault_rdn (h : Hw) (p b : Nat) : (h.blockFault p b).rdn = h.rdn := (Hw.setReg_rdn ..).trans
    (Hw.setReg_rdn ..)
@[simp] theorem Hw.blockFault_tce (h : Hw) (p b : Nat) : (h.blockFault p b).tce = h.tce := (Hw.setReg_tce ..).trans
    (Hw.setReg_tce ..)
@[simp] theorem Hw.blockFault_eth (h : Hw) (p b : Nat) : (h.blockFault p b).eth = h.eth := (Hw.setReg_eth ..).trans
    (Hw.setReg_eth ..)
@[simp] theorem Hw.blockFault_sse (h : Hw) (p b : Nat) : (h.blockFault p b).sse = h.sse := (Hw.setReg_sse ..).trans
    (Hw.setReg_sse ..)
@[simp] theorem Hw.blockFault_stq (h : Hw) (p b : Nat) : (h.blockFault p b).stq = h.stq := (Hw.setReg_stq ..).trans
    (Hw.setReg_stq ..)
@[simp] theorem Hw.blockFault_sec (h : Hw) (p b : Nat) : (h.blockFault p b).sec = h.sec := (Hw.setReg_sec ..).trans
    (Hw.setReg_sec ..)
@[simp] theorem Hw.blockFault_xsp (h : Hw) (p b : Nat) : (h.blockFault p b).xsp = h.xsp := (Hw.setReg_xsp ..).trans
    (Hw.setReg_xsp ..)
@[simp] theorem Hw.blockFault_hsp (h : Hw) (p b : Nat) : (h.blockFault p b).hsp = h.hsp := (Hw.setReg_hsp ..).trans
    (Hw.setReg_hsp ..)
@[simp] theorem Hw.blockFault_tst (h : Hw) (p b : Nat) : (h.blockFault p b).tst = h.tst := (Hw.setReg_tst ..).trans
    (Hw.setReg_tst ..)
@[simp] theorem Hw.bump_env (h : Hw) (f : Field) (k : Nat) : (h.bump f k).env = h.env := Hw.setReg_env ..
@[simp] theorem Hw.bump_fresh (h : Hw) (f : Field) (k : Nat) : (h.bump f k).fresh = h.fresh := Hw.setReg_fresh ..
@[simp] theorem Hw.bump_reply (h : Hw) (f : Field) (k : Nat) : (h.bump f k).reply = h.reply := Hw.setReg_reply ..
@[simp] theorem Hw.bump_otp (h : Hw) (f : Field) (k : Nat) : (h.bump f k).otp = h.otp := Hw.setReg_otp ..
@[simp] theorem Hw.bump_cpr (h : Hw) (f : Field) (k : Nat) : (h.bump f k).cpr = h.cpr := Hw.setReg_cpr ..
@[simp] theorem Hw.bump_hdr (h : Hw) (f : Field) (k : Nat) : (h.bump f k).hdr = h.hdr := Hw.setReg_hdr ..
@[simp] theorem Hw.bump_sis (h : Hw) (f : Field) (k : Nat) : (h.bump f k).sis = h.sis := Hw.setReg_sis ..
@[simp] theorem Hw.bump_rcd (h : Hw) (f : Field) (k : Nat) : (h.bump f k).rcd = h.rcd := Hw.setReg_rcd ..
@[simp] theorem Hw.bump_pst (h : Hw) (f : Field) (k : Nat) : (h.bump f k).pst = h.pst := Hw.setReg_pst ..
@[simp] theorem Hw.bump_pos (h : Hw) (f : Field) (k : Nat) : (h.bump f k).pos = h.pos := Hw.setReg_pos ..
@[simp] theorem Hw.bump_dor (h : Hw) (f : Field) (k : Nat) : (h.bump f k).dor = h.dor := Hw.setReg_dor ..
@[simp] theorem Hw.bump_map (h : Hw) (f : Field) (k : Nat) : (h.bump f k).map = h.map := Hw.setReg_map ..
@[simp] theorem Hw.bump_prf (h : Hw) (f : Field) (k : Nat) : (h.bump f k).prf = h.prf := Hw.setReg_prf ..
@[simp] theorem Hw.bump_peer (h : Hw) (f : Field) (k : Nat) : (h.bump f k).peer = h.peer := Hw.setReg_peer ..
@[simp] theorem Hw.bump_vis (h : Hw) (f : Field) (k : Nat) : (h.bump f k).vis = h.vis := Hw.setReg_vis ..
@[simp] theorem Hw.bump_can (h : Hw) (f : Field) (k : Nat) : (h.bump f k).can = h.can := Hw.setReg_can ..
@[simp] theorem Hw.bump_rdn (h : Hw) (f : Field) (k : Nat) : (h.bump f k).rdn = h.rdn := Hw.setReg_rdn ..
@[simp] theorem Hw.bump_tce (h : Hw) (f : Field) (k : Nat) : (h.bump f k).tce = h.tce := Hw.setReg_tce ..
@[simp] theorem Hw.bump_eth (h : Hw) (f : Field) (k : Nat) : (h.bump f k).eth = h.eth := Hw.setReg_eth ..
@[simp] theorem Hw.bump_sse (h : Hw) (f : Field) (k : Nat) : (h.bump f k).sse = h.sse := Hw.setReg_sse ..
@[simp] theorem Hw.bump_stq (h : Hw) (f : Field) (k : Nat) : (h.bump f k).stq = h.stq := Hw.setReg_stq ..
@[simp] theorem Hw.bump_sec (h : Hw) (f : Field) (k : Nat) : (h.bump f k).sec = h.sec := Hw.setReg_sec ..
@[simp] theorem Hw.bump_xsp (h : Hw) (f : Field) (k : Nat) : (h.bump f k).xsp = h.xsp := Hw.setReg_xsp ..
@[simp] theorem Hw.bump_hsp (h : Hw) (f : Field) (k : Nat) : (h.bump f k).hsp = h.hsp := Hw.setReg_hsp ..
@[simp] theorem Hw.bump_tst (h : Hw) (f : Field) (k : Nat) : (h.bump f k).tst = h.tst := Hw.setReg_tst ..
@[simp] theorem Hw.setPair_env (h : Hw) (a n : Nat) : (h.setPair a n).env = h.env := (Hw.setReg_env ..).trans
    (Hw.setReg_env ..)
@[simp] theorem Hw.setPair_fresh (h : Hw) (a n : Nat) : (h.setPair a n).fresh = h.fresh := (Hw.setReg_fresh
    ..).trans (Hw.setReg_fresh ..)
@[simp] theorem Hw.setPair_reply (h : Hw) (a n : Nat) : (h.setPair a n).reply = h.reply := (Hw.setReg_reply
    ..).trans (Hw.setReg_reply ..)
@[simp] theorem Hw.setPair_otp (h : Hw) (a n : Nat) : (h.setPair a n).otp = h.otp := (Hw.setReg_otp ..).trans
    (Hw.setReg_otp ..)
@[simp] theorem Hw.setPair_cpr (h : Hw) (a n : Nat) : (h.setPair a n).cpr = h.cpr := (Hw.setReg_cpr ..).trans
    (Hw.setReg_cpr ..)
@[simp] theorem Hw.setPair_hdr (h : Hw) (a n : Nat) : (h.setPair a n).hdr = h.hdr := (Hw.setReg_hdr ..).trans
    (Hw.setReg_hdr ..)
@[simp] theorem Hw.setPair_sis (h : Hw) (a n : Nat) : (h.setPair a n).sis = h.sis := (Hw.setReg_sis ..).trans
    (Hw.setReg_sis ..)
@[simp] theorem Hw.setPair_rcd (h : Hw) (a n : Nat) : (h.setPair a n).rcd = h.rcd := (Hw.setReg_rcd ..).trans
    (Hw.setReg_rcd ..)
@[simp] theorem Hw.setPair_pst (h : Hw) (a n : Nat) : (h.setPair a n).pst = h.pst := (Hw.setReg_pst ..).trans
    (Hw.setReg_pst ..)
@[simp] theorem Hw.setPair_pos (h : Hw) (a n : Nat) : (h.setPair a n).pos = h.pos := (Hw.setReg_pos ..).trans
    (Hw.setReg_pos ..)
@[simp] theorem Hw.setPair_dor (h : Hw) (a n : Nat) : (h.setPair a n).dor = h.dor := (Hw.setReg_dor ..).trans
    (Hw.setReg_dor ..)
@[simp] theorem Hw.setPair_map (h : Hw) (a n : Nat) : (h.setPair a n).map = h.map := (Hw.setReg_map ..).trans
    (Hw.setReg_map ..)
@[simp] theorem Hw.setPair_prf (h : Hw) (a n : Nat) : (h.setPair a n).prf = h.prf := (Hw.setReg_prf ..).trans
    (Hw.setReg_prf ..)
@[simp] theorem Hw.setPair_peer (h : Hw) (a n : Nat) : (h.setPair a n).peer = h.peer := (Hw.setReg_peer ..).trans
    (Hw.setReg_peer ..)
@[simp] theorem Hw.setPair_vis (h : Hw) (a n : Nat) : (h.setPair a n).vis = h.vis := (Hw.setReg_vis ..).trans
    (Hw.setReg_vis ..)
@[simp] theorem Hw.setPair_can (h : Hw) (a n : Nat) : (h.setPair a n).can = h.can := (Hw.setReg_can ..).trans
    (Hw.setReg_can ..)
@[simp] theorem Hw.setPair_rdn (h : Hw) (a n : Nat) : (h.setPair a n).rdn = h.rdn := (Hw.setReg_rdn ..).trans
    (Hw.setReg_rdn ..)
@[simp] theorem Hw.setPair_tce (h : Hw) (a n : Nat) : (h.setPair a n).tce = h.tce := (Hw.setReg_tce ..).trans
    (Hw.setReg_tce ..)
@[simp] theorem Hw.setPair_eth (h : Hw) (a n : Nat) : (h.setPair a n).eth = h.eth := (Hw.setReg_eth ..).trans
    (Hw.setReg_eth ..)
@[simp] theorem Hw.setPair_sse (h : Hw) (a n : Nat) : (h.setPair a n).sse = h.sse := (Hw.setReg_sse ..).trans
    (Hw.setReg_sse ..)
@[simp] theorem Hw.setPair_stq (h : Hw) (a n : Nat) : (h.setPair a n).stq = h.stq := (Hw.setReg_stq ..).trans
    (Hw.setReg_stq ..)
@[simp] theorem Hw.setPair_sec (h : Hw) (a n : Nat) : (h.setPair a n).sec = h.sec := (Hw.setReg_sec ..).trans
    (Hw.setReg_sec ..)
@[simp] theorem Hw.setPair_xsp (h : Hw) (a n : Nat) : (h.setPair a n).xsp = h.xsp := (Hw.setReg_xsp ..).trans
    (Hw.setReg_xsp ..)
@[simp] theorem Hw.setPair_hsp (h : Hw) (a n : Nat) : (h.setPair a n).hsp = h.hsp := (Hw.setReg_hsp ..).trans
    (Hw.setReg_hsp ..)
@[simp] theorem Hw.setPair_tst (h : Hw) (a n : Nat) : (h.setPair a n).tst = h.tst := (Hw.setReg_tst ..).trans
    (Hw.setReg_tst ..)

/-! ## Answers of accesses -/

@[simp] theorem Hw.ack_env (h : Hw) : (h.ack).env = h.env := rfl
@[simp] theorem Hw.ack_fresh (h : Hw) : (h.ack).fresh = h.fresh := rfl
@[simp] theorem Hw.ack_otp (h : Hw) : (h.ack).otp = h.otp := rfl
@[simp] theorem Hw.ack_regs (h : Hw) : (h.ack).regs = h.regs := rfl
@[simp] theorem Hw.ack_cpr (h : Hw) : (h.ack).cpr = h.cpr := rfl
@[simp] theorem Hw.ack_hdr (h : Hw) : (h.ack).hdr = h.hdr := rfl
@[simp] theorem Hw.ack_sis (h : Hw) : (h.ack).sis = h.sis := rfl
@[simp] theorem Hw.ack_rcd (h : Hw) : (h.ack).rcd = h.rcd := rfl
@[simp] theorem Hw.ack_pst (h : Hw) : (h.ack).pst = h.pst := rfl
@[simp] theorem Hw.ack_pos (h : Hw) : (h.ack).pos = h.pos := rfl
@[simp] theorem Hw.ack_dor (h : Hw) : (h.ack).dor = h.dor := rfl
@[simp] theorem Hw.ack_map (h : Hw) : (h.ack).map = h.map := rfl
@[simp] theorem Hw.ack_prf (h : Hw) : (h.ack).prf = h.prf := rfl
@[simp] theorem Hw.ack_peer (h : Hw) : (h.ack).peer = h.peer := rfl
@[simp] theorem Hw.ack_vis (h : Hw) : (h.ack).vis = h.vis := rfl
@[simp] theorem Hw.ack_can (h : Hw) : (h.ack).can = h.can := rfl
@[simp] theorem Hw.ack_rdn (h : Hw) : (h.ack).rdn = h.rdn := rfl
@[simp] theorem Hw.ack_tce (h : Hw) : (h.ack).tce = h.tce := rfl
@[simp] theorem Hw.ack_eth (h : Hw) : (h.ack).eth = h.eth := rfl
@[simp] theorem Hw.ack_sse (h : Hw) : (h.ack).sse = h.sse := rfl
@[simp] theorem Hw.ack_stq (h : Hw) : (h.ack).stq = h.stq := rfl
@[simp] theorem Hw.ack_sec (h : Hw) : (h.ack).sec = h.sec := rfl
@[simp] theorem Hw.ack_xsp (h : Hw) : (h.ack).xsp = h.xsp := rfl
@[simp] theorem Hw.ack_hsp (h : Hw) : (h.ack).hsp = h.hsp := rfl
@[simp] theorem Hw.ack_tst (h : Hw) : (h.ack).tst = h.tst := rfl
@[simp] theorem Hw.answer_env (h : Hw) (l : List Word) : (h.answer l).env = h.env := rfl
@[simp] theorem Hw.answer_fresh (h : Hw) (l : List Word) : (h.answer l).fresh = h.fresh := rfl
@[simp] theorem Hw.answer_otp (h : Hw) (l : List Word) : (h.answer l).otp = h.otp := rfl
@[simp] theorem Hw.answer_regs (h : Hw) (l : List Word) : (h.answer l).regs = h.regs := rfl
@[simp] theorem Hw.answer_cpr (h : Hw) (l : List Word) : (h.answer l).cpr = h.cpr := rfl
@[simp] theorem Hw.answer_hdr (h : Hw) (l : List Word) : (h.answer l).hdr = h.hdr := rfl
@[simp] theorem Hw.answer_sis (h : Hw) (l : List Word) : (h.answer l).sis = h.sis := rfl
@[simp] theorem Hw.answer_rcd (h : Hw) (l : List Word) : (h.answer l).rcd = h.rcd := rfl
@[simp] theorem Hw.answer_pst (h : Hw) (l : List Word) : (h.answer l).pst = h.pst := rfl
@[simp] theorem Hw.answer_pos (h : Hw) (l : List Word) : (h.answer l).pos = h.pos := rfl
@[simp] theorem Hw.answer_dor (h : Hw) (l : List Word) : (h.answer l).dor = h.dor := rfl
@[simp] theorem Hw.answer_map (h : Hw) (l : List Word) : (h.answer l).map = h.map := rfl
@[simp] theorem Hw.answer_prf (h : Hw) (l : List Word) : (h.answer l).prf = h.prf := rfl
@[simp] theorem Hw.answer_peer (h : Hw) (l : List Word) : (h.answer l).peer = h.peer := rfl
@[simp] theorem Hw.answer_vis (h : Hw) (l : List Word) : (h.answer l).vis = h.vis := rfl
@[simp] theorem Hw.answer_can (h : Hw) (l : List Word) : (h.answer l).can = h.can := rfl
@[simp] theorem Hw.answer_rdn (h : Hw) (l : List Word) : (h.answer l).rdn = h.rdn := rfl
@[simp] theorem Hw.answer_tce (h : Hw) (l : List Word) : (h.answer l).tce = h.tce := rfl
@[simp] theorem Hw.answer_eth (h : Hw) (l : List Word) : (h.answer l).eth = h.eth := rfl
@[simp] theorem Hw.answer_sse (h : Hw) (l : List Word) : (h.answer l).sse = h.sse := rfl
@[simp] theorem Hw.answer_stq (h : Hw) (l : List Word) : (h.answer l).stq = h.stq := rfl
@[simp] theorem Hw.answer_sec (h : Hw) (l : List Word) : (h.answer l).sec = h.sec := rfl
@[simp] theorem Hw.answer_xsp (h : Hw) (l : List Word) : (h.answer l).xsp = h.xsp := rfl
@[simp] theorem Hw.answer_hsp (h : Hw) (l : List Word) : (h.answer l).hsp = h.hsp := rfl
@[simp] theorem Hw.answer_tst (h : Hw) (l : List Word) : (h.answer l).tst = h.tst := rfl
@[simp] theorem Hw.busError_env (h : Hw) : (h.busError).env = h.env := rfl
@[simp] theorem Hw.busError_fresh (h : Hw) : (h.busError).fresh = h.fresh := rfl
@[simp] theorem Hw.busError_otp (h : Hw) : (h.busError).otp = h.otp := rfl
@[simp] theorem Hw.busError_regs (h : Hw) : (h.busError).regs = h.regs := rfl
@[simp] theorem Hw.busError_cpr (h : Hw) : (h.busError).cpr = h.cpr := rfl
@[simp] theorem Hw.busError_hdr (h : Hw) : (h.busError).hdr = h.hdr := rfl
@[simp] theorem Hw.busError_sis (h : Hw) : (h.busError).sis = h.sis := rfl
@[simp] theorem Hw.busError_rcd (h : Hw) : (h.busError).rcd = h.rcd := rfl
@[simp] theorem Hw.busError_pst (h : Hw) : (h.busError).pst = h.pst := rfl
@[simp] theorem Hw.busError_pos (h : Hw) : (h.busError).pos = h.pos := rfl
@[simp] theorem Hw.busError_dor (h : Hw) : (h.busError).dor = h.dor := rfl
@[simp] theorem Hw.busError_map (h : Hw) : (h.busError).map = h.map := rfl
@[simp] theorem Hw.busError_prf (h : Hw) : (h.busError).prf = h.prf := rfl
@[simp] theorem Hw.busError_peer (h : Hw) : (h.busError).peer = h.peer := rfl
@[simp] theorem Hw.busError_vis (h : Hw) : (h.busError).vis = h.vis := rfl
@[simp] theorem Hw.busError_can (h : Hw) : (h.busError).can = h.can := rfl
@[simp] theorem Hw.busError_rdn (h : Hw) : (h.busError).rdn = h.rdn := rfl
@[simp] theorem Hw.busError_tce (h : Hw) : (h.busError).tce = h.tce := rfl
@[simp] theorem Hw.busError_eth (h : Hw) : (h.busError).eth = h.eth := rfl
@[simp] theorem Hw.busError_sse (h : Hw) : (h.busError).sse = h.sse := rfl
@[simp] theorem Hw.busError_stq (h : Hw) : (h.busError).stq = h.stq := rfl
@[simp] theorem Hw.busError_sec (h : Hw) : (h.busError).sec = h.sec := rfl
@[simp] theorem Hw.busError_xsp (h : Hw) : (h.busError).xsp = h.xsp := rfl
@[simp] theorem Hw.busError_hsp (h : Hw) : (h.busError).hsp = h.hsp := rfl
@[simp] theorem Hw.busError_tst (h : Hw) : (h.busError).tst = h.tst := rfl
@[simp] theorem Hw.reg_ack (h : Hw) (a : Nat) : h.ack.reg a = h.reg a := rfl
@[simp] theorem Hw.reg_answer (h : Hw) (l : List Word) (a : Nat) : (h.answer l).reg a = h.reg a := rfl
@[simp] theorem Hw.rd_ack (h : Hw) (f : Field) : h.ack.rd f = h.rd f := rfl
@[simp] theorem Hw.rd_answer (h : Hw) (l : List Word) (f : Field) : (h.answer l).rd f = h.rd f := rfl
@[simp] theorem Hw.on_ack (h : Hw) (f : Field) : h.ack.on f = h.on f := rfl
@[simp] theorem Hw.on_answer (h : Hw) (l : List Word) (f : Field) : (h.answer l).on f = h.on f := rfl
@[simp] theorem Hw.nat_ack (h : Hw) (a : Nat) : h.ack.nat a = h.nat a := rfl
@[simp] theorem Hw.nat_answer (h : Hw) (l : List Word) (a : Nat) : (h.answer l).nat a = h.nat a := rfl
@[simp] theorem Hw.bitAt_ack (h : Hw) (a i : Nat) : h.ack.bitAt a i = h.bitAt a i := rfl
@[simp] theorem Hw.bitAt_answer (h : Hw) (l : List Word) (a i : Nat) : (h.answer l).bitAt a i = h.bitAt a i := rfl

end Sys2Proof.Machine
end

