-- ==== Sys2Proof/Laws/Settle.lean ====
section
/-! SUPPORT. What the fault manager can touch: registers of SIS, REC and PST and the Ward's speed cap; and how one fault
that finds it idle becomes current. -/

namespace Sys2Proof.Machine

/-- A register that the arrival of faults leaves alone. -/
def Aside (a : Nat) : Prop := a ∉ faultRegs

theorem Aside.ne {a b : Nat} (ha : Aside a) (hb : b ∈ faultRegs) : a ≠ b := by
  rintro rfl
  exact ha hb

theorem Hw.reg_wr_free (h : Hw) (f : Field) (v : Nat) {a : Nat} (ha : Aside a) (hf : f.addr ∈ faultRegs) :
    (h.wr f v).reg a = h.reg a :=
  h.reg_wr_ne f v (ha.ne hf)

theorem Hw.cond_reg (h : Hw) (c : Bool) (f : Hw → Hw) {a : Nat} (hf : (f h).reg a = h.reg a) :
    (h.cond c f).reg a = h.reg a := by
  unfold Hw.cond; split <;> simp [hf]

theorem Hw.each_reg {α : Type} (l : List α) (f : α → Hw → Hw) {a : Nat} (hf : ∀ x h, (f x h).reg a = h.reg a) :
    ∀ h : Hw, (h.each l f).reg a = h.reg a := by
  induction l with
  | nil => intro h; rfl
  | cons x l ih => intro h; show ((f x h).each l f).reg a = h.reg a; rw [ih, hf]

/-! ## Registers -/

theorem Hw.irq_reg_aside (h : Hw) (p b : Nat) {a : Nat} (ha : Aside a) (hp : BLK_IRQ p ∈ faultRegs) :
    (h.irq p b).reg a = h.reg a :=
  h.reg_irq_ne p b (ha.ne hp)

theorem Hw.blockFault_reg_aside (h : Hw) (p b : Nat) {a : Nat} (ha : Aside a) (hf : BLK_FAULT p ∈ faultRegs)
    (hi : BLK_IRQ p ∈ faultRegs) : (h.blockFault p b).reg a = h.reg a :=
  h.reg_blockFault_ne p b (ha.ne hf) (ha.ne hi)

theorem Hw.toAon_reg (h : Hw) (r : Record) {a : Nat} (ha : Aside a) : (h.toAon r).reg a = h.reg a := by
  unfold Hw.toAon
  rw [Hw.reg_wr_free _ _ _ ha (by decide), Hw.cond_reg]
  · rfl
  · exact Hw.reg_wr_free _ _ _ ha (by decide)

theorem Hw.recDegrade_reg (h : Hw) {a : Nat} (ha : Aside a) : h.recDegrade.reg a = h.reg a := by
  unfold Hw.recDegrade
  rw [Hw.irq_reg_aside _ _ _ ha (by decide), Hw.reg_wr_free _ _ _ ha (by decide), Hw.reg_wr_free _ _ _ ha (by decide)]

theorem Hw.recRunOut_reg (h : Hw) {a : Nat} (ha : Aside a) : h.recRunOut.reg a = h.reg a := by
  unfold Hw.recRunOut
  split
  · rfl
  · exact h.recDegrade_reg ha

theorem Hw.recPush_reg (h : Hw) (r : Record) {a : Nat} (ha : Aside a) : (h.recPush r).reg a = h.reg a := by
  unfold Hw.recPush
  rw [Hw.cond_reg _ _ _ (Hw.reg_wr_free _ _ _ ha (by decide)), Hw.cond_reg _ _ _ (Hw.irq_reg_aside _ _ _ ha (by decide)),
    Hw.reg_wr_free _ _ _ ha (by decide), Hw.reg_wr_free _ _ _ ha (by decide)]
  rfl

theorem Hw.recArrive_reg (h : Hw) (typ src : Nat) (prot cont : Bool) (data : List Nat) {a : Nat} (ha : Aside a) :
    (h.recArrive typ src prot cont data).reg a = h.reg a := by
  unfold Hw.recArrive
  dsimp only
  split
  · exact h.recRunOut_reg ha
  · split
    · rw [Hw.reg_setNat_ne _ _ (ha.ne (by decide)), Hw.toAon_reg _ _ ha]
    · split
      · rw [Hw.blockFault_reg_aside _ _ _ ha (by decide) (by decide)]
        exact Hw.reg_wr_free _ _ _ ha (by decide)
      · rw [Hw.reg_setNat_ne _ _ (ha.ne (by decide)), Hw.recPush_reg _ _ ha]

theorem Hw.recWard_reg (h : Hw) (typ : Nat) (prot : Bool) (data : List Nat) {a : Nat} (ha : Aside a) :
    (h.recWard typ prot data).reg a = h.reg a := h.recArrive_reg _ _ _ _ _ ha

theorem Hw.refreshSets_reg (h : Hw) {a : Nat} (ha : Aside a) : h.refreshSets.reg a = h.reg a := by
  unfold Hw.refreshSets
  have hp : ∀ n ∈ List.range 6, PST_PSn_STAT n ∈ faultRegs := by decide
  have key : ∀ (l : List Nat), (∀ n ∈ l, PST_PSn_STAT n ∈ faultRegs) → ∀ h : Hw,
      (h.each l Hw.refreshSet).reg a = h.reg a := by
    intro l
    induction l with
    | nil => intro _ h; rfl
    | cons n l ih =>
      intro hl h
      show ((Hw.refreshSet n h).each l Hw.refreshSet).reg a = h.reg a
      rw [ih (fun m hm => hl m (List.mem_cons_of_mem _ hm))]
      unfold Hw.refreshSet
      dsimp only
      have hne : a ≠ PST_PSn_STAT n := ha.ne (hl n (by simp))
      rw [Hw.reg_wr_ne _ (PST_PSn_STAT_SWITCHING n) _ hne, Hw.reg_wr_ne _ (PST_PSn_STAT_TRIPPED n) _ hne,
        Hw.reg_wr_ne _ (PST_PSn_STAT_STO n) _ hne]
      rfl
  exact key _ hp h

theorem Hw.btAbort_reg (h : Hw) {a : Nat} (ha : Aside a) : h.btAbort.reg a = h.reg a := by
  unfold Hw.btAbort
  split
  · rw [Hw.irq_reg_aside _ _ _ ha (by decide), Hw.reg_setNat_ne _ _ (ha.ne (by decide)),
      Hw.reg_wr_free _ _ _ ha (by decide), Hw.reg_wr_free _ _ _ ha (by decide), Hw.reg_wr_free _ _ _ ha (by decide)]
  · rfl

theorem Hw.brakeForce_reg (h : Hw) {a : Nat} (ha : Aside a) : h.brakeForce.reg a = h.reg a := by
  unfold Hw.brakeForce
  split
  · dsimp only
    rw [Hw.reg_upd, Hw.irq_reg_aside _ _ _ ha (by decide), Hw.reg_wr_free _ _ _ ha (by decide),
      Hw.reg_wr_free _ _ _ ha (by decide), Hw.reg_wr_free _ _ _ ha (by decide), Hw.reg_wr_free _ _ _ ha (by decide),
      Hw.reg_wr_free _ _ _ ha (by decide), Hw.btAbort_reg _ ha]
  · rfl

theorem Hw.setOuts_reg (h : Hw) (o : Nat) {a : Nat} (ha : Aside a) : (h.setOuts o).reg a = h.reg a := by
  unfold Hw.setOuts
  rw [Hw.refreshSets_reg _ ha, Hw.reg_wr_free _ _ _ ha (by decide), Hw.reg_wr_free _ _ _ ha (by decide)]

theorem Hw.dropCause_reg (h : Hw) (m : Nat) {a : Nat} (ha : Aside a) : (h.dropCause m).reg a = h.reg a := by
  unfold Hw.dropCause Hw.outsOff
  dsimp only
  rw [Hw.cond_reg _ _ _ (Hw.brakeForce_reg _ ha), Hw.setOuts_reg _ _ ha]
  rfl

theorem Hw.latchBolt_reg (h : Hw) (c : Nat) {a : Nat} (ha : Aside a) : (h.latchBolt c).reg a = h.reg a := by
  unfold Hw.latchBolt
  split
  · rfl
  · dsimp only
    rw [Hw.recWard_reg _ _ _ _ ha, Hw.reg_upd, Hw.reg_wr_free _ _ _ ha (by decide), Hw.reg_wr_free _ _ _ ha (by decide),
      Hw.reg_wr_free _ _ _ ha (by decide), Hw.reg_wr_free _ _ _ ha (by decide), Hw.reg_wr_free _ _ _ ha (by decide)]

theorem Hw.classActions_reg (h : Hw) (e : FaultEntry) {a : Nat} (ha : Aside a) :
    (h.classActions e).reg a = h.reg a := by
  unfold Hw.classActions
  dsimp only
  rw [Hw.cond_reg, Hw.cond_reg, Hw.cond_reg, Hw.cond_reg, Hw.cond_reg]
  · exact Hw.irq_reg_aside _ _ _ ha (by decide)
  · exact Hw.reg_setNat_ne _ _ (ha.ne (by decide))
  · rfl
  · exact Hw.dropCause_reg _ _ ha
  · rw [Hw.reg_upd, Hw.latchBolt_reg _ _ ha, Hw.dropCause_reg _ _ ha]

theorem Hw.makeCurrent_reg (h : Hw) (e : FaultEntry) {a : Nat} (ha : Aside a) :
    (h.makeCurrent e).reg a = h.reg a := by
  unfold Hw.makeCurrent
  rw [Hw.classActions_reg _ _ ha, Hw.reg_wr_free _ _ _ ha (by decide), Hw.reg_wr_free _ _ _ ha (by decide),
    Hw.reg_wr_free _ _ _ ha (by decide), Hw.reg_setNat_ne _ _ (ha.ne (by decide)), Hw.reg_wr_free _ _ _ ha (by decide),
    Hw.reg_wr_free _ _ _ ha (by decide), Hw.reg_wr_free _ _ _ ha (by decide), Hw.reg_wr_free _ _ _ ha (by decide)]

theorem Hw.queueOverflow_reg (h : Hw) {a : Nat} (ha : Aside a) : h.queueOverflow.reg a = h.reg a := by
  unfold Hw.queueOverflow
  rw [Hw.recWard_reg _ _ _ _ ha]
  show ((h.blockFault PG_SIS 10).bump SIS_FM_STAT_QOVFCNT 1).reg a = h.reg a
  unfold Hw.bump
  rw [Hw.reg_wr_free _ _ _ ha (by decide), Hw.blockFault_reg_aside _ _ _ ha (by decide) (by decide)]

theorem Hw.enterFault_reg (h : Hw) (e : FaultEntry) {a : Nat} (ha : Aside a) : (Hw.enterFault e h).reg a = h.reg a := by
  unfold Hw.enterFault
  dsimp only
  split
  · rw [Hw.makeCurrent_reg _ _ ha, Hw.recWard_reg _ _ _ _ ha]
  · split
    · rw [Hw.makeCurrent_reg _ _ ha, Hw.cond_reg _ _ _ (Hw.queueOverflow_reg _ ha), Hw.reg_upd, Hw.recWard_reg _ _ _ _ ha]
    · split
      · rw [Hw.queueOverflow_reg _ ha, Hw.recWard_reg _ _ _ _ ha]
      · rw [Hw.reg_wr_free _ _ _ ha (by decide), Hw.reg_upd, Hw.recWard_reg _ _ _ _ ha]

/-- Everything the arrival of faults can do to a register. -/
theorem Hw.settle_reg (h : Hw) {a : Nat} (ha : Aside a) : h.settle.reg a = h.reg a := by
  unfold Hw.settle
  split
  · rfl
  · rw [Hw.each_reg _ _ (fun e h => h.enterFault_reg e ha)]
    rfl

/-- Where no fault has arisen the fault manager does nothing. -/
theorem Hw.settle_none (h : Hw) (hn : h.sis.arriving = []) : h.settle = h := by
  unfold Hw.settle
  rw [hn]

end Sys2Proof.Machine
end

