-- ==== Sys2Proof/WellFormed.lean ====
section
/-! DEFINITION. The commands that can occur: what a row's operands must satisfy beyond their types for the row to be the
one that happens. The meanings are total: they answer an ill-formed command too. -/

namespace Sys2Proof

/-- Data bytes of a DLC: above 8 in CAN FD frames alone (R381). -/
def CanFrame.bytes (f : CanFrame) : Nat :=
  if f.rtr then 0
  else if f.fdf then [0, 1, 2, 3, 4, 5, 6, 7, 8, 12, 16, 20, 24, 32, 48, 64].getD f.dlc.val 0
  else min f.dlc.val 8

/-- An 11-bit identifier unless extended; RTR in classical frames alone, BRS and ESI in CAN FD frames alone; as many bytes
as the DLC names (R381). -/
def CanFrame.wf (f : CanFrame) : Bool :=
  (f.xtd || decide (f.id.toNat < 2048)) && !(f.rtr && f.fdf) && (f.fdf || !(f.brs || f.esi)) && f.data.length = f.bytes

/-- A frame of at most the largest MTU (R400), 18 bytes of which are its addresses, EtherType and FCS. -/
def EthFrame.wf (f : EthFrame) : Bool := decide (f.payload.length + 18 ≤ 9216)

/-- The payload is a whole number of 4-byte units, at most 64 of them (R411). -/
def SkoveFrame.wf (f : SkoveFrame) : Bool := decide (f.payload.length % 4 = 0) && decide (f.payload.length ≤ 256)

/-- A record of the pair link (R359): the CAN frame it carries is one, and so is the SkoveSafe payload. -/
def PairRecord.wf : PairRecord → Bool
  | .can _ _ f => f.wf
  | .skove _ _ p _ => decide (p.length % 4 = 0) && decide (p.length ≤ 256)
  | .regs .. => true
  | .captures l => decide (l.length ≤ 32)
  | .car .. => true
  | .prf .. => true
  | .door .. => true
  | .calls .. => true

/-- HELLO names a strapped role, not 0b00 or 0b11 (R1, R354); a nonce has 32 bytes. -/
def PairingBody.wf : PairingBody → Bool
  | .hello _ role _ _ => decide (role.val = 1) || decide (role.val = 2)
  | .nonce b => decide (b.length = 32)
  | .auth _ => true
  | .agree .. => true
  | .request => true

def PairingFrame.wf (f : PairingFrame) : Bool := f.body.wf

/-- An address of 32-bit words (R34). -/
def regAddr (a : BitVec 32) : Bool := a.toNat % 4 = 0

/-- 24 window sums of a sinc3 filter with D = 32 at most (R274). -/
def sinc3Ok (sums : List Nat) : Bool := decide (sums.length = 24) && sums.all fun x => decide (x ≤ 32768)

/-- An opcode in bits 3:0 that is 0 or above the last one of its table (R181, R293). -/
def opOutside (w : Word) (last : Nat) : Bool := decide (w.toNat % 16 = 0) || decide (last < w.toNat % 16)

/-- The instruction codes that HSP knows (R485): READ, WRITE, STATUS. -/
def hspCodes : List (BitVec 8) := [0x0B, 0x02, 0x05]

/-- The TAP instructions other than BYPASS (R508). -/
def tapCodes : List (BitVec 8) := [0x00, 0x01, 0x02, 0x03, 0x04]

/-- A command whose operands fit its row. -/
def Instr.wf : Instr → Bool
  | .supplyMonitorTrip _ => true
  | .nresetRelease _ => true
  | .resetRelease _ _ _ => true
  | .warmResetRequest _ _ => true
  | .wipeComplete _ => true
  | .bootComplete found => decide (found.tceManifest.length ≤ 2)
  | .clockMonitorTrip _ => true
  | .appDividerChange _ _ => true
  | .clockDomainEnable _ _ => true
  | .optimeWrite _ _ => true
  | .agentResetWrite _ _ => true
  | .parkRequest _ _ => true
  | .wakeRecognised _ _ => true
  | .parkedWatchMove _ => true
  | .hingeGroupFire _ _ => true
  | .plicClaim _ _ => true
  | .plicComplete _ _ _ => true
  | .blkEnable _ _ => true
  | .blkDisable _ _ => true
  | .blkQuiesceRequest _ _ => true
  | .blkQuiesceRelease _ _ => true
  | .blkQuiet _ => true
  | .blkBolt _ _ => true
  | .blkUnbolt _ _ => true
  | .blkSoftReset _ _ => true
  | .hingeSwapRequest _ _ w => w.getLsbD 0
  | .hingeCancel _ _ w => w.getLsbD 8
  | .hingeSwap _ => true
  | .hingeSyncDone _ => true
  | .blkLockWrite _ _ _ => true
  | .bistStart _ _ w => w.getLsbD 0
  | .bistDone _ pass ecc _ => !(pass && ecc)
  | .bistTimeout _ => true
  | .pairLoRead _ addr => regAddr addr
  | .pairHiWrite _ addr _ => regAddr addr
  | .rcRead _ _ _ => true
  | .registerWrite _ _ _ _ => true
  | .positionCycleT0 _ _ _ _ _ => true
  | .sinc3Result sums => sinc3Ok sums
  | .quadCount _ _ _ _ => true
  | .illegalWindowEnd _ => true
  | .indexEvent _ _ _ _ => true
  | .countPreset _ _ _ => true
  | .serialFrameEnd _ _ => true
  | .serialNegotiationDone _ _ _ => true
  | .serialLostClear _ _ _ => true
  | .dinEdge _ _ _ _ => true
  | .dcapPop _ => true
  | .emuStep _ => true
  | .tumblerAlign _ _ => true
  | .sourceFrozen _ => true
  | .loopReturn _ _ => true
  | .mapReloadStart _ _ => true
  | .mapPageReload _ _ w => w.getLsbD 25
  | .mapRebuildStart _ w => w.getLsbD 31
  | .mapRebuildCancel _ w => w.getLsbD 30
  | .mapImport _ _ w => w.getLsbD 24
  | .prfMove _ _ _ => true
  | .prfStop _ _ _ => true
  | .prfResume _ _ _ => true
  | .prfAbort _ _ _ => true
  | .prfGear _ _ _ => true
  | .prfUngear _ _ _ => true
  | .prfPreset _ _ _ => true
  | .prfGrarm _ _ _ => true
  | .prfIllop _ _ w => opOutside w 8
  | .axisStandstill _ => true
  | .axisStall _ => true
  | .stepIssue _ _ => true
  | .wardCapWrite _ _ => true
  | .tceGo _ _ w => w.getLsbD 0
  | .tceHalt _ _ w => !w.getLsbD 0
  | .tceSolo _ _ _ => true
  | .tceSoftwareTrigger _ _ _ => true
  | .tceAuthStart _ _ _ => true
  | .tceAuthDone _ => true
  | .tceProgramWrite _ _ _ _ _ => true
  | .taskTick _ _ => true
  | .tceInterruptEntry _ => true
  | .nop _ _ => true
  | .endTask _ _ _ => true
  | .br _ _ => true
  | .jal _ _ => true
  | .jr _ _ => true
  | .loop _ _ => true
  | .loopr _ _ => true
  | .lexit _ _ => true
  | .reti _ _ => true
  | .swi _ _ => true
  | .addOp _ _ => true
  | .subOp _ _ => true
  | .adds _ _ => true
  | .subs _ _ => true
  | .andOp _ _ => true
  | .orOp _ _ => true
  | .xorOp _ _ => true
  | .andn _ _ => true
  | .shl _ _ => true
  | .shr _ _ => true
  | .asr _ _ => true
  | .cmp _ _ => true
  | .negOp _ _ => true
  | .absOp _ _ => true
  | .minOp _ _ => true
  | .maxOp _ _ => true
  | .aluMov _ _ => true
  | .moviData _ _ => true
  | .moviAddr _ _ => true
  | .movReg _ _ => true
  | .mac _ _ => true
  | .macd _ _ => true
  | .macs _ _ => true
  | .cmac _ _ => true
  | .rnd _ _ => true
  | .ld _ _ => true
  | .st _ _ => true
  | .stAcc _ _ => true
  | .ldStPair _ _ => true
  | .ftap _ _ => true
  | .illegalInstruction _ _ => true
  | .sinc2FastResult _ _ => true
  | .sdInputStuck _ _ => true
  | .gateDriverFault _ _ => true
  | .tripClear _ _ => true
  | .gridLossClear _ _ => true
  | .brakeTestStart _ w => w.getLsbD 0
  | .brakeTestAbort _ => true
  | .doorOpen _ _ _ => true
  | .doorClose _ _ _ => true
  | .doorHold _ _ _ => true
  | .doorRelease _ _ _ => true
  | .doorNudge _ _ _ => true
  | .doorStop _ _ _ => true
  | .doorHandover _ _ _ => true
  | .doorTakeback _ _ _ => true
  | .doorClear _ _ _ => true
  | .doorIllop _ _ w => opOutside w 9
  | .doorUnlockTimeout _ => true
  | .doorDwellElapsed _ => true
  | .doorNudgeTimeElapsed _ => true
  | .doorLockTimeout _ => true
  | .doorRetryElapsed _ => true
  | .contactLevelChange _ _ _ => true
  | .contactBypass _ => true
  | .visFrameEnd _ _ _ _ => true
  | .visStale _ => true
  | .slotClear _ _ => true
  | .safetyInputChange _ _ _ => true
  | .sinDiscrepancy _ => true
  | .testPulse _ => true
  | .testPulseEnd _ _ => true
  | .outputReadbackFault _ => true
  | .faultArrival _ cause => decide (8 ≤ cause.val)
  | .faultDone _ _ => true
  | .faultInFaultHandling _ => true
  | .watchdogKick _ _ => true
  | .modeSet _ _ => true
  | .deadboltPortWrite _ _ => true
  | .deadboltPortDone _ _ => true
  | .deadboltRelease _ _ _ _ _ => true
  | .pairingFrameReceive frame => frame.wf
  | .inputSegmentReceive _ _ records _ => records.all PairRecord.wf
  | .outputFrameReceive _ records => records.all PairRecord.wf
  | .heartbeatReceive _ _ _ => true
  | .snapshotReceive _ _ _ => true
  | .keyHandoff _ w => w.getLsbD 0
  | .repair _ w => w.getLsbD 1
  | .laneLoss _ => true
  | .selFbChange _ _ => true
  | .canCtlWrite _ _ _ => true
  | .canFrameReceive _ frame => frame.wf
  | .canObjectLock _ _ _ => true
  | .canObjectUnlock _ _ _ _ => true
  | .canLockTimeout _ _ => true
  | .canQueuePop _ _ _ => true
  | .canTxRequest _ _ _ _ => true
  | .canTxCancel _ _ _ _ _ => true
  | .canTxComplete _ _ _ _ => true
  | .canBusError _ kind _ _ _ _ => decide (kind.val ≠ 0)
  | .canBusoffRecovery _ => true
  | .canNegStart _ _ _ => true
  | .canNegTimeout _ => true
  | .canCapabilityAnswer _ => true
  | .canReferenceRequest _ => true
  | .canTtFire _ _ => true
  | .canRefLost _ => true
  | .canVirtualReference _ => true
  | .canWakePatternRequest _ _ _ => true
  | .canWakePatternSent _ => true
  | .ethFrameReceive _ frame => frame.wf
  | .ethFrameTransmit _ _ => true
  | .ethRingIndexWrite _ _ _ _ => true
  | .ethLinkChange _ _ => true
  | .phyPoll _ _ => true
  | .phyInterrupt _ _ => true
  | .ethRetrainDone _ => true
  | .mdioCommand _ _ _ => true
  | .mdioDone _ _ => true
  | .ptpSyncSend _ => true
  | .ptpSyncReceive _ _ => true
  | .ptpPdelay _ _ => true
  | .skovesafeProduce _ => true
  | .skovesafeFrameReceive _ frame _ => frame.wf
  | .skovesafeWatchdogExpiry _ => true
  | .skovesafePathTimeout _ _ => true
  | .sseBufferSwitch _ _ _ => true
  | .mlbConfigWrite _ _ _ => true
  | .mlbPost _ _ => true
  | .mlbWithdraw _ _ => true
  | .mlbTake _ _ => true
  | .mlbAck _ _ _ => true
  | .mlbPayloadWrite _ _ _ _ => true
  | .mlbPayloadRead _ _ _ => true
  | .doorbellRing _ _ _ => true
  | .doorbellClear _ _ _ => true
  | .doorbellMaskWrite _ _ _ => true
  | .latchAcquire _ _ => true
  | .latchRelease _ _ _ => true
  | .latchForceFree _ _ _ => true
  | .recordSubmit _ _ => true
  | .recordWriteDone _ _ _ => true
  | .wallClockSet _ _ => true
  | .recordReadTranslate _ _ => true
  | .orderLc _ => true
  | .orderSvn _ => true
  | .orderRevoke _ => true
  | .keywayResponse bytes => decide (bytes.length = 204)
  | .keywayClose _ _ => true
  | .keywayWrite addr _ => regAddr addr
  | .xspRdsr _ => true
  | .xspCommandDone _ => true
  | .xspBankSwitch _ _ => true
  | .hspRead addr _ _ _ _ => regAddr addr
  | .hspWrite addr data _ => regAddr addr && decide (data.length ≤ 64)
  | .hspUnknownInstruction code => !hspCodes.contains code
  | .stqSetRequest _ _ _ _ => true
  | .stqClearRequest _ _ _ _ => true
  | .tstCommand _ _ => true
  | .tapBypass ir => !tapCodes.contains ir
  | .tapSamplePreload _ => true
  | .carrierValley _ => true
  | .canArbitrationLost _ _ => true
  | .csiLaneSyncLoss _ => true
  | .chopperMinonElapsed _ _ => true
  | .sisIcClaim _ _ => true
  | .supplyGood => true
  | .powerOnReset => true
  | .nresetAssert => true
  | .keywayReset => true
  | .refloss => true
  | .xtalfail => true
  | .optimeStep => true
  | .parkEntryComplete => true
  | .parkEntryTimeout => true
  | .parkedWatchTimer => true
  | .wakeComplete => true
  | .currentCycleT0 => true
  | .mapPageLoaded => true
  | .mapLearnEntry => true
  | .mapRebuildPageDone => true
  | .mapWritebackDone => true
  | .brkTmagElapsed => true
  | .brkTpreElapsed => true
  | .brkTliftElapsed => true
  | .brkTstartElapsed => true
  | .brkTpickElapsed => true
  | .brkTsetElapsed => true
  | .brkTdropElapsed => true
  | .brkTrampElapsed => true
  | .brakeTestRampEnd => true
  | .brakeTestHoldEnd => true
  | .relevelRequest => true
  | .brakeLagElapsed => true
  | .watchdogExpiry => true
  | .standstillReached => true
  | .parkIdleElapsed => true
  | .tokokExpiry => true
  | .serviceAckHeld => true
  | .laneLock => true
  | .pairWaitElapsed => true
  | .syncComplete => true
  | .leaseExpiry => true
  | .keyClaim => true
  | .selectorNoneShown => true
  | .selfltClear => true
  | .ptpSyncLost => true
  | .headerRefresh => true
  | .orderProvision => true
  | .orderKeyload => true
  | .orderPair => true
  | .tokenSubmit => true
  | .mapSeal => true
  | .mapOpen => true
  | .mapCommandDone => true
  | .keyExchangeRequest => true
  | .keyExchangeAnswer => true
  | .keyExchangeAccept => true
  | .keywayChallenge => true
  | .keywaySessionExpiry => true
  | .xspRead => true
  | .xspProgram => true
  | .xspErase4k => true
  | .xspErase64k => true
  | .xspWindowTimeout => true
  | .hspStatus => true
  | .rollingStepStart => true
  | .tapIdcode => true
  | .tapExtest => true
  | .tapClamp => true
  | .tapHighz => true
  | .tapReset => true

end Sys2Proof
end

