-- ==== Sys2Proof/Tests/Slice0.lean ====
section
/-! SUPPORT. Tests: the checks of WellFormed, the reset state, the instruction words and worked examples of the spec, and a
witness for the hypotheses of every statement. -/

set_option Elab.async false

namespace Sys2Proof.Tests
open Sys2Proof Sys2Proof.Machine

/-- A CAR unit in SERVICE with its clocks running, and `f` applied to its hardware. -/
def unit (f : Hw → Hw) : State :=
  let h := State.reset.dev.hw
  { dev := { hw := f (((({ h with cpr := { h.cpr with inReset := false } }.wr SIS_MODE_CUR 5).wr SIS_MODE_PREV 4).wr CPR_AGT_RST_AGT 0).wr SEC_KS_WRAPOK 1), mem := [] },
    pending := [] }

def up : State := unit fun h => h

/-- No memory word was found at fault. -/
def ecc0 : CoreEcc := ⟨.clean, .clean, .clean⟩

/-- A CAR unit whose core 0 runs a task and has the word `w` at its pc, with `f` applied to the core. -/
def core (w : Nat) (f : Core → Core) : State :=
  let s := unit fun h => ((h.setCore 0 (f (h.core 0))).wr (TCE_STAT_STATE 0) coreTask).wr CPR_CLK_EN_TCE 1
  { s with dev := { s.dev with mem := memSetNat [] (progBase 0) 4 w } }

/-- A data frame of identifier 5, no byte. -/
def canData : CanFrame := ⟨false, 5, false, false, false, false, 0, [], 0⟩

/-- A pair frame of the partner, good, counter 5. -/
def pairHead : PairHead := ⟨true, true, false, false, true, 0, 5, 4⟩

/-- An order of type `t`, all else zero, stands at the start of the shared SRAM. -/
def ordered (t : Nat) : State :=
  let s := unit fun h => { h.wr SEC_ORD_CTL_BUSY 1 with sec := { h.sec with ordAddr := 0x20000000 } }
  { s with dev := { s.dev with mem := memSetNat [] 0x20000000 2 t } }

def orderOf (s : State) : Order := s.dev.order.getD ⟨0, [], 0, 0, [], [], [], []⟩

/-- A working Ethernet port 0 with LINK. -/
def linked (f : Hw → Hw) : State := unit fun h => f ((h.wr (BLK_STAT_RUN (PG_ETH 0)) 1).wr (ETH_STAT_LINK 0) 1)

/-- A broadcast frame. -/
def ethAll : EthFrame := ⟨0xFFFFFFFFFFFF, 1, true, 0x800, List.replicate 46 0, 0⟩

/-- A receiving connection 0 of CID 7 in service, `seq` its last sequence. -/
def consumer (seq : Nat) : State :=
  unit fun h => ((((h.wr (BLK_STAT_RUN PG_SSE) 1).wr (SSE_Ck_CFG_EN 0) 1).wr (SSE_Ck_CID_CID 0) 7).wr
    (ETH_TBD_STAT_LOCKED 0) 1).setConn 0 { h.conn 0 with key := some ([], []), last := some seq, first := false }

/-- A frame of CID 7 whose CRC is right. -/
def skove (seq : BitVec 32) : SkoveFrame :=
  let f : SkoveFrame := ⟨false, 7, seq, 0, [], 0, true⟩
  { f with crc := BitVec.ofNat 32 (crc32c (leBytes 4 0 ++ skoveHead f ++ f.payload)) }

/-- A CAN controller 0 on the bus whose filter 0 takes identifier 5 with action `act`. -/
def filtered (act : Nat) : State :=
  unit fun h => ((((((((h.wr (BLK_STAT_RUN (PG_CAN 0)) 1).wr (CAN_CTL_NEGEN 0) 0).wr (CAN_OBJn_W0_TYPE 0 0) canRx).wr (CAN_CTL_INIT 0) 0).wr (CAN_FLTj_MATCH_EN 0 0) 1).wr
    (CAN_FLTj_MATCH_ID 0 0) 5).wr (CAN_FLTj_MASK_MASK 0 0) 0x1FFFFFFF).wr (CAN_FLTj_ACT_ACT 0 0) act)

/-- The machine unit's STO pair stands permitted: armed, requested, RUN of the modes. -/
def driving : Hw :=
  let h := (((State.reset.dev.hw.wr SIS_MODE_CUR 5).wr SIS_OUT_ARM_STO 1).wr CPR_STRAP_ROLE 1)
  { h with cpr := { h.cpr with nreset := false } }

/-! ## Ill-formed commands -/

/-- One term for each check of WellFormed. -/
def illFormed : List Instr :=
  let frame : CanFrame := ⟨true, 5, false, false, false, false, 0, [], 0⟩
  [ .canFrameReceive 0 { frame with xtd := false, id := 2048 },
    .canFrameReceive 0 { frame with rtr := true, fdf := true },
    .canFrameReceive 0 { frame with brs := true },
    .canFrameReceive 0 { frame with dlc := 3 },
    .ethFrameReceive 0 ⟨0, 0, true, 0, List.replicate 9199 0, 0⟩,
    .skovesafeFrameReceive 0 ⟨false, 0, 0, 0, [0], 0, true⟩ 0,
    .skovesafeFrameReceive 0 ⟨false, 0, 0, 0, List.replicate 260 0, 0, true⟩ 0,
    .outputFrameReceive ⟨true, true, false, false, true, 0, 0, 4⟩ [.can 0 0 { frame with dlc := 3 }],
    .outputFrameReceive ⟨true, true, false, false, true, 0, 0, 4⟩ [.skove 0 0 [0] 0],
    .outputFrameReceive ⟨true, true, false, false, true, 0, 0, 4⟩ [.captures (List.replicate 33 (0, true, 0, 0))],
    .inputSegmentReceive ⟨true, true, false, false, true, 0, 0, 4⟩ 0 [.skove 0 0 [0] 0] false,
    .pairingFrameReceive ⟨⟨true, true, false, false, true, 0, 0, 4⟩, .hello true 0 0 0⟩,
    .pairingFrameReceive ⟨⟨true, true, false, false, true, 0, 0, 4⟩, .nonce [0]⟩,
    .bootComplete ⟨true, true, 0, 0, 0, false, [0, 0, 0], true⟩,
    .hingeSwapRequest (.agent 0) 0 0, .hingeCancel (.agent 0) 0 0, .bistStart (.agent 0) 0 0, .bistDone 0 true true 0,
    .pairLoRead (.agent 0) 2, .pairHiWrite (.agent 0) 2 0, .sinc3Result [], .sinc3Result (List.replicate 24 32769),
    .mapPageReload (.agent 0) 0 0, .mapRebuildStart (.agent 0) 0, .mapRebuildCancel (.agent 0) 0, .mapImport (.agent 0) 0 0,
    .prfIllop (.agent 0) 0 8, .tceGo (.agent 0) 0 0, .tceHalt (.agent 0) 0 1, .brakeTestStart (.agent 0) 0,
    .doorIllop (.agent 0) 0 9, .faultArrival 0 7, .keyHandoff (.agent 0) 0, .repair (.agent 0) 0,
    .canBusError 0 0 false none false .receiver1, .keywayResponse [], .keywayWrite 2 0, .hspRead 2 1 false false false,
    .hspWrite 2 [] false, .hspWrite 0 (List.replicate 65 0) false, .hspUnknownInstruction 0x0B, .tapBypass 4 ]

theorem test_ill_formed_refused : illFormed.all (fun i => !i.wf) = true := by decide +kernel

/-! ## Reset -/

/-- State.reset is what the reset of a CAR unit A leaves (R71, R77, R91). -/
theorem test_reset :
    State.reset.dev = resetStart 1 false true { hw := supplyUp (Hw.init.resetTo true false 0), mem := [] } := by
  decide +kernel

/-! ## Words of the worked encodings of chapter 10, and the all-zero word -/

theorem test_words_control :
    decodeTce 0x02200123 = some (.br 2 0x123) ∧ decodeTce 0x05040040 = some (.loop 16 0x40) ∧
      decodeTce 0x01000000 = some .endT ∧ decodeTce 0 = some .nop := by decide +kernel

theorem test_words_data :
    decodeTce 0x51002000 = some (.mac 0 1 false 0 0 1 0 0) ∧ decodeTce 0x49818000 = some (.mov 0x4C 0x06) ∧
      decodeTce 0x61640000 = some (.rnd false 0 11 1) := by decide +kernel

theorem test_words_memory :
    decodeTce 0x89128CD6 = some (.pair true ⟨false, 4, 2, 1, .inl 2⟩ ⟨false, 6, 3, 1, .inl 3⟩) ∧
      decodeTce 0x94308290 = some (.ftap 1 0 3 ⟨false, 3, 0, 1, .inl 0⟩ ⟨true, 3, 1, 1, .inl 1⟩) := by decide +kernel

/-! ## Worked examples -/

/-- The hardware after a command. -/
def after (c : Instr) (s : State) : Hw :=
  match exec c s with
  | .next t => t.dev.hw
  | _ => State.reset.dev.hw

/-- Chapter 1, the car at speed across the cable: up, down, and over 165 µs. -/
theorem test_extrapolation :
    extrapolate ⟨0x7A120000, 20480000, 0, true⟩ 40000 = 0x7A120CCD ∧
      extrapolate ⟨0x7A120000, -20480000, 0, true⟩ 40000 = 0x7A11F333 ∧
      extrapolate ⟨0x7A120000, 20480000, 0, true⟩ 165000 = 0x7A120000 + 13517 := by decide +kernel

/-- Chapter 7, a stop from 6 m/s down at 450 m: it stands at 439.5 m. -/
theorem test_stop_position :
    let r := (Plan.stop ⟨1843200000 * unitP, -6144000 * unitV, 0⟩ (0x1F4000 * unitA) 0xFA000).2
    r.num = 439500 * 4096 * unitP * r.den := by decide +kernel

/-- Channel 3 of the worked example of chapter 17: SND 2, RCV 0, RDB 3, ADB 19, the epoch of agent 2 is 5. -/
def channel3 (stat epochs : Nat) : State :=
  unit fun h => ((((((h.wr (MLBn_CFG_SND 3) 2).wr (MLBn_CFG_RCV 3) 0).wr (MLBn_CFG_RDB 3) 3).wr (MLBn_CFG_ADB 3) 19).wr
    (MLBn_CFG_EN 3) 1).setNat MLB_EPOCH0 epochs).setNat (MLBn_STAT 3) stat

theorem test_mailbox_post :
    let h := after (.mlbPost (.agent 2) 3) (channel3 0 0x00050000)
    h.nat (MLBn_STAT 3) = 0x00050001 ∧ h.bitAt (MLB_DBa 0) 3 = true := by decide +kernel

theorem test_mailbox_read :
    (after (.mlbPayloadRead (.agent 0) 3 0) (channel3 0x00050001 0x00050000)).nat (MLBn_STAT 3) = 0x20050001 := by
  decide +kernel

/-- And no agent is held in reset. -/
def released (stat epochs : Nat) : State :=
  let s := channel3 stat epochs
  { s with dev := { s.dev with hw := s.dev.hw.setNat CPR_AGT_RST 0 } }

theorem test_mailbox_agent_reset :
    let h := after (.agentResetWrite (.agent 0) 4) (released 0x20050001 0x00050000)
    h.nat (MLBn_STAT 3) = 0x60050001 ∧ h.nat MLB_EPOCH0 = 0x00060000 ∧ h.nat (MLB_DBa_MASK 2) = 0xFFFFFFFF := by
  decide +kernel

theorem test_mailbox_ack :
    let h := after (.mlbAck (.agent 0) 3 1) (channel3 0x60050001 0x00060000)
    h.nat (MLBn_ACK 3) = 0x80050001 ∧ h.nat (MLBn_STAT 3) = 0x60050002 ∧ h.nat (MLB_DBa 2) = 0x00080000 := by
  decide +kernel

/-- Controller 1 of the worked example of chapter 15: filter 5 takes 0x321 to object 12, which `f` changes. -/
def controller1 (f : Hw → Hw) : State :=
  unit fun h => f (((((((h.wr (BLK_STAT_RUN (PG_CAN 1)) 1).wr (CAN_CTL_INIT 1) 0).wr (CAN_OBJn_W0_TYPE 1 12) canRx).wr
    (CAN_FLTj_MATCH_EN 1 5) 1).wr (CAN_FLTj_MATCH_ID 1 5) 0x321).wr (CAN_FLTj_MASK_MASK 1 5) 0x1FFFFFFF).wr
    (CAN_FLTj_ACT_OBJ 1 5) 12)

theorem test_can_lock :
    let h := after (.canObjectLock (.agent 2) 1 12) (controller1 fun h => h)
    h.on (CAN_OBJn_W3_LOCKED 1 12) = true ∧ h.rd (CAN_OBJn_W3_LOCKAG 1 12) = 2 := by decide +kernel

theorem test_can_holder :
    (after (.canFrameReceive 1 { canData with id := 0x321 })
      (controller1 fun h => h.wr (CAN_OBJn_W3_LOCKED 1 12) 1)).nat (CAN_HOLD 1) = 0x8000000C := by decide +kernel

theorem test_can_lost :
    let h := after (.canFrameReceive 1 { canData with id := 0x321 }) (controller1 fun h =>
      (h.wr (CAN_OBJn_W3_LOCKED 1 12) 1).setCn 1 { h.cn 1 with hold := some (12, ⟨0, 0, 0, [], 5⟩) })
    h.nat (CAN_LOST 1) = 0x00000C01 ∧ h.on (CAN_OBJn_W3_LOST 1 12) = true := by decide +kernel

/-- The car of the worked example of chapter 20, with the calls CAR[83] as `car` has it, UP[80] and DN[82]. -/
def risingCar (car : Nat) : Hw :=
  let h := up.dev.hw
  let l := [(80, 0x4A768000), (81, 0x4B708000), (82, 0x4C2C0000), (83, 0x4D260000)]
  let h1 := l.foldl (fun h x => (h.setNat (MAP_LNDn_POS x.1) x.2).setBitAt (MAP_LNDn_ATTR x.1) 0 true) h
  let h2 := ((h1.setNat MAP_POS 0x493E0000).wr MAP_STAT_VALID 1).wr (SSE_Ck_CFG_EN 0) 1 |>.wr (SSE_Ck_CFG_KIND 0) 2
  let h3 := ((h2.setNat (stqWord 0 2) car).setNat (stqWord 1 2) 0x00010000).setNat (stqWord 2 2) 0x00040000
  { h3 with peer := { h3.peer with mach := some ⟨6144000, 6144000, 0x02904000, 0, false, 0, 0⟩ } }

theorem test_next_stop :
    (risingCar 0x000A0000).stqPublish.nat STQ_NEXT = 0x80000153 ∧
      (risingCar 0x00020000).stqPublish.nat STQ_NEXT = 0xA0000152 := by decide +kernel

/-! ## Witnesses: for every statement with hypotheses, states and operands that meet them -/

theorem witness_IdleStep : ∃ s : State, s.pending = [] :=
  ⟨State.reset, rfl⟩

theorem witness_MemoryFrame : ∃ (c : Instr) (s t : State), c.stores = false ∧ exec c s = .next t :=
  ⟨.tapReset, State.reset, _, rfl, rfl⟩

theorem witness_StepKeepsInv : ∃ s t : State, s.Inv ∧ step s = .next t :=
  ⟨State.reset, _, (rfl : memWf [] = true), rfl⟩

theorem witness_ResetState :
  ∃ (a : Nat), a ∉ resetRegs.map Prod.fst :=
  ⟨0, by decide +kernel⟩

theorem witness_Resets :
  (∃ (s : State), s.rd SIS_MODE_CUR ≠ 0) ∧
  (∃ (s : State), s.rd SIS_MODE_CUR = 0) ∧
  (∃ (s : State), s.rd SIS_MODE_CUR ≠ 0) ∧
  (∃ (s : State), s.rd SIS_MODE_CUR = 0) ∧
  (∃ (s : State), s.dev.hw.perm 3 = true) ∧
  (∃ (s : State), s.dev.hw.perm 3 = false) ∧
  (∃ (s : State), s.rd SIS_MODE_CUR = 0) ∧
  (∃ (s : State), s.rd SIS_MODE_CUR ≠ 0) ∧
  (∃ (s : State) (w : Word), Reaches (.agent 0) CPR_RST_REQ s ∧ getBits w 0 1 = 1 ∧ getBits w 16 16 = 0xA5C3 ∧
      s.dev.hw.cpr.inReset = false ∧ s.rd CPR_WIPE_STAT_FAIL = 0) ∧
  (∃ (s : State) (w : Word), Reaches (.agent 0) CPR_RST_REQ s ∧ getBits w 16 16 ≠ 0xA5C3) ∧
  (∃ (s : State) (who : Who), Reaches who CPR_RST_REQ s ∧ who ≠ .agent 0) :=
  ⟨⟨up, by decide +kernel⟩,
   ⟨(unit (fun h => (h.wr SIS_MODE_CUR 0))), by decide +kernel⟩,
   ⟨up, by decide +kernel⟩,
   ⟨(unit (fun h => (h.wr SIS_MODE_CUR 0))), by decide +kernel⟩,
   ⟨(unit (fun h => ((h.wr SEC_KW_STAT_OPEN 1).wr SEC_KW_STAT_PERM 8))), by decide +kernel⟩,
   ⟨up, by decide +kernel⟩,
   ⟨(unit (fun h => (h.wr SIS_MODE_CUR 0))), by decide +kernel⟩,
   ⟨up, by decide +kernel⟩,
   ⟨(unit (fun h => ((h |> fun h : Hw => { h with cpr := { h.cpr with inReset := false } }).wr CPR_WIPE_STAT_FAIL
       0))), 2781020161, by decide +kernel⟩,
   ⟨up, 0, by decide +kernel⟩,
   ⟨up, (.agent 1), by decide +kernel⟩⟩

theorem witness_StartUp :
  (∃ (s : State), s.dev.hw.cpr.nreset = true) ∧
  (∃ (s : State), s.rd SIS_MODE_CUR = 1 ∧ s.dev.hw.cpr.supplies = true ∧ s.dev.hw.cpr.nreset = false) ∧
  (∃ (s : State), s.rd SIS_MODE_CUR = 2 ∧ s.on CPR_WIPE_STAT_BUSY = true ∧ s.dev.hw.cpr.wipeWait = []) ∧
  (∃ (s : State), s.rd SIS_MODE_CUR = 2 ∧ s.on CPR_WIPE_STAT_BUSY = false ∧ s.rd CPR_WIPE_STAT_DONE = 63 ∧ s.rd
      CPR_WIPE_STAT_FAIL = 0 ∧ s.dev.hw.otp.pending = none) :=
  ⟨⟨(unit (fun h => (h |> fun h : Hw => { h with cpr := { h.cpr with nreset := true } }))), by decide +kernel⟩,
   ⟨(unit (fun h => (((h.wr SIS_MODE_CUR 1) |> fun h : Hw => { h with cpr := { h.cpr with supplies := true } }) |> fun
       h : Hw => { h with cpr := { h.cpr with nreset := false } }))), by decide +kernel⟩,
   ⟨(unit (fun h => (((h.wr SIS_MODE_CUR 2).wr CPR_WIPE_STAT_BUSY 1) |> fun h : Hw =>
       { h with cpr := { h.cpr with wipeWait := [] } }))), by decide +kernel⟩,
   ⟨(unit (fun h => ((((h.wr SIS_MODE_CUR 2).wr CPR_WIPE_STAT_BUSY 0).wr CPR_WIPE_STAT_DONE 63).wr CPR_WIPE_STAT_FAIL
       0))), by decide +kernel⟩⟩

theorem witness_ClocksAndAgents :
  (∃ (dom : Fin 9) (s : State), dom.val ≠ 0 ∧ dom.val ≠ 1 ∧ bit (s.rd CPR_CLK_STAT_RUN) dom.val = true ∧ bit (s.rd
      CPR_CLKMON_TRIP) dom.val = false ∧ NoFault s) ∧
  (∃ (s : State), s.on CPR_CLKMON_XTALFAIL = false ∧ NoFault s) ∧
  (∃ (who : Who) (s : State), MayConfigure who PG_CPR CPR_CLK_DIV s) ∧
  (∃ (s : State), Reaches (.agent 0) CPR_CLK_EN s) ∧
  (∃ (who : Who) (s : State), Reaches who CPR_CLK_EN s ∧ who ≠ .agent 0) ∧
  (∃ (a : Fin 8) (hi : Word) (lo : Word) (s : State), MayOperate (.agent a) PG_CPR CPR_OPTIME_HI s ∧
      s.dev.hw.cpr.optSpent = false ∧ s.dev.hw.cpr.agtWritten = false ∧ holderOf s.dev.hw.hdr.wrHold a.val
      CPR_OPTIME_LO = some lo ∧ s.dev.hw.opTime ≤ lo.toNat + 4294967296 * getBits hi 0 16) ∧
  (∃ (who : Who) (s : State), MayOperate who PG_CPR CPR_OPTIME_HI s ∧ (s.dev.hw.cpr.optSpent = true ∨
      s.dev.hw.cpr.agtWritten = true)) ∧
  (∃ (s : State), Reaches (.agent 0) CPR_AGT_RST s) ∧
  (∃ (who : Who) (s : State), Reaches who CPR_AGT_RST s ∧ who ≠ .agent 0) :=
  ⟨⟨2, (unit (fun h => (h.wr CPR_CLK_STAT_RUN 4))), by decide +kernel⟩,
   ⟨(unit (fun h => (h.wr CPR_CLKMON_XTALFAIL 0))), by decide +kernel⟩,
   ⟨(.agent 0), up, by decide +kernel⟩,
   ⟨up, by decide +kernel⟩,
   ⟨(.agent 1), up, by decide +kernel⟩,
   ⟨0, 0, 5, (unit (fun h => (((h |> fun h : Hw => { h with cpr := { h.cpr with optSpent := false } }) |> fun h : Hw
       => { h with cpr := { h.cpr with agtWritten := false } }) |> fun h : Hw =>
       { h with hdr := { h.hdr with wrHold := [⟨0, CPR_OPTIME_LO, 5⟩] } }))), by decide +kernel⟩,
   ⟨(.agent 0), (unit (fun h => (h |> fun h : Hw => { h with cpr := { h.cpr with optSpent := true } }))),
       by decide +kernel⟩,
   ⟨up, by decide +kernel⟩,
   ⟨(.agent 1), up, by decide +kernel⟩⟩

theorem witness_Parking :
  (∃ (w : Word) (s : State), Reaches (.agent 0) CPR_PARK s ∧ getBits w 0 1 = 1 ∧ s.rd SIS_MODE_CUR = 4 ∧
      s.dev.hw.cpr.parking = false) ∧
  (∃ (s : State), s.dev.hw.cpr.clocksDead = false ∧ s.dev.hw.cpr.parking = true ∧ s.dev.hw.cpr.parkAt = true ∧
      s.dev.hw.allQuiet = true ∧ s.rd SIS_MODE_CUR = 4) ∧
  (∃ (s : State), s.dev.hw.cpr.clocksDead = false ∧ s.dev.hw.cpr.parking = true) ∧
  (∃ (sources : BitVec 9) (rx : BitVec 2) (m : Nat) (s : State), m = (if s.on CPR_WAKE_EN_CANRX = true then rx.toNat
      else sources.toNat % 4) + (sources.toNat &&& (if s.dev.hw.dinMoved = true then 0x19C else 0x18C)) ∧ m &&& s.rd
      CPR_WAKE_EN_SRC &&& 0x1F7 ≠ 0 ∧ s.dev.hw.cpr.clocksDead = false ∧ s.dev.hw.cpr.parking = false ∧ s.rd
      SIS_MODE_CUR = 3) ∧
  (∃ (sources : BitVec 9) (rx : BitVec 2) (s : State), ((if s.on CPR_WAKE_EN_CANRX = true then rx.toNat else
      sources.toNat % 4) + (sources.toNat &&& (if s.dev.hw.dinMoved = true then 0x19C else 0x18C))) &&& s.rd
      CPR_WAKE_EN_SRC = 0) ∧
  (∃ (s : State), s.rd SIS_MODE_CUR = 3 ∧ s.on CPR_PW_CFG_EN = true ∧ bit (s.rd CPR_WAKE_EN_SRC) 5 = true ∧
      s.dev.hw.cpr.parking = false) ∧
  (∃ (s : State), s.rd SIS_MODE_CUR = 3 ∧ s.on CPR_PW_CFG_EN = true ∧ s.rd CPR_PW_CFG_PERIOD ≠ 0 ∧
      s.dev.hw.cpr.clocksDead = false ∧ s.dev.hw.cpr.parking = false) ∧
  (∃ (s : State), s.rd SIS_MODE_CUR = 3 ∧ s.dev.hw.cpr.waking = true ∧ s.dev.hw.cpr.clocksDead = false) ∧
  (∃ (s : State), s.rd SIS_MODE_CUR = 3 ∧ s.dev.hw.cpr.waking = true ∧ s.dev.hw.cpr.clocksDead = false ∧ bit
      s.dev.hw.cpr.wakeBy 5 = true ∧ s.on CPR_PW_STAT_MOVE = true ∧ NoFault s) ∧
  (∃ (s : State), (¬(s.rd SIS_MODE_CUR = 3 ∧ s.dev.hw.cpr.waking = true))) :=
  ⟨⟨1, (unit (fun h => ((h.wr SIS_MODE_CUR 4) |> fun h : Hw => { h with cpr := { h.cpr with parking := false } }))),
      by decide +kernel⟩,
   ⟨(unit (fun h => (((((((h |> fun h : Hw => { h with cpr := { h.cpr with clocksDead := false } }) |> fun h : Hw =>
       { h with cpr := { h.cpr with parking := true } }) |> fun h : Hw =>
       { h with cpr := { h.cpr with parkAt := true } }).wr SIS_MODE_CUR 4) |> fun h : Hw =>
       { h with cpr := { h.cpr with parking := true } }) |> fun h : Hw =>
       { h with cpr := { h.cpr with parkAt := true } }) |> fun h : Hw => allPages.foldl (fun h p => h.wr
       (BLK_STAT_QUIET p) 1) h))), by decide +kernel⟩,
   ⟨(unit (fun h => ((h |> fun h : Hw => { h with cpr := { h.cpr with clocksDead := false } }) |> fun h : Hw =>
       { h with cpr := { h.cpr with parking := true } }))), by decide +kernel⟩,
   ⟨1, 0, 1, (unit (fun h => ((((h |> fun h : Hw => { h with cpr := { h.cpr with clocksDead := false } }) |> fun h :
       Hw => { h with cpr := { h.cpr with parking := false } }).wr SIS_MODE_CUR 3).wr CPR_WAKE_EN_SRC 1))),
       by decide +kernel⟩,
   ⟨0, 0, up, by decide +kernel⟩,
   ⟨(unit (fun h => (((h.wr SIS_MODE_CUR 3).wr CPR_PW_CFG_EN 1) |> fun h : Hw =>
       { h with cpr := { h.cpr with parking := false } }))), by decide +kernel⟩,
   ⟨(unit (fun h => (((((h.wr SIS_MODE_CUR 3).wr CPR_PW_CFG_EN 1) |> fun h : Hw =>
       { h with cpr := { h.cpr with clocksDead := false } }) |> fun h : Hw =>
       { h with cpr := { h.cpr with parking := false } }).wr CPR_PW_CFG_PERIOD 5))), by decide +kernel⟩,
   ⟨(unit (fun h => (((h.wr SIS_MODE_CUR 3) |> fun h : Hw => { h with cpr := { h.cpr with waking := true } }) |> fun h
       : Hw => { h with cpr := { h.cpr with clocksDead := false } }))), by decide +kernel⟩,
   ⟨(unit (fun h => ((((((h.wr SIS_MODE_CUR 3) |> fun h : Hw => { h with cpr := { h.cpr with waking := true } }) |>
       fun h : Hw => { h with cpr := { h.cpr with clocksDead := false } }).wr CPR_PW_STAT_MOVE 1).wr CPR_PW_STAT_MOVE
       1) |> fun h : Hw => { h with cpr := { h.cpr with wakeBy := 32 } }))), by decide +kernel⟩,
   ⟨up, by decide +kernel⟩⟩

theorem witness_BlockControl :
  (∃ (who : Who) (p : Fin 41) (s : State), isPage p.val = true ∧ MayConfigure who p.val (BLK_CTL p.val) s) ∧
  (∃ (who : Who) (p : Fin 41) (s : State), isPage p.val = true ∧ ctlFixed p.val = false ∧ MayConfigure who p.val
      (BLK_CTL p.val) s ∧ s.on (BLK_CTL_EN p.val) = true) ∧
  (∃ (who : Who) (p : Fin 41) (s : State), isPage p.val = true ∧ ctlFixed p.val = false ∧ MayConfigure who p.val
      (BLK_CTL p.val) s) ∧
  (∃ (who : Who) (p : Fin 41) (s : State), isPage p.val = true ∧ ctlFixed p.val = false ∧ MayConfigure who p.val
      (BLK_CTL p.val) s ∧ s.on (BLK_CTL_QREQ p.val) = true ∧ s.on (BLK_TEST_BUSY p.val) = false) ∧
  (∃ (p : Fin 41) (s : State), isPage p.val = true ∧ Alive s ∧ s.on (BLK_CTL_EN p.val) = true ∧ s.on (BLK_CTL_QREQ
      p.val) = true ∧ s.dev.hw.tst.stage ≠ .quiet ∧ s.dev.hw.cpr.parking = false) ∧
  (∃ (who : Who) (p : Fin 41) (s : State), isPage p.val = true ∧ boltable p.val = true ∧ MayConfigure who p.val
      (BLK_CTL p.val) s ∧ s.dev.hw.bolted p.val = false ∧ s.dev.hw.quiet p.val = true ∧ s.dev.hw.boltGrant p.val =
      true) ∧
  (∃ (who : Who) (p : Fin 41) (s : State), isPage p.val = true ∧ p.val ∉ [PG_CPR, PG_SEC, PG_SIS] ∧ MayConfigure who
      p.val (BLK_CTL p.val) s ∧ s.dev.hw.bolted p.val = false ∧ (s.dev.hw.quiet p.val = false ∨ s.dev.hw.boltGrant
      p.val = false)) ∧
  (∃ (who : Who) (p : Fin 41) (s : State), isPage p.val = true ∧ MayConfigure who p.val (BLK_CTL p.val) s ∧
      s.dev.hw.bolted p.val = true ∧ s.on (BLK_TEST_BUSY p.val) = false ∧ (s.on (BLK_CTL_EN p.val) = false ∨ s.rd
      (BLK_HINGE_POINT p.val) ≠ 0)) ∧
  (∃ (who : Who) (p : Fin 41) (s : State), isPage p.val = true ∧ MayConfigure who p.val (BLK_CTL p.val) s ∧
      s.dev.hw.bolted p.val = true ∧ s.on (BLK_TEST_BUSY p.val) = true) ∧
  (∃ (who : Who) (p : Fin 41) (s : State), isPage p.val = true ∧ p.val ∉ [PG_CPR, PG_SEC, PG_PRF, PG_PST] ∧ enResets
      p.val = false ∧ MayConfigure who p.val (BLK_CTL p.val) s ∧ s.on (BLK_TEST_BUSY p.val) = false ∧ s.dev.hw.quiet
      p.val = true ∧ (∀ c, c < 2 → p.val = PG_TCE c → bit (s.rd CPR_AGT_RST_AGT) (4 + c) = true) ∧ (p.val = PG_RDN →
      s.on RDN_KEY_HELD = false) ∧ (∀ c, c < 4 → p.val = PG_CAN c → s.dev.hw.noKey = false)) ∧
  (∃ (who : Who) (p : Fin 41) (s : State), isPage p.val = true ∧ ctlFixed p.val = false ∧ MayConfigure who p.val
      (BLK_CTL p.val) s ∧ s.on (BLK_TEST_BUSY p.val) = false ∧ s.dev.hw.quiet p.val = false ∧ s.dev.hw.bolted p.val =
      false) ∧
  (∃ (who : Who) (p : Fin 41) (s : State), isPage p.val = false ∧ Reaches who (BLK_CTL p.val) s) ∧
  (∃ (who : Who) (p : Fin 41) (s : State), isPage p.val = true ∧ MayOperate who p.val (BLK_LOCK p.val) s) ∧
  (∃ (who : Who) (p : Fin 41) (s : State), isPage p.val = true ∧ Reaches who (BLK_HINGE p.val) s ∧ s.dev.hw.absent
      p.val = false ∧ who ≠ .agent 0 ∧ (s.on (BLK_LOCK_LOCK p.val) = true ∨ s.on (BLK_LOCK_SISONLY p.val) = true)) ∧
  (∃ (who : Who) (p : Fin 41) (s : State), isPage p.val = true ∧ Reaches who (BLK_LOCK p.val) s ∧ s.dev.hw.absent
      p.val = true) :=
  ⟨⟨(.agent 0), 0x10, up, by decide +kernel⟩,
   ⟨(.agent 0), 0x10, (unit (fun h => (h.wr (BLK_CTL_EN 0x10) 1))), by decide +kernel⟩,
   ⟨(.agent 0), 0x10, up, by decide +kernel⟩,
   ⟨(.agent 0), 0x10, (unit (fun h => ((h.wr (BLK_CTL_QREQ 0x10) 1).wr (BLK_TEST_BUSY 0x10) 0))), by decide +kernel⟩,
   ⟨0x10, (unit (fun h => (((h.wr (BLK_CTL_EN 0x10) 1).wr (BLK_CTL_QREQ 0x10) 1) |> fun h : Hw =>
       { h with cpr := { h.cpr with parking := false } }))), by decide +kernel⟩,
   ⟨(.agent 0), 0x11, (unit (fun h => (((h.wr (BLK_STAT_BOLTED 0x11) 0).wr (BLK_STAT_QUIET 0x11) 1).wr
       SIS_BOLT_G0_PAGE 0x00020000))), by decide +kernel⟩,
   ⟨(.agent 0), 0x10, (unit (fun h => (h.wr (BLK_STAT_BOLTED 0x10) 0))), by decide +kernel⟩,
   ⟨(.agent 0), 0x10, (unit (fun h => ((h.wr (BLK_STAT_BOLTED 0x10) 1).wr (BLK_TEST_BUSY 0x10) 0))),
       by decide +kernel⟩,
   ⟨(.agent 0), 0x10, (unit (fun h => ((h.wr (BLK_STAT_BOLTED 0x10) 1).wr (BLK_TEST_BUSY 0x10) 1))),
       by decide +kernel⟩,
   ⟨(.agent 0), 0x10, (unit (fun h => ((h.wr (BLK_TEST_BUSY 0x10) 0).wr (BLK_STAT_QUIET 0x10) 1))),
       by decide +kernel⟩,
   ⟨(.agent 0), 0x10, (unit (fun h => (((h.wr (BLK_TEST_BUSY 0x10) 0).wr (BLK_STAT_QUIET 0x10) 0).wr (BLK_STAT_BOLTED
       0x10) 0))), by decide +kernel⟩,
   ⟨(.agent 0), 0x17, up, by decide +kernel⟩,
   ⟨(.agent 0), 0x10, up, by decide +kernel⟩,
   ⟨(.agent 1), 0x10, (unit (fun h => (h.wr (BLK_LOCK_LOCK 16) 1))), by decide +kernel⟩,
   ⟨(.agent 0), 0x16, (unit (fun h => (h |> fun h : Hw => { h with env := { h.env with part := 46 } }))),
       by decide +kernel⟩⟩

theorem witness_Hinge :
  (∃ (who : Who) (p : Fin 41) (w : Word) (s : State), isPage p.val = true ∧ MayConfigure who p.val (BLK_HINGE p.val) s
      ∧ s.on (BLK_STAT_HPEND p.val) = false ∧ w.getLsbD 0 = true ∧ w.getLsbD 8 = false) ∧
  (∃ (who : Who) (p : Fin 41) (w : Word) (s : State), isPage p.val = true ∧ MayConfigure who p.val (BLK_HINGE p.val) s
      ∧ s.on (BLK_STAT_HPEND p.val) = true ∧ w.getLsbD 8 = false) ∧
  (∃ (who : Who) (p : Fin 41) (s : State), isPage p.val = true ∧ MayConfigure who p.val (BLK_HINGE p.val) s ∧ s.on
      (BLK_STAT_HPEND p.val) = true) ∧
  (∃ (s : State), Alive s ∧ s.on (BLK_STAT_HPEND PG_HSP) = true ∧ s.rd (BLK_HINGE_POINT PG_HSP) = 0 ∧ s.dev.hw.bolted
      PG_HSP = false ∧ s.on (BLK_CTL_EN PG_HSP) = true ∧ PG_HSP ∉ s.dev.hw.hdr.syncing ∧ s.on (BLK_HINGE_SYNC PG_HSP)
      = false ∧ 4 ≤ getBits (s.reg (HSP_CFG + 0x8000)) HSP_CFG_DUMMY.lo HSP_CFG_DUMMY.width) ∧
  (∃ (p : Fin 41) (s : State), s.on (BLK_STAT_HPEND p.val) = false) ∧
  (∃ (p : Fin 41) (s : State), Alive s ∧ p.val ∈ s.dev.hw.hdr.syncing ∧ p.val ∉ s.dev.hw.hdr.late ∧
      s.dev.hw.hdr.stalled = []) ∧
  (∃ (who : Who) (w : Word) (s : State), MayOperate who PG_CPR CPR_HINGE_FIRE s ∧ (∀ p ∈ allPages, ¬(s.rd
      (BLK_HINGE_POINT p) = 3 ∧ bit (getBits w 0 4) (s.rd (BLK_HINGE_GROUP p)) = true))) ∧
  (∃ (who : Who) (w : Word) (s : State), MayOperate who PG_CPR CPR_HINGE_FIRE s ∧ Alive s ∧ (∀ p ∈ allPages, p ≠
      PG_HSP → s.rd (BLK_HINGE_POINT p) ≠ 3) ∧ s.rd (BLK_HINGE_POINT PG_HSP) = 3 ∧ bit (getBits w 0 4) (s.rd
      (BLK_HINGE_GROUP PG_HSP)) = true ∧ s.on (BLK_STAT_HPEND PG_HSP) = true ∧ s.dev.hw.bolted PG_HSP = false ∧ s.on
      (BLK_CTL_EN PG_HSP) = true ∧ PG_HSP ∉ s.dev.hw.hdr.syncing ∧ 4 ≤ getBits (s.reg (HSP_CFG + 0x8000))
      HSP_CFG_DUMMY.lo HSP_CFG_DUMMY.width) :=
  ⟨⟨(.agent 0), 0x10, 1, (unit (fun h => (h.wr (BLK_STAT_HPEND 0x10) 0))), by decide +kernel⟩,
   ⟨(.agent 0), 0x10, 0, (unit (fun h => (h.wr (BLK_STAT_HPEND 0x10) 1))), by decide +kernel⟩,
   ⟨(.agent 0), 0x10, (unit (fun h => (h.wr (BLK_STAT_HPEND 0x10) 1))), by decide +kernel⟩,
   ⟨(unit (fun h => (((((h.wr (BLK_STAT_HPEND PG_HSP) 1).wr (BLK_HINGE_POINT PG_HSP) 0).wr (BLK_STAT_BOLTED PG_HSP)
       0).wr (BLK_CTL_EN PG_HSP) 1).wr (BLK_HINGE_SYNC PG_HSP) 0))), by decide +kernel⟩,
   ⟨0x10, (unit (fun h => (h.wr (BLK_STAT_HPEND 0x10) 0))), by decide +kernel⟩,
   ⟨0x10, (unit (fun h => ((h |> fun h : Hw => { h with hdr := { h.hdr with stalled := [] } }) |> fun h : Hw =>
       { h with hdr := { h.hdr with syncing := [16] } }))), by decide +kernel⟩,
   ⟨(.agent 0), 0, up, by decide +kernel⟩,
   ⟨(.agent 0), 1, (unit (fun h => ((((((((h.wr (BLK_HINGE_POINT PG_HSP) 3).wr (BLK_STAT_HPEND PG_HSP) 1).wr
       (BLK_STAT_BOLTED PG_HSP) 0).wr (BLK_CTL_EN PG_HSP) 1).wr (BLK_HINGE_POINT PG_HSP) 3).wr (BLK_STAT_HPEND PG_HSP)
       1).wr (BLK_CTL_EN PG_HSP) 1).setReg (HSP_CFG + 0x8000) (BitVec.ofNat 32 (4 * 2 ^ HSP_CFG_DUMMY.lo))))),
       by decide +kernel⟩⟩

theorem witness_QuadratureDecoders :
  (∃ (ch : Fin 6) (a : BitVec 5) (b : BitVec 5) (stamp : Nat) (s : State), Alive s ∧ s.dev.hw.qLive ch.val = true ∧
      s.dev.hw.motionHeld = false ∧ ch.val < s.dev.hw.pos.q.length ∧ quadMoves s ch.val a b stamp = .up) ∧
  (∃ (ch : Fin 6) (a : BitVec 5) (b : BitVec 5) (stamp : Nat) (s : State), Alive s ∧ s.dev.hw.qLive ch.val = true ∧
      s.dev.hw.motionHeld = false ∧ ch.val < s.dev.hw.pos.q.length ∧ quadMoves s ch.val a b stamp = .down) ∧
  (∃ (ch : Fin 6) (a : BitVec 5) (b : BitVec 5) (stamp : Nat) (s : State), Alive s ∧ s.dev.hw.qLive ch.val = true ∧
      s.dev.hw.motionHeld = false ∧ ch.val < s.dev.hw.pos.q.length ∧ quadMoves s ch.val a b stamp = .illegal) ∧
  (∃ (ch : Fin 6) (s : State), Alive s ∧ (s.dev.hw.qLive ch.val = false ∨ s.dev.hw.motionHeld = true)) ∧
  (∃ (ch : Fin 6) (s : State), Alive s ∧ ch.val < s.dev.hw.pos.q.length) ∧
  (∃ (ch : Fin 6) (s : State), Alive s ∧ ch.val < s.dev.hw.pos.q.length ∧ s.rd (POS_Qn_CTL_IDX_MODE ch.val) = 0) ∧
  (∃ (ch : Fin 6) (level : Bool) (s : State), Alive s ∧ s.dev.hw.qCounts ch.val = true ∧ ch.val <
      s.dev.hw.pos.q.length ∧ s.rd (POS_Qn_CTL_IDX_MODE ch.val) = 1 ∧ (s.dev.hw.q ch.val).z ≠ level ∧ level ≠ s.on
      (POS_Qn_CTL_IDXPOL ch.val)) ∧
  (∃ (ch : Fin 6) (level : Bool) (s : State), Alive s ∧ s.dev.hw.qCounts ch.val = true ∧ ch.val <
      s.dev.hw.pos.q.length ∧ s.rd (POS_Qn_CTL_IDX_MODE ch.val) = 1 ∧ (s.dev.hw.q ch.val).z ≠ level ∧ level ≠ s.on
      (POS_Qn_CTL_IDXPOL ch.val) ∧ s.rd (POS_Qn_IDXCFG_IDX_TOL ch.val) < (indexDev (s.dev.hw.q ch.val) (s.reg
      (POS_Qn_IDXEXP ch.val)).toNat).natAbs) ∧
  (∃ (ch : Fin 6) (level : Bool) (since : Nat) (s : State), Alive s ∧ s.dev.hw.qCounts ch.val = true ∧ ch.val <
      s.dev.hw.pos.q.length ∧ s.rd (POS_Qn_CTL_IDX_MODE ch.val) = 1 ∧ (s.dev.hw.q ch.val).z ≠ level ∧ level ≠ s.on
      (POS_Qn_CTL_IDXPOL ch.val) ∧ (indexDev (s.dev.hw.q ch.val) (s.reg (POS_Qn_IDXEXP ch.val)).toNat).natAbs ≤ s.rd
      (POS_Qn_IDXCFG_IDX_TOL ch.val) ∧ 2 < since) :=
  ⟨⟨0, 7, 0, 100, (unit (fun h => (h.wr (POS_Qn_CTL_EN 0) 1))), by decide +kernel⟩,
   ⟨0, 0, 7, 100, (unit (fun h => (h.wr (POS_Qn_CTL_EN 0) 1))), by decide +kernel⟩,
   ⟨0, 7, 7, 100, (unit (fun h => (h.wr (POS_Qn_CTL_EN 0) 1))), by decide +kernel⟩,
   ⟨0, up, by decide +kernel⟩,
   ⟨0, up, by decide +kernel⟩,
   ⟨0, (unit (fun h => (h.wr (POS_Qn_CTL_IDX_MODE 0) 0))), by decide +kernel⟩,
   ⟨0, true, (unit (fun h => ((h.wr (POS_Qn_CTL_IDX_MODE 0) 1).wr (POS_Qn_CTL_EN 0) 1))), by decide +kernel⟩,
   ⟨0, true, (unit (fun h => (((h.wr (POS_Qn_CTL_IDX_MODE 0) 1).wr (POS_Qn_CTL_EN 0) 1).setReg (POS_Qn_IDXEXP 0)
       50))), by decide +kernel⟩,
   ⟨0, true, 3, (unit (fun h => ((h.wr (POS_Qn_CTL_IDX_MODE 0) 1).wr (POS_Qn_CTL_EN 0) 1))), by decide +kernel⟩⟩

theorem witness_PositionRegisters :
  (∃ (who : Who) (ch : Fin 6) (s : State), MayOperate who PG_POS (POS_Qn_PRESET ch.val) s ∧ ch.val <
      s.dev.hw.pos.q.length) ∧
  (∃ (who : Who) (s : State), MayOperate who PG_POS POS_TUM_CTL s) ∧
  (∃ (who : Who) (s : State), MayOperate who PG_POS POS_LOOP_STAT s) ∧
  (∃ (a : Fin 8) (e : Machine.Capture) (l : List Machine.Capture) (s : State), s.dev.hw.canAccess (.agent a) = true ∧
      s.dev.hw.pos.dcap = e :: l) ∧
  (∃ (a : Fin 8) (s : State), s.dev.hw.canAccess (.agent a) = true ∧ s.dev.hw.pos.dcap = []) ∧
  (∃ (k : Fin 2) (s : State), Alive s ∧ s.dev.hw.emuLive k.val = true ∧ s.dev.hw.motionHeld = false ∧ k.val <
      s.dev.hw.pos.emu.length ∧ (s.dev.hw.em k.val).backlog ≠ 0) ∧
  (∃ (i : Fin 32) (level : Bool) (s : State), bit s.dev.hw.pos.din i.val ≠ level ∧ s.dev.hw.bitAt POS_DIN_EDGEEN i.val
      = true ∧ s.dev.hw.pos.dcap.length < 32) ∧
  (∃ (i : Fin 32) (level : Bool) (s : State), bit s.dev.hw.pos.din i.val ≠ level ∧ s.dev.hw.bitAt POS_DIN_EDGEEN i.val
      = true ∧ 32 ≤ s.dev.hw.pos.dcap.length) :=
  ⟨⟨(.agent 0), 0, up, by decide +kernel⟩,
   ⟨(.agent 0), up, by decide +kernel⟩,
   ⟨(.agent 0), up, by decide +kernel⟩,
   ⟨0, (⟨0, true, 0, 0⟩), [], (unit (fun h => (h |> fun h : Hw =>
       { h with pos := { h.pos with dcap := [⟨0, true, 0, 0⟩] } }))), by decide +kernel⟩,
   ⟨0, (unit (fun h => (h |> fun h : Hw => { h with pos := { h.pos with dcap := [] } }))), by decide +kernel⟩,
   ⟨0, (unit (fun h => ((h.wr (POS_EMUk_CTL_EN 0) 1) |> fun h : Hw =>
       { h with pos := { h.pos with emu := [{ Emu.init with backlog := 3 }] } }))), by decide +kernel⟩,
   ⟨31, true, (unit fun h => h.setBitAt POS_DIN_EDGEEN 31 true), by decide +kernel⟩,
   ⟨31, true, (unit fun h =>
       { h.setBitAt POS_DIN_EDGEEN 31 true with pos := { h.pos with dcap := List.replicate 32 ⟨0, true, 0, 0⟩ } }),
       by decide +kernel⟩⟩

theorem witness_SerialChannels :
  (∃ (ch : Fin 4) (rx : SerialRx) (s : State), Alive s ∧ s.dev.hw.sLive ch.val = true ∧ s.dev.hw.motionHeld = false ∧
      (s.dev.hw.negotiates ch.val = false ∨ s.on (POS_Sn_STAT_NEGDONE ch.val) = true) ∧ (s.on (POS_Sn_CTL_PROTO
      ch.val) = true ∨ s.rd (POS_Sn_CTL_PAR ch.val) ≠ 3) ∧ s.dev.hw.frameFault ch.val rx 0 = ⟨false, false, false⟩ ∧
      s.on (POS_Sn_CTL_GRAY ch.val) = false) ∧
  (∃ (ch : Fin 4) (rx : SerialRx) (s : State), Alive s ∧ s.dev.hw.sLive ch.val = true ∧ s.dev.hw.motionHeld = false ∧
      (s.dev.hw.negotiates ch.val = false ∨ s.on (POS_Sn_STAT_NEGDONE ch.val) = true) ∧ (s.on (POS_Sn_CTL_PROTO
      ch.val) = true ∨ s.rd (POS_Sn_CTL_PAR ch.val) ≠ 3) ∧ s.dev.hw.frameFault ch.val rx 0 = ⟨true, false, false⟩) ∧
  (∃ (ch : Fin 4) (s : State), s.dev.hw.negotiates ch.val = true ∧ s.on (POS_Sn_STAT_NEGDONE ch.val) = false) ∧
  (∃ (ch : Fin 4) (s : State), Alive s ∧ s.dev.hw.sLive ch.val = true ∧ s.dev.hw.negotiates ch.val = true ∧
      s.dev.hw.motionHeld = false ∧ (s.dev.hw.s ch.val).tried.length ≤ 8 ∧ s.on (POS_Sn_STAT_NEGDONE ch.val) = false ∧
      s.on (POS_Sn_STAT_NEGFAIL ch.val) = false) ∧
  (∃ (who : Who) (ch : Fin 4) (w : Word) (s : State), MayOperate who PG_POS (POS_Sn_STAT ch.val) s ∧ w.getLsbD 1 =
      true) ∧
  (∃ (src : Fin 13) (s : State), Alive s ∧ s.dev.hw.frozenDue src.val = true) :=
  ⟨⟨0, (⟨none, 5, false, true, true, 0⟩), (unit (fun h => ((((h.wr (POS_Sn_CTL_GRAY 0) 0).wr (POS_Sn_CTL_PROTO 0)
      0).wr (POS_Sn_CTL_EN 0) 1).wr (POS_Sn_CTL_LEN 0) 8))), by decide +kernel⟩,
   ⟨0, (⟨none, 5, true, true, true, 0⟩), (unit (fun h => ((((h.wr (POS_Sn_CTL_PROTO 0) 0).wr (POS_Sn_CTL_EN 0) 1).wr
       (POS_Sn_CTL_LEN 0) 8).wr (POS_Sn_CTL_PAR 0) 1))), by decide +kernel⟩,
   ⟨0, (unit (fun h => (((h.wr (POS_Sn_STAT_NEGDONE 0) 0).wr (POS_Sn_CTL_PROTO 0) 1).wr (POS_Sn_CTL_NEGO 0) 1))),
       by decide +kernel⟩,
   ⟨0, (unit (fun h => (((((h.wr (POS_Sn_STAT_NEGDONE 0) 0).wr (POS_Sn_STAT_NEGFAIL 0) 0).wr (POS_Sn_CTL_EN 0) 1).wr
       (POS_Sn_CTL_PROTO 0) 1).wr (POS_Sn_CTL_NEGO 0) 1))), by decide +kernel⟩,
   ⟨(.agent 0), 0, 2, up, by decide +kernel⟩,
   ⟨3, (unit (fun h => ((h.wr POS_LOOP_PRI 3) |> fun h : Hw =>
       { h with pos := { h.pos with frzA := (List.replicate 13 1000000000) } }))), by decide +kernel⟩⟩

theorem witness_MapOrders :
  (∃ (who : Who) (w : Word) (s : State), MayOperate who PG_MAP MAP_RELOAD s ∧ w.getLsbD 0 = true) ∧
  (∃ (who : Who) (page : Fin 1024) (w : Word) (s : State), MayOperate who PG_MAP (MAP_DIRn page.val) s ∧ page.val <
      s.dev.hw.mapPages ∧ page.val ∉ s.dev.hw.map.rlQueue ∧ w.getLsbD 24 = false ∧ w.getLsbD 27 = false) ∧
  (∃ (who : Who) (page : Fin 1024) (w : Word) (s : State), MayOperate who PG_MAP (MAP_DIRn page.val) s ∧ page.val <
      s.dev.hw.mapPages ∧ w.getLsbD 25 = false ∧ w.getLsbD 27 = false ∧ s.dev.hw.slotUsed (getBits w 16 7) = false ∧
      s.dev.hw.bitAt (SEC_POOL_AUTH (getBits w 16 7 / 32)) (getBits w 16 7 % 32) = true) ∧
  (∃ (who : Who) (page : Fin 1024) (w : Word) (s : State), MayOperate who PG_MAP (MAP_DIRn page.val) s ∧ page.val <
      s.dev.hw.mapPages ∧ w.getLsbD 25 = false ∧ w.getLsbD 27 = false ∧ s.dev.hw.bitAt (SEC_POOL_AUTH (getBits w 16 7
      / 32)) (getBits w 16 7 % 32) = false) :=
  ⟨⟨(.agent 0), 1, up, by decide +kernel⟩,
   ⟨(.agent 0), 0, 0, up, by decide +kernel⟩,
   ⟨(.agent 0), 0, 0, (unit (fun h => (h.setBitAt (SEC_POOL_AUTH (getBits 0 16 7 / 32)) (getBits 0 16 7 % 32) true))),
       by decide +kernel⟩,
   ⟨(.agent 0), 0, 0, (unit (fun h => (h.setBitAt (SEC_POOL_AUTH (getBits 0 16 7 / 32)) (getBits 0 16 7 % 32)
       false))), by decide +kernel⟩⟩

theorem witness_MapPages :
  (∃ (k : Nat) (q : List Nat) (s : State), Alive s ∧ s.dev.hw.laneRuns = true ∧ s.dev.hw.map.rlQueue = k :: q) ∧
  (∃ (s : State), s.dev.hw.map.rlQueue = []) ∧
  (∃ (e : Machine.Capture) (q : List Machine.Capture) (s : State), Alive s ∧ s.dev.hw.pos.capMap = e :: q ∧ 0 < diff32
      s.dev.hw.pos.t0 e.stamp ∧ s.rd SIS_MODE_CUR ≠ 9) ∧
  (∃ (e : Machine.Capture) (q : List Machine.Capture) (s : State), Alive s ∧ s.dev.hw.pos.capMap = e :: q ∧ 0 < diff32
      s.dev.hw.pos.t0 e.stamp ∧ s.rd SIS_MODE_CUR = 9 ∧ s.on MAP_CTL_LEARN = true ∧ s.rd POS_LOOP_STAT_STATE = 1 ∧
      s.dev.hw.running PG_MAP = true ∧ s.rd MAP_MARK_CNT_CNT = 0) ∧
  (∃ (e : Machine.Capture) (q : List Machine.Capture) (s : State), Alive s ∧ s.dev.hw.pos.capMap = e :: q) ∧
  (∃ (who : Who) (w : Word) (s : State), MayOperate who PG_MAP MAP_REB_CTL s ∧ w.getLsbD 30 = false ∧ 4 ≤ s.rd
      SIS_MODE_CUR ∧ s.rd SIS_MODE_CUR ≤ 0xA ∧ s.dev.hw.map.rbCur = none ∧ s.dev.marksSorted = true ∧ getBits w 0 10 ≤
      getBits w 16 10 ∧ getBits w 16 10 < s.dev.hw.mapPages ∧ s.rd (MAP_DIRn_STATE (getBits w 0 10)) = dirLoaded) ∧
  (∃ (who : Who) (w : Word) (s : State), MayOperate who PG_MAP MAP_REB_CTL s ∧ (s.rd SIS_MODE_CUR < 4 ∨ 0xA < s.rd
      SIS_MODE_CUR) ∧ w.getLsbD 30 = false) ∧
  (∃ (who : Who) (s : State), MayOperate who PG_MAP MAP_REB_CTL s) ∧
  (∃ (k : Nat) (slot : Nat) (s : State), Alive s ∧ s.dev.hw.map.rbCur = some k ∧ s.dev.hw.freeSlot = some slot ∧ s.rd
      (MAP_DIRn_STATE k) = dirLoaded ∧ (s.dev.hw.map.pool.any fun u => decide (u.page = k) && decide (u.stage =
      .pending)) = false) ∧
  (∃ (u : Machine.PoolUse) (s : State), Alive s ∧ (s.dev.hw.map.pool.find? fun v => decide (v.stage = .landed)) = some
      u) :=
  ⟨⟨0, [], (unit (fun h => (h |> fun h : Hw => { h with map := { h.map with rlQueue := [0] } }))), by decide +kernel⟩,
   ⟨(unit (fun h => (h |> fun h : Hw => { h with map := { h.map with rlQueue := [] } }))), by decide +kernel⟩,
   ⟨(⟨0, true, 0, 0⟩), [], (unit (fun h => (((h |> fun h : Hw =>
       { h with pos := { h.pos with capMap := [⟨0, true, 0, 0⟩] } }).wr (BLK_STAT_RUN PG_MAP) 1) |> fun h : Hw =>
       { h with pos := { h.pos with t0 := 5 } }))), by decide +kernel⟩,
   ⟨(⟨0, true, 0, 0⟩), [], (unit (fun h => ((((((((h.wr SIS_MODE_CUR 9).wr MAP_CTL_LEARN 1).wr POS_LOOP_STAT_STATE
       1).wr (BLK_STAT_RUN PG_MAP) 1).wr MAP_MARK_CNT_CNT 0) |> fun h : Hw =>
       { h with pos := { h.pos with capMap := [⟨0, true, 0, 0⟩] } }).wr (BLK_STAT_RUN PG_MAP) 1) |> fun h : Hw =>
       { h with pos := { h.pos with t0 := 5 } }))), by decide +kernel⟩,
   ⟨(⟨0, true, 0, 0⟩), [], (unit (fun h => (h |> fun h : Hw =>
       { h with pos := { h.pos with capMap := [⟨0, true, 0, 0⟩] } }))), by decide +kernel⟩,
   ⟨(.agent 0), 0, (unit (fun h => (((h |> fun h : Hw => { h with map := { h.map with rbCur := none } }).wr
       (MAP_DIRn_STATE (getBits 0 0 10)) dirLoaded).wr (MAP_DIRn_STATE 0) dirLoaded))), by decide +kernel⟩,
   ⟨(.agent 0), 0, (unit (fun h => (h.wr SIS_MODE_CUR 0xC))), by decide +kernel⟩,
   ⟨(.agent 0), up, by decide +kernel⟩,
   ⟨0, 0, (unit (fun h => ((h.wr (MAP_DIRn_STATE 0) dirLoaded) |> fun h : Hw =>
       { h with map := { h.map with rbCur := (some 0) } }))), by decide +kernel⟩,
   ⟨(⟨0, 0, .landed⟩), (unit (fun h => (h |> fun h : Hw =>
       { h with map := { h.map with pool := [⟨0, 0, .landed⟩] } }))), by decide +kernel⟩⟩

theorem witness_Profile :
  (∃ (who : Who) (n : Fin 4) (s : State), MayOperate who PG_PRF (PRF_AXn_CMD n.val) s ∧ s.dev.hw.standby = false ∧
      n.val < s.dev.hw.prf.ax.length) ∧
  (∃ (who : Who) (n : Fin 4) (s : State), MayOperate who PG_PRF (PRF_AXn_CMD n.val) s ∧ s.dev.hw.standby = true) ∧
  (∃ (n : Nat) (h : Machine.Hw) (c : Machine.PrfCmd), n < 4 ∧ n < h.prf.ax.length ∧ (h.axis n).cmd = some c ∧ c.seq <
      256) ∧
  (∃ (n : Fin 4) (s : State), Alive s ∧ s.dev.hw.running PG_PRF = true ∧ (s.dev.hw.axis n.val).mode = .idle ∧ s.reg
      (PRF_AXn_SP_SPD n.val) = 0 ∧ s.reg (PRF_AXn_SP_ACC n.val) = 0 ∧ s.on (PRF_AXn_STAT_STILL n.val) = false) ∧
  (∃ (n : Fin 4) (s : State), Alive s ∧ (s.dev.hw.axis n.val).stallCnt ≠ 0 ∧ s.rd (PRF_AXn_STALL_N n.val) ≤
      (s.dev.hw.axis n.val).stallCnt ∧ s.rd (PRF_AXn_STALL_ACT n.val) = 0) ∧
  (∃ (n : Fin 4) (s : State), Alive s ∧ (s.dev.hw.axis n.val).stallCnt ≠ 0 ∧ (s.dev.hw.axis n.val).mode = .idle ∧ s.rd
      (PRF_AXn_STALL_N n.val) ≤ (s.dev.hw.axis n.val).stallCnt ∧ s.rd (PRF_AXn_STALL_ACT n.val) = 1 ∧ s.dev.hw.bitAt
      (BLK_FAULT PG_PRF) 9 = false ∧ NoFault s) ∧
  (∃ (k : Fin 2) (s : State), Alive s ∧ s.dev.hw.stpLive k.val = true ∧ (s.dev.hw.stp k.val).armed = true) ∧
  (∃ (s : State), Reaches (.agent 0) PRF_WCAP s) ∧
  (∃ (who : Who) (s : State), Reaches who PRF_WCAP s ∧ who ≠ .agent 0) :=
  ⟨⟨(.agent 0), 0, up, by decide +kernel⟩,
   ⟨(.agent 0), 0, (unit (fun h => (h.wr RDN_STAT_STATE 7))), by decide +kernel⟩,
   ⟨0, (up.dev.hw.setAxis 0 { Axis.init with cmd := some ⟨1, 0, 5, 0⟩ }), (⟨1, 0, 5, 0⟩), by decide +kernel⟩,
   ⟨0, (unit (fun h => ((h.wr (BLK_STAT_RUN PG_PRF) 1).wr (PRF_AXn_STAT_STILL 0) 0))), by decide +kernel⟩,
   ⟨0, (unit (fun h => ((h.wr (PRF_AXn_STALL_ACT 0) 0) |> fun h : Hw => h.setAxis 0
       { h.axis 0 with stallCnt := 16 }))), by decide +kernel⟩,
   ⟨0, (unit (fun h => (((h.wr (PRF_AXn_STALL_ACT 0) 1).setBitAt (BLK_FAULT PG_PRF) 9 false) |> fun h : Hw =>
       h.setAxis 0 { h.axis 0 with stallCnt := 16 }))), by decide +kernel⟩,
   ⟨0, (unit (fun h => ((((h.wr (PRF_STPk_CTL_EN 0) 1).wr (BLK_CTL_EN PG_PRF) 1).wr (BLK_STAT_RUN PG_PRF) 1) |> fun h
       : Hw => h.setStp 0 { h.stp 0 with armed := true }))), by decide +kernel⟩,
   ⟨up, by decide +kernel⟩,
   ⟨(.agent 1), up, by decide +kernel⟩⟩

theorem witness_SelfTest :
  (∃ (who : Who) (p : Fin 41) (w : Word) (s : State), isPage p.val = true ∧ MayConfigure who p.val (BLK_TEST p.val) s
      ∧ s.on (BLK_TEST_BUSY p.val) = false ∧ s.dev.hw.bolted p.val = true ∧ w.getLsbD 0 = true ∧ hasPattern p.val
      (getBits w 8 8) = true) ∧
  (∃ (who : Who) (p : Fin 41) (s : State), isPage p.val = true ∧ MayConfigure who p.val (BLK_TEST p.val) s ∧ s.on
      (BLK_TEST_BUSY p.val) = true) ∧
  (∃ (p : Fin 41) (s : State), Alive s ∧ s.on (BLK_TEST_BUSY p.val) = true ∧ s.dev.hw.tst.stage = .idle ∧
      s.dev.hw.runPat p.val = patEcc) ∧
  (∃ (p : Fin 41) (s : State), Alive s ∧ s.on (BLK_TEST_BUSY p.val) = true ∧ s.dev.hw.tst.stage = .idle ∧
      s.dev.hw.runPat p.val = patEcc ∧ p.val ≠ PG_TST) ∧
  (∃ (p : Fin 41) (s : State), Alive s ∧ s.on (BLK_TEST_BUSY p.val) = true ∧ s.dev.hw.tst.stage = .idle ∧ p.val ≠
      PG_TST) ∧
  (∃ (w : Word) (s : State), Reaches (.agent 0) TST_CMD s ∧ s.on TST_CMD_BUSY = false ∧ s.dev.hw.tst.stage = .idle ∧
      w.getLsbD 24 = true ∧ s.dev.hw.boltGrant (getBits w 16 6) = false) ∧
  (∃ (w : Word) (p : Nat) (s : State), Reaches (.agent 0) TST_CMD s ∧ s.on TST_CMD_BUSY = false ∧ s.dev.hw.tst.stage =
      .idle ∧ w.getLsbD 24 = true ∧ p = getBits w 16 6 ∧ isPage p = true ∧ s.dev.hw.absent p = false ∧
      s.dev.hw.boltGrant p = true ∧ s.dev.hw.bolted p = false ∧ s.dev.hw.quiet p = false) ∧
  (∃ (who : Who) (s : State), Reaches who TST_CMD s ∧ who ≠ .agent 0) ∧
  (∃ (s : State), Alive s) :=
  ⟨⟨(.agent 0), 0x11, 0x301, (unit (fun h => ((h.wr (BLK_TEST_BUSY 0x11) 0).wr (BLK_STAT_BOLTED 0x11) 1))),
      by decide +kernel⟩,
   ⟨(.agent 0), 0x10, (unit (fun h => (h.wr (BLK_TEST_BUSY 0x10) 1))), by decide +kernel⟩,
   ⟨0x10, (unit (fun h => (((h.wr (BLK_TEST_BUSY 0x10) 1) |> fun h : Hw =>
       { h with tst := { h.tst with stage := .idle } }) |> fun h : Hw =>
       { h with hdr := { h.hdr with runs := [(16, patEcc)] } }))), by decide +kernel⟩,
   ⟨0x10, (unit (fun h => (((h.wr (BLK_TEST_BUSY 0x10) 1) |> fun h : Hw =>
       { h with tst := { h.tst with stage := .idle } }) |> fun h : Hw =>
       { h with hdr := { h.hdr with runs := [(16, patEcc)] } }))), by decide +kernel⟩,
   ⟨0x10, (unit (fun h => ((h.wr (BLK_TEST_BUSY 0x10) 1) |> fun h : Hw =>
       { h with tst := { h.tst with stage := .idle } }))), by decide +kernel⟩,
   ⟨16777216, (unit (fun h => ((h.wr TST_CMD_BUSY 0) |> fun h : Hw =>
       { h with tst := { h.tst with stage := .idle } }))), by decide +kernel⟩,
   ⟨0x01110000, 0x11, (unit (fun h => (((((h.wr TST_CMD_BUSY 0) |> fun h : Hw =>
       { h with tst := { h.tst with stage := .idle } }).wr (BLK_STAT_BOLTED 0x11) 0).wr (BLK_STAT_QUIET 0x11) 0).wr
       SIS_BOLT_G0_PAGE 0x20000))), by decide +kernel⟩,
   ⟨(.agent 1), up, by decide +kernel⟩,
   ⟨up, by decide +kernel⟩⟩

theorem witness_InterruptClaims :
  (∃ (a : Fin 8) (ctx : Fin 8) (n : Nat) (s : State), s.dev.hw.canAccess (.agent a) = true ∧ s.dev.hw.plicBest ctx.val
      = n ∧ n ≠ 0) ∧
  (∃ (a : Fin 8) (ctx : Fin 8) (s : State), s.dev.hw.canAccess (.agent a) = true ∧ s.dev.hw.plicBest ctx.val = 0) ∧
  (∃ (who : Who) (ctx : Fin 8) (s : State), MayConfigure who PG_CPR (PLIC_CLAIM ctx.val) s) ∧
  (∃ (a : Fin 8) (n : Nat) (s : State), s.dev.hw.canAccess (.agent a) = true ∧ n ≠ 0 ∧ n < 43 ∧ s.dev.hw.icPending n =
      true ∧ s.dev.hw.bitAt (SIS_IC_EN (n / 32)) (n % 32) = true ∧ (∀ m, m < n → (s.dev.hw.icPending m &&
      s.dev.hw.bitAt (SIS_IC_EN (m / 32)) (m % 32)) = false)) ∧
  (∃ (s : State), Reaches (.agent 0) SIS_IC_CLAIM s) :=
  ⟨⟨0, 0, 17, (unit (fun h => (((((h.wr (BLK_IRQ_ROUTE_AGT 16) 3).wr (PLIC_PRIO_PRIO 17) 3).setBitAt (BLK_IRQ 16) 0
      true).setBitAt (BLK_IRQ_EN 16) 0 true).setBitAt (PLIC_EN 0 0) 17 true))), by decide +kernel⟩,
   ⟨0, 0, up, by decide +kernel⟩,
   ⟨(.agent 0), 0, up, by decide +kernel⟩,
   ⟨0, 1, (unit (fun h => (((((h.setBitAt (SIS_IC_EN (1 / 32)) (1 % 32) true).wr (BLK_IRQ_ROUTE_AGT 0) 1).setBitAt
       (BLK_IRQ 0) 0 true).setBitAt (BLK_IRQ_EN 0) 0 true).setBitAt (SIS_IC_EN 0) 1 true))), by decide +kernel⟩,
   ⟨up, by decide +kernel⟩⟩

theorem witness_Accesses :
  (∃ (a : Fin 8) (s : State), s.dev.hw.canAccess (.agent a) = true) ∧
  (∃ (a : Fin 8) (s : State), s.dev.hw.canAccess (.agent a) = true) ∧
  (∃ (a : Fin 8) (hi : Word) (s : State), s.dev.hw.canAccess (.agent a) = true ∧ holderOf s.dev.hw.hdr.rdHold a.val
      CPR_OPTIME_HI = some hi) ∧
  (∃ (a : Fin 8) (lo : Word) (s : State), MayConfigure (.agent a) (PG_ETH 0) (ETH_MAC_HI 0) s ∧ holderOf
      s.dev.hw.hdr.wrHold a.val (ETH_MAC_LO 0) = some lo) ∧
  (∃ (who : Who) (a : Nat) (size : Fin 4) (s : State), 0x20000000 ≤ a ∧ a + 2 ^ size.val ≤ 0x20400000 ∧ a % 2 ^
      size.val = 0 ∧ s.on CPR_WIPE_STAT_BUSY = false ∧ Reaches who a s) ∧
  (∃ (a : Fin 8) (addr : Nat) (size : Fin 4) (s : State), 0x20000000 ≤ addr ∧ addr + 2 ^ size.val ≤ 0x20400000 ∧ addr
      % 2 ^ size.val = 0 ∧ s.on CPR_WIPE_STAT_BUSY = false ∧ s.dev.hw.canAccess (.agent a) = true) ∧
  (∃ (a : Fin 8) (addr : BitVec 64) (s : State), s.dev.hw.canAccess (.agent a) = true ∧ 0x100000000 ≤ addr.toNat) ∧
  (∃ (who : Who) (p : Fin 41) (s : State), isPage p.val = true ∧ MayOperate who p.val (BLK_IRQ p.val) s ∧ BLK_IRQ
      p.val ∉ faultRegs) ∧
  (∃ (who : Who) (a : BitVec 64) (size : Fin 4) (s : State), Reaches who a.toNat s ∧ a.toNat % 2 ^ size.val ≠ 0) ∧
  (∃ (who : Who) (s : State), s.dev.hw.canAccess who = false) ∧
  (∃ (a : BitVec 64) (s : State), s.dev.hw.fabricOn = true ∧ s.on SEC_KW_STAT_OPEN = true ∧ s.dev.hw.kwScope a.toNat =
      false) :=
  ⟨⟨0, up, by decide +kernel⟩,
   ⟨0, up, by decide +kernel⟩,
   ⟨0, 5, (unit (fun h => (h |> fun h : Hw => { h with hdr := { h.hdr with rdHold := [⟨0, CPR_OPTIME_HI, 5⟩] } }))),
       by decide +kernel⟩,
   ⟨0, 5, (unit (fun h => (h |> fun h : Hw => { h with hdr := { h.hdr with wrHold := [⟨0, ETH_MAC_LO 0, 5⟩] } }))),
       by decide +kernel⟩,
   ⟨(.agent 0), 0x20000000, 0, (unit (fun h => (h.wr CPR_WIPE_STAT_BUSY 0))), by decide +kernel⟩,
   ⟨0, 0x20000000, 0, (unit (fun h => (h.wr CPR_WIPE_STAT_BUSY 0))), by decide +kernel⟩,
   ⟨0, 0x100000000, up, by decide +kernel⟩,
   ⟨(.agent 0), 0x10, up, by decide +kernel⟩,
   ⟨(.agent 0), 1, 1, up, by decide +kernel⟩,
   ⟨(.agent 0), (unit (fun h => (h.wr SIS_MODE_CUR 3))), by decide +kernel⟩,
   ⟨0x20000000, (unit (fun h => ((h.wr SEC_KW_STAT_OPEN 1).wr SEC_KW_STAT_OPEN 1))), by decide +kernel⟩⟩

theorem witness_CoreOrders :
  (∃ (c : Fin 2) (w : Word) (s : State), Reaches (.agent 0) (TCE_CTL c.val) s ∧ s.dev.hw.coreSt c.val = coreHalt ∧
      s.on (TCE_STAT_AUTH c.val) = true ∧ s.on (BLK_CTL_EN (PG_TCE c.val)) = true ∧ s.on (TCE_BGPC_BGEN c.val) = false
      ∧ w.getLsbD 8 = s.on (TCE_CTL_SOLO c.val) ∧ c.val < s.dev.hw.tce.length) ∧
  (∃ (c : Fin 2) (w : Word) (s : State), Reaches (.agent 0) (TCE_CTL c.val) s ∧ s.dev.hw.coreSt c.val = coreHalt ∧
      (s.on (TCE_STAT_AUTH c.val) = false ∨ s.on (BLK_CTL_EN (PG_TCE c.val)) = false) ∧ w.getLsbD 8 = s.on
      (TCE_CTL_SOLO c.val)) ∧
  (∃ (c : Fin 2) (w : Word) (s : State), Reaches (.agent 0) (TCE_CTL c.val) s ∧ (s.dev.hw.coreSt c.val = coreWait ∨
      s.dev.hw.coreSt c.val = coreBack) ∧ w.getLsbD 8 = s.on (TCE_CTL_SOLO c.val) ∧ c.val < s.dev.hw.tce.length) ∧
  (∃ (c : Fin 2) (w : Word) (s : State), Reaches (.agent 0) (TCE_CTL c.val) s ∧ s.dev.hw.coreSt c.val = coreTask ∧
      w.getLsbD 8 = s.on (TCE_CTL_SOLO c.val) ∧ c.val < s.dev.hw.tce.length ∧ (s.dev.hw.core c.val).pend = []) ∧
  (∃ (c : Fin 2) (w : Word) (s : State), Reaches (.agent 0) (TCE_CTL c.val) s ∧ w.getLsbD 0 = true ∧ w.getLsbD 8 =
      true ∧ s.on (TCE_CTL_SOLO c.val) = false ∧ s.on (TCE_STAT_SOLOACT (1 - c.val)) = false ∧ s.dev.hw.coreSt c.val =
      coreWait ∧ c.val < s.dev.hw.tce.length) ∧
  (∃ (who : Who) (c : Fin 2) (s : State), Reaches who (TCE_CTL c.val) s ∧ who ≠ .agent 0) ∧
  (∃ (who : Who) (c : Fin 2) (s : State), MayOperate who (PG_TCE c.val) (TCE_TRIG c.val) s ∧ s.dev.hw.carrier c.val <
      s.dev.hw.tce.length ∧ s.dev.hw.dispatchOn (s.dev.hw.carrier c.val) = true) ∧
  (∃ (who : Who) (c : Fin 2) (s : State), MayOperate who (PG_TCE c.val) (TCE_PCAUTH c.val) s) ∧
  (∃ (c : Fin 2) (s : State), Alive s ∧ s.on (TCE_PCAUTH_BUSY c.val) = true ∧ s.dev.hw.laneRuns = true) :=
  ⟨⟨0, 0, (unit (fun h => ((((((h.wr (TCE_STAT_AUTH 0) 1).wr (BLK_CTL_EN (PG_TCE 0)) 1).wr (TCE_BGPC_BGEN 0) 0).wr
      (TCE_STAT_STATE 0) coreHalt).wr (TCE_STAT_AUTH 0) 1).wr (BLK_CTL_EN (PG_TCE 0)) 1))), by decide +kernel⟩,
   ⟨0, 0, (unit (fun h => (h.wr (TCE_STAT_STATE 0) coreHalt))), by decide +kernel⟩,
   ⟨0, 0, (unit (fun h => (h.wr (TCE_STAT_STATE 0) coreWait))), by decide +kernel⟩,
   ⟨0, 0, (unit (fun h => (h.wr (TCE_STAT_STATE 0) coreTask))), by decide +kernel⟩,
   ⟨0, 0x101, (unit (fun h => (((h.wr (TCE_CTL_SOLO 0) 0).wr (TCE_STAT_SOLOACT (1 - 0)) 0).wr (TCE_STAT_STATE 0)
       coreWait))), by decide +kernel⟩,
   ⟨(.agent 1), 0, up, by decide +kernel⟩,
   ⟨(.agent 0), 0, (unit (fun h => ((h |> fun h : Hw => h.setCore 0
       { Core.init with dispatch := true, due := [⟨0, 0⟩] }).wr (BLK_STAT_RUN (PG_TCE 0)) 1))), by decide +kernel⟩,
   ⟨(.agent 0), 0, up, by decide +kernel⟩,
   ⟨0, (unit (fun h => (h.wr (TCE_PCAUTH_BUSY 0) 1))), by decide +kernel⟩⟩

theorem witness_ProgramsAndTicks :
  (∃ (who : Who) (c : Fin 2) (off : BitVec 16) (size : Fin 4) (s : State), Reaches who (progBase c.val + off.toNat) s
      ∧ off.toNat % 2 ^ size.val = 0 ∧ s.on CPR_WIPE_STAT_BUSY = false ∧ s.dev.hw.programOpen c.val = true) ∧
  (∃ (who : Who) (c : Fin 2) (off : BitVec 16) (size : Fin 4) (s : State), Reaches who (progBase c.val + off.toNat) s
      ∧ off.toNat % 2 ^ size.val = 0 ∧ s.on CPR_WIPE_STAT_BUSY = false ∧ s.dev.hw.programOpen c.val = false) ∧
  (∃ (p : Fin 2) (k : Fin 16) (c : Nat) (s : State), Alive s ∧ s.dev.hw.carrier p.val = c ∧ c < s.dev.hw.tce.length ∧
      (⟨p.val, k.val⟩ : TaskRef) ∈ (s.dev.hw.core c).due ∧ s.dev.hw.dispatchOn c = true ∧ s.dev.hw.coreSt c = coreWait
      ∧ (s.dev.hw.core c).run = none ∧ (s.dev.hw.core c).pend = []) ∧
  (∃ (p : Fin 2) (k : Fin 16) (c : Nat) (s : State), Alive s ∧ s.dev.hw.carrier p.val = c ∧ c < s.dev.hw.tce.length ∧
      (⟨p.val, k.val⟩ : TaskRef) ∈ (s.dev.hw.core c).due ∧ s.dev.hw.dispatchOn c = true ∧ s.dev.hw.coreSt c = coreTask
      ∧ (s.dev.hw.core c).run ≠ some ⟨p.val, k.val⟩ ∧ (⟨p.val, k.val⟩ : TaskRef) ∉ (s.dev.hw.core c).pend) ∧
  (∃ (p : Fin 2) (k : Fin 16) (c : Nat) (s : State), Alive s ∧ s.dev.hw.carrier p.val = c ∧ c < s.dev.hw.tce.length ∧
      (⟨p.val, k.val⟩ : TaskRef) ∈ (s.dev.hw.core c).due ∧ s.dev.hw.dispatchOn c = true ∧ (s.dev.hw.core c).run = some
      ⟨p.val, k.val⟩) ∧
  (∃ (p : Fin 2) (k : Fin 16) (s : State), (⟨p.val, k.val⟩ : TaskRef) ∉ (s.dev.hw.core (s.dev.hw.carrier p.val)).due)
      ∧
  (∃ (c : Fin 2) (ecc : CoreEcc) (s : State), s.dev.hw.coreRuns c.val = true ∧ ecc.fetch = .clean ∧ s.dev.tceNow c.val
      ecc = none ∧ c.val < s.dev.hw.tce.length ∧ (s.dev.hw.core c.val).pend = [] ∧ NoFault s ∧ s.dev.hw.bitAt
      (BLK_FAULT (PG_TCE c.val)) 9 = false) ∧
  (∃ (c : Fin 2) (s : State), s.dev.hw.coreRuns c.val = true ∧ s.dev.hw.tceTakes c.val = true ∧ c.val <
      s.dev.hw.tce.length) :=
  ⟨⟨(.agent 0), 0, 0, 0, (unit (fun h => (h.wr CPR_WIPE_STAT_BUSY 0))), by decide +kernel⟩,
   ⟨(.agent 0), 0, 0, 0, (unit (fun h => ((h.wr CPR_WIPE_STAT_BUSY 0).wr (TCE_STAT_STATE 0) coreTask))),
       by decide +kernel⟩,
   ⟨0, 0, 0, (unit (fun h => (((h |> fun h : Hw => h.setCore 0
       { Core.init with dispatch := true, due := [⟨0, 0⟩] }).wr (BLK_STAT_RUN (PG_TCE 0)) 1).wr (TCE_STAT_STATE 0)
       coreWait))), by decide +kernel⟩,
   ⟨0, 0, 0, (unit (fun h => (((h |> fun h : Hw => h.setCore 0
       { Core.init with dispatch := true, due := [⟨0, 0⟩] }).wr (BLK_STAT_RUN (PG_TCE 0)) 1).wr (TCE_STAT_STATE 0)
       coreTask))), by decide +kernel⟩,
   ⟨0, 0, 0, (unit (fun h => ((h |> fun h : Hw => h.setCore 0
       { Core.init with run := some ⟨0, 0⟩, dispatch := true, due := [⟨0, 0⟩] }).wr (BLK_STAT_RUN (PG_TCE 0)) 1))),
       by decide +kernel⟩,
   ⟨0, 0, up, by decide +kernel⟩,
   ⟨0, ecc0, (core 0xF0000000 (fun x => x)), by decide +kernel⟩,
   ⟨0,
       (let s := core 0 fun x => { x with run := some ⟨0, 0⟩, sw := 0x10000 }; { s with dev := { s.dev with hw := ((((s.dev.hw.wr (TCE_TASKk_CFG_IEN 0 0) 1).wr (BLK_IRQ_ROUTE_AGT 0) 32).setBitAt (BLK_IRQ 0) 0 true).setBitAt (BLK_IRQ_EN 0) 0 true) } }),
       by decide +kernel⟩⟩

theorem witness_CoreComputes :
  (∃ (c : Fin 2) (ecc : CoreEcc) (s : State) (dd : Nat) (da : Nat) (b : Machine.AluArg), Issues c.val ecc (.alu 0x00
      dd da b) s) ∧
  (∃ (c : Fin 2) (ecc : CoreEcc) (s : State) (dd : Nat) (da : Nat) (b : Machine.AluArg), Issues c.val ecc (.alu 0x01
      dd da b) s) ∧
  (∃ (c : Fin 2) (ecc : CoreEcc) (s : State) (dd : Nat) (da : Nat) (b : Machine.AluArg), Issues c.val ecc (.alu 0x02
      dd da b) s) ∧
  (∃ (c : Fin 2) (ecc : CoreEcc) (s : State) (dd : Nat) (da : Nat) (b : Machine.AluArg), Issues c.val ecc (.alu 0x03
      dd da b) s) ∧
  (∃ (c : Fin 2) (ecc : CoreEcc) (s : State) (dd : Nat) (da : Nat) (b : Machine.AluArg), Issues c.val ecc (.alu 0x04
      dd da b) s) ∧
  (∃ (c : Fin 2) (ecc : CoreEcc) (s : State) (dd : Nat) (da : Nat) (b : Machine.AluArg), Issues c.val ecc (.alu 0x05
      dd da b) s) ∧
  (∃ (c : Fin 2) (ecc : CoreEcc) (s : State) (dd : Nat) (da : Nat) (b : Machine.AluArg), Issues c.val ecc (.alu 0x06
      dd da b) s) ∧
  (∃ (c : Fin 2) (ecc : CoreEcc) (s : State) (dd : Nat) (da : Nat) (b : Machine.AluArg), Issues c.val ecc (.alu 0x07
      dd da b) s) ∧
  (∃ (c : Fin 2) (ecc : CoreEcc) (s : State) (dd : Nat) (da : Nat) (b : Machine.AluArg), Issues c.val ecc (.alu 0x08
      dd da b) s) ∧
  (∃ (c : Fin 2) (ecc : CoreEcc) (s : State) (dd : Nat) (da : Nat) (b : Machine.AluArg), Issues c.val ecc (.alu 0x09
      dd da b) s) ∧
  (∃ (c : Fin 2) (ecc : CoreEcc) (s : State) (dd : Nat) (da : Nat) (b : Machine.AluArg), Issues c.val ecc (.alu 0x0A
      dd da b) s) ∧
  (∃ (c : Fin 2) (ecc : CoreEcc) (s : State) (dd : Nat) (da : Nat) (b : Machine.AluArg), Issues c.val ecc (.alu 0x0B
      dd da b) s) ∧
  (∃ (c : Fin 2) (ecc : CoreEcc) (s : State) (dd : Nat) (da : Nat) (b : Machine.AluArg), Issues c.val ecc (.alu 0x0C
      dd da b) s) ∧
  (∃ (c : Fin 2) (ecc : CoreEcc) (s : State) (dd : Nat) (da : Nat) (b : Machine.AluArg), Issues c.val ecc (.alu 0x0D
      dd da b) s) ∧
  (∃ (c : Fin 2) (ecc : CoreEcc) (s : State) (dd : Nat) (da : Nat) (b : Machine.AluArg), Issues c.val ecc (.alu 0x0E
      dd da b) s) ∧
  (∃ (c : Fin 2) (ecc : CoreEcc) (s : State) (dd : Nat) (da : Nat) (b : Machine.AluArg), Issues c.val ecc (.alu 0x0F
      dd da b) s) ∧
  (∃ (c : Fin 2) (ecc : CoreEcc) (s : State) (dd : Nat) (da : Nat) (b : Machine.AluArg), Issues c.val ecc (.alu 0x10
      dd da b) s) ∧
  (∃ (c : Fin 2) (ecc : CoreEcc) (s : State) (high : Bool) (dd : Nat) (imm : Nat), Issues c.val ecc (.moviData high dd
      imm) s) ∧
  (∃ (c : Fin 2) (ecc : CoreEcc) (s : State) (file : Nat) (i : Nat) (imm : Nat), Issues c.val ecc (.moviAddr file i
      imm) s) ∧
  (∃ (c : Fin 2) (ecc : CoreEcc) (s : State) (dst : Nat) (src : Nat), Issues c.val ecc (.mov dst src) s) ∧
  (∃ (c : Fin 2) (ecc : CoreEcc) (s : State) (o : Nat) (conj : Bool) (k : Nat) (x : Nat) (y : Nat) (u : Nat) (w :
      Nat), Issues c.val ecc (.mac 0 o conj k x y u w) s) ∧
  (∃ (c : Fin 2) (ecc : CoreEcc) (s : State) (o : Nat) (conj : Bool) (k : Nat) (x : Nat) (y : Nat) (u : Nat) (w :
      Nat), Issues c.val ecc (.mac 1 o conj k x y u w) s) ∧
  (∃ (c : Fin 2) (ecc : CoreEcc) (s : State) (o : Nat) (conj : Bool) (k : Nat) (x : Nat) (y : Nat) (u : Nat) (w :
      Nat), Issues c.val ecc (.mac 2 o conj k x y u w) s) ∧
  (∃ (c : Fin 2) (ecc : CoreEcc) (s : State) (o : Nat) (conj : Bool) (k : Nat) (x : Nat) (y : Nat) (u : Nat) (w :
      Nat), Issues c.val ecc (.mac 3 o conj k x y u w) s) ∧
  (∃ (c : Fin 2) (ecc : CoreEcc) (s : State) (pair : Bool) (k : Nat) (dd : Nat) (ssh : Nat), Issues c.val ecc (.rnd
      pair k dd ssh) s) :=
  ⟨⟨0, ecc0, (core 0x10090000 (fun x => x)), 1, 2, (.reg 0), by decide +kernel⟩,
   ⟨0, ecc0, (core 0x10890000 (fun x => x)), 1, 2, (.reg 0), by decide +kernel⟩,
   ⟨0, ecc0, (core 0x11090000 (fun x => x)), 1, 2, (.reg 0), by decide +kernel⟩,
   ⟨0, ecc0, (core 0x11890000 (fun x => x)), 1, 2, (.reg 0), by decide +kernel⟩,
   ⟨0, ecc0, (core 0x12090000 (fun x => x)), 1, 2, (.reg 0), by decide +kernel⟩,
   ⟨0, ecc0, (core 0x12890000 (fun x => x)), 1, 2, (.reg 0), by decide +kernel⟩,
   ⟨0, ecc0, (core 0x13090000 (fun x => x)), 1, 2, (.reg 0), by decide +kernel⟩,
   ⟨0, ecc0, (core 0x13890000 (fun x => x)), 1, 2, (.reg 0), by decide +kernel⟩,
   ⟨0, ecc0, (core 0x14090000 (fun x => x)), 1, 2, (.reg 0), by decide +kernel⟩,
   ⟨0, ecc0, (core 0x14890000 (fun x => x)), 1, 2, (.reg 0), by decide +kernel⟩,
   ⟨0, ecc0, (core 0x15090000 (fun x => x)), 1, 2, (.reg 0), by decide +kernel⟩,
   ⟨0, ecc0, (core 0x15810000 (fun x => x)), 0, 2, (.reg 0), by decide +kernel⟩,
   ⟨0, ecc0, (core 0x16090000 (fun x => x)), 1, 2, (.reg 0), by decide +kernel⟩,
   ⟨0, ecc0, (core 0x16890000 (fun x => x)), 1, 2, (.reg 0), by decide +kernel⟩,
   ⟨0, ecc0, (core 0x17090000 (fun x => x)), 1, 2, (.reg 0), by decide +kernel⟩,
   ⟨0, ecc0, (core 0x17890000 (fun x => x)), 1, 2, (.reg 0), by decide +kernel⟩,
   ⟨0, ecc0, (core 0x18090000 (fun x => x)), 1, 2, (.reg 0), by decide +kernel⟩,
   ⟨0, ecc0, (core 0x34401234 (fun x => x)), true, 1, 0x1234, by decide +kernel⟩,
   ⟨0, ecc0, (core 0x38001234 (fun x => x)), 0, 0, 0x1234, by decide +kernel⟩,
   ⟨0, ecc0, (core 0x40204000 (fun x => x)), 1, 1, by decide +kernel⟩,
   ⟨0, ecc0, (core 0x50062000 (fun x => x)), 0, false, 0, 3, 1, 0, 0, by decide +kernel⟩,
   ⟨0, ecc0, (core 0x54062000 (fun x => x)), 0, false, 0, 3, 1, 0, 0, by decide +kernel⟩,
   ⟨0, ecc0, (core 0x58062000 (fun x => x)), 0, false, 0, 3, 1, 0, 0, by decide +kernel⟩,
   ⟨0, ecc0, (core 0x5C048000 (fun x => x)), 0, false, 0, 2, 4, 0, 0, by decide +kernel⟩,
   ⟨0, ecc0, (core 0x62200000 (fun x => x)), false, 1, 1, 0, by decide +kernel⟩⟩

theorem witness_AluValues :
  ∃ (ssh : Nat), ssh < 8 :=
  ⟨0, by decide +kernel⟩

theorem witness_CoreControl :
  (∃ (c : Fin 2) (ecc : CoreEcc) (s : State), Issues c.val ecc .nop s) ∧
  (∃ (c : Fin 2) (ecc : CoreEcc) (s : State) (cond : Nat) (target : Nat), Issues c.val ecc (.br cond target) s) ∧
  (∃ (c : Fin 2) (ecc : CoreEcc) (s : State) (r : Nat) (target : Nat), Issues c.val ecc (.jal r target) s) ∧
  (∃ (c : Fin 2) (ecc : CoreEcc) (s : State) (r : Nat), Issues c.val ecc (.jr r) s) ∧
  (∃ (c : Fin 2) (ecc : CoreEcc) (s : State) (n : Nat) (le : Nat), Issues c.val ecc (.loop n le) s) ∧
  (∃ (c : Fin 2) (ecc : CoreEcc) (s : State) (r : Nat) (le : Nat), Issues c.val ecc (.loopr r le) s ∧ ((s.at
      c.val).dReg r).toNat % 65536 ≠ 0) ∧
  (∃ (c : Fin 2) (ecc : CoreEcc) (s : State), Issues c.val ecc .lexit s) ∧
  (∃ (c : Fin 2) (ecc : CoreEcc) (s : State) (i : Nat) (sw : Nat), Issues c.val ecc .reti s ∧ (s.at c.val).saved =
      some (i, sw)) ∧
  (∃ (c : Fin 2) (ecc : CoreEcc) (s : State), Issues c.val ecc .swi s) ∧
  (∃ (c : Fin 2) (ecc : CoreEcc) (s : State) (p : Nat) (k : Nat), Issues c.val ecc .endT s ∧ (s.dev.hw.core c.val).run
      = some ⟨p, k⟩ ∧ (s.dev.hw.core c.val).pend = [] ∧ (s.dev.hw.core c.val).haltReq = false ∧ (s.dev.hw.core
      c.val).bg = none ∧ s.on (TCE_BGPC_BGEN c.val) = false) :=
  ⟨⟨0, ecc0, (core 0 (fun x => x)), by decide +kernel⟩,
   ⟨0, ecc0, (core 0x02200123 (fun x => x)), 2, 0x123, by decide +kernel⟩,
   ⟨0, ecc0, (core 0x03200123 (fun x => x)), 2, 0x123, by decide +kernel⟩,
   ⟨0, ecc0, (core 0x04200000 (fun x => x)), 2, by decide +kernel⟩,
   ⟨0, ecc0, (core 0x05040040 (fun x => x)), 16, 0x40, by decide +kernel⟩,
   ⟨0, ecc0, (core 0x06200040 (fun x => { x with d := List.replicate 16 3 })), 2, 0x40, by decide +kernel⟩,
   ⟨0, ecc0, (core 0x07000000 (fun x => x)), by decide +kernel⟩,
   ⟨0, ecc0, (core 0x08000000 (fun x => { x with saved := some (5, 1) })), 5, 1, by decide +kernel⟩,
   ⟨0, ecc0, (core 0x09000000 (fun x => x)), by decide +kernel⟩,
   ⟨0, ecc0, (core 0x01000000 (fun x => { x with run := some ⟨0, 3⟩ })), 0, 3, by decide +kernel⟩⟩

theorem witness_CoreMemory :
  (∃ (c : Fin 2) (ecc : CoreEcc) (s : State) (m : Machine.TceMem), ecc.m0 = .clean ∧ Issues c.val ecc (.mem false m) s
      ∧ m.st = false ∧ ((s.at c.val).ptr m.a).toNat < 0x20000 ∧ ((s.at c.val).ptr m.a).toNat % 4 = 0) ∧
  (∃ (c : Fin 2) (ecc : CoreEcc) (s : State) (m : Machine.TceMem), Issues c.val ecc (.mem false m) s ∧ m.st = true ∧
      ((s.at c.val).ptr m.a).toNat < 0x20000 ∧ ((s.at c.val).ptr m.a).toNat % 4 = 0) ∧
  (∃ (c : Fin 2) (ecc : CoreEcc) (s : State) (k : Nat) (ssh : Nat) (m : Machine.TceMem), Issues c.val ecc (.stAcc k
      ssh m) s ∧ ((s.at c.val).ptr m.a).toNat < 0x20000 ∧ ((s.at c.val).ptr m.a).toNat % 4 = 0) ∧
  (∃ (c : Fin 2) (ecc : CoreEcc) (s : State) (m : Machine.TceMem) (n : Machine.TceMem), ecc.m0 = .clean ∧ ecc.m1 =
      .clean ∧ Issues c.val ecc (.pair false m n) s ∧ m.st = false ∧ n.st = false ∧ ((s.at c.val).ptr m.a).toNat <
      0x20000 ∧ ((s.at c.val).ptr m.a).toNat % 4 = 0 ∧ ((s.at c.val).ptr n.a).toNat < 0x20000 ∧ ((s.at c.val).ptr
      n.a).toNat % 4 = 0) ∧
  (∃ (c : Fin 2) (ecc : CoreEcc) (s : State) (o : Nat) (k : Nat) (dx : Nat) (m : Machine.TceMem) (n : Machine.TceMem),
      ecc.m0 = .clean ∧ ecc.m1 = .clean ∧ Issues c.val ecc (.ftap o k dx m n) s ∧ (s.at c.val).bypass = none ∧ ((s.at
      c.val).ptr m.a).toNat < 0x20000 ∧ ((s.at c.val).ptr m.a).toNat % 4 = 0 ∧ ((s.at c.val).ptr n.a).toNat < 0x20000
      ∧ ((s.at c.val).ptr n.a).toNat % 4 = 0) :=
  ⟨⟨0, ecc0, (core 0x70800000 (fun x => x)), (⟨false, 2, 0, 0, .inl 0⟩), by decide +kernel⟩,
   ⟨0, ecc0, (core 0x74800000 (fun x => x)), (⟨true, 2, 0, 0, .inl 0⟩), by decide +kernel⟩,
   ⟨0, ecc0, (core 0x74400200 (fun x => x)), 1, 0, (⟨true, 1, 0, 0, .inl 0⟩), by decide +kernel⟩,
   ⟨0, ecc0, (core 0x80800640 (fun x => x)), (⟨false, 2, 0, 0, .inl 0⟩), (⟨false, 3, 1, 0, .inl 0⟩),
       by decide +kernel⟩,
   ⟨0, ecc0, (core 0x91200200 (fun x => x)), 0, 1, 2, (⟨false, 2, 0, 0, .inl 0⟩), (⟨true, 2, 1, 0, .inl 0⟩),
       by decide +kernel⟩⟩

theorem witness_SigmaDelta :
  (∃ (s : State), Alive s ∧ s.dev.hw.rdn.replaying = false ∧ s.on PST_DCB_CFG_EN = false ∧ s.on PST_GRID_CFG_EN =
      false) ∧
  (∃ (i : Fin 24) (fast : Word) (s : State), Alive s ∧ bit (s.rd PST_SD_EN_EN) i.val = true ∧ s.dev.hw.ocOutside i.val
      fast.toNat = false ∧ (s.on PST_DCB_CFG_EN = false ∨ s.rd PST_DCB_CFG_SRC ≠ i.val) ∧ i.val <
      s.dev.hw.pst.ocCnt.length) ∧
  (∃ (i : Fin 24) (fast : Word) (s : State), Alive s ∧ bit (s.rd PST_SD_EN_EN) i.val = true ∧ s.dev.hw.ocOutside i.val
      fast.toNat = true ∧ (s.on PST_DCB_CFG_EN = false ∨ s.rd PST_DCB_CFG_SRC ≠ i.val) ∧ i.val / 4 < s.dev.hw.pwmSets
      ∧ bit (s.rd PST_TRIP_OC) (i.val / 4) = false ∧ s.rd PST_OC_CFG_OC_N ≤ s.dev.hw.pst.ocCnt.getD i.val 0 + 1 ∧
      s.dev.hw.bitAt (BLK_FAULT PG_PST) 9 = false ∧ NoFault s) ∧
  (∃ (i : Fin 24) (s : State), Alive s ∧ bit (s.rd PST_SD_EN_EN) i.val = true) ∧
  (∃ (i : Fin 24) (s : State), Alive s ∧ bit (s.rd PST_SD_EN_EN) i.val = false) :=
  ⟨⟨(unit (fun h => (((h |> fun h : Hw => { h with rdn := { h.rdn with replaying := false } }).wr PST_DCB_CFG_EN 0).wr
      PST_GRID_CFG_EN 0))), by decide +kernel⟩,
   ⟨0, 0, (unit (fun h => ((h.wr PST_SD_EN_EN 1).wr (PST_SDn_OCLIM_HI 0) 100))), by decide +kernel⟩,
   ⟨0, 0x7F000000, (unit (fun h => ((((h.setBitAt (BLK_FAULT PG_PST) 9 false).wr PST_SD_EN_EN 1).wr (PST_SDn_OCLIM_HI
       0) 100).wr PST_OC_CFG_OC_N 1))), by decide +kernel⟩,
   ⟨0, (unit (fun h => (h.wr PST_SD_EN_EN 1))), by decide +kernel⟩,
   ⟨0, up, by decide +kernel⟩⟩

theorem witness_TripsAndMains :
  (∃ (i : Fin 8) (s : State), s.dev.hw.bitAt PST_GDF_MAP (4 * i.val + 3) = true ∧ getBits (s.reg PST_GDF_MAP) (4 *
      i.val) 3 < s.dev.hw.pwmSets ∧ s.dev.hw.bitAt (BLK_FAULT PG_PST) 10 = false ∧ NoFault s) ∧
  (∃ (i : Fin 8) (fault : Bool) (s : State), (fault = false ∨ s.dev.hw.bitAt PST_GDF_MAP (4 * i.val + 3) = false)) ∧
  (∃ (who : Who) (s : State), MayOperate who PG_PST PST_TRIP s) ∧
  (∃ (who : Who) (s : State), MayOperate who PG_PST PST_GRID_STAT s) ∧
  (∃ (n : Fin 6) (s : State), Alive s ∧ s.dev.hw.setOff n.val = false ∧ s.dev.hw.legsPwm n.val = true ∧
      s.dev.hw.pst.valleys.getD n.val 0 < s.dev.hw.valleysIn n.val) ∧
  (∃ (n : Fin 6) (s : State), Alive s ∧ (s.dev.hw.setOff n.val = true ∨ s.dev.hw.valleysIn n.val ≤
      s.dev.hw.pst.valleys.getD n.val 0)) ∧
  (∃ (s : State), Alive s) :=
  ⟨⟨0, (unit (fun h => ((h.setBitAt PST_GDF_MAP (4 * 0 + 3) true).setBitAt (BLK_FAULT PG_PST) 10 false))),
      by decide +kernel⟩,
   ⟨0, false, up, by decide +kernel⟩,
   ⟨(.agent 0), up, by decide +kernel⟩,
   ⟨(.agent 0), up, by decide +kernel⟩,
   ⟨0, (unit (fun h => ((((h.wr (PST_PSn_CFG_EN 0) 1).wr PST_STO_MAP_SETS 0).setReg (PST_PSn_OUT 0) 0).setReg
       (PST_PSn_OUT 0) 0))), by decide +kernel⟩,
   ⟨0, up, by decide +kernel⟩,
   ⟨up, by decide +kernel⟩⟩

theorem witness_Brake :
  (∃ (s : State), Alive s ∧ s.rd PST_BRK_STAT_STATE = 1 ∧ s.on PST_BT_STAT_BUSY = false) ∧
  (∃ (s : State), Alive s ∧ s.rd PST_BRK_STAT_STATE = 2) ∧
  (∃ (s : State), Alive s ∧ s.rd PST_BRK_STAT_STATE = 3 ∧ s.on PST_BT_STAT_BUSY = false ∧ NoFault s ∧
      s.dev.hw.isMachine = false ∧ s.dev.hw.bitAt (BLK_FAULT PG_PST) 14 = false) ∧
  (∃ (s : State), Alive s ∧ s.rd PST_BRK_STAT_STATE = 4 ∧ s.on PST_BT_STAT_BUSY = false) ∧
  (∃ (s : State), Alive s ∧ s.rd PST_BRK_STAT_STATE = 4) ∧
  (∃ (s : State), Alive s ∧ s.rd PST_BRK_STAT_STATE = 5 ∧ s.dev.hw.pst.settled = true) ∧
  (∃ (s : State), Alive s ∧ s.rd PST_BRK_STAT_STATE = 5 ∧ s.dev.hw.pst.settled = false ∧ NoFault s ∧ s.dev.hw.bitAt
      (BLK_FAULT PG_PST) 14 = false) ∧
  (∃ (s : State), Alive s ∧ s.rd PST_BRK_STAT_STATE = 6) ∧
  (∃ (s : State), s.rd PST_BRK_STAT_STATE = 0) ∧
  (∃ (s : State), Reaches (.agent 0) PST_BT_CTL s ∧ s.rd SIS_MODE_CUR = 0xA ∧ s.dev.hw.bitAt SIS_COND 6 = true ∧
      s.dev.hw.brkEnabled = true ∧ s.rd PST_BRK_STAT_STATE = 0 ∧ s.dev.hw.sis.proofOrder = true ∧ s.on
      PST_BT_STAT_BUSY = false) ∧
  (∃ (s : State), Reaches (.agent 0) PST_BT_CTL s ∧ (s.rd SIS_MODE_CUR ≠ 0xA ∨ s.dev.hw.bitAt SIS_COND 6 = false ∨
      s.rd PST_BRK_STAT_STATE ≠ 0 ∨ s.dev.hw.sis.proofOrder = false ∨ s.on PST_BT_STAT_BUSY = true)) ∧
  (∃ (s : State), Alive s ∧ s.on PST_BT_STAT_BUSY = true ∧ s.rd PST_BT_STAT_STEP = 1) ∧
  (∃ (s : State), Alive s ∧ s.on PST_BT_STAT_BUSY = true ∧ s.rd PST_BT_STAT_STEP = 2 ∧ s.rd PST_BT_STAT_SLIPMAX ≤ s.rd
      PST_BT_CFG_SLIP) ∧
  (∃ (s : State), Alive s ∧ s.on PST_BT_STAT_BUSY = true ∧ s.rd PST_BT_STAT_STEP = 2 ∧ s.rd PST_BT_CFG_SLIP < s.rd
      PST_BT_STAT_SLIPMAX) ∧
  (∃ (s : State), Reaches (.agent 0) PST_BT_CTL s ∧ s.on PST_BT_STAT_BUSY = true) ∧
  (∃ (who : Who) (s : State), Reaches who PST_BT_CTL s ∧ who ≠ .agent 0) ∧
  (∃ (h : Machine.Hw), h.on PST_BT_STAT_BUSY = true ∧ h.rd PST_BT_STAT_STEP = 3 ∧ h.rd PST_BRK_STAT_STATE = 4 ∧ bit
      (h.rd PST_BRK_STAT_FB) h.btCirc = false ∧ bit (h.rd PST_BRK_STAT_FB) (1 - h.btCirc) = true ∧ (h.pos.ext.getD
      (h.rd PST_BT_CTL_SRC) 0 - h.pst.btStart).natAbs ≤ h.rd PST_BT_CFG_SLIP ∧ h.rd PST_BT_STAT_SLIPMAX ≤ h.rd
      PST_BT_CFG_SLIP) :=
  ⟨⟨(unit (fun h => ((h.wr PST_BRK_STAT_STATE 1).wr PST_BT_STAT_BUSY 0))), by decide +kernel⟩,
   ⟨(unit (fun h => (h.wr PST_BRK_STAT_STATE 2))), by decide +kernel⟩,
   ⟨(unit (fun h => (((h.wr PST_BRK_STAT_STATE 3).wr PST_BT_STAT_BUSY 0).setBitAt (BLK_FAULT PG_PST) 14 false))),
       by decide +kernel⟩,
   ⟨(unit (fun h => ((h.wr PST_BRK_STAT_STATE 4).wr PST_BT_STAT_BUSY 0))), by decide +kernel⟩,
   ⟨(unit (fun h => (h.wr PST_BRK_STAT_STATE 4))), by decide +kernel⟩,
   ⟨(unit (fun h => ((h.wr PST_BRK_STAT_STATE 5) |> fun h : Hw => { h with pst := { h.pst with settled := true } }))),
       by decide +kernel⟩,
   ⟨(unit (fun h => (((h.wr PST_BRK_STAT_STATE 5) |> fun h : Hw =>
       { h with pst := { h.pst with settled := false } }).setBitAt (BLK_FAULT PG_PST) 14 false))), by decide +kernel⟩,
   ⟨(unit (fun h => (h.wr PST_BRK_STAT_STATE 6))), by decide +kernel⟩,
   ⟨(unit (fun h => (h.wr PST_BRK_STAT_STATE 0))), by decide +kernel⟩,
   ⟨(unit (fun h => (((((((h.wr SIS_MODE_CUR 0xA).setBitAt SIS_COND 6 true).wr PST_BRK_STAT_STATE 0) |> fun h : Hw =>
       { h with sis := { h.sis with proofOrder := true } }).wr PST_BT_STAT_BUSY 0).wr PST_BRK_CFG_EN 1).wr
       CPR_STRAP_ROLE 2))), by decide +kernel⟩,
   ⟨up, by decide +kernel⟩,
   ⟨(unit (fun h => ((h.wr PST_BT_STAT_BUSY 1).wr PST_BT_STAT_STEP 1))), by decide +kernel⟩,
   ⟨(unit (fun h => ((h.wr PST_BT_STAT_BUSY 1).wr PST_BT_STAT_STEP 2))), by decide +kernel⟩,
   ⟨(unit (fun h => ((((h.wr PST_BT_STAT_BUSY 1).wr PST_BT_STAT_STEP 2).wr PST_BT_STAT_SLIPMAX 5).wr PST_BT_CFG_SLIP
       1))), by decide +kernel⟩,
   ⟨(unit (fun h => (h.wr PST_BT_STAT_BUSY 1))), by decide +kernel⟩,
   ⟨(.agent 1), up, by decide +kernel⟩,
   ⟨((((up.dev.hw.wr PST_BT_STAT_BUSY 1).wr PST_BT_STAT_STEP 3).wr PST_BRK_STAT_STATE 4).wr PST_BRK_STAT_FB 2),
       by decide +kernel⟩⟩

theorem witness_DoorCommands :
  (∃ (who : Who) (n : Fin 2) (s : State), MayOperate who PG_DOR (DOR_Dn_CMD n.val) s ∧ s.dev.hw.standby = false ∧
      n.val < s.dev.hw.dor.door.length) ∧
  (∃ (who : Who) (n : Fin 2) (s : State), MayOperate who PG_DOR (DOR_Dn_CMD n.val) s ∧ s.dev.hw.standby = true) ∧
  (∃ (h : Machine.Hw) (n : Nat) (c : Machine.DoorCmd), n < 2 ∧ n < h.dor.door.length ∧ (h.dr n).cmd = some c ∧ c.seq <
      256) :=
  ⟨⟨(.agent 0), 0, up, by decide +kernel⟩,
   ⟨(.agent 0), 0, (unit (fun h => (h.wr RDN_STAT_STATE 7))), by decide +kernel⟩,
   ⟨(up.dev.hw.setDr 0 { Door.init with cmd := some ⟨1, 5, 0⟩ }), 0, (⟨1, 5, 0⟩), by decide +kernel⟩⟩

theorem witness_DoorTimers :
  (∃ (n : Fin 2) (s : State), Alive s ∧ s.dev.hw.doorRuns n.val = true ∧ s.dev.hw.dst n.val = 1 ∧ NoFault s ∧
      s.dev.hw.bitAt (BLK_FAULT PG_DOR) 12 = false) ∧
  (∃ (n : Fin 2) (s : State), Alive s ∧ s.dev.hw.doorRuns n.val = true ∧ s.dev.hw.dst n.val = 3 ∧ (s.dev.hw.dr
      n.val).hold = false ∧ s.dev.hw.heldOpen n.val = false) ∧
  (∃ (n : Fin 2) (s : State), Alive s ∧ s.dev.hw.doorRuns n.val = true ∧ s.dev.hw.dst n.val = 3 ∧ s.dev.hw.heldOpen
      n.val = true ∧ s.rd (DOR_Dn_TIM1_NUDGE_T n.val) ≠ 0) ∧
  (∃ (n : Fin 2) (s : State), Alive s ∧ s.dev.hw.doorRuns n.val = true ∧ s.dev.hw.dst n.val = 7 ∧ n.val <
      s.dev.hw.dor.door.length) ∧
  (∃ (n : Fin 2) (s : State), Alive s ∧ s.dev.hw.doorRuns n.val = true ∧ s.dev.hw.dst n.val = 8 ∧ (s.dev.hw.dr
      n.val).retry = true ∧ s.dev.hw.doorCode n.val ⟨1, 0, 0⟩ = 0) ∧
  (∃ (n : Fin 2) (s : State), Alive s ∧ s.dev.hw.doorRuns n.val = true ∧ s.dev.hw.doorCode n.val ⟨1, 0, 0⟩ ≠ 0) ∧
  (∃ (n : Fin 2) (s : State), s.dev.hw.doorRuns n.val = false) ∧
  (∃ (s : State), Alive s ∧ s.dev.hw.isCar = true ∧ s.dev.hw.running PG_DOR = true ∧ (s.dev.hw.doorOn 0 &&
      s.dev.hw.dst 0 ≠ 0 || s.dev.hw.doorOn 1 && s.dev.hw.dst 1 ≠ 0) = true ∧ s.dev.hw.carStill = true ∧ s.on
      DOR_DZ_STAT_IN = true ∧ s.on DOR_RLV_STAT_REQ = false ∧ s.rd DOR_RLV_CFG_RLV_TOL * 4096 < (s.dev.hw.int
      DOR_DZ_DIST).natAbs) :=
  ⟨⟨0, (unit (fun h => ((((((((h.setBitAt (BLK_FAULT PG_DOR) 12 false).wr (DOR_Dn_CFG_EN 0) 1).wr (BLK_CTL_EN PG_DOR)
      1).wr (BLK_STAT_RUN PG_DOR) 1).wr (PRF_AXn_CFG_TYPE 0) 1).wr (PRF_AXn_CFG_EN 0) 1).wr (PRF_AXn_CFG_REVERSE_ALLOW
      0) 1).wr (DOR_Dn_STAT_STATE 0) 1))), by decide +kernel⟩,
   ⟨0, (unit (fun h => (((((((h.wr (DOR_Dn_CFG_EN 0) 1).wr (BLK_CTL_EN PG_DOR) 1).wr (BLK_STAT_RUN PG_DOR) 1).wr
       (PRF_AXn_CFG_TYPE 0) 1).wr (PRF_AXn_CFG_EN 0) 1).wr (PRF_AXn_CFG_REVERSE_ALLOW 0) 1).wr (DOR_Dn_STAT_STATE 0)
       3))), by decide +kernel⟩,
   ⟨0, (unit (fun h => (((((((((h.wr (DOR_Dn_CFG_EN 0) 1).wr (BLK_CTL_EN PG_DOR) 1).wr (BLK_STAT_RUN PG_DOR) 1).wr
       (PRF_AXn_CFG_TYPE 0) 1).wr (PRF_AXn_CFG_EN 0) 1).wr (PRF_AXn_CFG_REVERSE_ALLOW 0) 1).wr (DOR_Dn_STAT_STATE 0)
       3).wr (DOR_Dn_STAT_OBSSRC 0) 2).wr (DOR_Dn_TIM1_NUDGE_T 0) 5))), by decide +kernel⟩,
   ⟨0, (unit (fun h => (((((((h.wr (DOR_Dn_CFG_EN 0) 1).wr (BLK_CTL_EN PG_DOR) 1).wr (BLK_STAT_RUN PG_DOR) 1).wr
       (PRF_AXn_CFG_TYPE 0) 1).wr (PRF_AXn_CFG_EN 0) 1).wr (PRF_AXn_CFG_REVERSE_ALLOW 0) 1).wr (DOR_Dn_STAT_STATE 0)
       7))), by decide +kernel⟩,
   ⟨0, (unit (fun h => ((((((((((((h.wr (DOR_Dn_CFG_EN 0) 1).wr (BLK_CTL_EN PG_DOR) 1).wr (BLK_STAT_RUN PG_DOR) 1).wr
       (PRF_AXn_CFG_TYPE 0) 1).wr (PRF_AXn_CFG_EN 0) 1).wr (PRF_AXn_CFG_REVERSE_ALLOW 0) 1).wr (DOR_Dn_STAT_STATE 0)
       8).wr DOR_DZ_STAT_IN 1).wr (MAP_LNDn_ATTR_EN 0) 1).setReg (MAP_LNDn_ATTR 0) 0xFFFF) |> fun h : Hw =>
       { h with peer := { h.peer with mach := (some ⟨0, 0, 0, 0, false, 32, 0⟩) } }) |> fun h : Hw => h.setDr 0
       { h.dr 0 with retry := true }))), by decide +kernel⟩,
   ⟨0, (unit (fun h => (((((((h.wr (DOR_Dn_CFG_EN 0) 1).wr (BLK_CTL_EN PG_DOR) 1).wr (BLK_STAT_RUN PG_DOR) 1).wr
       (PRF_AXn_CFG_TYPE 0) 1).wr (PRF_AXn_CFG_EN 0) 1).wr (PRF_AXn_CFG_REVERSE_ALLOW 0) 1).wr (DOR_Dn_STAT_STATE 0)
       8))), by decide +kernel⟩,
   ⟨0, up, by decide +kernel⟩,
   ⟨(unit (fun h => ((((((((((((h.wr (BLK_STAT_RUN PG_DOR) 1).wr DOR_DZ_STAT_IN 1).wr DOR_RLV_STAT_REQ 0).wr
       (DOR_Dn_CFG_EN 0) 1).wr (BLK_CTL_EN PG_DOR) 1).wr (BLK_STAT_RUN PG_DOR) 1).wr (PRF_AXn_CFG_TYPE 0) 1).wr
       (PRF_AXn_CFG_EN 0) 1).wr (PRF_AXn_CFG_REVERSE_ALLOW 0) 1).wr (DOR_Dn_STAT_STATE 0) 3) |> fun h : Hw =>
       { h with peer := { h.peer with mach := (some ⟨0, 0, 0, 0, false, 32, 0⟩) } }).setInt DOR_DZ_DIST 1000000))),
       by decide +kernel⟩⟩

theorem witness_ContactsAndVision :
  (∃ (k : Fin 8) (s : State), s.on (DOR_CTk_CFG_EN k.val) = true ∧ s.dev.hw.bolted PG_DOR = false) ∧
  (∃ (k : Fin 8) (s : State), s.on (DOR_CTk_CFG_EN k.val) = false) ∧
  (∃ (k : Fin 8) (s : State), Alive s ∧ s.dev.hw.isCar = true ∧ s.on (DOR_CTk_CFG_EN k.val) = true ∧ s.rd
      (DOR_CTk_CFG_KIND k.val) ≠ 3 ∧ s.on (DOR_CTk_STAT_LEVEL k.val) = true ∧ s.dev.hw.doorOn (s.rd (DOR_CTk_CFG_DOOR
      k.val)) = true ∧ (s.rd DOR_BYP_CFG_BYP_GAP * 4096 : Int) < s.dev.hw.int (DOR_Dn_POS (s.rd (DOR_CTk_CFG_DOOR
      k.val)))) ∧
  (∃ (k : Fin 2) (ecc : Bool) (crc : Bool) (s : State), Alive s ∧ s.dev.hw.visLive k.val = true ∧ (ecc = true ∨ crc =
      true)) ∧
  (∃ (k : Fin 2) (lines : List (List Nat)) (s : State), Alive s ∧ s.dev.hw.visLive k.val = true ∧ lines.length = s.rd
      (VIS_Rk_SIZE_LINES k.val) ∧ lines.all (fun l => l.length = s.rd (VIS_Rk_SIZE_PIXELS k.val)) = true) ∧
  (∃ (k : Fin 2) (s : State), Alive s ∧ s.dev.hw.visLive k.val = true ∧ s.on (VIS_Rk_STAT_STALE k.val) = false) ∧
  (∃ (k : Fin 2) (s : State), Alive s ∧ s.dev.hw.visLive k.val = true) :=
  ⟨⟨0, (unit (fun h => ((h.wr (DOR_CTk_CFG_EN 0) 1).wr (BLK_STAT_BOLTED PG_DOR) 0))), by decide +kernel⟩,
   ⟨0, (unit (fun h => (h.wr (DOR_CTk_CFG_EN 0) 0))), by decide +kernel⟩,
   ⟨0, (unit (fun h => ((((((h.wr (DOR_CTk_CFG_EN 0) 1).wr (DOR_CTk_STAT_LEVEL 0) 1).wr (DOR_Dn_CFG_EN 0) 1).wr
       (BLK_CTL_EN PG_DOR) 1).wr (BLK_STAT_RUN PG_DOR) 1).setNat (DOR_Dn_POS 0) 0x10000000))), by decide +kernel⟩,
   ⟨0, true, false, (unit (fun h => ((h.wr (VIS_Rk_CFG_EN 0) 1).wr (BLK_STAT_RUN PG_VIS) 1))), by decide +kernel⟩,
   ⟨0, [], (unit (fun h => (((h.wr (VIS_Rk_CFG_EN 0) 1).wr (BLK_STAT_RUN PG_VIS) 1).wr (VIS_Rk_SIZE_LINES 0) 0))),
       by decide +kernel⟩,
   ⟨0, (unit (fun h => (((h.wr (VIS_Rk_STAT_STALE 0) 0).wr (VIS_Rk_CFG_EN 0) 1).wr (BLK_STAT_RUN PG_VIS) 1))),
       by decide +kernel⟩,
   ⟨0, (unit (fun h => ((h.wr (VIS_Rk_CFG_EN 0) 1).wr (BLK_STAT_RUN PG_VIS) 1))), by decide +kernel⟩⟩

theorem witness_Cycles :
  (∃ (s : State), Alive s) ∧
  (∃ (s : State), Alive s ∧ s.dev.hw.rdn.replaying = false ∧ s.dev.hw.pst.posDue = true) ∧
  (∃ (s : State), s.dev.hw.alive = false) :=
  ⟨⟨up, by decide +kernel⟩,
   ⟨(unit (fun h => ((h |> fun h : Hw => { h with rdn := { h.rdn with replaying := false } }) |> fun h : Hw =>
       { h with pst := { h.pst with posDue := true } }))), by decide +kernel⟩,
   ⟨(unit (fun h => (h.wr SIS_MODE_CUR 3))), by decide +kernel⟩⟩

theorem witness_SafeOutputs :
  ∃ (h : Machine.Hw) (k : Nat), k < 10 ∧ bit (h.outputsT0.rd SIS_OUT_STAT_OUT) k = true ∧ (h.sis.lag = false ∨ k < 2 ∨
      4 ≤ k) :=
  ⟨driving, 0, by decide +kernel⟩

theorem witness_WardInputsAndEvents :
  (∃ (m : Fin 8) (s : State), Alive s ∧ bit (s.rd SIS_SIN_CFG_PAIR) m.val = true ∧ s.dev.hw.sinChannel (2 * m.val) ≠
      s.dev.hw.sinChannel (2 * m.val + 1) ∧ NoFault s ∧ s.dev.hw.bitAt (BLK_FAULT PG_SIS) 12 = false) ∧
  (∃ (s : State), Alive s) ∧
  (∃ (s : State), Alive s) ∧
  (∃ (k : Fin 24) (s : State), Reaches (.agent 0) (SIS_SFk_STAT k.val) s ∧ bit s.dev.hw.sis.tested k.val = false) ∧
  (∃ (k : Fin 24) (s : State), Reaches (.agent 0) (SIS_SFk_STAT k.val) s ∧ bit s.dev.hw.sis.tested k.val = true) ∧
  (∃ (s : State), Alive s ∧ s.dev.hw.sis.lag = true) ∧
  (∃ (s : State), Alive s ∧ NoFault s ∧ s.dev.hw.bitAt (BLK_FAULT PG_SIS) 11 = false) ∧
  (∃ (s : State), Reaches (.agent 0) SIS_WDG_KICK s) ∧
  (∃ (s : State), Alive s ∧ s.dev.hw.sis.wdgOn = true ∧ s.dev.hw.sis.dead = false ∧ NoFault s ∧ s.dev.hw.bitAt
      (BLK_FAULT PG_SIS) 13 = false) ∧
  (∃ (i : Fin 16) (s : State), s.dev.hw.sinHeld i.val = true) ∧
  (∃ (i : Fin 16) (s : State), s.dev.hw.sinHeld i.val = false) :=
  ⟨⟨0, (unit (fun h => (((h.setBitAt (BLK_FAULT PG_SIS) 12 false).wr SIS_SIN_CFG_PAIR 1) |> fun h : Hw =>
      { h with sis := { h.sis with sin := 1 } }))), by decide +kernel⟩,
   ⟨up, by decide +kernel⟩,
   ⟨up, by decide +kernel⟩,
   ⟨0, up, by decide +kernel⟩,
   ⟨0, (unit (fun h => (h |> fun h : Hw => { h with sis := { h.sis with tested := 1 } }))), by decide +kernel⟩,
   ⟨(unit (fun h => (h |> fun h : Hw => { h with sis := { h.sis with lag := true } }))), by decide +kernel⟩,
   ⟨(unit (fun h => (h.setBitAt (BLK_FAULT PG_SIS) 11 false))), by decide +kernel⟩,
   ⟨up, by decide +kernel⟩,
   ⟨(unit (fun h => (((h |> fun h : Hw => { h with sis := { h.sis with wdgOn := true } }) |> fun h : Hw =>
       { h with sis := { h.sis with dead := false } }).setBitAt (BLK_FAULT PG_SIS) 13 false))), by decide +kernel⟩,
   ⟨15, (unit fun h => { h.wr SIS_TP_EN_EN 0x8000 with sis := { h.sis with tpLow := 8 } }), by decide +kernel⟩,
   ⟨15, up, by decide +kernel⟩⟩

theorem witness_FaultManager :
  (∃ (p : Fin 41) (b : Fin 24) (cls : Nat) (s : State), Alive s ∧ isPage p.val = true ∧ s.dev.hw.absent p.val = false
      ∧ 8 ≤ b.val ∧ b.val ≤ topFault p.val ∧ s.dev.hw.bitAt (BLK_FAULT p.val) b.val = false ∧ s.dev.hw.faultClass
      p.val b.val = some cls ∧ NoFault s) ∧
  (∃ (p : Fin 41) (b : Fin 24) (s : State), Alive s ∧ s.dev.hw.bitAt (BLK_FAULT p.val) b.val = true) ∧
  (∃ (w : Word) (s : State), Reaches (.agent 0) SIS_FM_DONE s ∧ w.getLsbD 0 = true ∧ s.dev.hw.sis.queue = []) ∧
  (∃ (w : Word) (s : State) (e : Machine.FaultEntry) (q : List Machine.FaultEntry), Reaches (.agent 0) SIS_FM_DONE s ∧
      w.getLsbD 0 = true ∧ s.dev.hw.sis.queue = e :: q ∧ e.cls < 6 ∧ e.src < 64 ∧ e.cause < 32) ∧
  (∃ (who : Who) (s : State), Reaches who SIS_FM_DONE s ∧ who ≠ .agent 0) ∧
  (∃ (s : State), s.dev.hw.fabricOn = true ∧ s.on SIS_DB_STAT_SET = false ∧ s.rd SIS_OUT_CFG_BRK_LAG = 0) :=
  ⟨⟨0x10, 12, 2, (unit (fun h => (h.setBitAt (BLK_FAULT 0x10) 12 false))), by decide +kernel⟩,
   ⟨0x10, 0, (unit (fun h => (h.setBitAt (BLK_FAULT 0x10) 0 true))), by decide +kernel⟩,
   ⟨1, (unit (fun h => (h |> fun h : Hw => { h with sis := { h.sis with queue := [] } }))), by decide +kernel⟩,
   ⟨1, (unit (fun h => (h |> fun h : Hw => { h with sis := { h.sis with queue := [⟨1, 0, 0, 0⟩] } }))), (⟨1, 0, 0,
       0⟩), [], by decide +kernel⟩,
   ⟨(.agent 1), up, by decide +kernel⟩,
   ⟨(unit (fun h => ((h.wr SIS_DB_STAT_SET 0).wr SIS_OUT_CFG_BRK_LAG 0))), by decide +kernel⟩⟩

theorem witness_ModesAndDeadbolt :
  (∃ (s : State), Reaches (.agent 0) SIS_MODE_SET s) ∧
  (∃ (s : State), Alive s) ∧
  (∃ (s : State), Alive s ∧ s.rd SIS_MODE_CUR = 4 ∧ s.rd SIS_SS_CFG_PARK_IDLE ≠ 0) ∧
  (∃ (s : State), Alive s) ∧
  (∃ (s : State), Alive s) ∧
  (∃ (s : State), Reaches (.agent 0) REC_DBW s) ∧
  (∃ (s : State), s.on REC_DBW_BUSY = true ∧ s.on REC_STAT_DEGRADED = false ∧ s.dev.hw.cpr.mramBlocked = false) ∧
  (∃ (okA : Bool) (okB : Bool) (s : State), s.on REC_DBW_BUSY = true ∧ (okA = false ∨ okB = false)) ∧
  (∃ (w : Word) (s : State), Reaches (.agent 0) SIS_DB_REL s ∧ getBits w 16 16 = 0xD3B1 ∧ w.getLsbD 0 = true ∧ s.rd
      SIS_MODE_CUR = 0xC ∧ s.on SIS_DB_STAT_TOKOK = true ∧ s.on SIS_DB_STAT_SRVOK = true ∧ s.on REC_STAT_DEGRADED =
      false ∧ s.dev.hw.cpr.mramBlocked = false) ∧
  (∃ (w : Word) (s : State), Reaches (.agent 0) SIS_DB_REL s ∧ (getBits w 16 16 ≠ 0xD3B1 ∨ w.getLsbD 0 = false ∨ s.rd
      SIS_MODE_CUR ≠ 0xC ∨ s.on SIS_DB_STAT_TOKOK = false ∨ s.on SIS_DB_STAT_SRVOK = false)) :=
  ⟨⟨up, by decide +kernel⟩,
   ⟨up, by decide +kernel⟩,
   ⟨(unit (fun h => (h.wr SIS_MODE_CUR 4))), by decide +kernel⟩,
   ⟨up, by decide +kernel⟩,
   ⟨up, by decide +kernel⟩,
   ⟨up, by decide +kernel⟩,
   ⟨(unit (fun h => (((h.wr REC_DBW_BUSY 1).wr REC_STAT_DEGRADED 0) |> fun h : Hw =>
       { h with cpr := { h.cpr with mramBlocked := false } }))), by decide +kernel⟩,
   ⟨false, false, (unit (fun h => (h.wr REC_DBW_BUSY 1))), by decide +kernel⟩,
   ⟨3551592449, (unit (fun h => (((((h.wr SIS_MODE_CUR 0xC).wr SIS_DB_STAT_TOKOK 1).wr SIS_DB_STAT_SRVOK 1).wr
       REC_STAT_DEGRADED 0) |> fun h : Hw => { h with cpr := { h.cpr with mramBlocked := false } }))),
       by decide +kernel⟩,
   ⟨0, up, by decide +kernel⟩⟩

theorem witness_Pairing :
  (∃ (s : State), Alive s ∧ s.dev.hw.rdnLive = true ∧ s.dev.hw.rst = 1) ∧
  (∃ (b : Bool) (role : Fin 4) (compat : BitVec 16) (formats : BitVec 8) (s : State), Alive s ∧ s.dev.hw.rdnLive =
      true ∧ s.dev.hw.rst = 2 ∧ b ≠ s.dev.hw.unitB ∧ role.val = s.rd CPR_STRAP_ROLE ∧ compat.toNat = s.rd
      RDN_COMPAT_PAIRCOMPAT ∧ formats.toNat &&& s.rd RDN_COMPAT_FORMATS ≠ 0 ∧ (s.dev.hw.stored 3).isSome = true) ∧
  (∃ (s : State), Alive s ∧ s.dev.hw.rdnLive = true ∧ s.dev.hw.rst = 2) ∧
  (∃ (s : State), Alive s ∧ s.dev.hw.rdnLive = true ∧ s.dev.hw.rst = 3) ∧
  (∃ (s : State), Alive s ∧ s.dev.hw.rdnLive = true ∧ s.dev.hw.rst = 3 ∧ s.dev.hw.rdn.peerNonce.isSome = true) ∧
  (∃ (f : PairHead) (offer : Fin 4) (locks : BitVec 4) (s : State), Alive s ∧ s.dev.hw.rdnLive = true ∧ s.dev.hw.rst =
      4 ∧ s.on RDN_KEY_HELD = false ∧ FrameFits f [s.dev.hw.rdn.posIdx, s.dev.hw.rdn.prevIdx] s ∧ s.dev.hw.linkMode
      offer.val locks.toNat = none) ∧
  (∃ (f : PairHead) (offer : Fin 4) (locks : BitVec 4) (m : Nat) (s : State), Alive s ∧ s.dev.hw.rdnLive = true ∧
      s.dev.hw.rst = 4 ∧ s.on RDN_KEY_HELD = false ∧ FrameFits f [s.dev.hw.rdn.posIdx, s.dev.hw.rdn.prevIdx] s ∧
      s.dev.hw.linkMode offer.val locks.toNat = some m) ∧
  (∃ (f : PairHead) (s : State), Alive s ∧ s.dev.hw.rdnLive = true ∧ s.dev.hw.rst = 6 ∧ s.dev.hw.unitB = false ∧ 256 ≤
      s.rd RDN_HEALTH_HEALTH ∧ FrameFits f [s.dev.hw.rdn.posIdx, s.dev.hw.rdn.prevIdx] s) ∧
  (∃ (s : State), Alive s ∧ s.dev.hw.rdnLive = true ∧ s.dev.hw.rst = 1 ∧ s.dev.hw.selNone = true) ∧
  (∃ (s : State), Alive s ∧ s.dev.hw.rdnLive = true ∧ s.dev.hw.rst = 1 ∧ s.on RDN_KEY_SELFSEL = false ∧ s.on
      RDN_KEY_PEERSEL = true) ∧
  (∃ (s : State), Alive s ∧ s.dev.hw.rdnLive = true) :=
  ⟨⟨(unit (fun h => (((h.wr (BLK_STAT_RUN PG_RDN) 1) |> fun h : Hw =>
      { h with rdn := { h.rdn with force := [(RDN_CFG, BitVec.ofNat 32 (2 ^ RDN_CFG_PAIRED.lo))] } }).wr
      RDN_STAT_STATE 1))), by decide +kernel⟩,
   ⟨true, 1, 0, 1, (unit (fun h => (((((h.wr (BLK_STAT_RUN PG_RDN) 1) |> fun h : Hw =>
       { h with rdn := { h.rdn with force := [(RDN_CFG, BitVec.ofNat 32 (2 ^ RDN_CFG_PAIRED.lo))] } }).wr
       RDN_STAT_STATE 2).wr RDN_COMPAT_FORMATS 1) |> fun h : Hw =>
       { h with otp := { h.otp with keys := [some [], some [], some [], some []] } }))), by decide +kernel⟩,
   ⟨(unit (fun h => (((h.wr (BLK_STAT_RUN PG_RDN) 1) |> fun h : Hw =>
       { h with rdn := { h.rdn with force := [(RDN_CFG, BitVec.ofNat 32 (2 ^ RDN_CFG_PAIRED.lo))] } }).wr
       RDN_STAT_STATE 2))), by decide +kernel⟩,
   ⟨(unit (fun h => (((h.wr (BLK_STAT_RUN PG_RDN) 1) |> fun h : Hw =>
       { h with rdn := { h.rdn with force := [(RDN_CFG, BitVec.ofNat 32 (2 ^ RDN_CFG_PAIRED.lo))] } }).wr
       RDN_STAT_STATE 3))), by decide +kernel⟩,
   ⟨(unit (fun h => ((((h.wr (BLK_STAT_RUN PG_RDN) 1) |> fun h : Hw =>
       { h with rdn := { h.rdn with force := [(RDN_CFG, BitVec.ofNat 32 (2 ^ RDN_CFG_PAIRED.lo))] } }).wr
       RDN_STAT_STATE 3) |> fun h : Hw => { h with rdn := { h.rdn with peerNonce := some [] } }))),
       by decide +kernel⟩,
   ⟨(⟨true, false, false, false, false, 0, 1, 4⟩), 0, 0, (unit (fun h => ((((h.wr RDN_KEY_HELD 0).wr (BLK_STAT_RUN
       PG_RDN) 1) |> fun h : Hw =>
       { h with rdn := { h.rdn with force := [(RDN_CFG, BitVec.ofNat 32 (2 ^ RDN_CFG_PAIRED.lo))] } }).wr
       RDN_STAT_STATE 4))), by decide +kernel⟩,
   ⟨(⟨true, false, false, false, false, 0, 1, 4⟩), 0, 1, 0, (unit (fun h => ((((h.wr RDN_KEY_HELD 0).wr (BLK_STAT_RUN
       PG_RDN) 1) |> fun h : Hw =>
       { h with rdn := { h.rdn with force := [(RDN_CFG, BitVec.ofNat 32 (2 ^ RDN_CFG_PAIRED.lo))] } }).wr
       RDN_STAT_STATE 4))), by decide +kernel⟩,
   ⟨(⟨true, false, false, false, false, 0, 1, 4⟩), (unit (fun h => ((((h.wr (BLK_STAT_RUN PG_RDN) 1) |> fun h : Hw =>
       { h with rdn := { h.rdn with force := [(RDN_CFG, BitVec.ofNat 32 (2 ^ RDN_CFG_PAIRED.lo))] } }).wr
       RDN_STAT_STATE 6).wr RDN_HEALTH_HEALTH 256))), by decide +kernel⟩,
   ⟨(unit (fun h => (((h.wr (BLK_STAT_RUN PG_RDN) 1) |> fun h : Hw =>
       { h with rdn := { h.rdn with force := [(RDN_CFG, BitVec.ofNat 32 (2 ^ RDN_CFG_PAIRED.lo))] } }).wr
       RDN_STAT_STATE 1))), by decide +kernel⟩,
   ⟨(unit (fun h => (((((h.wr RDN_KEY_SELFSEL 0).wr RDN_KEY_PEERSEL 1).wr (BLK_STAT_RUN PG_RDN) 1) |> fun h : Hw =>
       { h with rdn := { h.rdn with force := [(RDN_CFG, BitVec.ofNat 32 (2 ^ RDN_CFG_PAIRED.lo))] } }).wr
       RDN_STAT_STATE 1))), by decide +kernel⟩,
   ⟨(unit (fun h => (((h.wr (BLK_STAT_RUN PG_RDN) 1) |> fun h : Hw =>
       { h with rdn := { h.rdn with force := [(RDN_CFG, BitVec.ofNat 32 (2 ^ RDN_CFG_PAIRED.lo))] } }).wr
       RDN_STAT_STATE 1))), by decide +kernel⟩⟩

theorem witness_PartnerFrames :
  (∃ (f : PairHead) (seg : BitVec 8) (s : State), Alive s ∧ s.dev.hw.rdnLive = true ∧ s.dev.hw.rst = 7 ∧ s.on
      RDN_STAT_COAST = false ∧ s.on RDN_KEY_HELD = false ∧ f.tagOk = true ∧ (∀ l, s.dev.hw.rdn.last = some l → l <
      f.counter.toNat) ∧ (∀ o, s.dev.hw.rdn.off = some o → idxBy f.t0idx.toNat o = (s.dev.hw.rdn.posIdx + seg.toNat) %
      2 ^ 32)) ∧
  (∃ (f : PairHead) (s : State), Alive s ∧ s.dev.hw.rdnLive = true ∧ s.dev.hw.rst = 7 ∧ s.on RDN_KEY_HELD = false ∧
      f.tagOk = true ∧ (∀ l, s.dev.hw.rdn.last = some l → l < f.counter.toNat) ∧ (∀ o, s.dev.hw.rdn.off = some o →
      idxBy f.t0idx.toNat o = s.dev.hw.rdn.prevIdx)) ∧
  (∃ (f : PairHead) (s : State), Alive s ∧ s.dev.hw.rdnLive = true ∧ s.dev.hw.rst = 7 ∧ s.on RDN_KEY_HELD = false ∧
      f.tagOk = true ∧ (∀ l, s.dev.hw.rdn.last = some l → l < f.counter.toNat) ∧ (∀ o, s.dev.hw.rdn.off = some o →
      idxBy f.t0idx.toNat o = s.dev.hw.rdn.posIdx)) ∧
  (∃ (f : PairHead) (s : State), Alive s ∧ s.dev.hw.rdnLive = true ∧ s.dev.hw.rst = 5 ∧ s.on RDN_KEY_HELD = false ∧
      f.tagOk = true ∧ (∀ l, s.dev.hw.rdn.last = some l → l < f.counter.toNat) ∧ (∀ o, s.dev.hw.rdn.off = some o →
      idxBy f.t0idx.toNat o = s.dev.hw.rdn.posIdx)) ∧
  (∃ (f : PairHead) (s : State), Alive s ∧ s.dev.hw.rdnLive = true ∧ f.tagOk = false) :=
  ⟨⟨pairHead, 5, (unit (fun h => (((((h.wr RDN_STAT_COAST 0).wr RDN_KEY_HELD 0).wr (BLK_STAT_RUN PG_RDN) 1) |> fun h :
      Hw => { h with rdn := { h.rdn with force := [(RDN_CFG, BitVec.ofNat 32 (2 ^ RDN_CFG_PAIRED.lo))] } }).wr
      RDN_STAT_STATE 7))), by decide +kernel⟩,
   ⟨pairHead, (unit (fun h => ((((h.wr RDN_KEY_HELD 0).wr (BLK_STAT_RUN PG_RDN) 1) |> fun h : Hw =>
       { h with rdn := { h.rdn with force := [(RDN_CFG, BitVec.ofNat 32 (2 ^ RDN_CFG_PAIRED.lo))] } }).wr
       RDN_STAT_STATE 7))), by decide +kernel⟩,
   ⟨pairHead, (unit (fun h => ((((h.wr RDN_KEY_HELD 0).wr (BLK_STAT_RUN PG_RDN) 1) |> fun h : Hw =>
       { h with rdn := { h.rdn with force := [(RDN_CFG, BitVec.ofNat 32 (2 ^ RDN_CFG_PAIRED.lo))] } }).wr
       RDN_STAT_STATE 7))), by decide +kernel⟩,
   ⟨pairHead, (unit (fun h => ((((h.wr RDN_KEY_HELD 0).wr (BLK_STAT_RUN PG_RDN) 1) |> fun h : Hw =>
       { h with rdn := { h.rdn with force := [(RDN_CFG, BitVec.ofNat 32 (2 ^ RDN_CFG_PAIRED.lo))] } }).wr
       RDN_STAT_STATE 5))), by decide +kernel⟩,
   ⟨({ pairHead with tagOk := false }), (unit (fun h => (((h.wr (BLK_STAT_RUN PG_RDN) 1) |> fun h : Hw =>
       { h with rdn := { h.rdn with force := [(RDN_CFG, BitVec.ofNat 32 (2 ^ RDN_CFG_PAIRED.lo))] } }).wr
       RDN_STAT_STATE 7))), by decide +kernel⟩⟩

theorem witness_PairKey :
  (∃ (s : State), Alive s ∧ s.dev.hw.rdnLive = true ∧ s.dev.hw.rst = 5 ∧ s.dev.hw.rdn.seeded = true ∧ s.dev.hw.rdnF
      RDN_PAIRWAIT_SYNC_N ≤ s.dev.hw.rdn.clean) ∧
  (∃ (s : State), Alive s ∧ s.dev.hw.rdnLive = true ∧ s.dev.hw.rst = 7 ∧ s.dev.hw.claimHealth = true ∧
      s.dev.hw.claimAged = true ∧ s.dev.hw.selNone = true ∧ s.dev.hw.rdn.selflt = false ∧ s.dev.hw.rdn.woke = false) ∧
  (∃ (s : State), Alive s ∧ (s.dev.hw.claimHealth = false ∨ s.dev.hw.claimAged = false ∨ s.dev.hw.selNone = false ∨
      s.dev.hw.rst ≠ 7)) ∧
  (∃ (s : State), Alive s ∧ s.dev.hw.paired = true ∧ s.on RDN_KEY_HELD = true ∧ s.dev.hw.sis.dead = true) ∧
  (∃ (s : State), Reaches (.agent 0) RDN_KEY s ∧ s.dev.hw.handoffOk = true) ∧
  (∃ (w : Word) (s : State), Reaches (.agent 0) RDN_KEY s ∧ w.getLsbD 0 = false ∧ s.dev.hw.rdnLive = true ∧
      (s.dev.hw.rst = 8 ∨ s.dev.hw.rst = 9)) ∧
  (∃ (who : Who) (s : State), Reaches who RDN_KEY s ∧ who ≠ .agent 0) ∧
  (∃ (s : State), s.dev.hw.rdnLive = false) ∧
  (∃ (s : State), s.dev.hw.rdnLive = true ∧ s.dev.hw.rdn.selflt = false) ∧
  (∃ (s : State), Alive s ∧ s.dev.hw.rdnLive = true ∧ s.on RDN_KEY_HELD = true ∧ s.dev.hw.selNone = true ∧
      s.dev.hw.rdn.selflt = false) ∧
  (∃ (s : State), Alive s) :=
  ⟨⟨(unit (fun h => (((((h |> fun h : Hw => { h with rdn := { h.rdn with seeded := true } }).wr (BLK_STAT_RUN PG_RDN)
      1) |> fun h : Hw =>
      { h with rdn := { h.rdn with force := [(RDN_CFG, BitVec.ofNat 32 (2 ^ RDN_CFG_PAIRED.lo))] } }).wr
      RDN_STAT_STATE 5) |> fun h : Hw => { h with rdn := { h.rdn with clean := 100000 } }))), by decide +kernel⟩,
   ⟨(unit (fun h => ((((((((h |> fun h : Hw => { h with rdn := { h.rdn with selflt := false } }) |> fun h : Hw =>
       { h with rdn := { h.rdn with woke := false } }).wr (BLK_STAT_RUN PG_RDN) 1) |> fun h : Hw =>
       { h with rdn := { h.rdn with force := [(RDN_CFG, BitVec.ofNat 32 (2 ^ RDN_CFG_PAIRED.lo))] } }).wr
       RDN_STAT_STATE 7) |> fun h : Hw => { h with rdn := { h.rdn with frameHealth := 15 } }).wr MAP_STAT_LOADED
       1024).wr (ETH_TBD_STAT_LOCKED 0) 1))), by decide +kernel⟩,
   ⟨up, by decide +kernel⟩,
   ⟨(unit (fun h => ((((h.wr RDN_KEY_HELD 1) |> fun h : Hw => { h with sis := { h.sis with dead := true } }).wr
       (BLK_STAT_RUN PG_RDN) 1) |> fun h : Hw =>
       { h with rdn := { h.rdn with force := [(RDN_CFG, BitVec.ofNat 32 (2 ^ RDN_CFG_PAIRED.lo))] } }))),
       by decide +kernel⟩,
   ⟨(unit (fun h => (((((((h.wr (BLK_STAT_RUN PG_RDN) 1) |> fun h : Hw =>
       { h with rdn := { h.rdn with force := [(RDN_CFG, BitVec.ofNat 32 (2 ^ RDN_CFG_PAIRED.lo))] } }).wr
       RDN_STAT_STATE 6).wr RDN_KEY_HELD 1).wr SIS_MODE_CUR 4).wr RDN_PEER_HEALTH_HEALTH 255) |> fun h : Hw =>
       { h with rdn := { h.rdn with pl := (some 0) } }))), by decide +kernel⟩,
   ⟨0, (unit (fun h => (((h.wr (BLK_STAT_RUN PG_RDN) 1) |> fun h : Hw =>
       { h with rdn := { h.rdn with force := [(RDN_CFG, BitVec.ofNat 32 (2 ^ RDN_CFG_PAIRED.lo))] } }).wr
       RDN_STAT_STATE 8))), by decide +kernel⟩,
   ⟨(.agent 1), up, by decide +kernel⟩,
   ⟨up, by decide +kernel⟩,
   ⟨(unit (fun h => ((((h |> fun h : Hw => { h with rdn := { h.rdn with selflt := false } }).wr (BLK_STAT_RUN PG_RDN)
       1) |> fun h : Hw =>
       { h with rdn := { h.rdn with force := [(RDN_CFG, BitVec.ofNat 32 (2 ^ RDN_CFG_PAIRED.lo))] } }).wr
       RDN_STAT_STATE 7))), by decide +kernel⟩,
   ⟨(unit (fun h => (((((h.wr RDN_KEY_HELD 1) |> fun h : Hw => { h with rdn := { h.rdn with selflt := false } }).wr
       (BLK_STAT_RUN PG_RDN) 1) |> fun h : Hw =>
       { h with rdn := { h.rdn with force := [(RDN_CFG, BitVec.ofNat 32 (2 ^ RDN_CFG_PAIRED.lo))] } }).wr
       RDN_STAT_STATE 7))), by decide +kernel⟩,
   ⟨up, by decide +kernel⟩⟩

theorem witness_CanReception :
  (∃ (c : Fin 4) (f : CanFrame) (j : Nat) (n : Nat) (s : State), PlainFrame c.val f s ∧ f.rtr = false ∧ FirstFilter
      c.val f j s ∧ s.on (CAN_FLTj_ACT_REPLAY c.val j) = false ∧ s.rd (CAN_FLTj_ACT_ACT c.val j) = 0 ∧ n = s.rd
      (CAN_FLTj_ACT_OBJ c.val j) ∧ s.on (CAN_OBJn_W3_LOCKED c.val n) = false ∧ (s.on (CAN_OBJn_W3_NEWDAT c.val n) =
      false ∨ s.on (CAN_OBJn_W1_OVW c.val n) = true)) ∧
  (∃ (c : Fin 4) (f : CanFrame) (j : Nat) (n : Nat) (s : State), PlainFrame c.val f s ∧ f.rtr = false ∧ FirstFilter
      c.val f j s ∧ s.on (CAN_FLTj_ACT_REPLAY c.val j) = false ∧ s.rd (CAN_FLTj_ACT_ACT c.val j) = 0 ∧ n = s.rd
      (CAN_FLTj_ACT_OBJ c.val j) ∧ (if s.on (CAN_OBJn_W3_LOCKED c.val n) then (s.dev.hw.cn c.val).hold.isSome else
      s.on (CAN_OBJn_W3_NEWDAT c.val n) && !s.on (CAN_OBJn_W1_OVW c.val n)) = true) ∧
  (∃ (c : Fin 4) (f : CanFrame) (j : Nat) (n : Nat) (s : State), PlainFrame c.val f s ∧ f.rtr = false ∧ FirstFilter
      c.val f j s ∧ s.on (CAN_FLTj_ACT_REPLAY c.val j) = false ∧ s.rd (CAN_FLTj_ACT_ACT c.val j) = 0 ∧ n = s.rd
      (CAN_FLTj_ACT_OBJ c.val j) ∧ s.on (CAN_OBJn_W3_LOCKED c.val n) = true ∧ (s.dev.hw.cn c.val).hold = none) ∧
  (∃ (c : Fin 4) (f : CanFrame) (j : Nat) (s : State), PlainFrame c.val f s ∧ f.rtr = false ∧ FirstFilter c.val f j s
      ∧ s.on (CAN_FLTj_ACT_REPLAY c.val j) = false ∧ s.rd (CAN_FLTj_ACT_ACT c.val j) = 1) ∧
  (∃ (a : Fin 8) (c : Fin 4) (n : Fin 128) (s : State), s.dev.hw.canAccess (.agent a) = true ∧ s.dev.hw.absent (PG_CAN
      c.val) = false ∧ s.rd (CAN_OBJn_W0_TYPE c.val n.val) = canRx ∧ s.on (CAN_OBJn_W3_LOCKED c.val n.val) = false ∧
      s.dev.hw.objFree c.val n.val = true) ∧
  (∃ (a : Fin 8) (c : Fin 4) (n : Fin 128) (s : State), s.dev.hw.canAccess (.agent a) = true ∧ s.dev.hw.absent (PG_CAN
      c.val) = false ∧ (s.rd (CAN_OBJn_W0_TYPE c.val n.val) ≠ canRx ∨ s.on (CAN_OBJn_W3_LOCKED c.val n.val) = true)) ∧
  (∃ (a : Fin 8) (c : Fin 4) (n : Fin 128) (k : Fin 20) (s : State), s.dev.hw.canAccess (.agent a) = true ∧
      s.dev.hw.absent (PG_CAN c.val) = false ∧ k.val ≠ 0 ∧ s.on (CAN_OBJn_W3_LOCKED c.val n.val) = true ∧ s.rd
      (CAN_OBJn_W3_LOCKAG c.val n.val) = a.val ∧ (n.val, k.val) ∈ (s.dev.hw.cn c.val).lastw ∧ (s.dev.hw.cn c.val).hold
      = none) ∧
  (∃ (c : Fin 4) (n : Fin 128) (s : State), Alive s ∧ s.on (CAN_OBJn_W3_LOCKED c.val n.val) = true) ∧
  (∃ (a : Fin 8) (c : Fin 4) (s : State), s.dev.hw.canAccess (.agent a) = true ∧ (s.dev.hw.cn c.val).q1 = []) ∧
  (∃ (a : Fin 8) (c : Fin 4) (s : State), s.dev.hw.canAccess (.agent a) = true ∧ (s.dev.hw.cn c.val).q0 ≠ [] ∧ c.val <
      s.dev.hw.can.length) :=
  ⟨⟨0, canData, 0, 0, (filtered 0), by decide +kernel⟩,
   ⟨0, canData, 0, 0,
       (let s := filtered 0; { s with dev := { s.dev with hw := (fun h : Hw => h.wr (CAN_OBJn_W3_NEWDAT 0 0) 1) s.dev.hw } }),
       by decide +kernel⟩,
   ⟨0, canData, 0, 0,
       (let s := filtered 0; { s with dev := { s.dev with hw := (fun h : Hw => h.wr (CAN_OBJn_W3_LOCKED 0 0) 1) s.dev.hw } }),
       by decide +kernel⟩,
   ⟨0, canData, 0, (filtered 1), by decide +kernel⟩,
   ⟨0, 0, 0, (unit (fun h => ((h.wr (CAN_OBJn_W0_TYPE 0 0) canRx).wr (CAN_OBJn_W3_LOCKED 0 0) 0))),
       by decide +kernel⟩,
   ⟨0, 0, 0, up, by decide +kernel⟩,
   ⟨0, 0, 0, 1, (unit (fun h => (((h.wr (CAN_OBJn_W3_LOCKED 0 0) 1).wr (CAN_OBJn_W3_LOCKAG 0 0) 0) |> fun h : Hw =>
       h.setCn 0 { h.cn 0 with lastw := [(0, 1)] }))), by decide +kernel⟩,
   ⟨0, 0, (unit (fun h => (h.wr (CAN_OBJn_W3_LOCKED 0 0) 1))), by decide +kernel⟩,
   ⟨0, 0, up, by decide +kernel⟩,
   ⟨0, 0, (unit (fun h => (h |> fun h : Hw => h.setCn 0 { h.cn 0 with q0 := [[0]] }))), by decide +kernel⟩⟩

theorem witness_CanTransmission :
  (∃ (who : Who) (c : Fin 4) (n : Fin 4) (s : State), MayOperate who (PG_CAN c.val) (CAN_TXRQ c.val 0) s ∧
      s.dev.hw.objFree c.val n.val = true ∧ canTx ≤ s.rd (CAN_OBJn_W0_TYPE c.val n.val) ∧ s.dev.hw.noKey = false ∧
      (s.on (CAN_STAT_BOFF c.val) && s.on (CAN_OBJn_W1_OS c.val n.val)) = false) ∧
  (∃ (who : Who) (c : Fin 4) (n : Fin 4) (s : State), MayOperate who (PG_CAN c.val) (CAN_TXRQ c.val 0) s ∧
      s.dev.hw.objFree c.val n.val = true ∧ canTx ≤ s.rd (CAN_OBJn_W0_TYPE c.val n.val) ∧ s.dev.hw.noKey = true ∧
      c.val < s.dev.hw.can.length) ∧
  (∃ (who : Who) (c : Fin 4) (n : Fin 4) (s : State), MayOperate who (PG_CAN c.val) (CAN_TXRQ c.val 0) s ∧
      (s.dev.hw.objFree c.val n.val = false ∨ s.rd (CAN_OBJn_W0_TYPE c.val n.val) < canTx)) ∧
  (∃ (who : Who) (c : Fin 4) (s : State), MayOperate who (PG_CAN c.val) (CAN_TXCAN c.val 0) s ∧ c.val <
      s.dev.hw.can.length) ∧
  (∃ (c : Fin 4) (n : Fin 128) (s : State), CanSends c.val n.val s ∧ s.dev.hw.canMaster c.val = false ∧ s.rd
      (CAN_OBJn_W0_TYPE c.val n.val) = canTx) ∧
  (∃ (c : Fin 4) (n : Fin 128) (s : State), Alive s ∧ s.dev.hw.canLive c.val = true ∧ s.on (CAN_OBJn_W3_TXRQ c.val
      n.val) = true ∧ n.val ∉ (s.dev.hw.cn c.val).cancel ∧ c.val < s.dev.hw.can.length) ∧
  (∃ (c : Fin 4) (n : Fin 128) (kind : Fin 7) (won : Bool) (s : State), CanSends c.val n.val s ∧ s.on (CAN_OBJn_W1_OS
      c.val n.val) = true ∧ (won && (kind = 4 ∨ kind = 5)) = false ∧ n.val ∉ (s.dev.hw.cn c.val).cancel) ∧
  (∃ (c : Fin 4) (n : Fin 128) (s : State), CanSends c.val n.val s ∧ s.on (CAN_OBJn_W1_OS c.val n.val) = false ∧ n.val
      ∉ (s.dev.hw.cn c.val).cancel) ∧
  (∃ (c : Fin 4) (s : State), Alive s ∧ s.dev.hw.canLive c.val = true ∧ s.dev.hw.canCountsHeld c.val = false ∧ 248 ≤
      s.rd (CAN_ERR_TEC c.val)) ∧
  (∃ (c : Fin 4) (s : State), Alive s ∧ s.on (CAN_STAT_BOFF c.val) = true) :=
  ⟨⟨(.agent 0), 0, 0, (unit (fun h => (h.wr (CAN_OBJn_W0_TYPE 0 0) 2))), by decide +kernel⟩,
   ⟨(.agent 0), 0, 0, (unit (fun h => (((h.wr (CAN_OBJn_W0_TYPE 0 0) 2).wr (BLK_STAT_RUN PG_RDN) 1) |> fun h : Hw =>
       { h with rdn := { h.rdn with force := [(RDN_CFG, BitVec.ofNat 32 (2 ^ RDN_CFG_PAIRED.lo))] } }))),
       by decide +kernel⟩,
   ⟨(.agent 0), 0, 0, up, by decide +kernel⟩,
   ⟨(.agent 0), 0, up, by decide +kernel⟩,
   ⟨0, 0, (unit (fun h => (((((h.wr (CAN_OBJn_W0_TYPE 0 0) canTx).wr (BLK_STAT_RUN (PG_CAN 0)) 1).wr (CAN_CTL_INIT 0)
       0).wr (CAN_OBJn_W3_TXRQ 0 0) 1).wr (CAN_OBJn_W0_TYPE 0 0) 2))), by decide +kernel⟩,
   ⟨0, 0, (unit (fun h => (((((h.wr (CAN_OBJn_W3_TXRQ 0 0) 1).wr (BLK_STAT_RUN (PG_CAN 0)) 1).wr (CAN_CTL_INIT 0)
       0).wr (CAN_OBJn_W3_TXRQ 0 0) 1).wr (CAN_OBJn_W0_TYPE 0 0) 2))), by decide +kernel⟩,
   ⟨0, 0, 0, false, (unit (fun h => ((((((h.wr (CAN_OBJn_W1_OS 0 0) 1).wr (BLK_STAT_RUN (PG_CAN 0)) 1).wr
       (CAN_CTL_INIT 0) 0).wr (CAN_OBJn_W3_TXRQ 0 0) 1).wr (CAN_OBJn_W0_TYPE 0 0) 2).wr (CAN_OBJn_W1_OS 0 0) 1))),
       by decide +kernel⟩,
   ⟨0, 0, (unit (fun h => (((((h.wr (CAN_OBJn_W1_OS 0 0) 0).wr (BLK_STAT_RUN (PG_CAN 0)) 1).wr (CAN_CTL_INIT 0) 0).wr
       (CAN_OBJn_W3_TXRQ 0 0) 1).wr (CAN_OBJn_W0_TYPE 0 0) 2))), by decide +kernel⟩,
   ⟨0, (unit (fun h => (((h.wr (BLK_STAT_RUN (PG_CAN 0)) 1).wr (CAN_CTL_INIT 0) 0).wr (CAN_ERR_TEC 0) 250))),
       by decide +kernel⟩,
   ⟨0, (unit (fun h => (h.wr (CAN_STAT_BOFF 0) 1))), by decide +kernel⟩⟩

theorem witness_CanControl :
  (∃ (who : Who) (c : Fin 4) (w : Word) (s : State), MayConfigure who (PG_CAN c.val) (CAN_CTL c.val) s ∧ s.on
      (CAN_CTL_INIT c.val) = true ∧ w.getLsbD 0 = true) ∧
  (∃ (who : Who) (c : Fin 4) (w : Word) (s : State), MayConfigure who (PG_CAN c.val) (CAN_CTL c.val) s ∧ s.on
      (CAN_CTL_INIT c.val) = false ∧ getBits w 1 4 ≠ getBits (s.reg (CAN_CTL c.val)) 1 4 ∧ w.getLsbD 0 = false) ∧
  (∃ (who : Who) (c : Fin 4) (w : Word) (s : State), MayConfigure who (PG_CAN c.val) (CAN_CTL c.val) s ∧ s.on
      (CAN_CTL_INIT c.val) = true ∧ w.getLsbD 0 = false ∧ (s.dev.hw.nbtOk c.val = false ∨ ∃ k ∈ List.range 5, bit
      (s.rd (CAN_NEG_MASK c.val)) k = true ∧ s.dev.hw.dbtOk c.val k = false)) ∧
  (∃ (who : Who) (c : Fin 4) (w : Word) (s : State), MayOperate who (PG_CAN c.val) (CAN_NEG_STAT c.val) s ∧ w.getLsbD
      24 = true ∧ s.on (CAN_CTL_NEGEN c.val) = true ∧ s.dev.hw.canLive c.val = true ∧ c.val < s.dev.hw.can.length) ∧
  (∃ (c : Fin 4) (s : State), Alive s ∧ s.dev.hw.canLive c.val = true ∧ s.on (CAN_CTL_NEGEN c.val) = true ∧ s.on
      (CAN_NEG_STAT_DONE c.val) = false ∧ s.on (CAN_NEG_STAT_NEGFAIL c.val) = false ∧ s.dev.hw.allHeard c.val = false)
      ∧
  (∃ (c : Fin 4) (s : State), Alive s ∧ s.dev.hw.canLive c.val = true ∧ s.on (CAN_CTL_NEGEN c.val) = true ∧ s.on
      (CAN_NEG_STAT_DONE c.val) = false ∧ s.on (CAN_NEG_STAT_NEGFAIL c.val) = false ∧ c.val < s.dev.hw.can.length ∧
      s.dev.hw.allHeard c.val = true) ∧
  (∃ (c : Fin 4) (s : State), Alive s ∧ s.dev.hw.canLive c.val = true ∧ (s.dev.hw.cn c.val).answerDue = true) ∧
  (∃ (c : Fin 4) (s : State), Alive s ∧ s.dev.hw.canLive c.val = true ∧ s.dev.hw.canSilent c.val = false ∧
      s.dev.hw.canMaster c.val = true ∧ (s.dev.hw.cn c.val).refStop = false) ∧
  (∃ (c : Fin 4) (n : Fin 128) (s : State), Alive s ∧ s.dev.hw.canLive c.val = true ∧ s.rd (CAN_OBJn_W0_TYPE c.val
      n.val) = canTt ∧ s.on (CAN_OBJn_W3_TXRQ c.val n.val) = true ∧ (s.on (CAN_TIME_STAT_REFOK c.val) = true ∨ s.on
      (CAN_TIME_STAT_LOCALT c.val) = true) ∧ n.val ∉ (s.dev.hw.cn c.val).fired ∧ n.val ∉ (s.dev.hw.cn c.val).done ∧
      c.val < s.dev.hw.can.length) ∧
  (∃ (c : Fin 4) (s : State), Alive s ∧ s.dev.hw.canLive c.val = true) ∧
  (∃ (c : Fin 4) (s : State), Alive s ∧ s.dev.hw.canLive c.val = true ∧ s.on (CAN_TIME_STAT_LOCALT c.val) = true) ∧
  (∃ (who : Who) (c : Fin 4) (s : State), MayOperate who (PG_CAN c.val) (CAN_WUP c.val) s ∧ c.val <
      s.dev.hw.can.length) ∧
  (∃ (c : Fin 4) (s : State), Alive s ∧ s.dev.hw.canLive c.val = true ∧ (s.dev.hw.cn c.val).wup = true) :=
  ⟨⟨(.agent 0), 0, 1, (unit (fun h => (h.wr (CAN_CTL_INIT 0) 1))), by decide +kernel⟩,
   ⟨(.agent 0), 0, 0, (unit (fun h => (h.wr (CAN_CTL_INIT 0) 0))), by decide +kernel⟩,
   ⟨(.agent 0), 0, 0, (unit (fun h => ((h.wr (CAN_CTL_INIT 0) 1).wr (CAN_NBT_NBRP 0) 200))), by decide +kernel⟩,
   ⟨(.agent 0), 0, 16777216, (unit (fun h => (((h.wr (CAN_CTL_NEGEN 0) 1).wr (BLK_STAT_RUN (PG_CAN 0)) 1).wr
       (CAN_CTL_INIT 0) 0))), by decide +kernel⟩,
   ⟨0, (unit (fun h => ((((((h.wr (CAN_CTL_NEGEN 0) 1).wr (CAN_NEG_STAT_DONE 0) 0).wr (CAN_NEG_STAT_NEGFAIL 0) 0).wr
       (BLK_STAT_RUN (PG_CAN 0)) 1).wr (CAN_CTL_INIT 0) 0).wr (CAN_NEG_EXP_EXP 0) 1))), by decide +kernel⟩,
   ⟨0, (unit (fun h => (((((h.wr (CAN_CTL_NEGEN 0) 1).wr (CAN_NEG_STAT_DONE 0) 0).wr (CAN_NEG_STAT_NEGFAIL 0) 0).wr
       (BLK_STAT_RUN (PG_CAN 0)) 1).wr (CAN_CTL_INIT 0) 0))), by decide +kernel⟩,
   ⟨0, (unit (fun h => (((h.wr (BLK_STAT_RUN (PG_CAN 0)) 1).wr (CAN_CTL_INIT 0) 0) |> fun h : Hw => h.setCn 0
       { h.cn 0 with answerDue := true }))), by decide +kernel⟩,
   ⟨0, (unit (fun h => (((h.wr (BLK_STAT_RUN (PG_CAN 0)) 1).wr (CAN_CTL_INIT 0) 0) |> fun h : Hw => h.setCn 0
       { h.cn 0 with time := 0x80000000 }))), by decide +kernel⟩,
   ⟨0, 0, (unit (fun h => (((((h.wr (CAN_OBJn_W0_TYPE 0 0) canTt).wr (CAN_OBJn_W3_TXRQ 0 0) 1).wr (BLK_STAT_RUN
       (PG_CAN 0)) 1).wr (CAN_CTL_INIT 0) 0).wr (CAN_TIME_STAT_REFOK 0) 1))), by decide +kernel⟩,
   ⟨0, (unit (fun h => ((h.wr (BLK_STAT_RUN (PG_CAN 0)) 1).wr (CAN_CTL_INIT 0) 0))), by decide +kernel⟩,
   ⟨0, (unit (fun h => (((h.wr (CAN_TIME_STAT_LOCALT 0) 1).wr (BLK_STAT_RUN (PG_CAN 0)) 1).wr (CAN_CTL_INIT 0) 0))),
       by decide +kernel⟩,
   ⟨(.agent 0), 0, up, by decide +kernel⟩,
   ⟨0, (unit (fun h => (((h.wr (BLK_STAT_RUN (PG_CAN 0)) 1).wr (CAN_CTL_INIT 0) 0) |> fun h : Hw => h.setCn 0
       { h.cn 0 with wup := true }))), by decide +kernel⟩⟩

theorem witness_EthernetPorts :
  (∃ (c : Fin 2) (s : State), PortRuns c.val s) ∧
  (∃ (c : Fin 2) (s : State), PortRuns c.val s ∧ s.dev.hw.ethF (ETH_CFG_AUTO c.val) = 1) ∧
  (∃ (c : Fin 2) (s : State), PortRuns c.val s ∧ s.dev.hw.ethF (ETH_CFG_AUTO c.val) = 1) ∧
  (∃ (c : Fin 2) (s : State) (m : Nat), PortRuns c.val s ∧ (s.dev.hw.port c.val).retrain = some m ∧ m < 4) ∧
  (∃ (who : Who) (c : Fin 2) (s : State), MayOperate who (PG_ETH c.val) (ETH_MDIO_CMD c.val) s ∧ s.on
      (ETH_MDIO_CMD_BUSY c.val) = false) ∧
  (∃ (c : Fin 2) (s : State), Alive s ∧ s.on (ETH_MDIO_CMD_BUSY c.val) = true) ∧
  (∃ (who : Who) (c : Fin 2) (s : State), MayOperate who (PG_ETH c.val) (ETH_RXIDX c.val) s) ∧
  (∃ (c : Fin 2) (f : EthFrame) (i : Nat) (a : Nat) (n : Nat) (s : State), RingFrame c.val f s ∧ i = s.rd
      (ETH_RXIDX_HEAD c.val) ∧ a = s.dev.hw.nat (ETH_RXRING c.val) / 4096 * 4096 + 16 * i ∧ n = 14 + f.payload.length
      ∧ n ≤ 64 * s.rd (ETH_RXRING_BUFSZ c.val) ∧ memNat s.dev.mem (a + 6) 2 % 2 = 1 ∧ i ≠ s.rd (ETH_RXIDX_TAIL c.val)
      ∧ (a + 16 ≤ memNat s.dev.mem a 4 ∨ memNat s.dev.mem a 4 + n ≤ a)) ∧
  (∃ (c : Fin 2) (f : EthFrame) (s : State), RingFrame c.val f s ∧ 14 + f.payload.length ≤ 64 * s.rd (ETH_RXRING_BUFSZ
      c.val) ∧ s.rd (ETH_RXIDX_HEAD c.val) = s.rd (ETH_RXIDX_TAIL c.val)) ∧
  (∃ (c : Fin 2) (f : EthFrame) (s : State), (s.on (ETH_STAT_LINK c.val) = false ∨ f.fcsOk = false ∨ s.dev.hw.dstOk
      c.val f.dst = false ∨ 14 + f.payload.length + 4 < 64 ∨ s.dev.hw.ethF (ETH_CFG_MTU c.val) < 14 + f.payload.length
      + 4)) ∧
  (∃ (c : Fin 2) (cyc : Nat) (e : Machine.EthTx) (s : State), PortRuns c.val s ∧ s.on (ETH_STAT_LINK c.val) = true ∧
      s.dev.apcNext c.val = none ∧ (s.dev.hw.port c.val).txq = [e] ∧ (s.dev.hw.port c.val).gated = false ∧ e.queue < 8
      ∧ e.len + 4 ≤ s.dev.hw.ethF (ETH_CFG_MTU c.val) ∧ wireTime (s.rd (ETH_STAT_MODE c.val)) e.len ≤
      s.dev.hw.pst.curPer * s.dev.hw.pst.posDiv - cyc ∧ cyc < s.dev.hw.pst.curPer * s.dev.hw.pst.posDiv) ∧
  (∃ (c : Fin 2) (s : State) (x : Nat × Nat × Nat), PortRuns c.val s ∧ s.on (ETH_STAT_LINK c.val) = false ∧
      s.dev.apcNext c.val = some x) :=
  ⟨⟨0, (unit (fun h => (h.wr (BLK_STAT_RUN (PG_ETH 0)) 1))), by decide +kernel⟩,
   ⟨0, (unit (fun h => ((h.wr (BLK_STAT_RUN (PG_ETH 0)) 1) |> fun h : Hw =>
       { h with eth := { h.eth with force := [((ETH_CFG_AUTO 0).addr, BitVec.ofNat 32 (2 ^ (ETH_CFG_AUTO 0).lo))] } }))),
       by decide +kernel⟩,
   ⟨0, (unit (fun h => ((h.wr (BLK_STAT_RUN (PG_ETH 0)) 1) |> fun h : Hw =>
       { h with eth := { h.eth with force := [((ETH_CFG_AUTO 0).addr, BitVec.ofNat 32 (2 ^ (ETH_CFG_AUTO 0).lo))] } }))),
       by decide +kernel⟩,
   ⟨0, (unit (fun h => ((h.wr (BLK_STAT_RUN (PG_ETH 0)) 1) |> fun h : Hw => h.setPort 0 ⟨true, some 0, [], [],
       false⟩))), 0, by decide +kernel⟩,
   ⟨(.agent 0), 0, (unit (fun h => (h.wr (ETH_MDIO_CMD_BUSY 0) 0))), by decide +kernel⟩,
   ⟨0, (unit (fun h => (h.wr (ETH_MDIO_CMD_BUSY 0) 1))), by decide +kernel⟩,
   ⟨(.agent 0), 0, up, by decide +kernel⟩,
   ⟨0, ethAll, 0, 0x20000000, 60,
       (let s := linked fun h => ((h.wr (ETH_RXRING_BUFSZ 0) 4).wr (ETH_RXIDX_TAIL 0) 1).setNat (ETH_RXRING 0) 0x20000004; { s with dev := { s.dev with mem := memSetNat (memSetNat [] 0x20000006 2 1) 0x20000000 4 0x20000100 } }),
       by decide +kernel⟩,
   ⟨0, ethAll, (linked fun h => h.wr (ETH_RXRING_BUFSZ 0) 4), by decide +kernel⟩,
   ⟨0, ethAll, up, by decide +kernel⟩,
   ⟨0, 0, (⟨0, 64, 0⟩), (linked fun h => (h.setPort 0 ⟨true, none, [⟨0, 64, 0⟩], [], false⟩)), by decide +kernel⟩,
   ⟨0,
       (let s := linked fun h => ((h.wr (ETH_STAT_LINK 0) 0).wr (ETH_TXIDX_TAIL 0) 1).setNat (ETH_TXRING 0) 0x20000000; { s with dev := { s.dev with mem := memSetNat [] 0x20000004 4 0x10040 } }),
       ((0, 0, 64)), by decide +kernel⟩⟩

theorem witness_TimeEngine :
  (∃ (c : Fin 2) (s : State), PortRuns c.val s ∧ s.on (ETH_STAT_LINK c.val) = true) ∧
  (∃ (c : Fin 2) (o : BitVec 32) (s : State), PortRuns c.val s ∧ s.dev.hw.gmActive = false ∧ s.dev.hw.ethF
      (ETH_PTP_CFG_PTPPORT 0) = c.val ∧ 1000 < o.toInt.natAbs) ∧
  (∃ (c : Fin 2) (o : BitVec 32) (s : State), PortRuns c.val s ∧ s.dev.hw.gmActive = false ∧ s.dev.hw.ethF
      (ETH_PTP_CFG_PTPPORT 0) = c.val ∧ o.toInt.natAbs ≤ 1000) ∧
  (∃ (c : Fin 2) (s : State), (s.dev.hw.gmActive = true ∨ s.dev.hw.ethF (ETH_PTP_CFG_PTPPORT 0) ≠ c.val)) ∧
  (∃ (c : Fin 2) (s : State), PortRuns c.val s ∧ s.on (ETH_STAT_LINK c.val) = true) ∧
  (∃ (s : State), Alive s ∧ s.dev.hw.gmActive = false) ∧
  (∃ (s : State), s.dev.hw.gmActive = true) :=
  ⟨⟨0, (unit (fun h => ((h.wr (ETH_STAT_LINK 0) 1).wr (BLK_STAT_RUN (PG_ETH 0)) 1))), by decide +kernel⟩,
   ⟨0, 5000, (unit (fun h => (h.wr (BLK_STAT_RUN (PG_ETH 0)) 1))), by decide +kernel⟩,
   ⟨0, 0, (unit (fun h => (h.wr (BLK_STAT_RUN (PG_ETH 0)) 1))), by decide +kernel⟩,
   ⟨0, (unit (fun h => (h |> fun h : Hw =>
       { h with eth := { h.eth with force := [((ETH_PTP_CFG_GMSEL 0).addr, BitVec.ofNat 32 (2 ^ (ETH_PTP_CFG_GMSEL 0).lo))] } }))),
       by decide +kernel⟩,
   ⟨0, (unit (fun h => ((h.wr (ETH_STAT_LINK 0) 1).wr (BLK_STAT_RUN (PG_ETH 0)) 1))), by decide +kernel⟩,
   ⟨up, by decide +kernel⟩,
   ⟨(unit (fun h => (h |> fun h : Hw =>
       { h with eth := { h.eth with force := [((ETH_PTP_CFG_GMSEL 0).addr, BitVec.ofNat 32 (2 ^ (ETH_PTP_CFG_GMSEL 0).lo))] } }))),
       by decide +kernel⟩⟩

theorem witness_SkoveSafe :
  (∃ (k : Fin 64) (s : State), Alive s ∧ s.dev.hw.connLive k.val = true ∧ s.on (SSE_Ck_CFG_DIR k.val) = true ∧ max 1
      (s.rd (SSE_Ck_CFG_PERIOD k.val)) ≤ (s.dev.hw.conn k.val).cyc ∧ s.rd (SSE_Ck_CFG_KIND k.val) = 0 ∧ s.rd
      (SSE_Ck_CFG_PATHS k.val) = 1 ∧ k.val < s.dev.hw.sse.length) ∧
  (∃ (k : Fin 64) (s : State), (s.dev.hw.connLive k.val = false ∨ (s.dev.hw.conn k.val).cyc < s.rd (SSE_Ck_CFG_PERIOD
      k.val))) ∧
  (∃ (path : Fin 3) (f : SkoveFrame) (s : State), Alive s ∧ s.dev.hw.running PG_SSE = true ∧ (∀ k ∈ List.range 64,
      (s.dev.hw.connLive k && !s.on (SSE_Ck_CFG_DIR k) && decide (s.rd (SSE_Ck_CID_CID k) = f.cid.toNat) &&
      s.dev.hw.skoveHas path.val k) = false) ∧ (List.range 64).any (s.dev.hw.skoveHas path.val) = true) ∧
  (∃ (k : Fin 64) (path : Fin 3) (f : SkoveFrame) (s : State), Consumes path.val k.val f.cid s ∧ f.tagOk = false) ∧
  (∃ (k : Fin 64) (path : Fin 3) (f : SkoveFrame) (s : State), Consumes path.val k.val f.cid s ∧ f.tagOk = true ∧
      crc32c (leBytes 4 (s.dev.hw.nat (SSE_Ck_VID k.val)) ++ skoveHead f ++ f.payload) ≠ f.crc.toNat) ∧
  (∃ (k : Fin 64) (path : Fin 3) (f : SkoveFrame) (s : State) (l : Nat), (s.dev.hw.conn k.val).last = some l ∧
      Consumes path.val k.val f.cid s ∧ f.tagOk = true ∧ crc32c (leBytes 4 (s.dev.hw.nat (SSE_Ck_VID k.val)) ++
      skoveHead f ++ f.payload) = f.crc.toNat ∧ (s.dev.hw.conn k.val).first = false ∧ f.seq.toNat = l % 2 ^ 32) ∧
  (∃ (k : Fin 64) (path : Fin 3) (f : SkoveFrame) (now : BitVec 32) (s : State) (l : Nat), (s.dev.hw.conn k.val).last
      = some l ∧ Consumes path.val k.val f.cid s ∧ f.tagOk = true ∧ crc32c (leBytes 4 (s.dev.hw.nat (SSE_Ck_VID
      k.val)) ++ skoveHead f ++ f.payload) = f.crc.toNat ∧ f.seq.toNat = (l + 1) % 2 ^ 32 ∧ s.on (ETH_TBD_STAT_LOCKED
      0) = true ∧ (now - f.tstamp).toInt < -10000 ∨ 1000 * s.rd (SSE_Ck_TIM_MAXAGE k.val) < (now - f.tstamp).toInt) ∧
  (∃ (k : Fin 64) (path : Fin 3) (f : SkoveFrame) (now : BitVec 32) (s : State) (l : Nat), (s.dev.hw.conn k.val).last
      = some l ∧ Consumes path.val k.val f.cid s ∧ f.tagOk = true ∧ crc32c (leBytes 4 (s.dev.hw.nat (SSE_Ck_VID
      k.val)) ++ skoveHead f ++ f.payload) = f.crc.toNat ∧ (s.dev.hw.conn k.val).first = false ∧ f.seq.toNat = (l + 1)
      % 2 ^ 32 ∧ -10000 ≤ (now - f.tstamp).toInt ∧ (now - f.tstamp).toInt ≤ 1000 * s.rd (SSE_Ck_TIM_MAXAGE k.val) ∧
      s.rd (SSE_Ck_CFG_KIND k.val) = 0 ∧ s.dev.hw.rdn.replaying = false ∧ f.payload.length = 4 * s.rd (SSE_Ck_CFG_LEN
      k.val)) ∧
  (∃ (k : Fin 64) (s : State), Alive s ∧ s.on (SSE_Ck_CFG_EN k.val) = true ∧ s.on (SSE_Ck_CFG_DIR k.val) = false ∧
      (s.dev.hw.conn k.val).held = false ∧ (s.dev.hw.conn k.val).last ≠ none ∧ s.on (SSE_Ck_STAT_EXP k.val) = false ∧
      s.rd (SSE_Ck_CFG_KIND k.val) = 0 ∧ s.on (SSE_Ck_CFG_SUBST k.val) = false) ∧
  (∃ (k : Fin 64) (s : State), Alive s ∧ s.on (SSE_Ck_CFG_EN k.val) = true ∧ s.on (SSE_Ck_CFG_DIR k.val) = false ∧
      (s.dev.hw.conn k.val).held = false ∧ (s.dev.hw.conn k.val).last ≠ none ∧ s.on (SSE_Ck_STAT_EXP k.val) = false ∧
      s.rd (SSE_Ck_CFG_KIND k.val) = 0 ∧ s.on (SSE_Ck_CFG_SUBST k.val) = true) ∧
  (∃ (k : Fin 64) (s : State), (s.dev.hw.conn k.val).last = none) ∧
  (∃ (k : Fin 64) (p : Fin 3) (s : State), Alive s ∧ bit (s.rd (SSE_Ck_STAT_PATHOK k.val)) p.val = true) ∧
  (∃ (who : Who) (k : Fin 64) (w : Word) (s : State), MayOperate who PG_SSE (SSE_Ck_CTL k.val) s ∧ k.val <
      s.dev.hw.sse.length ∧ w.getLsbD 0 = true) ∧
  (∃ (path : Fin 3) (s : State), Alive s ∧ s.dev.hw.running PG_SSE = true ∧ (List.range 64).any (s.dev.hw.skoveHas
      path.val) = false) :=
  ⟨⟨0, (unit (fun h => (((((((((h.wr (SSE_Ck_CFG_DIR 0) 1).wr (SSE_Ck_CFG_KIND 0) 0).wr (SSE_Ck_CFG_PATHS 0) 1).wr
      (BLK_STAT_RUN PG_SSE) 1).wr (SSE_Ck_CFG_EN 0) 1).wr (SSE_Ck_CFG_DIR 0) 1).wr (SSE_Ck_CFG_PATHS 0) 1) |> fun h :
      Hw => { h with otp := { h.otp with keys := [some [], some [], some [], some []] } }) |> fun h : Hw => h.setConn
      0 { h.conn 0 with cyc := 1 }))), by decide +kernel⟩,
   ⟨0, up, by decide +kernel⟩,
   ⟨0, (skove 3), (unit (fun h => ((h.wr (BLK_STAT_RUN PG_SSE) 1).wr (BLK_STAT_RUN PG_SSE) 1))), by decide +kernel⟩,
   ⟨0, 0, ({ skove 4 with tagOk := false }), (consumer 3), by decide +kernel⟩,
   ⟨0, 0, ({ skove 4 with crc := 0 }), (consumer 3), by decide +kernel⟩,
   ⟨0, 0, (skove 3), (consumer 3), 3, by decide +kernel⟩,
   ⟨0, 0, (skove 4), 0x40000000, (consumer 3), 3, by decide +kernel⟩,
   ⟨0, 0, (skove 4), 0, (consumer 3), 3, by decide +kernel⟩,
   ⟨0, (unit (fun h => ((((((((h.wr (SSE_Ck_CFG_EN 0) 1).wr (SSE_Ck_CFG_DIR 0) 0).wr (SSE_Ck_STAT_EXP 0) 0).wr
       (SSE_Ck_CFG_KIND 0) 0).wr (SSE_Ck_CFG_SUBST 0) 0).wr (BLK_STAT_RUN PG_SSE) 1).wr (SSE_Ck_CFG_EN 0) 1) |> fun h
       : Hw => h.setConn 0 { h.conn 0 with key := some ([], []), last := some 0 }))), by decide +kernel⟩,
   ⟨0, (unit (fun h => ((((((((h.wr (SSE_Ck_CFG_EN 0) 1).wr (SSE_Ck_CFG_DIR 0) 0).wr (SSE_Ck_STAT_EXP 0) 0).wr
       (SSE_Ck_CFG_KIND 0) 0).wr (SSE_Ck_CFG_SUBST 0) 1).wr (BLK_STAT_RUN PG_SSE) 1).wr (SSE_Ck_CFG_EN 0) 1) |> fun h
       : Hw => h.setConn 0 { h.conn 0 with key := some ([], []), last := some 0 }))), by decide +kernel⟩,
   ⟨0, up, by decide +kernel⟩,
   ⟨0, 0, (unit (fun h => ((((h.wr (BLK_STAT_RUN PG_SSE) 1).wr (SSE_Ck_CFG_EN 0) 1).wr (SSE_Ck_STAT_PATHOK 0) 1) |>
       fun h : Hw => h.setConn 0 { h.conn 0 with key := some ([], []) }))), by decide +kernel⟩,
   ⟨(.agent 0), 0, 1, up, by decide +kernel⟩,
   ⟨2, (unit (fun h => ((h.wr (BLK_STAT_RUN PG_SSE) 1).wr (BLK_STAT_RUN PG_SSE) 1))), by decide +kernel⟩⟩

theorem witness_ChannelConfiguration :
  (∃ (n : Fin 16) (w : Word) (s : State), Reaches (.agent 0) (MLBn_CFG n.val) s ∧ s.dev.hw.chan n.val = chanEmpty ∧
      getBits w 16 3 ≠ getBits w 24 3) ∧
  (∃ (who : Who) (n : Fin 16) (w : Word) (s : State), Reaches who (MLBn_CFG n.val) s ∧ (who ≠ .agent 0 ∨ s.dev.hw.chan
      n.val ≠ chanEmpty ∨ getBits w 16 3 = getBits w 24 3)) :=
  ⟨⟨0, 0x10000, up, by decide +kernel⟩,
   ⟨(.agent 1), 0, 0, up, by decide +kernel⟩⟩

theorem witness_Mailboxes :
  (∃ (a : Fin 8) (n : Fin 16) (s : State), Posts a n.val s ∧ s.dev.hw.snd n.val = a.val ∧ (s.dev.hw.chan n.val =
      chanEmpty ∧ s.on (MLBn_CFG_EN n.val) = true ∨ s.dev.hw.chan n.val = chanAcked ∧ s.on (MLBn_STAT_SND_STALE n.val)
      = false)) ∧
  (∃ (a : Fin 8) (n : Fin 16) (s : State), Posts a n.val s ∧ s.dev.hw.snd n.val = a.val ∧ (s.dev.hw.chan n.val =
      chanPosted ∨ s.dev.hw.chan n.val = chanEmpty ∧ s.on (MLBn_CFG_EN n.val) = false ∨ s.dev.hw.chan n.val =
      chanAcked ∧ s.on (MLBn_STAT_SND_STALE n.val) = true)) ∧
  (∃ (a : Fin 8) (n : Fin 16) (s : State), Posts a n.val s ∧ s.dev.hw.snd n.val = a.val) ∧
  (∃ (a : Fin 8) (n : Fin 16) (s : State), Posts a n.val s ∧ s.dev.hw.rcv n.val = a.val) ∧
  (∃ (a : Fin 8) (n : Fin 16) (s : State), Posts a n.val s ∧ s.dev.hw.snd n.val = a.val) ∧
  (∃ (a : Fin 8) (n : Fin 16) (s : State), Posts a n.val s ∧ s.dev.hw.snd n.val ≠ a.val) ∧
  (∃ (a : Fin 8) (n : Fin 16) (s : State), Posts a n.val s ∧ s.dev.hw.rcv n.val ≠ a.val) ∧
  (∃ (a : Fin 8) (n : Fin 16) (s : State), s.dev.hw.canAccess (.agent a) = true ∧ s.dev.hw.rcv n.val = a.val ∧
      s.dev.hw.snd n.val ≠ a.val ∧ s.dev.hw.chan n.val ≠ chanEmpty) ∧
  (∃ (a : Fin 8) (n : Fin 16) (s : State), s.dev.hw.canAccess (.agent a) = true ∧ s.dev.hw.snd n.val = a.val) ∧
  (∃ (a : Fin 8) (n : Fin 16) (s : State), s.dev.hw.canAccess (.agent a) = true ∧ s.dev.hw.snd n.val ≠ a.val ∧
      s.dev.hw.rcv n.val ≠ a.val ∧ a ≠ 0) ∧
  (∃ (a : Fin 8) (b : Fin 8) (s : State), MayOperate (.agent b) PG_MLB (MLB_DBa_SET a.val) s) ∧
  (∃ (a : Fin 8) (b : Fin 8) (s : State), MayOperate (.agent b) PG_MLB (MLB_DBa a.val) s) ∧
  (∃ (a : Fin 8) (b : Fin 8) (s : State), MayOperate (.agent b) PG_MLB (MLB_DBa_MASK a.val) s) ∧
  (∃ (a : Fin 8) (j : Fin 64) (s : State), s.dev.hw.canAccess (.agent a) = true ∧ s.dev.hw.latch j.val = none) ∧
  (∃ (a : Fin 8) (j : Fin 64) (s : State), s.dev.hw.canAccess (.agent a) = true ∧ s.dev.hw.latch j.val ≠ none) ∧
  (∃ (a : Fin 8) (j : Fin 64) (s : State), MayOperate (.agent a) PG_LAT (LAT_Lj j.val) s) ∧
  (∃ (k : Fin 2) (s : State), Reaches (.agent 0) (if k.val = 0 then LAT_FREE0 else LAT_FREE1) s) ∧
  (∃ (n : Fin 16) (j : Fin 64) (a : Fin 8) (s : State), s.dev.hw.fabricOn = true ∧ s.on SEC_KW_STAT_OPEN = true ∧
      s.dev.hw.kwScope (MLBn_CTL n.val) = true ∧ s.dev.hw.kwScope (LAT_Lj j.val) = true ∧ s.dev.hw.kwScope
      (MLB_DBa_SET a.val) = true) ∧
  (∃ (a : Fin 8) (n : Fin 16) (s : State), MayOperate (.agent a) PG_MLB (MLBn_CTL n.val) s ∧ s.dev.hw.snd n.val =
      a.val ∧ s.dev.hw.chan n.val = chanEmpty ∧ s.on (MLBn_CFG_EN n.val) = true) ∧
  (∃ (a : Fin 8) (n : Fin 16) (s : State), MayOperate (.agent a) PG_MLB (MLBn_CTL n.val) s ∧ s.dev.hw.snd n.val =
      a.val ∧ s.dev.hw.chan n.val = chanAcked ∧ s.on (MLBn_STAT_SND_STALE n.val) = false) ∧
  (∃ (a : Fin 8) (n : Fin 16) (s : State), MayOperate (.agent a) PG_MLB (MLBn_CTL n.val) s ∧ s.dev.hw.snd n.val =
      a.val ∧ s.dev.hw.chan n.val = chanPosted) ∧
  (∃ (a : Fin 8) (n : Fin 16) (s : State), MayOperate (.agent a) PG_MLB (MLBn_CTL n.val) s ∧ s.dev.hw.snd n.val =
      a.val ∧ s.dev.hw.chan n.val = chanEmpty ∧ s.on (MLBn_CFG_EN n.val) = false) ∧
  (∃ (a : Fin 8) (n : Fin 16) (s : State), MayOperate (.agent a) PG_MLB (MLBn_CTL n.val) s ∧ s.dev.hw.snd n.val =
      a.val ∧ s.dev.hw.chan n.val = chanAcked ∧ s.on (MLBn_STAT_SND_STALE n.val) = true) ∧
  (∃ (a : Fin 8) (n : Fin 16) (s : State), MayOperate (.agent a) PG_MLB (MLBn_CTL n.val) s ∧ s.dev.hw.rcv n.val =
      a.val ∧ s.dev.hw.snd n.val ≠ a.val ∧ s.dev.hw.chan n.val ≠ chanEmpty) ∧
  (∃ (a : Fin 8) (n : Fin 16) (s : State), MayOperate (.agent a) PG_MLB (MLBn_CTL n.val) s ∧ s.dev.hw.snd n.val ≠
      a.val ∧ s.dev.hw.rcv n.val ≠ a.val ∧ a ≠ 0) :=
  ⟨⟨3, 15, (unit fun h => ((((h.wr (MLBn_CFG_SND 15) 3).wr (MLBn_CFG_RCV 15) 4).wr (MLBn_CFG_EN 15) 1).wr
      (MLBn_STAT_STATE 15) 0).wr (MLBn_STAT_SND_STALE 15) 0), by decide +kernel⟩,
   ⟨3, 15, (unit fun h => ((((h.wr (MLBn_CFG_SND 15) 3).wr (MLBn_CFG_RCV 15) 4).wr (MLBn_CFG_EN 15) 1).wr
       (MLBn_STAT_STATE 15) 1).wr (MLBn_STAT_SND_STALE 15) 0), by decide +kernel⟩,
   ⟨3, 15, (unit fun h => ((((h.wr (MLBn_CFG_SND 15) 3).wr (MLBn_CFG_RCV 15) 4).wr (MLBn_CFG_EN 15) 1).wr
       (MLBn_STAT_STATE 15) 1).wr (MLBn_STAT_SND_STALE 15) 0), by decide +kernel⟩,
   ⟨4, 15, (unit fun h => ((((h.wr (MLBn_CFG_SND 15) 3).wr (MLBn_CFG_RCV 15) 4).wr (MLBn_CFG_EN 15) 1).wr
       (MLBn_STAT_STATE 15) 1).wr (MLBn_STAT_SND_STALE 15) 0), by decide +kernel⟩,
   ⟨3, 15, (unit fun h => ((((h.wr (MLBn_CFG_SND 15) 3).wr (MLBn_CFG_RCV 15) 4).wr (MLBn_CFG_EN 15) 1).wr
       (MLBn_STAT_STATE 15) 0).wr (MLBn_STAT_SND_STALE 15) 0), by decide +kernel⟩,
   ⟨4, 15, (unit fun h => ((((h.wr (MLBn_CFG_SND 15) 3).wr (MLBn_CFG_RCV 15) 4).wr (MLBn_CFG_EN 15) 1).wr
       (MLBn_STAT_STATE 15) 1).wr (MLBn_STAT_SND_STALE 15) 0), by decide +kernel⟩,
   ⟨3, 15, (unit fun h => ((((h.wr (MLBn_CFG_SND 15) 3).wr (MLBn_CFG_RCV 15) 4).wr (MLBn_CFG_EN 15) 1).wr
       (MLBn_STAT_STATE 15) 1).wr (MLBn_STAT_SND_STALE 15) 0), by decide +kernel⟩,
   ⟨4, 15, (unit fun h => ((((h.wr (MLBn_CFG_SND 15) 3).wr (MLBn_CFG_RCV 15) 4).wr (MLBn_CFG_EN 15) 1).wr
       (MLBn_STAT_STATE 15) 1).wr (MLBn_STAT_SND_STALE 15) 0), by decide +kernel⟩,
   ⟨3, 15, (unit fun h => ((((h.wr (MLBn_CFG_SND 15) 3).wr (MLBn_CFG_RCV 15) 4).wr (MLBn_CFG_EN 15) 1).wr
       (MLBn_STAT_STATE 15) 1).wr (MLBn_STAT_SND_STALE 15) 0), by decide +kernel⟩,
   ⟨5, 15, (unit fun h => ((((h.wr (MLBn_CFG_SND 15) 3).wr (MLBn_CFG_RCV 15) 4).wr (MLBn_CFG_EN 15) 1).wr
       (MLBn_STAT_STATE 15) 1).wr (MLBn_STAT_SND_STALE 15) 0), by decide +kernel⟩,
   ⟨0, 0, up, by decide +kernel⟩,
   ⟨0, 0, up, by decide +kernel⟩,
   ⟨0, 0, up, by decide +kernel⟩,
   ⟨0, 0, up, by decide +kernel⟩,
   ⟨0, 0, (unit (fun h => (h.setReg (LAT_OWNi 0) 8))), by decide +kernel⟩,
   ⟨0, 0, up, by decide +kernel⟩,
   ⟨0, up, by decide +kernel⟩,
   ⟨0, 0, 0, (unit (fun h => (((h.wr SEC_KW_STAT_OPEN 1).wr SEC_KW_STAT_PERM 2).wr SIS_MODE_CUR 4))),
       by decide +kernel⟩,
   ⟨3, 15, (unit fun h => ((((h.wr (MLBn_CFG_SND 15) 3).wr (MLBn_CFG_RCV 15) 4).wr (MLBn_CFG_EN 15) 1).wr
       (MLBn_STAT_STATE 15) 0).wr (MLBn_STAT_SND_STALE 15) 0), by decide +kernel⟩,
   ⟨3, 15, (unit fun h => ((((h.wr (MLBn_CFG_SND 15) 3).wr (MLBn_CFG_RCV 15) 4).wr (MLBn_CFG_EN 15) 1).wr
       (MLBn_STAT_STATE 15) 2).wr (MLBn_STAT_SND_STALE 15) 0), by decide +kernel⟩,
   ⟨3, 15, (unit fun h => ((((h.wr (MLBn_CFG_SND 15) 3).wr (MLBn_CFG_RCV 15) 4).wr (MLBn_CFG_EN 15) 1).wr
       (MLBn_STAT_STATE 15) 1).wr (MLBn_STAT_SND_STALE 15) 0), by decide +kernel⟩,
   ⟨3, 15, (unit fun h => ((((h.wr (MLBn_CFG_SND 15) 3).wr (MLBn_CFG_RCV 15) 4).wr (MLBn_CFG_EN 15) 0).wr
       (MLBn_STAT_STATE 15) 0).wr (MLBn_STAT_SND_STALE 15) 0), by decide +kernel⟩,
   ⟨3, 15, (unit fun h => ((((h.wr (MLBn_CFG_SND 15) 3).wr (MLBn_CFG_RCV 15) 4).wr (MLBn_CFG_EN 15) 1).wr
       (MLBn_STAT_STATE 15) 2).wr (MLBn_STAT_SND_STALE 15) 1), by decide +kernel⟩,
   ⟨4, 15, (unit fun h => ((((h.wr (MLBn_CFG_SND 15) 3).wr (MLBn_CFG_RCV 15) 4).wr (MLBn_CFG_EN 15) 1).wr
       (MLBn_STAT_STATE 15) 1).wr (MLBn_STAT_SND_STALE 15) 0), by decide +kernel⟩,
   ⟨5, 15, (unit fun h => ((((h.wr (MLBn_CFG_SND 15) 3).wr (MLBn_CFG_RCV 15) 4).wr (MLBn_CFG_EN 15) 1).wr
       (MLBn_STAT_STATE 15) 1).wr (MLBn_STAT_SND_STALE 15) 0), by decide +kernel⟩⟩

theorem witness_RecordQueue :
  (∃ (who : Who) (w : Word) (s : State), MayOperate who PG_REC REC_SUB_CTL s ∧ w.getLsbD 31 = true ∧ 0x8000 ≤ getBits
      w 0 16 ∧ 24 ≤ s.dev.hw.rcd.queue.length) ∧
  (∃ (who : Who) (w : Word) (s : State), MayOperate who PG_REC REC_SUB_CTL s ∧ w.getLsbD 31 = true ∧ 0x8000 ≤ getBits
      w 0 16 ∧ s.dev.hw.rcd.queue.length < 24 ∧ s.dev.hw.recAonMode = false ∧ s.reg REC_SEQ ≠ 0xFFFFFFFF) ∧
  (∃ (who : Who) (w : Word) (s : State), MayOperate who PG_REC REC_SUB_CTL s ∧ w.getLsbD 31 = true ∧ getBits w 0 16 <
      0x8000) ∧
  (∃ (h : Machine.Hw), h.recAonMode = false ∧ h.nat REC_SEQ ≠ 0xFFFFFFFF ∧ 32 ≤ h.rcd.queue.length) ∧
  (∃ (h : Machine.Hw), h.recAonMode = false ∧ h.nat REC_SEQ ≠ 0xFFFFFFFF ∧ h.rcd.queue.length < 32) :=
  ⟨⟨(.agent 0), 0x80008000, (unit (fun h => (h |> fun h : Hw =>
      { h with rcd := { h.rcd with queue := (List.replicate 24 ⟨0, 0, 0, 0, false, 0, 0, false, false, false, []⟩) } }))),
      by decide +kernel⟩,
   ⟨(.agent 0), 0x80008000, up, by decide +kernel⟩,
   ⟨(.agent 0), 2147483648, up, by decide +kernel⟩,
   ⟨{ State.reset.dev.hw with rcd := { RecState.init with queue := List.replicate 32 ⟨0, 0, 0, 0, false, 0, 0, false, false, false, []⟩ } },
       by decide +kernel⟩,
   ⟨(fun h => h) up.dev.hw, by decide +kernel⟩⟩

theorem witness_RecorderWork :
  (∃ (s : State) (r : Machine.Record), s.dev.hw.rcd.loaded = true ∧ s.dev.hw.rcd.queue.head? = some r ∧
      s.dev.hw.recAonMode = false ∧ r.prot = false ∧ s.dev.hw.rcd.remap = [] ∧ (s.reg REC_HEAD_G).toNat < 239999) ∧
  (∃ (s : State), s.dev.hw.rcd.loaded = true ∧ s.dev.hw.recAonMode = false ∧ 0 ≤ diff32 s.dev.hw.rcd.genA
      s.dev.hw.rcd.genB) ∧
  (∃ (s : State), s.dev.hw.recAonMode = true) ∧
  (∃ (a : Fin 8) (s : State) (lo : Word), holderOf s.dev.hw.hdr.wrHold a.val REC_WALL_LO = some lo ∧ MayOperate
      (.agent a) PG_REC REC_WALL_HI s ∧ s.dev.hw.recAonMode = false ∧ s.dev.hw.rcd.queue.length < 31 ∧ s.reg REC_SEQ <
      0xFFFFFFF0#32) ∧
  (∃ (who : Who) (w : Word) (s : State), MayOperate who PG_REC REC_RD_IDX s ∧ getBits w 0 18 < 16384 ∧
      s.dev.hw.rcd.remap = []) ∧
  (∃ (who : Who) (w : Word) (s : State) (x : Nat × Nat), s.dev.hw.rcd.remap.head? = some x ∧ MayOperate who PG_REC
      REC_RD_IDX s ∧ x.1 = 16896 + getBits w 0 18 ∧ getBits w 18 1 = 0 ∧ x.2 < 262144) :=
  ⟨⟨(unit (fun h => (((h |> fun h : Hw => { h with rcd := { h.rcd with loaded := true } }) |> fun h : Hw =>
      { h with rcd := { h.rcd with remap := [] } }) |> fun h : Hw =>
      { h with rcd := { h.rcd with queue := [⟨0, 0, 0, 0, false, 0, 0, false, false, false, []⟩] } }))), (⟨0, 0, 0, 0,
      false, 0, 0, false, false, false, []⟩), by decide +kernel⟩,
   ⟨(unit (fun h => (h |> fun h : Hw => { h with rcd := { h.rcd with loaded := true } }))), by decide +kernel⟩,
   ⟨(unit (fun h => (h.wr REC_STAT_DEGRADED 1))), by decide +kernel⟩,
   ⟨0, (unit (fun h => (h |> fun h : Hw => { h with hdr := { h.hdr with wrHold := [⟨0, REC_WALL_LO, 5⟩] } }))), 5,
       by decide +kernel⟩,
   ⟨(.agent 0), 0, (unit (fun h => (h |> fun h : Hw => { h with rcd := { h.rcd with remap := [] } }))),
       by decide +kernel⟩,
   ⟨(.agent 0), 0, (unit (fun h => (h |> fun h : Hw => { h with rcd := { h.rcd with remap := [(16896, 7)] } }))),
       ((16896, 7)), by decide +kernel⟩⟩

theorem witness_CallRequests :
  (∃ (who : Who) (m : Fin 3) (k : Fin 8) (s : State), MayOperate who PG_STQ (stqWord m.val k.val + 0x20) s ∧
      s.dev.hw.standby = false ∧ s.dev.hw.isMachine = false ∧ m.val < s.dev.hw.stq.set.length) ∧
  (∃ (who : Who) (m : Fin 3) (k : Fin 8) (w : Word) (s : State), MayOperate who PG_STQ (stqWord m.val k.val + 0x20) s
      ∧ s.dev.hw.isMachine = true ∧ w ≠ 0) ∧
  (∃ (who : Who) (m : Fin 3) (k : Fin 8) (s : State), MayOperate who PG_STQ (stqWord m.val k.val + 0x40) s ∧
      s.dev.hw.standby = false ∧ m.val < s.dev.hw.stq.clr.length) ∧
  (∃ (who : Who) (m : Fin 3) (k : Fin 8) (s : State), s.dev.hw.standby = true ∧ s.on (BLK_LOCK_SISONLY PG_STQ) = false
      ∧ Reaches who (stqWord m.val k.val + 0x20) s ∧ Reaches who (stqWord m.val k.val + 0x40) s) :=
  ⟨⟨(.agent 0), 0, 0, up, by decide +kernel⟩,
   ⟨(.agent 0), 0, 0, 1, (unit (fun h => (h.wr CPR_STRAP_ROLE 2))), by decide +kernel⟩,
   ⟨(.agent 0), 0, 0, up, by decide +kernel⟩,
   ⟨(.agent 0), 0, 0, (unit (fun h => ((h.wr (BLK_LOCK_SISONLY PG_STQ) 0).wr RDN_STAT_STATE 7))), by decide +kernel⟩⟩

theorem witness_Orders :
  (∃ (s : State) (o : Machine.Order), s.dev.order = some o ∧ OrderRuns 5 o s) ∧
  (∃ (s : State) (o : Machine.Order), s.dev.order = some o ∧ OrderRuns 6 o s) ∧
  (∃ (s : State) (o : Machine.Order), s.dev.order = some o ∧ OrderRuns 3 o s ∧ o.arg < s.dev.hw.otp.keys.length) ∧
  (∃ (s : State) (o : Machine.Order), s.dev.order = some o ∧ OrderRuns 4 o s ∧ s.dev.hw.otp.keys.length = 4) ∧
  (∃ (s : State) (o : Machine.Order), s.dev.order = some o ∧ OrderRuns 1 o s) ∧
  (∃ (s : State) (o : Machine.Order), s.dev.order = some o ∧ OrderRuns 2 o s) ∧
  (∃ (s : State), Alive s ∧ s.on SEC_ORD_CTL_BUSY = true ∧ s.on SEC_ORD_CTL_KIND = true) :=
  ⟨⟨(ordered 5), (orderOf (ordered 5)), by decide +kernel⟩,
   ⟨(ordered 6), (orderOf (ordered 6)), by decide +kernel⟩,
   ⟨(ordered 3), (orderOf (ordered 3)), by decide +kernel⟩,
   ⟨(ordered 4), (orderOf (ordered 4)), by decide +kernel⟩,
   ⟨(ordered 1), (orderOf (ordered 1)), by decide +kernel⟩,
   ⟨(ordered 2), (orderOf (ordered 2)), by decide +kernel⟩,
   ⟨(unit (fun h => ((h.wr SEC_ORD_CTL_BUSY 1).wr SEC_ORD_CTL_KIND 1))), by decide +kernel⟩⟩

theorem witness_MapAndExchange :
  (∃ (mk : List Byte) (j : Machine.MapJob) (s : State), Alive s ∧ s.dev.hw.mapJob 1 = some j ∧ s.dev.hw.stored 1 =
      some mk ∧ j.page < 65536 ∧ s.dev.hw.busRam j.trl 64 = true) ∧
  (∃ (j : Machine.MapJob) (s : State), Alive s ∧ s.dev.hw.mapJob 1 = some j ∧ s.dev.hw.stored 1 = none) ∧
  (∃ (j : Machine.MapJob) (s : State), Alive s ∧ s.dev.hw.mapJob 2 = some j ∧ s.dev.hw.busRam j.trl 64 = true) ∧
  (∃ (c : Nat) (s : State), Alive s ∧ s.on SEC_MAP_CMD_BUSY = true ∧ s.dev.hw.sec.mapRes = some c ∧ c < 8) ∧
  (∃ (op : Nat) (s : State), Alive s ∧ s.on SEC_SKX_CTL_BUSY = true ∧ s.rd SEC_SKX_CTL_OP = op ∧ s.dev.hw.stored 2 =
      none) ∧
  (∃ (ik : List Byte) (s : State), Alive s ∧ s.on SEC_SKX_CTL_BUSY = true ∧ s.rd SEC_SKX_CTL_OP = 1 ∧ s.dev.hw.stored
      2 = some ik ∧ inSram s.dev.hw.sec.skxAddr 32 = true) ∧
  (∃ (ik : List Byte) (a : Nat) (s : State), Alive s ∧ s.on SEC_SKX_CTL_BUSY = true ∧ s.rd SEC_SKX_CTL_OP = 2 ∧
      s.dev.hw.stored 2 = some ik ∧ a = s.dev.hw.sec.skxAddr ∧ inSram a 372 = true ∧ s.dev.hw.sec.bootNonce.length =
      32) ∧
  (∃ (ik : List Byte) (s : State), Alive s ∧ s.on SEC_SKX_CTL_BUSY = true ∧ s.rd SEC_SKX_CTL_OP = 3 ∧ s.dev.hw.stored
      2 = some ik) :=
  ⟨⟨[], (⟨1, 0, 0, 0x20000000, 0x20000000⟩), (unit (fun h => ((((((h |> fun h : Hw =>
      { h with sec := { h.sec with mapJobs := [⟨1, 0, 0, 0x20000000, 0x20000000⟩] } }).wr SEC_MAP_CMD_BUSY 1).wr
      (BLK_STAT_RUN PG_XSP) 1).wr (BLK_STAT_BOLTED PG_XSP) 0).wr XSP_STAT_FLBUSY 0) |> fun h : Hw =>
      { h with otp := { h.otp with keys := [some [], some [], some [], some []] } }))), by decide +kernel⟩,
   ⟨(⟨1, 0, 0, 0x20000000, 0x20000000⟩), (unit (fun h => (((((h |> fun h : Hw =>
       { h with sec := { h.sec with mapJobs := [⟨1, 0, 0, 0x20000000, 0x20000000⟩] } }).wr SEC_MAP_CMD_BUSY 1).wr
       (BLK_STAT_RUN PG_XSP) 1).wr (BLK_STAT_BOLTED PG_XSP) 0).wr XSP_STAT_FLBUSY 0))), by decide +kernel⟩,
   ⟨(⟨2, 0, 0, 0x20000000, 0x20000000⟩), (unit (fun h => (((((h |> fun h : Hw =>
       { h with sec := { h.sec with mapJobs := [⟨2, 0, 0, 0x20000000, 0x20000000⟩] } }).wr SEC_MAP_CMD_BUSY 1).wr
       (BLK_STAT_RUN PG_XSP) 1).wr (BLK_STAT_BOLTED PG_XSP) 0).wr XSP_STAT_FLBUSY 0))), by decide +kernel⟩,
   ⟨0, (unit (fun h => (((h.wr SEC_MAP_CMD_BUSY 1).wr SEC_MAP_CMD_BUSY 1) |> fun h : Hw =>
       { h with sec := { h.sec with mapRes := (some 0) } }))), by decide +kernel⟩,
   ⟨0, (unit (fun h => ((h.wr SEC_SKX_CTL_BUSY 1).wr SEC_SKX_CTL_OP 0))), by decide +kernel⟩,
   ⟨[], (unit (fun h => (((((h.wr SEC_SKX_CTL_BUSY 1).wr SEC_SKX_CTL_OP 1) |> fun h : Hw =>
       { h with otp := { h.otp with keys := [some [], some [], some [], some []] } }) |> fun h : Hw =>
       { h with sec := { h.sec with skxAddr := 0x20000000 } }) |> fun h : Hw =>
       { h with sec := { h.sec with bootNonce := (List.replicate 32 0) } }))), by decide +kernel⟩,
   ⟨[], 0x20000000, (unit (fun h => (((((h.wr SEC_SKX_CTL_BUSY 1).wr SEC_SKX_CTL_OP 2) |> fun h : Hw =>
       { h with otp := { h.otp with keys := [some [], some [], some [], some []] } }) |> fun h : Hw =>
       { h with sec := { h.sec with skxAddr := 0x20000000 } }) |> fun h : Hw =>
       { h with sec := { h.sec with bootNonce := (List.replicate 32 0) } }))), by decide +kernel⟩,
   ⟨[], (unit (fun h => (((((h.wr SEC_SKX_CTL_BUSY 1).wr SEC_SKX_CTL_OP 3) |> fun h : Hw =>
       { h with otp := { h.otp with keys := [some [], some [], some [], some []] } }) |> fun h : Hw =>
       { h with sec := { h.sec with skxAddr := 0x20000000 } }) |> fun h : Hw =>
       { h with sec := { h.sec with bootNonce := (List.replicate 32 0) } }))), by decide +kernel⟩⟩

theorem witness_Keyway :
  (∃ (s : State), Alive s ∧ (∀ x, s.dev.hw.sec.failAt = some x → x + 16 ≤ s.dev.hw.opTime) ∧
      s.dev.hw.otp.devuid.length = 16) ∧
  (∃ (x : Nat) (s : State), s.dev.hw.sec.failAt = some x ∧ s.dev.hw.opTime < x + 16) ∧
  (∃ (c : List Byte) (s : State), Alive s ∧ s.dev.hw.sec.challenge = some c) ∧
  (∃ (s : State), Alive s ∧ s.on SEC_KW_STAT_OPEN = true) ∧
  (∃ (w : Word) (s : State), Reaches (.agent 0) SEC_KW_STAT s ∧ s.on SEC_KW_STAT_OPEN = true ∧ w.getLsbD 8 = true) ∧
  (∃ (who : Who) (s : State), Reaches who SEC_KW_STAT s ∧ who ≠ .agent 0) ∧
  (∃ (a : Word) (s : State), s.dev.hw.fabricOn = true ∧ s.on SEC_KW_STAT_OPEN = true ∧ s.dev.hw.kwScope a.toNat =
      false ∧ a.toNat % 4 = 0) ∧
  (∃ (a : Word) (s : State), s.dev.hw.fabricOn = true ∧ s.on CPR_WIPE_STAT_BUSY = false ∧ s.on SEC_KW_STAT_OPEN = true
      ∧ s.dev.hw.kwScope a.toNat = true ∧ 0x20000000 ≤ a.toNat ∧ a.toNat + 4 ≤ 0x20400000 ∧ a.toNat % 4 = 0) :=
  ⟨⟨up, by decide +kernel⟩,
   ⟨0, (unit (fun h => (h |> fun h : Hw => { h with sec := { h.sec with failAt := (some 0) } }))), by decide +kernel⟩,
   ⟨[], (unit (fun h => (h |> fun h : Hw => { h with sec := { h.sec with challenge := (some []) } }))),
       by decide +kernel⟩,
   ⟨(unit (fun h => (h.wr SEC_KW_STAT_OPEN 1))), by decide +kernel⟩,
   ⟨256, (unit (fun h => (h.wr SEC_KW_STAT_OPEN 1))), by decide +kernel⟩,
   ⟨(.agent 1), up, by decide +kernel⟩,
   ⟨0, (unit (fun h => (h.wr SEC_KW_STAT_OPEN 1))), by decide +kernel⟩,
   ⟨0x20000000, (unit (fun h => ((((h.wr CPR_WIPE_STAT_BUSY 0).wr SEC_KW_STAT_OPEN 1).wr SEC_KW_STAT_PERM 2).wr
       SIS_MODE_CUR 4))), by decide +kernel⟩⟩

theorem witness_FlashCommands :
  (∃ (s : State), FlashRuns 1 s ∧ TransferFits s) ∧
  (∃ (s : State), FlashRuns 2 s ∧ TransferFits s ∧ s.dev.hw.flashGuard s.faddr s.flen = false) ∧
  (∃ (s : State), FlashRuns 3 s ∧ s.faddr % 4096 = 0 ∧ s.faddr + 4096 ≤ s.fsize ∧ s.dev.hw.flashGuard s.faddr 4096 =
      false) ∧
  (∃ (s : State), FlashRuns 4 s ∧ s.faddr % 65536 = 0 ∧ s.faddr + 65536 ≤ s.fsize ∧ s.dev.hw.flashGuard s.faddr 65536
      = false) ∧
  (∃ (s : State), FlashRuns 4 s ∧ s.faddr % 65536 = 0 ∧ s.faddr + 65536 ≤ s.fsize ∧ s.rd SIS_MODE_CUR ≠ 0xD ∧ getBits
      (s.reg XSP_WP0) 0 16 * 65536 ≤ s.faddr ∧ s.faddr < (getBits (s.reg XSP_WP0) 16 16 + 1) * 65536) ∧
  (∃ (s : State), FlashRuns 2 s ∧ (s.faddr % 4 ≠ 0 ∨ s.fbuf % 4 ≠ 0 ∨ s.flen % 4 ≠ 0 ∨ s.flen = 0 ∨ 65536 < s.flen)) ∧
  (∃ (s : State), FlashRuns 3 s ∧ s.faddr % 4096 = 0 ∧ s.fsize < s.faddr + 4096) ∧
  (∃ (s : State), FlashRuns 5 s) ∧
  (∃ (c : Nat) (s : State), Alive s ∧ s.on XSP_CMD_BUSY = true ∧ s.dev.hw.xsp.work = some c ∧ s.dev.hw.xsp.win = [] ∧
      c < 8 ∧ s.dev.hw.xsp.sr < 256) ∧
  (∃ (w : Machine.WindowRead) (l : List Machine.WindowRead) (s : State), Alive s ∧ s.dev.hw.xsp.win = w :: l) ∧
  (∃ (who : Who) (s : State), MayOperate who PG_XSP XSP_BANK s) :=
  ⟨⟨(unit (fun h => ((((h.wr XSP_CMD_BUSY 1).wr (BLK_STAT_RUN PG_XSP) 1).wr XSP_SIZE_MIB 64) |> fun h : Hw =>
      { h with xsp := { h.xsp with job := ⟨1, 0, 536870912, 4⟩ } }))), by decide +kernel⟩,
   ⟨(unit (fun h => ((((h.wr XSP_CMD_BUSY 1).wr (BLK_STAT_RUN PG_XSP) 1).wr XSP_SIZE_MIB 64) |> fun h : Hw =>
       { h with xsp := { h.xsp with job := ⟨2, 0, 536870912, 4⟩ } }))), by decide +kernel⟩,
   ⟨(unit (fun h => ((((h.wr XSP_CMD_BUSY 1).wr (BLK_STAT_RUN PG_XSP) 1).wr XSP_SIZE_MIB 64) |> fun h : Hw =>
       { h with xsp := { h.xsp with job := ⟨3, 0, 536870912, 4⟩ } }))), by decide +kernel⟩,
   ⟨(unit (fun h => ((((h.wr XSP_CMD_BUSY 1).wr (BLK_STAT_RUN PG_XSP) 1).wr XSP_SIZE_MIB 64) |> fun h : Hw =>
       { h with xsp := { h.xsp with job := ⟨4, 0, 536870912, 4⟩ } }))), by decide +kernel⟩,
   ⟨(unit (fun h => (((((h.wr XSP_CMD_BUSY 1).wr (BLK_STAT_RUN PG_XSP) 1).wr XSP_SIZE_MIB 64) |> fun h : Hw =>
       { h with xsp := { h.xsp with job := ⟨4, 0, 536870912, 4⟩ } }).setReg XSP_WP0 0))), by decide +kernel⟩,
   ⟨(unit (fun h => ((((h.wr XSP_CMD_BUSY 1).wr (BLK_STAT_RUN PG_XSP) 1).wr XSP_SIZE_MIB 64) |> fun h : Hw =>
       { h with xsp := { h.xsp with job := ⟨2, 0, 536870912, 0⟩ } }))), by decide +kernel⟩,
   ⟨(unit (fun h => ((((h.wr XSP_CMD_BUSY 1).wr (BLK_STAT_RUN PG_XSP) 1).wr XSP_SIZE_MIB 64) |> fun h : Hw =>
       { h with xsp := { h.xsp with job := ⟨3, 67108864, 536870912, 4⟩ } }))), by decide +kernel⟩,
   ⟨(unit (fun h => ((((h.wr XSP_CMD_BUSY 1).wr (BLK_STAT_RUN PG_XSP) 1).wr XSP_SIZE_MIB 64) |> fun h : Hw =>
       { h with xsp := { h.xsp with job := ⟨5, 0, 536870912, 4⟩ } }))), by decide +kernel⟩,
   ⟨0, (unit (fun h => (((h.wr XSP_CMD_BUSY 1) |> fun h : Hw => { h with xsp := { h.xsp with win := [] } }) |> fun h :
       Hw => { h with xsp := { h.xsp with work := (some 0) } }))), by decide +kernel⟩,
   ⟨(⟨0, 0, 4⟩), [], (unit (fun h => (h |> fun h : Hw => { h with xsp := { h.xsp with win := [⟨0, 0, 4⟩] } }))),
       by decide +kernel⟩,
   ⟨(.agent 0), up, by decide +kernel⟩⟩

theorem witness_HostInterface :
  (∃ (a : Nat) (s : State), HostServed s ∧ s.on CPR_WIPE_STAT_BUSY = false ∧ 0x20000000 ≤ a ∧ a + 4 ≤ 0x20400000 ∧ a %
      4 = 0 ∧ s.dev.hw.hsp.kept = []) ∧
  (∃ (a : Nat) (s : State), HostServed s ∧ s.on CPR_WIPE_STAT_BUSY = false ∧ 0x20000000 ≤ a ∧ a + 4 ≤ 0x20400000 ∧ a %
      4 = 0 ∧ s.dev.hw.hsp.kept = []) ∧
  (∃ (a : Nat) (w : Word) (s : State), HostServed s ∧ 0x20000000 ≤ a ∧ a + 4 ≤ 0x20400000 ∧ a % 4 = 0 ∧
      s.dev.hw.hsp.kept = [(a, w)]) ∧
  (∃ (a : Word) (s : State), HostServed s ∧ a.toNat % 4 ≠ 0 ∧ s.dev.hw.hsp.kept = []) ∧
  (∃ (s : State), HostAnswered s ∧ (bit (s.rd CPR_AGT_RST_AGT) 6 = true ∨ s.dev.hw.bolted PG_HSP = true)) ∧
  (∃ (a : Nat) (s : State), HostServed s ∧ s.on CPR_WIPE_STAT_BUSY = false ∧ 0x20000000 ≤ a ∧ a + 8 ≤ 0x20400000 ∧ a %
      4 = 0) ∧
  (∃ (a : Word) (s : State), HostServed s ∧ a.toNat % 4 ≠ 0) ∧
  (∃ (s : State), HostAnswered s ∧ s.dev.hw.hsp.wdone ≤ 64) ∧
  (∃ (s : State), HostAnswered s) ∧
  (∃ (s : State), s.dev.hw.fabricOn = true ∧ s.on (BLK_CTL_EN PG_HSP) = false ∧ s.dev.hw.cpr.parking = false) :=
  ⟨⟨0x20000000, (unit (fun h => (((((h.wr CPR_WIPE_STAT_BUSY 0) |> fun h : Hw =>
      { h with hsp := { h.hsp with kept := [] } }).wr (BLK_CTL_EN PG_HSP) 1).wr CPR_AGT_RST_AGT 0).wr (BLK_STAT_BOLTED
      PG_HSP) 0))), by decide +kernel⟩,
   ⟨0x20000000, (unit (fun h => (((((h.wr CPR_WIPE_STAT_BUSY 0) |> fun h : Hw =>
       { h with hsp := { h.hsp with kept := [] } }).wr (BLK_CTL_EN PG_HSP) 1).wr CPR_AGT_RST_AGT 0).wr
       (BLK_STAT_BOLTED PG_HSP) 0))), by decide +kernel⟩,
   ⟨0x20000000, 0, (unit (fun h => ((((h.wr (BLK_CTL_EN PG_HSP) 1).wr CPR_AGT_RST_AGT 0).wr (BLK_STAT_BOLTED PG_HSP)
       0) |> fun h : Hw => { h with hsp := { h.hsp with kept := [(0x20000000, 0)] } }))), by decide +kernel⟩,
   ⟨1, (unit (fun h => ((((h |> fun h : Hw => { h with hsp := { h.hsp with kept := [] } }).wr (BLK_CTL_EN PG_HSP)
       1).wr CPR_AGT_RST_AGT 0).wr (BLK_STAT_BOLTED PG_HSP) 0))), by decide +kernel⟩,
   ⟨(unit (fun h => ((h.wr (BLK_CTL_EN PG_HSP) 1).wr (BLK_STAT_BOLTED PG_HSP) 1))), by decide +kernel⟩,
   ⟨0x20000000, (unit (fun h => ((((h.wr CPR_WIPE_STAT_BUSY 0).wr (BLK_CTL_EN PG_HSP) 1).wr CPR_AGT_RST_AGT 0).wr
       (BLK_STAT_BOLTED PG_HSP) 0))), by decide +kernel⟩,
   ⟨1, (unit (fun h => (((h.wr (BLK_CTL_EN PG_HSP) 1).wr CPR_AGT_RST_AGT 0).wr (BLK_STAT_BOLTED PG_HSP) 0))),
       by decide +kernel⟩,
   ⟨(unit (fun h => (h.wr (BLK_CTL_EN PG_HSP) 1))), by decide +kernel⟩,
   ⟨(unit (fun h => (h.wr (BLK_CTL_EN PG_HSP) 1))), by decide +kernel⟩,
   ⟨(unit (fun h => ((h.wr (BLK_CTL_EN PG_HSP) 0) |> fun h : Hw =>
       { h with cpr := { h.cpr with parking := false } }))), by decide +kernel⟩⟩

theorem witness_BoundaryScan :
  (∃ (s : State), s.rd SIS_MODE_CUR = 0xD ∧ s.dev.hw.otp.done = 0) ∧
  (∃ (s : State), s.dev.hw.otp.done = 3 ∧ s.on SEC_KW_STAT_OPEN = false ∧ s.rd SIS_MODE_CUR ≠ 0xD) :=
  ⟨⟨(unit fun h => { h.wr SIS_MODE_CUR 0xD with otp := { h.otp with done := 0 } }), by decide +kernel⟩,
   ⟨up, by decide +kernel⟩⟩

end Sys2Proof.Tests
end

section
/-! Configuration of a mailbox channel (R424): the write that is taken, the three refusals, and the obligation O50. -/

namespace Sys2Proof.Machine

/-! ## Register writes that reach their register -/

/-- A write that reaches its register acts on the device. -/
theorem byWriter_of_reaches {who : Who} {a : Nat} {s : State} (hr : Reaches who a s) (f : Dev → Dev) :
    Dev.byWriter who a f s.dev = f s.dev := by
  obtain ⟨hacc, hkw⟩ := hr
  cases who with
  | agent _ => simp [Dev.byWriter, hacc]
  | keyway =>
    obtain ⟨hopen, hscope⟩ : s.dev.hw.on SEC_KW_STAT_OPEN = true ∧ s.dev.hw.kwScope a = true := hkw rfl
    simp [Dev.byWriter, hacc, hopen, hscope]

/-- A command that is a write of registers alone ends in the state the write makes. -/
theorem ends_of_writeHw {c : Instr} {who : Who} {a : Nat} {f : Hw → Hw} {s : State} {P : State → Prop}
    (hc : exec c s = doDev (writeHw who a f) s) (hr : Reaches who a s) (hP : P { s with dev := s.dev.via f }) :
    Ends c s P := by
  refine ⟨{ s with dev := s.dev.via f }, ?_, rfl, hP⟩
  rw [hc, doDev, writeHw, byWriter_of_reaches hr]
  rfl

/-- A write that raises a fault cause of a page on the acknowledged access: the cause stands, there is no bus error, and
the page's fault and interrupt registers alone change (R49). -/
theorem ends_of_writeHw_blockFault {c : Instr} {who : Who} {a : Nat} {f : Hw → Hw} {s : State} {p b : Nat}
    (hc : exec c s = doDev (writeHw who a f) s) (hr : Reaches who a s)
    (hf : f s.dev.hw = s.dev.hw.ack.blockFault p b) (hb : b < 32) :
    Ends c s fun t =>
      t.dev.hw.bitAt (BLK_FAULT p) b = true ∧ t.dev.hw.reply.err = false ∧ OnlyRegs [BLK_FAULT p, BLK_IRQ p] s t := by
  refine ends_of_writeHw hc hr ?_
  simp only [Dev.via, hf]
  refine ⟨(Hw.blockFault_sets _ p b hb).1, by simp [Hw.ack], fun a ha => ?_, rfl⟩
  obtain ⟨hfault, hirq⟩ : a ≠ BLK_FAULT p ∧ a ≠ BLK_IRQ p := by simpa using ha
  exact Hw.reg_blockFault_ne _ p b hfault hirq

/-! ## Fields under a mask -/

/-- A field inside the mask keeps its value. -/
theorem getBits_and_of_mask (w m : Word) (lo width : Nat) (hm : ∀ i < width, m.getLsbD (lo + i) = true) :
    getBits (w &&& m) lo width = getBits w lo width := by
  apply Nat.eq_of_testBit_eq
  intro i
  by_cases hi : i < width
  · simp [testBit_getBits, hm i hi]
  · simp [testBit_getBits, hi]

/-- A field of one bit reads 1 exactly where the bit is set. -/
theorem getBits_one_eq_one (w : Word) (i : Nat) : decide (getBits w i 1 = 1) = w.getLsbD i := by
  simp [getBits, BitVec.getLsbD, Nat.testBit_eq_decide_div_mod_eq, Nat.shiftRight_eq_div_pow]

/-! ## The channel's configuration -/

theorem exec_mlbConfigWrite (who : Who) (n : Fin 16) (w : Word) (s : State) :
    exec (.mlbConfigWrite who n w) s = doDev (writeHw who (MLBn_CFG n.val) (chanConfig who n.val w)) s := rfl

/-- Agent 0 writes the configuration of an EMPTY channel that names two agents. -/
theorem chanConfig_taken {n : Nat} {w : Word} {h : Hw} (he : h.chan n = chanEmpty)
    (hd : getBits w 16 3 ≠ getBits w 24 3) :
    chanConfig (.agent 0) n w h = h.ack.setReg (MLBn_CFG n) (w &&& 0x87071F1F#32) := by
  have he' : h.ack.chan n = chanEmpty := he
  simp [chanConfig, Hw.agent0, he', hd]

/-- Any other write is refused: NOTSIS before BUSY before CFGREJ. -/
theorem chanConfig_refused {who : Who} {n : Nat} {w : Word} {h : Hw}
    (hx : who ≠ .agent 0 ∨ h.chan n ≠ chanEmpty ∨ getBits w 16 3 = getBits w 24 3) :
    chanConfig who n w h =
      h.ack.blockFault PG_MLB (if who ≠ .agent 0 then 8 else if h.chan n ≠ chanEmpty then 10 else 12) := by
  have hchan : h.ack.chan n = h.chan n := rfl
  by_cases hw : who = .agent 0
  · by_cases he : h.chan n = chanEmpty
    · have heq : getBits w 16 3 = getBits w 24 3 := by simpa [hw, he] using hx
      simp [chanConfig, Hw.agent0, hchan, hw, he, heq]
    · simp [chanConfig, Hw.agent0, hchan, hw, he]
  · simp [chanConfig, Hw.agent0, hw]

/-- A field of MLBn_CFG that its mask covers reads the bits of the word written. -/
theorem rd_setReg_config (h : Hw) (n : Nat) (w : Word) (lo width : Nat)
    (hm : ∀ i < width, (0x87071F1F#32).getLsbD (lo + i) = true) :
    (h.setReg (MLBn_CFG n) (w &&& 0x87071F1F#32)).rd ⟨MLBn_CFG n, lo, width⟩ = getBits w lo width :=
  (h.rd_setReg_same _ ⟨MLBn_CFG n, lo, width⟩).trans (getBits_and_of_mask w _ lo width hm)

/-- A configuration that is taken stands in every field, and no other register changes. -/
theorem mlbConfigWrite_taken (n : Fin 16) (w : Word) (s : State) (hr : Reaches (.agent 0) (MLBn_CFG n.val) s)
    (he : s.dev.hw.chan n.val = chanEmpty) (hd : getBits w 16 3 ≠ getBits w 24 3) :
    Ends (.mlbConfigWrite (.agent 0) n w) s fun t =>
      t.rd (MLBn_CFG_SND n.val) = getBits w 16 3 ∧ t.rd (MLBn_CFG_RCV n.val) = getBits w 24 3 ∧
      t.rd (MLBn_CFG_RDB n.val) = getBits w 0 5 ∧ t.rd (MLBn_CFG_ADB n.val) = getBits w 8 5 ∧
      t.on (MLBn_CFG_EN n.val) = w.getLsbD 31 ∧ OnlyRegs [MLBn_CFG n.val] s t := by
  refine ends_of_writeHw (exec_mlbConfigWrite ..) hr ?_
  simp only [Dev.via, chanConfig_taken he hd]
  refine ⟨rd_setReg_config _ _ w 16 3 (by decide), rd_setReg_config _ _ w 24 3 (by decide),
    rd_setReg_config _ _ w 0 5 (by decide), rd_setReg_config _ _ w 8 5 (by decide), ?_, fun a ha => ?_, rfl⟩
  · show decide (Hw.rd _ ⟨MLBn_CFG n.val, 31, 1⟩ = 1) = _
    rw [rd_setReg_config _ _ w 31 1 (by decide), getBits_one_eq_one]
  · exact Hw.reg_setReg_ne _ _ (by simpa using ha)

/-- A configuration that is refused sets its cause and nothing else, and is no bus error. -/
theorem mlbConfigWrite_refused (who : Who) (n : Fin 16) (w : Word) (s : State) (hr : Reaches who (MLBn_CFG n.val) s)
    (hx : who ≠ .agent 0 ∨ s.dev.hw.chan n.val ≠ chanEmpty ∨ getBits w 16 3 = getBits w 24 3) :
    Ends (.mlbConfigWrite who n w) s fun t =>
      t.dev.hw.bitAt (BLK_FAULT PG_MLB)
        (if who ≠ .agent 0 then 8 else if s.dev.hw.chan n.val ≠ chanEmpty then 10 else 12) = true ∧
      t.dev.hw.reply.err = false ∧ OnlyRegs [BLK_FAULT PG_MLB, BLK_IRQ PG_MLB] s t := by
  refine ends_of_writeHw_blockFault (exec_mlbConfigWrite ..) hr (chanConfig_refused hx) ?_
  split_ifs <;> decide

/-- Settles O50: a write that reaches MLBn_CFG is taken or refused by the cases of R424. -/
theorem channelConfiguration : Obligations.ChannelConfiguration :=
  ⟨mlbConfigWrite_taken, mlbConfigWrite_refused⟩

end Sys2Proof.Machine
end

section
/-! Arrivals at the recorder's queue (R449): what a submit answers, what an arrival does to the queue, and the refutation of
O52. The five clauses of O52 hold, the three of a submit wherever the requester has its submit registers
(`recordSubmit_full`, `recordSubmit_queued`, `recordSubmit_reserved`, `Hw.recWard_dropped`, `Hw.recWard_queued`). O52 itself
asks an answer of a requester without them too, and that fails. -/

namespace Sys2Proof.Machine

/-! ## The submit registers (R456) -/

@[simp] theorem Hw.setSub_queue (h : Hw) (n i : Nat) (w : Word) : (h.setSub n i w).rcd.queue = h.rcd.queue := rfl
@[simp] theorem Hw.setSub_reg (h : Hw) (n i : Nat) (w : Word) (a : Nat) : (h.setSub n i w).reg a = h.reg a := rfl
@[simp] theorem Hw.setSub_nat (h : Hw) (n i : Nat) (w : Word) (a : Nat) : (h.setSub n i w).nat a = h.nat a := rfl
@[simp] theorem Hw.setSub_on (h : Hw) (n i : Nat) (w : Word) (f : Field) : (h.setSub n i w).on f = h.on f := rfl
@[simp] theorem Hw.setSub_recAonMode (h : Hw) (n i : Nat) (w : Word) : (h.setSub n i w).recAonMode = h.recAonMode := rfl
@[simp] theorem Hw.ack_subRegs (h : Hw) (n : Nat) : h.ack.subRegs n = h.subRegs n := rfl
@[simp] theorem Hw.ack_recAonMode (h : Hw) : h.ack.recAonMode = h.recAonMode := rfl

@[simp] theorem Hw.setSub_subRegs (h : Hw) (n i : Nat) (w : Word) : (h.setSub n i w).subRegs n = (h.subRegs n).set i w := by
  simp [Hw.setSub, Hw.subRegs]

/-- The registers of one requester do not depend on the writes of another. -/
theorem Hw.setSub_subRegs_ne (h : Hw) {n m : Nat} (i : Nat) (w : Word) (hm : m ≠ n) :
    (h.setSub n i w).subRegs m = h.subRegs m := by
  have hsame : (fun x : Nat × List Word => !decide (x.1 = n) && decide (x.1 = m)) = fun x => decide (x.1 = m) := by
    funext x
    by_cases hx : x.1 = m <;> simp [hx, hm]
  simp [Hw.setSub, Hw.subRegs, hm.symm, hsame]

/-- The requester has its eleven submit registers: CTL, RES, SEQ, D0 to D7. -/
def Hw.SubListed (h : Hw) (n : Nat) : Prop := (h.subRegs n).length = 11

/-- At reset every requester has its registers. -/
theorem subListed_reset (n : Nat) : State.reset.dev.hw.SubListed n := rfl

/-- Writes of submit registers keep every requester's eleven. -/
theorem Hw.SubListed.setSub {h : Hw} {m : Nat} (hm : h.SubListed m) (n i : Nat) (w : Word) :
    (h.setSub n i w).SubListed m := by
  unfold Hw.SubListed at *
  by_cases e : m = n
  · subst e; simpa using hm
  · rwa [h.setSub_subRegs_ne i w e]

/-! ## What a submit does -/

/-- The submit is answered `code`: CTL holds TYPE and PROT, RES the code. -/
def Hw.answerSub (h : Hw) (n : Nat) (w code : Word) : Hw :=
  (h.ack.setSub n 0 (setBits 0 0 17 (getBits w 0 17))).setSub n 1 code

/-- Where the requester has its registers, RES reads the answer. -/
theorem Hw.answerSub_res {h : Hw} {n : Nat} (hl : h.SubListed n) (w code : Word) :
    ((h.answerSub n w code).subRegs n).getD 1 0 = code := by
  unfold Hw.SubListed at hl
  simp [Hw.answerSub, hl]

/-- Where the requester has none, RES reads 0. -/
theorem Hw.answerSub_res_of_nil {h : Hw} {n : Nat} (hl : h.subRegs n = []) (w code : Word) :
    ((h.answerSub n w code).subRegs n).getD 1 0 = 0 := by
  simp [Hw.answerSub, hl]

theorem exec_recordSubmit (who : Who) (w : Word) (s : State) :
    exec (.recordSubmit who w) s = doDev (writeHw who REC_SUB_CTL (recSubmit who w)) s := rfl

/-- What GO does on an access that is taken (R449): the reserved types, the software's share of the queue and the end of the
sequence numbers are refused in this order. -/
def Hw.submitGo (h : Hw) (n : Nat) (w : Word) : Hw :=
  if getBits w 0 16 < 0x8000 then h.answerSub n w 3
  else if 24 ≤ h.rcd.queue.length then h.answerSub n w 2
  else if h.nat REC_SEQ = 0xFFFFFFFF then (h.answerSub n w 2).recRunOut
  else ((h.answerSub n w 1).setSub n 2 (h.reg REC_SEQ)).recArrive (getBits w 0 16) (n % 8)
    (h.on REC_CFG_SWPROT && w.getLsbD 16) false (((h.subRegs n).drop 3).map (·.toNat))

theorem recSubmit_eq_submitGo {who : Who} {w : Word} {s : State} (hmay : MayOperate who PG_REC REC_SUB_CTL s)
    (hgo : w.getLsbD 31 = true) : recSubmit who w s.dev.hw = s.dev.hw.submitGo who.num w := by
  obtain ⟨-, hpresent, hsis⟩ := hmay
  have hgo' : getBits w 31 1 = 1 := of_decide_eq_true ((getBits_one_eq_one w 31).trans hgo)
  simp [recSubmit, Hw.submitGo, Hw.opWrite, hpresent, hsis, hgo', getBits_one_eq_one, Hw.answerSub, List.drop_set]

/-- A submit that is taken as an access ends in the state its GO makes. -/
theorem ends_recordSubmit {who : Who} {w : Word} {s : State} {P : State → Prop}
    (hmay : MayOperate who PG_REC REC_SUB_CTL s) (hgo : w.getLsbD 31 = true)
    (hP : P { s with dev := { s.dev with hw := s.dev.hw.submitGo who.num w } }) : Ends (.recordSubmit who w) s P := by
  refine ends_of_writeHw (exec_recordSubmit who w s) hmay.1 ?_
  rwa [Dev.via, recSubmit_eq_submitGo hmay hgo]

/-- A refused submit has no effect but its answer. -/
theorem recordSubmit_refused {who : Who} {w code : Word} {s : State} (hmay : MayOperate who PG_REC REC_SUB_CTL s)
    (hgo : w.getLsbD 31 = true) (hl : s.dev.hw.SubListed who.num)
    (hcode : s.dev.hw.submitGo who.num w = s.dev.hw.answerSub who.num w code) :
    Ends (.recordSubmit who w) s fun t =>
      (t.dev.hw.subRegs who.num).getD 1 0 = code ∧ t.dev.hw.rcd.queue = s.dev.hw.rcd.queue ∧ OnlyRegs [] s t := by
  refine ends_recordSubmit hmay hgo ?_
  rw [hcode]
  exact ⟨Hw.answerSub_res hl w code, rfl, fun _ _ => rfl, rfl⟩

/-- A reserved type is refused. -/
theorem recordSubmit_reserved {who : Who} {w : Word} {s : State} (hmay : MayOperate who PG_REC REC_SUB_CTL s)
    (hgo : w.getLsbD 31 = true) (hl : s.dev.hw.SubListed who.num) (htyp : getBits w 0 16 < 0x8000) :
    Ends (.recordSubmit who w) s fun t =>
      (t.dev.hw.subRegs who.num).getD 1 0 = 3 ∧ t.dev.hw.rcd.queue = s.dev.hw.rcd.queue ∧ OnlyRegs [] s t :=
  recordSubmit_refused hmay hgo hl (if_pos htyp)

/-- With 24 records queued, what is left is the hardware's. -/
theorem recordSubmit_full {who : Who} {w : Word} {s : State} (hmay : MayOperate who PG_REC REC_SUB_CTL s)
    (hgo : w.getLsbD 31 = true) (hl : s.dev.hw.SubListed who.num) (htyp : 0x8000 ≤ getBits w 0 16)
    (hfull : 24 ≤ s.dev.hw.rcd.queue.length) :
    Ends (.recordSubmit who w) s fun t =>
      (t.dev.hw.subRegs who.num).getD 1 0 = 2 ∧ t.dev.hw.rcd.queue = s.dev.hw.rcd.queue ∧ OnlyRegs [] s t :=
  recordSubmit_refused hmay hgo hl (by simp [Hw.submitGo, htyp.not_gt, hfull])

/-! ## What an arrival does to the queue -/

/-- The record of an arrival, with its sequence number and stamps (R446). -/
def Hw.arrival (h : Hw) (typ src : Nat) (prot cont : Bool) (data : List Nat) : Record :=
  let wv := h.on REC_STAT_WALLVALID
  ⟨h.nat REC_SEQ, h.opTime, typ, if wv then wallAt h h.opTime else 0, wv, h.mode, src, prot, cont, false, data⟩

section Arrival
variable {h : Hw} (haon : h.recAonMode = false) (hseq : h.nat REC_SEQ ≠ 0xFFFFFFFF)
include haon hseq

/-- With room in the queue an arrival is pushed and takes the sequence number. -/
theorem Hw.recArrive_queued (hroom : h.rcd.queue.length < 32) (typ src : Nat) (prot cont : Bool) (data : List Nat) :
    h.recArrive typ src prot cont data =
      (h.recPush (h.arrival typ src prot cont data)).setNat REC_SEQ (h.nat REC_SEQ + 1) := by
  simp [Hw.recArrive, Hw.arrival, haon, hseq, hroom.not_ge]

/-- With 32 records queued an arrival is lost and counted. -/
theorem Hw.recArrive_dropped (hfull : 32 ≤ h.rcd.queue.length) (typ src : Nat) (prot cont : Bool) (data : List Nat) :
    h.recArrive typ src prot cont data = (h.bump REC_LOST_HWLOST 1).blockFault PG_REC 10 := by
  simp [Hw.recArrive, haon, hseq, hfull]

end Arrival

theorem Hw.cond_rcd (h : Hw) (c : Bool) (f : Hw → Hw) (hf : (f h).rcd = h.rcd) : (h.cond c f).rcd = h.rcd := by
  unfold Hw.cond
  split <;> simp [hf]

@[simp] theorem Hw.recPush_rcd (h : Hw) (r : Record) :
    (h.recPush r).rcd = { h.rcd with queue := h.rcd.queue ++ [r] } := by
  simp [Hw.recPush, Hw.cond_rcd]

@[simp] theorem Hw.recPush_subRegs (h : Hw) (r : Record) (n : Nat) : (h.recPush r).subRegs n = h.subRegs n := by
  simp [Hw.subRegs]

@[simp] theorem Hw.setNat_subRegs (h : Hw) (a v n : Nat) : (h.setNat a v).subRegs n = h.subRegs n := by
  simp [Hw.subRegs]

theorem Hw.recPush_reg_ne (h : Hw) (r : Record) {a : Nat} (hs : a ≠ REC_STAT) (hi : a ≠ BLK_IRQ PG_REC)
    (hb : a ≠ BLK_STAT PG_REC) : (h.recPush r).reg a = h.reg a := by
  unfold Hw.recPush
  rw [Hw.cond_reg _ _ _ (Hw.reg_wr_ne _ _ _ hb), Hw.cond_reg _ _ _ (Hw.reg_irq_ne _ _ _ hi), Hw.reg_wr_ne _ _ _ hs,
    Hw.reg_wr_ne _ _ _ hs]
  rfl

/-- LEVEL counts the records queued, up to what its six bits hold. -/
theorem Hw.recPush_level (h : Hw) (r : Record) :
    (h.recPush r).rd REC_STAT_LEVEL = satN 6 (h.rcd.queue.length + 1) := by
  unfold Hw.recPush Hw.rd
  rw [Hw.cond_reg _ _ _ (Hw.reg_wr_ne _ _ _ (by decide)), Hw.cond_reg _ _ _ (Hw.reg_irq_ne _ _ _ (by decide))]
  change Hw.rd _ REC_STAT_LEVEL = _
  rw [Hw.rd_wr_other _ _ _ _ (by decide), Hw.rd_wr_same _ _ _ (by decide)]
  simp [satN]

/-- A submit that is taken: SEQ of the requester reads the number it gets. -/
def Hw.submitTaken (h : Hw) (n : Nat) (w : Word) : Hw := (h.answerSub n w 1).setSub n 2 (h.reg REC_SEQ)

@[simp] theorem Hw.submitTaken_queue (h : Hw) (n : Nat) (w : Word) : (h.submitTaken n w).rcd.queue = h.rcd.queue := rfl

theorem Hw.submitTaken_subRegs {h : Hw} {n : Nat} (hl : h.SubListed n) (w : Word) :
    ((h.submitTaken n w).subRegs n).getD 1 0 = 1 ∧ ((h.submitTaken n w).subRegs n).getD 2 0 = h.reg REC_SEQ := by
  unfold Hw.SubListed at hl
  simp [Hw.submitTaken, Hw.answerSub, hl]

/-- The record a submit brings: the requester's number is its source, its data are the requester's data words. -/
def Hw.submitRecord (h : Hw) (n : Nat) (w : Word) : Record :=
  (h.submitTaken n w).arrival (getBits w 0 16) (n % 8) (h.on REC_CFG_SWPROT && w.getLsbD 16) false
    (((h.subRegs n).drop 3).map (·.toNat))

/-- With fewer than 24 records queued, a submit pushes its record and takes the sequence number. -/
theorem Hw.submitGo_queued {h : Hw} (haon : h.recAonMode = false) (hseq : h.nat REC_SEQ ≠ 0xFFFFFFFF)
    (hroom : h.rcd.queue.length < 24) (n : Nat) {w : Word} (htyp : 0x8000 ≤ getBits w 0 16) :
    h.submitGo n w =
      ((h.submitTaken n w).recPush (h.submitRecord n w)).setNat REC_SEQ (h.nat REC_SEQ + 1) := by
  have hpush := Hw.recArrive_queued (h := h.submitTaken n w) haon hseq (hroom.trans (by decide))
    (getBits w 0 16) (n % 8) (h.on REC_CFG_SWPROT && w.getLsbD 16) false (((h.subRegs n).drop 3).map (·.toNat))
  rw [Hw.submitGo, if_neg htyp.not_gt, if_neg hroom.not_ge, if_neg hseq]
  exact hpush

/-- With fewer than 24 records queued a submit is put behind them under the next sequence number. -/
theorem recordSubmit_queued {who : Who} {w : Word} {s : State} (hmay : MayOperate who PG_REC REC_SUB_CTL s)
    (hgo : w.getLsbD 31 = true) (hl : s.dev.hw.SubListed who.num) (htyp : 0x8000 ≤ getBits w 0 16)
    (hroom : s.dev.hw.rcd.queue.length < 24) (haon : s.dev.hw.recAonMode = false) (hseq : s.reg REC_SEQ ≠ 0xFFFFFFFF) :
    Ends (.recordSubmit who w) s fun t =>
      (t.dev.hw.subRegs who.num).getD 1 0 = 1 ∧ (t.dev.hw.subRegs who.num).getD 2 0 = s.reg REC_SEQ ∧
      t.reg REC_SEQ = s.reg REC_SEQ + 1 ∧ t.rd REC_STAT_LEVEL = s.dev.hw.rcd.queue.length + 1 ∧
      t.dev.hw.rcd.queue.take s.dev.hw.rcd.queue.length = s.dev.hw.rcd.queue ∧
      (t.dev.hw.rcd.queue.drop s.dev.hw.rcd.queue.length).map (fun r => (r.seq, r.typ, r.src, r.prot)) =
        [((s.reg REC_SEQ).toNat, getBits w 0 16, who.num % 8, s.on REC_CFG_SWPROT && w.getLsbD 16)] ∧
      OnlyRegs [REC_SEQ, REC_STAT, BLK_IRQ PG_REC, BLK_STAT PG_REC] s t := by
  have hseq' : s.dev.hw.nat REC_SEQ ≠ 0xFFFFFFFF := fun e => hseq (BitVec.eq_of_toNat_eq e)
  obtain ⟨hres, hnum⟩ := Hw.submitTaken_subRegs hl w
  refine ends_recordSubmit hmay hgo ?_
  rw [Hw.submitGo_queued haon hseq' hroom _ htyp]
  refine ⟨by simpa using hres, by simpa [State.reg] using hnum, ?_, ?_, ?_, ?_, fun a ha => ?_, rfl⟩
  · refine (Hw.reg_setNat_same ..).trans ?_
    simp [Hw.nat, State.reg, BitVec.ofNat_add]
  · refine (Hw.rd_setNat_ne _ _ _ (by decide)).trans ?_
    rw [Hw.recPush_level]
    simp [satN]
    omega
  · simp
  · simp [Hw.submitRecord, Hw.arrival, Hw.submitTaken, Hw.answerSub, Hw.nat, State.reg, State.on]
  · simp only [List.mem_cons, List.not_mem_nil, or_false, not_or] at ha
    obtain ⟨haseq, hstat, hirq, hblk⟩ := ha
    exact (Hw.reg_setNat_ne _ _ haseq).trans (Hw.recPush_reg_ne _ _ hstat hirq hblk)

/-- The reset state meets what the theorems on submits ask for. -/
theorem submitHypotheses_reset :
    MayOperate (.agent 0) PG_REC REC_SUB_CTL State.reset ∧ (∀ n, State.reset.dev.hw.SubListed n) ∧
      State.reset.dev.hw.rcd.queue.length < 24 ∧ State.reset.dev.hw.recAonMode = false ∧
      State.reset.reg REC_SEQ ≠ 0xFFFFFFFF :=
  ⟨by decide +kernel, subListed_reset, by decide, by decide +kernel, by decide +kernel⟩

/-! ## What the Ward's hardware records (R449) -/

/-- A hardware record that finds the queue full is lost and counted; no sequence number is spent on it. -/
theorem Hw.recWard_dropped {h : Hw} (haon : h.recAonMode = false) (hseq : h.nat REC_SEQ ≠ 0xFFFFFFFF)
    (hfull : 32 ≤ h.rcd.queue.length) (typ : Nat) (prot : Bool) (data : List Nat) :
    (h.recWard typ prot data).rcd.queue = h.rcd.queue ∧
    (h.recWard typ prot data).rd REC_LOST_HWLOST = min 65535 (h.rd REC_LOST_HWLOST + 1) ∧
    (h.recWard typ prot data).reg REC_SEQ = h.reg REC_SEQ := by
  rw [Hw.recWard, Hw.recArrive_dropped haon hseq hfull]
  refine ⟨by simp, ?_, ?_⟩
  · rw [Hw.rd, Hw.reg_blockFault_ne _ _ _ (by decide) (by decide)]
    change ((h.bump REC_LOST_HWLOST 1).rd REC_LOST_HWLOST) = _
    rw [Hw.bump, Hw.rd_wr_same _ _ _ (by decide)]
    simp [satN]
    omega
  · rw [Hw.reg_blockFault_ne _ _ _ (by decide) (by decide), Hw.bump, Hw.reg_wr_ne _ _ _ (by decide)]

/-- A hardware record that finds room is queued. -/
theorem Hw.recWard_queued {h : Hw} (haon : h.recAonMode = false) (hseq : h.nat REC_SEQ ≠ 0xFFFFFFFF)
    (hroom : h.rcd.queue.length < 32) (typ : Nat) (prot : Bool) (data : List Nat) :
    (h.recWard typ prot data).rcd.queue.length = h.rcd.queue.length + 1 := by
  simp [Hw.recWard, Hw.recArrive_queued haon hseq hroom]

/-! ## A requester without submit registers -/

/-- The reset state, but agent 0's entry in the list of submit registers holds no register. Reset lists no entry and a write
of submit registers keeps an entry's length (`subListed_reset`, `Hw.SubListed.setSub`), so the device is not meant to come
here; O52 speaks of every value of the state's type, and this is one. -/
def State.unlistedSubmit : State :=
  { State.reset with
    dev := { State.reset.dev with hw := { State.reset.dev.hw with rcd := { RecState.init with sub := [(0, [])] } } } }

/-- Two ends of one command are the same state. -/
theorem Ends.both {c : Instr} {s : State} {P Q : State → Prop} (hP : Ends c s P) (hQ : Ends c s Q) : ∃ t, P t ∧ Q t := by
  obtain ⟨t, ht, -, hPt⟩ := hP
  obtain ⟨u, hu, -, hQu⟩ := hQ
  obtain rfl : t = u := by simpa [ht] using hu
  exact ⟨t, hPt, hQu⟩

/-- A requester whose registers are not listed reads 0 in RES after a submit of a reserved type. -/
theorem recordSubmit_unlisted {who : Who} {w : Word} {s : State} (hmay : MayOperate who PG_REC REC_SUB_CTL s)
    (hgo : w.getLsbD 31 = true) (hl : s.dev.hw.subRegs who.num = []) (htyp : getBits w 0 16 < 0x8000) :
    Ends (.recordSubmit who w) s fun t => (t.dev.hw.subRegs who.num).getD 1 0 = 0 := by
  refine ends_recordSubmit hmay hgo ?_
  rw [Hw.submitGo, if_pos htyp]
  exact Hw.answerSub_res_of_nil hl w 3

theorem mayOperate_unlistedSubmit : MayOperate (.agent 0) PG_REC REC_SUB_CTL State.unlistedSubmit := by
  decide +kernel

/-- Refutes O52: the statement has no hypothesis on the requester's submit registers. Agent 0 of `State.unlistedSubmit`, whose
list is empty, submits the reserved type 0; the answer 3 finds no RES, which goes on reading 0. -/
theorem not_recordQueue : ¬ Obligations.RecordQueue := by
  rintro ⟨-, -, hreserved, -, -⟩
  obtain ⟨t, ⟨hanswer, -, -⟩, hzero⟩ :=
    (hreserved (.agent 0) 0x80000000#32 State.unlistedSubmit mayOperate_unlistedSubmit (by decide) (by decide)).both
      (recordSubmit_unlisted mayOperate_unlistedSubmit (by decide) rfl (by decide))
  exact absurd (hanswer.symm.trans hzero) (by decide)

end Sys2Proof.Machine
end

section
/-! The step, the queue and the state after reset: O1, O2, O3, O5, O7; which quadrature transition counts up: O15. -/

namespace Sys2Proof.Machine

/-! ## How every command ends -/

/-- What a command makes of the device, the queue apart. -/
theorem exec_eq_next (c : Instr) (s : State) : ∃ d, exec c s = .next { s with dev := d } := by
  cases c <;> exact ⟨_, rfl⟩

/-- Settles O3: every arm of `exec` answers the state with another device and the same queue. -/
theorem everyCommandEnds : Obligations.EveryCommandEnds := by
  intro c s
  obtain ⟨d, hd⟩ := exec_eq_next c s
  exact ⟨{ s with dev := d }, hd, rfl, trivial⟩

/-- Settles O1. -/
theorem stepRunsTheFrontCommand : Obligations.StepRunsTheFrontCommand := fun _ _ _ => rfl

/-- Settles O2. -/
theorem idleStep : Obligations.IdleStep := by
  intro s hs
  simp [step, hs]

/-- Settles O5: nothing is listed in memory at reset. -/
theorem resetInv : Obligations.ResetInv := rfl

/-! ## The state after reset -/

/-- An address that is not listed has no entry. -/
theorem lookupReg_eq_none {l : List (Nat × Word)} {a : Nat} (ha : a ∉ l.map Prod.fst) : lookupReg l a = none := by
  induction l with
  | nil => rfl
  | cons e l ih =>
    obtain ⟨b, w⟩ := e
    simp only [List.map_cons, List.mem_cons, not_or] at ha
    rw [lookupReg, if_neg (Ne.symm ha.1), ih ha.2]

/-- Settles O7: the four registers read their reset values, and a register that is not listed holds its own. -/
theorem resetState : Obligations.ResetState := by
  refine ⟨rfl, by decide +kernel, by decide +kernel, by decide +kernel, fun a ha => ?_⟩
  show (lookupReg resetRegs a).getD (regReset a) = regReset a
  rw [lookupReg_eq_none ha, Option.getD_none]

/-! ## The quadrature sequence -/

/-- Settles O15: sixteen pairs of levels, each with and without SWAPAB. -/
theorem quadratureSequence : Obligations.QuadratureSequence := by
  intro c swap a b
  unfold quadStep
  generalize c.a = ca
  generalize c.b = cb
  revert ca cb
  cases swap <;> cases a <;> cases b <;> decide

end Sys2Proof.Machine
end

section
/-! What commands do to the memories: the operations that leave every byte (O4), and the canonical form that every step keeps
(O6). -/

namespace Sys2Proof.Machine

/-! ## Operations that leave the memories alone -/

@[simp] theorem Dev.via_mem (d : Dev) (f : Hw → Hw) : (d.via f).mem = d.mem := rfl
@[simp] theorem Dev.begin_mem (d : Dev) : d.begin.mem = d.mem := rfl
@[simp] theorem Dev.settle_mem (d : Dev) : d.settle.mem = d.mem := rfl
@[simp] theorem Dev.relFail_mem (d : Dev) : d.relFail.mem = d.mem := rfl
@[simp] theorem Dev.verdict_mem (d : Dev) (typ code : Nat) : (d.verdict typ code).mem = d.mem := rfl
@[simp] theorem Dev.burnIntent_mem (d : Dev) (t : Nat) : (d.burnIntent t).mem = d.mem := rfl
@[simp] theorem Dev.flashStart_mem (d : Dev) : d.flashStart.mem = d.mem := rfl
@[simp] theorem rebuildWrite_mem (who : Who) (w : Word) (d : Dev) : (rebuildWrite who w d).mem = d.mem := rfl
@[simp] theorem orderWrite_mem (who : Who) (w : Word) (d : Dev) : (orderWrite who w d).mem = d.mem := rfl

theorem Dev.each_mem {α : Type} (l : List α) (f : Dev → α → Dev) (hf : ∀ d x, (f d x).mem = d.mem) (d : Dev) :
    (l.foldl f d).mem = d.mem := by
  induction l generalizing d with
  | nil => rfl
  | cons x l ih => rw [List.foldl_cons, ih, hf]

@[simp] theorem Dev.blockLoad_mem (d : Dev) (a n : Nat) : (d.blockLoad a n).2.mem = d.mem := by
  unfold Dev.blockLoad; split <;> rfl

@[simp] theorem Dev.skovePayload_mem (d : Dev) (k : Nat) : (d.skovePayload k).2.mem = d.mem := by
  unfold Dev.skovePayload
  dsimp only
  split
  · rfl
  · split <;> simp

@[simp] theorem skoveProduce_mem (k : Nat) (d : Dev) : (skoveProduce k d).mem = d.mem := by
  unfold skoveProduce
  dsimp only
  split <;> simp

@[simp] theorem frameEnd_mem (k : Nat) (ecc crc : Bool) (lines : List (List Nat)) (d : Dev) :
    (frameEnd k ecc crc lines d).mem = d.mem := by
  unfold frameEnd
  dsimp only
  split
  · rfl
  · split <;> rfl

@[simp] theorem Dev.tceVerdict_mem (d : Dev) (c : Nat) : (d.tceVerdict c).mem = d.mem := by
  unfold Dev.tceVerdict; dsimp only; split <;> rfl

@[simp] theorem tceAuthEnd_mem (c : Nat) (d : Dev) : (tceAuthEnd c d).mem = d.mem := by
  unfold tceAuthEnd; split <;> simp

@[simp] theorem Dev.bootPrograms_mem (l : List Word) (d : Dev) : (Dev.bootPrograms l d).mem = d.mem :=
  Dev.each_mem _ _ (by simp) d

/-- An order that leaves the memories where its effect does. -/
theorem Dev.onOrder_mem (d : Dev) (t : Nat) (f : Order → Dev → Dev) (hf : ∀ o, (f o d).mem = d.mem) :
    (d.onOrder t f).mem = d.mem := by
  unfold Dev.onOrder
  split
  · rfl
  · split
    · split
      · exact hf _
      · rfl
    · rfl

@[simp] theorem ordKeyload_mem (d : Dev) : (ordKeyload d).mem = d.mem := by
  refine Dev.onOrder_mem _ _ _ fun o => ?_
  dsimp only
  split <;> rfl

@[simp] theorem ordPair_mem (d : Dev) : (ordPair d).mem = d.mem := Dev.onOrder_mem _ _ _ fun _ => rfl

@[simp] theorem ordSvn_mem (b : Bool) (d : Dev) : (ordSvn b d).mem = d.mem := by
  refine Dev.onOrder_mem _ _ _ fun o => ?_
  dsimp only
  split
  · rfl
  · split <;> rfl

@[simp] theorem ordRevoke_mem (b : Bool) (d : Dev) : (ordRevoke b d).mem = d.mem := by
  refine Dev.onOrder_mem _ _ _ fun o => ?_
  dsimp only
  split <;> rfl

@[simp] theorem tokenVerdict_mem (d : Dev) : (tokenVerdict d).mem = d.mem := by
  unfold tokenVerdict; dsimp only; split <;> rfl

/-- An exchange that leaves the memories where its work does. -/
theorem Dev.onSkx_mem (d : Dev) (op : Nat) (f : List Byte → Dev → Dev × Nat) (hf : ∀ ik, (f ik d).1.mem = d.mem) :
    (d.onSkx op f).mem = d.mem := by
  unfold Dev.onSkx
  split
  · dsimp only
    split
    · rfl
    · exact hf _
  · rfl

@[simp] theorem skxAccept_mem (d : Dev) : (skxAccept d).mem = d.mem := by
  refine Dev.onSkx_mem _ _ _ fun ik => ?_
  dsimp only
  split <;> simp

/-! ### The flash -/

/-- The flash engine shows a result code, or works on a device that only shows one. -/
theorem Dev.flashWork_cases (d : Dev) (op : Nat) (f : Dev → Dev) :
    (∃ h, d.flashWork op f = d.via h) ∨ ∃ h, d.flashWork op f = f (d.via h) := by
  rw [Dev.flashWork]
  extract_lets h c h1 h2 h3
  split
  · split
    · exact .inr ⟨fun _ => h3, rfl⟩
    · exact .inl ⟨fun _ => h3, rfl⟩
  · exact .inl ⟨id, rfl⟩

@[simp] theorem flashStatus_mem (sr : Nat) (d : Dev) : (flashStatus sr d).mem = d.mem := by
  unfold flashStatus
  obtain ⟨h, hd⟩ | ⟨h, hd⟩ := d.flashWork_cases 5 fun d => { d with hw := { d.hw with xsp := { d.hw.xsp with sr := sr } } }
  · rw [hd]; rfl
  · rw [hd]; rfl

@[simp] theorem Dev.windowWord_mem (d : Dev) (f n : Nat) : (d.windowWord f n).mem = d.mem := by
  rw [Dev.windowWord]
  split
  · rfl
  · rfl

@[simp] theorem windowRead_mem (who : Who) (a n : Nat) (d : Dev) : (windowRead who a n d).mem = d.mem := by
  cases hw : d.hw.windowAddr a with
  | none => simp only [windowRead, hw]
  | some f =>
    simp only [windowRead, hw]
    split
    · rfl
    · split
      · rfl
      · exact Dev.windowWord_mem _ _ _

theorem Dev.windowWords_mem (l : List WindowRead) (d : Dev) :
    (l.foldl (fun d r => d.windowWord r.addr r.size) d).mem = d.mem := by
  induction l generalizing d with
  | nil => rfl
  | cons r l ih => rw [List.foldl_cons, ih, Dev.windowWord_mem]

@[simp] theorem Dev.windowServe_mem (d : Dev) : d.windowServe.mem = d.mem := by
  rw [Dev.windowServe, Dev.windowWords_mem]

/-! ### Accesses that read -/

/-- A read of the bus is of the flash window, or is answered from the registers and the memories as they stand. -/
theorem Dev.busRead_cases (d : Dev) (who : Who) (a n : Nat) :
    (∃ h, d.busRead who a n = d.via h) ∨ d.busRead who a n = windowRead who a n d := by
  rw [Dev.busRead]
  split
  · exact .inl ⟨_, rfl⟩
  · split
    · exact .inl ⟨_, rfl⟩
    · split
      · exact .inl ⟨_, rfl⟩
      · split
        · split <;> exact .inl ⟨_, rfl⟩
        · exact .inr rfl
        · split <;> exact .inl ⟨_, rfl⟩
        · exact .inl ⟨_, rfl⟩
        · exact .inl ⟨_, rfl⟩

@[simp] theorem Dev.busRead_mem (d : Dev) (who : Who) (a n : Nat) : (d.busRead who a n).mem = d.mem := by
  obtain ⟨h, hd⟩ | hd := d.busRead_cases who a n
  · rw [hd, Dev.via_mem]
  · rw [hd, windowRead_mem]

@[simp] theorem Dev.read_mem (d : Dev) (who : Who) (a n : Nat) : (d.read who a n).mem = d.mem := by
  unfold Dev.read; split <;> simp

/-! ### The host -/

theorem Dev.onHost_mem (d : Dev) (f : Dev → Dev) (hf : ∀ e, (f e).mem = e.mem) : (d.onHost f).mem = d.mem := by
  unfold Dev.onHost; dsimp only; split <;> simp [hf]

@[simp] theorem Dev.hsWord_mem (d : Dev) (a : Nat) : (d.hsWord a).2.mem = d.mem := by
  unfold Dev.hsWord; dsimp only; split <;> simp

@[simp] theorem Dev.hsWords_mem (n a : Nat) (d : Dev) : (Dev.hsWords n a d).2.mem = d.mem := by
  induction n generalizing a d with
  | zero => rfl
  | succ n ih => simp [Dev.hsWords, ih]

@[simp] theorem Dev.hsFirst_mem (d : Dev) (a : Nat) (soon : Bool) : (d.hsFirst a soon).2.2.mem = d.mem := by
  rw [Dev.hsFirst]
  split
  · rfl
  · extract_lets d1
    have h1 : d1.mem = d.mem := Dev.read_mem _ _ _ _
    split
    · exact h1
    · split <;> exact h1

@[simp] theorem Dev.hsPrefetch_mem (d : Dev) (a : Nat) : (d.hsPrefetch a).mem = d.mem := by
  unfold Dev.hsPrefetch
  dsimp only
  split
  · simp
  · split <;> simp

@[simp] theorem hostRead_mem (addr n : Nat) (inTime soon cut : Bool) (d : Dev) :
    (hostRead addr n inTime soon cut d).mem = d.mem := by
  refine Dev.onHost_mem _ _ fun e => ?_
  dsimp only
  split
  · rfl
  · split
    · rfl
    · split
      · split <;> simp
      · split
        · simp
        · split
          · simp
          · simp [apply_ite Dev.mem]

@[simp] theorem hostStatus_mem (d : Dev) : (hostStatus d).mem = d.mem := Dev.onHost_mem _ _ fun _ => rfl
@[simp] theorem hostUnknown_mem (d : Dev) : (hostUnknown d).mem = d.mem := Dev.onHost_mem _ _ fun _ => rfl

/-! ### Guards -/

@[simp] theorem Dev.whenAlive_mem (d : Dev) (f : Dev → Dev) (hf : (f d).mem = d.mem) : (Dev.whenAlive f d).mem = d.mem := by
  unfold Dev.whenAlive; split <;> simp [hf]

theorem Dev.byWriter_mem (who : Who) (a : Nat) (f : Dev → Dev) (d : Dev) (hf : (f d).mem = d.mem) :
    (Dev.byWriter who a f d).mem = d.mem := by
  unfold Dev.byWriter
  split
  · rfl
  · split
    · exact hf
    · split
      · rfl
      · split <;> simp [hf]

@[simp] theorem writeHw_mem (who : Who) (a : Nat) (f : Hw → Hw) (d : Dev) : (writeHw who a f d).mem = d.mem :=
  Dev.byWriter_mem _ _ _ _ rfl

@[simp] theorem readHw_mem (who : Who) (f : Hw → Hw) (d : Dev) : (readHw who f d).mem = d.mem := by
  unfold readHw Dev.byReader
  split
  · rfl
  · split <;> rfl

/-! ### Instructions of a core -/

@[simp] theorem Dev.tceFetch_mem (d : Dev) (c : Nat) (ecc : EccSeen) : (d.tceFetch c ecc).mem = d.mem := rfl

@[simp] theorem Dev.tceFly_mem (d : Dev) (c : Nat) (l : List Flight) : (d.tceFly c l).1.mem = d.mem := rfl

@[simp] theorem Dev.tceLoop_mem (d : Dev) (c count le : Nat) : (d.tceLoop c count le).1.mem = d.mem := by
  unfold Dev.tceLoop; dsimp only; split <;> rfl

@[simp] theorem Dev.tceChecked_mem (d : Dev) (c : Nat) (ecc : EccSeen) (v : Nat) : (d.tceChecked c ecc v).2.mem = d.mem := by
  cases ecc <;> rfl

/-- A load of a core changes nothing but the answer, and what a read register answers with. -/
theorem Dev.tceLoadAt_cases (d : Dev) (c : Nat) (ecc : EccSeen) (a n : Nat) :
    ∃ h, (d.tceLoadAt c ecc a n).2 = d.via h := by
  rw [Dev.tceLoadAt]
  split
  · cases ecc
    · exact ⟨id, rfl⟩
    · exact ⟨fun _ => _, rfl⟩
    · exact ⟨fun _ => _, rfl⟩
  · exact ⟨id, rfl⟩
  · extract_lets h back
    split <;> exact ⟨fun _ => _, rfl⟩
  · exact ⟨_, rfl⟩

@[simp] theorem Dev.tceLoadAt_mem (d : Dev) (c : Nat) (ecc : EccSeen) (a n : Nat) :
    (d.tceLoadAt c ecc a n).2.mem = d.mem := by
  obtain ⟨h, hd⟩ := d.tceLoadAt_cases c ecc a n
  rw [hd, Dev.via_mem]

@[simp] theorem Dev.tapLoad_mem (d : Dev) (c : Nat) (ecc : EccSeen) (a : Nat) : (d.tapLoad c ecc a).2.mem = d.mem := by
  unfold Dev.tapLoad; split <;> simp

@[simp] theorem Dev.tceAccess_load_mem (d : Dev) (c : Nat) (x : Core) (ecc : EccSeen) (n : Nat) {m : TceMem}
    (hm : m.st = false) : (d.tceAccess c x ecc n m).mem = d.mem := by
  simp [Dev.tceAccess, hm]

/-- What an instruction does to the memory is what its issue does. -/
theorem Dev.tceIssue_cases (d : Dev) (c : Nat) (ecc : CoreEcc) (act : TceOp → Dev → Option TceEffect) :
    (d.tceIssue c ecc act).mem = d.mem ∨
      ∃ op f, act op (d.tceFetch c ecc.fetch) = some f ∧ (d.tceIssue c ecc act).mem = f.1.mem := by
  unfold Dev.tceIssue
  split
  · exact .inl rfl
  · split
    · exact .inl rfl
    · next op _ =>
      dsimp only
      cases hact : act op (d.tceFetch c ecc.fetch) with
      | none => exact .inl rfl
      | some f =>
        refine .inr ⟨op, f, hact, ?_⟩
        obtain ⟨e, flow⟩ := f
        cases flow <;> rfl

/-- An instruction that leaves the memories where its effect does. -/
theorem Dev.tceIssue_mem (d : Dev) (c : Nat) (ecc : CoreEcc) {act : TceOp → Dev → Option TceEffect}
    (hact : ∀ op e f, act op e = some f → f.1.mem = e.mem) : (d.tceIssue c ecc act).mem = d.mem := by
  obtain h | ⟨op, f, hf, h⟩ := d.tceIssue_cases c ecc act
  · exact h
  · rw [h, hact _ _ _ hf, Dev.tceFetch_mem]

@[simp] theorem Dev.tceIllegal_mem (d : Dev) (c : Nat) (ecc : CoreEcc) : (d.tceIllegal c ecc).mem = d.mem := by
  unfold Dev.tceIllegal
  split
  · rfl
  · split
    · rfl
    · dsimp only; split <;> rfl

section Issue
variable {op : TceOp} {d : Dev} {f : TceEffect} {c : Nat}

theorem doNop_mem (h : doNop op d = some f) : f.1.mem = d.mem := by
  unfold doNop at h; split at h <;> cases h; rfl
theorem doEnd_mem {time : Nat} (h : doEnd c time op d = some f) : f.1.mem = d.mem := by
  unfold doEnd at h; split at h <;> cases h; rfl
theorem doBr_mem (h : doBr c op d = some f) : f.1.mem = d.mem := by
  unfold doBr at h; split at h <;> cases h; rfl
theorem doJal_mem (h : doJal c op d = some f) : f.1.mem = d.mem := by
  unfold doJal at h; split at h <;> cases h; rfl
theorem doJr_mem (h : doJr c op d = some f) : f.1.mem = d.mem := by
  unfold doJr at h; split at h <;> cases h; rfl
theorem doLoop_mem (h : doLoop c op d = some f) : f.1.mem = d.mem := by
  unfold doLoop at h; split at h <;> cases h; simp
theorem doLoopr_mem (h : doLoopr c op d = some f) : f.1.mem = d.mem := by
  unfold doLoopr at h; split at h <;> cases h; simp
theorem doLexit_mem (h : doLexit c op d = some f) : f.1.mem = d.mem := by
  unfold doLexit at h; split at h <;> cases h; rfl
theorem doReti_mem (h : doReti c op d = some f) : f.1.mem = d.mem := by
  unfold doReti at h
  split at h <;> cases h; rfl
theorem doSwi_mem (h : doSwi c op d = some f) : f.1.mem = d.mem := by
  unfold doSwi at h; split at h <;> cases h; rfl
theorem doAlu_mem {want : Nat} (h : doAlu want c op d = some f) : f.1.mem = d.mem := by
  unfold doAlu at h
  split at h
  · split at h <;> cases h; rfl
  · cases h
theorem doMoviData_mem (h : doMoviData c op d = some f) : f.1.mem = d.mem := by
  unfold doMoviData at h; split at h <;> cases h; rfl
theorem doMoviAddr_mem (h : doMoviAddr c op d = some f) : f.1.mem = d.mem := by
  unfold doMoviAddr at h; split at h <;> cases h; rfl
theorem doMov_mem (h : doMov c op d = some f) : f.1.mem = d.mem := by
  unfold doMov at h; split at h <;> cases h; rfl
theorem doMac_mem {want : Nat} (h : doMac want c op d = some f) : f.1.mem = d.mem := by
  unfold doMac at h
  split at h
  · split at h <;> cases h; rfl
  · cases h
theorem doRnd_mem (h : doRnd c op d = some f) : f.1.mem = d.mem := by
  unfold doRnd at h; split at h <;> cases h; rfl
theorem doLd_mem {ecc : CoreEcc} (h : doMem false c ecc op d = some f) : f.1.mem = d.mem := by
  unfold doMem at h
  split at h
  · split at h <;> cases h
    next hst => exact Dev.tceAccess_load_mem _ _ _ _ _ hst
  · cases h

end Issue

/-! ## The frame of memory -/

/-- The command ends with the same queue, in a device that lists the same bytes. -/
def KeepsMem (s : State) (o : Host.Outcome State Fault Refusal) : Prop :=
  ∃ d, o = .next { s with dev := d } ∧ d.mem = s.dev.mem

section Keeps
variable (s : State)

theorem keepsMem_doHw (f : Hw → Hw) : KeepsMem s (doHw f s) := ⟨_, rfl, rfl⟩

theorem keepsMem_doHwF (f : Hw → Hw) : KeepsMem s (doHwF f s) := ⟨_, rfl, rfl⟩

theorem keepsMem_doDev {f : Dev → Dev} (hf : (f s.dev).mem = s.dev.mem) : KeepsMem s (doDev f s) := ⟨_, rfl, hf⟩

theorem keepsMem_doDevF {f : Dev → Dev} (hf : (f s.dev.begin).mem = s.dev.begin.mem) : KeepsMem s (doDevF f s) :=
  ⟨_, rfl, hf⟩

theorem keepsMem_writeHw (who : Who) (a : Nat) (f : Hw → Hw) : KeepsMem s (doDev (writeHw who a f) s) :=
  keepsMem_doDev s (writeHw_mem _ _ _ _)

theorem keepsMem_writeHwF (who : Who) (a : Nat) (f : Hw → Hw) : KeepsMem s (doDevF (writeHw who a f) s) :=
  keepsMem_doDevF s (writeHw_mem _ _ _ _)

theorem keepsMem_readHw (who : Who) (f : Hw → Hw) : KeepsMem s (doDev (readHw who f) s) :=
  keepsMem_doDev s (readHw_mem _ _ _)

theorem keepsMem_issue (c : Nat) (ecc : CoreEcc) {act : TceOp → Dev → Option TceEffect}
    (hact : ∀ {op e f}, act op e = some f → f.1.mem = e.mem) : KeepsMem s (doDevF (·.tceIssue c ecc act) s) :=
  keepsMem_doDevF s (Dev.tceIssue_mem _ _ _ fun _ _ _ => hact)

theorem keepsMem_whenAlive {f : Dev → Dev} (hf : ∀ d, (f d).mem = d.mem) : KeepsMem s (doDev (Dev.whenAlive f) s) :=
  keepsMem_doDev s (Dev.whenAlive_mem _ _ (hf _))

end Keeps

/-- A command that stores nothing leaves the list of written bytes. -/
theorem exec_keepsMem (c : Instr) (s : State) (hst : c.stores = false) : KeepsMem s (exec c s) := by
  cases c
  case powerOnReset | supplyMonitorTrip | nresetAssert | resetRelease | warmResetRequest | keywayReset | wipeComplete |
      bootComplete | bistDone | pairHiWrite | registerWrite | currentCycleT0 | positionCycleT0 | mapPageLoaded |
      mapLearnEntry | mapRebuildPageDone | mapWritebackDone | tceProgramWrite | st | stAcc | ldStPair | ftap |
      deadboltPortDone | deadboltRelease | ethFrameReceive | ethFrameTransmit | skovesafeFrameReceive |
      skovesafeWatchdogExpiry | recordWriteDone | headerRefresh | orderProvision | orderLc | mapSeal | mapOpen |
      keyExchangeRequest | keyExchangeAnswer | keywayWrite | xspRead | xspProgram | xspErase4k | xspErase64k |
      xspCommandDone | hspWrite => exact nomatch hst
  case nop => exact keepsMem_issue s _ _ doNop_mem
  case endTask => exact keepsMem_issue s _ _ doEnd_mem
  case br => exact keepsMem_issue s _ _ doBr_mem
  case jal => exact keepsMem_issue s _ _ doJal_mem
  case jr => exact keepsMem_issue s _ _ doJr_mem
  case loop => exact keepsMem_issue s _ _ doLoop_mem
  case loopr => exact keepsMem_issue s _ _ doLoopr_mem
  case lexit => exact keepsMem_issue s _ _ doLexit_mem
  case reti => exact keepsMem_issue s _ _ doReti_mem
  case swi => exact keepsMem_issue s _ _ doSwi_mem
  case addOp | subOp | adds | subs | andOp | orOp | xorOp | andn | shl | shr | asr | cmp | negOp | absOp | minOp | maxOp |
      aluMov => exact keepsMem_issue s _ _ doAlu_mem
  case mac | macd | macs | cmac => exact keepsMem_issue s _ _ doMac_mem
  case moviData => exact keepsMem_issue s _ _ doMoviData_mem
  case moviAddr => exact keepsMem_issue s _ _ doMoviAddr_mem
  case movReg => exact keepsMem_issue s _ _ doMov_mem
  case rnd => exact keepsMem_issue s _ _ doRnd_mem
  case ld => exact keepsMem_issue s _ _ doLd_mem
  case plicClaim | dcapPop | canObjectLock | canObjectUnlock | canQueuePop | mlbPayloadRead | latchAcquire => exact keepsMem_readHw s _ _
  case pairLoRead who addr =>
    refine keepsMem_doDevF s ?_
    split
    · exact Dev.read_mem _ _ _ _
    · rfl
  case rcRead who addr size =>
    refine keepsMem_doDevF s ?_
    split
    · exact Dev.read_mem _ _ _ _
    · rfl
  case mapRebuildStart | mapRebuildCancel => exact keepsMem_doDev s (Dev.byWriter_mem _ _ _ _ (rebuildWrite_mem _ _ _))
  case tceAuthDone => exact keepsMem_whenAlive s (tceAuthEnd_mem _)
  case illegalInstruction core ecc =>
    exact keepsMem_doDevF (f := fun d => d.tceIllegal core.val ecc) s (Dev.tceIllegal_mem _ _ _)
  case visFrameEnd => exact keepsMem_whenAlive s (frameEnd_mem _ _ _ _)
  case skovesafeProduce => exact keepsMem_whenAlive s (skoveProduce_mem _)
  case orderKeyload => exact keepsMem_whenAlive s ordKeyload_mem
  case orderPair => exact keepsMem_whenAlive s ordPair_mem
  case orderSvn => exact keepsMem_whenAlive s (ordSvn_mem _)
  case orderRevoke => exact keepsMem_whenAlive s (ordRevoke_mem _)
  case tokenSubmit => exact keepsMem_whenAlive s tokenVerdict_mem
  case keyExchangeAccept => exact keepsMem_whenAlive s skxAccept_mem
  case xspRdsr => exact keepsMem_whenAlive s (flashStatus_mem _)
  case hspRead => exact keepsMem_doDevF s (hostRead_mem _ _ _ _ _ _)
  case hspStatus => exact keepsMem_doDev s (hostStatus_mem _)
  case hspUnknownInstruction => exact keepsMem_doDev s (hostUnknown_mem _)
  case sisIcClaim who complete =>
    cases complete with
    | none => exact keepsMem_doDevF s (readHw_mem _ _ _)
    | some w => exact keepsMem_writeHwF s _ _ _
  case hingeGroupFire | blkUnbolt | blkSoftReset | bistStart | slotClear | faultDone | watchdogKick | modeSet | keyHandoff |
      repair | tstCommand => exact keepsMem_writeHwF s _ _ _
  case clockMonitorTrip | xtalfail | wakeComplete | blkQuiet | hingeSwap | hingeSyncDone | bistTimeout | sinc3Result |
      quadCount | illegalWindowEnd | axisStall | taskTick | sinc2FastResult | sdInputStuck | gateDriverFault |
      brkTliftElapsed | brkTdropElapsed | brakeTestHoldEnd | doorUnlockTimeout | doorLockTimeout | contactLevelChange |
      contactBypass | sinDiscrepancy | testPulseEnd | outputReadbackFault | faultArrival | faultInFaultHandling |
      watchdogExpiry | pairWaitElapsed | pairingFrameReceive | inputSegmentReceive | outputFrameReceive | heartbeatReceive |
      snapshotReceive | syncComplete | selFbChange | selectorNoneShown => exact keepsMem_doHwF s _
  case appDividerChange | clockDomainEnable | optimeWrite | agentResetWrite | parkRequest | plicComplete | blkEnable |
      blkDisable | blkQuiesceRequest | blkQuiesceRelease | blkBolt | hingeSwapRequest | hingeCancel | blkLockWrite |
      countPreset | serialLostClear | tumblerAlign | loopReturn | mapReloadStart | mapPageReload | mapImport | prfMove |
      prfStop | prfResume | prfAbort | prfGear | prfUngear | prfPreset | prfGrarm | prfIllop | wardCapWrite | tceGo |
      tceHalt | tceSolo | tceSoftwareTrigger | tceAuthStart | tripClear | gridLossClear | brakeTestStart | brakeTestAbort |
      doorOpen | doorClose | doorHold | doorRelease | doorNudge | doorStop | doorHandover | doorTakeback | doorClear |
      doorIllop | deadboltPortWrite | canCtlWrite | canTxRequest | canTxCancel | canNegStart | canWakePatternRequest |
      ethRingIndexWrite | mdioCommand | sseBufferSwitch | mlbConfigWrite | mlbPost | mlbWithdraw | mlbTake | mlbAck |
      mlbPayloadWrite | doorbellRing | doorbellClear | doorbellMaskWrite | latchRelease | latchForceFree | recordSubmit |
      wallClockSet | recordReadTranslate | keywayClose | xspBankSwitch | stqSetRequest | stqClearRequest => exact keepsMem_writeHw s _ _ _
  case supplyGood | nresetRelease | refloss | optimeStep | parkEntryComplete | parkEntryTimeout | wakeRecognised |
      parkedWatchMove | parkedWatchTimer | indexEvent | serialFrameEnd | serialNegotiationDone | dinEdge | emuStep |
      sourceFrozen | axisStandstill | stepIssue | tceInterruptEntry | brkTmagElapsed | brkTpreElapsed | brkTstartElapsed |
      brkTpickElapsed | brkTsetElapsed | brkTrampElapsed | brakeTestRampEnd | doorDwellElapsed | doorNudgeTimeElapsed |
      doorRetryElapsed | relevelRequest | visStale | safetyInputChange | testPulse | brakeLagElapsed | standstillReached |
      parkIdleElapsed | tokokExpiry | serviceAckHeld | laneLock | leaseExpiry | keyClaim | laneLoss | selfltClear |
      canFrameReceive | canLockTimeout | canTxComplete | canBusError | canBusoffRecovery | canNegTimeout |
      canCapabilityAnswer | canReferenceRequest | canTtFire | canRefLost | canVirtualReference | canWakePatternSent |
      ethLinkChange | phyPoll | phyInterrupt | ethRetrainDone | mdioDone | ptpSyncSend | ptpSyncReceive | ptpPdelay |
      ptpSyncLost | skovesafePathTimeout | mapCommandDone | keywayChallenge | keywayResponse | keywaySessionExpiry |
      xspWindowTimeout | rollingStepStart | tapBypass | tapIdcode | tapSamplePreload | tapExtest | tapClamp | tapHighz |
      carrierValley | canArbitrationLost | csiLaneSyncLoss | tapReset | chopperMinonElapsed => exact keepsMem_doHw s _

/-- Settles O4. -/
theorem memoryFrame : Obligations.MemoryFrame := by
  intro c s t hst h a
  obtain ⟨d, hd, hm⟩ := exec_keepsMem c s hst
  rw [hd] at h
  cases h
  rw [hm]

end Sys2Proof.Machine
end

section
/-! Every step keeps the memories canonical (O6): the operations that store, each with what it keeps. -/

namespace Sys2Proof.Machine

/-- The device's memories are canonical (R28, R34). -/
def Dev.Wf (d : Dev) : Prop := memWf d.mem = true

variable {d : Dev}

theorem Dev.wf_mk {m : List Host.Cell} (hm : memWf m = true) (h : Hw) : Dev.Wf { hw := h, mem := m } := hm

theorem Dev.Wf.mem (hd : d.Wf) : memWf d.mem = true := hd

theorem Dev.Wf.of_mem {e : Dev} (hd : d.Wf) (h : e.mem = d.mem) : e.Wf := by
  unfold Dev.Wf; rw [h]; exact hd

/-- What changes the state beside the memories keeps them. -/
theorem Dev.Wf.hw (hd : d.Wf) (h : Hw) : Dev.Wf { hw := h, mem := d.mem } := hd

theorem Dev.Wf.via (hd : d.Wf) (f : Hw → Hw) : (d.via f).Wf := hd

theorem Dev.Wf.writeBytes (hd : d.Wf) (h : Hw) (a : Nat) (b : List Byte) :
    Dev.Wf { hw := h, mem := memWriteBytes d.mem a b } := memWf_memWriteBytes b hd a

theorem Dev.Wf.clear (hd : d.Wf) (h : Hw) (lo hi : Nat) : Dev.Wf { hw := h, mem := memClear d.mem lo hi } :=
  memWf_memClear hd lo hi

theorem Dev.wf_foldl {α : Type} {f : Dev → α → Dev} (hf : ∀ {d} x, d.Wf → (f d x).Wf) (l : List α) (hd : d.Wf) :
    (l.foldl f d).Wf := by
  induction l generalizing d with
  | nil => exact hd
  | cons x l ih => exact ih (hf x hd)

theorem Dev.wf_ite {p : Prop} [Decidable p] {e : Dev} (hd : d.Wf) (he : e.Wf) : (if p then d else e).Wf := by
  split
  · exact hd
  · exact he

/-! ## Stores -/

theorem Dev.store_wf (hd : d.Wf) (a : Nat) (b : List Byte) : (d.store a b).Wf := hd.writeBytes _ a b

theorem Dev.blockStore_wf (hd : d.Wf) (a : Nat) (b : List Byte) : (d.blockStore a b).Wf := by
  unfold Dev.blockStore
  split
  · exact hd
  · split
    · exact hd.hw _
    · exact Dev.store_wf hd _ _

theorem Dev.programStore_wf (hd : d.Wf) (c a : Nat) (b : List Byte) : (d.programStore c a b).Wf := by
  unfold Dev.programStore
  split
  · exact hd.writeBytes _ _ _
  · exact hd.hw _

theorem Dev.secStore_wf (hd : d.Wf) (a : Nat) (b : List Byte) : (d.secStore a b).Wf := by
  unfold Dev.secStore
  split
  · exact hd.writeBytes _ _ _
  · exact hd

theorem Dev.putWord_wf (hd : d.Wf) (a st n : Nat) : (d.putWord a st n).Wf := hd.writeBytes _ _ _

/-! ## The map -/

theorem mapLoaded_wf (hd : d.Wf) : (mapLoaded d).Wf := by
  unfold mapLoaded
  extract_lets h
  split
  · exact hd
  · extract_lets _ _ best
    refine Dev.wf_mk ?_ _
    clear_value best
    split
    · exact memWf_memWriteBytes _ hd _
    · exact hd

theorem learnEntry_wf (hd : d.Wf) : (learnEntry d).Wf := by
  unfold learnEntry
  extract_lets h
  split
  · exact hd
  · extract_lets
    split
    · exact hd
    · split
      · exact hd.hw _
      · split
        · exact hd.hw _
        · exact Dev.wf_mk (memWf_memSetNat (memWf_memSetNat (memWf_memSetNat hd _ _ _) _ _ _) _ _ _) _

theorem rebuildDone_wf (hd : d.Wf) : (rebuildDone d).Wf := by
  unfold rebuildDone
  extract_lets h
  split
  · exact hd
  · split
    · exact hd.hw _
    · split
      · exact hd
      · split
        · exact hd.hw _
        · exact hd.writeBytes _ _ _

theorem writebackDone_wf (hd : d.Wf) : (writebackDone d).Wf := by
  unfold writebackDone
  split
  · exact hd
  · exact hd.writeBytes _ _ _

/-! ## The network -/

theorem ethReceive_wf (hd : d.Wf) (c : Nat) (f : EthFrame) : (ethReceive c f d).Wf := by
  unfold ethReceive
  extract_lets h len i a flags h1 bytes buf d1 d2
  split
  · exact hd
  · split
    · exact hd.hw _
    · split
      · exact hd.hw _
      · exact (Dev.blockStore_wf (Dev.blockStore_wf hd _ _) _ _).hw _

theorem Dev.apcDone_wf (hd : d.Wf) (c i : Nat) (err : Bool) : (d.apcDone c i err).Wf :=
  (Dev.blockStore_wf hd _ _).hw _

theorem ethTransmit_wf (hd : d.Wf) (c t : Nat) : (ethTransmit c t d).Wf := by
  unfold ethTransmit
  split
  · exact hd
  · split
    · split
      · exact (Dev.apcDone_wf hd _ _ _).hw _
      · exact hd
    · split
      · exact hd
      · next own _ =>
        cases own with
        | some k => exact hd.hw _
        | none =>
          cases d.apcNext c with
          | none => exact hd.hw _
          | some x => exact (Dev.apcDone_wf hd _ _ _).hw _

theorem Dev.gateT0_wf (hd : d.Wf) : d.gateT0.Wf := by
  refine Dev.wf_foldl (fun {e} c he => ?_) _ hd
  split
  · exact he
  · extract_lets sp fits p keep h1 d1 d2 n gl
    have h1 : d1.Wf := he.hw _
    have h2 : d2.Wf := by
      cases hn : d1.apcNext c with
      | none => simp only [d2, hn]; exact h1
      | some x =>
        simp only [d2, hn]
        exact Dev.wf_ite h1 ((Dev.apcDone_wf h1 _ _ _).hw _)
    exact h2.hw _

theorem Dev.deliver_wf (hd : d.Wf) (k : Nat) (p : List Byte) (t : Nat) : (d.deliver k p t).Wf := by
  unfold Dev.deliver
  extract_lets h kind
  split
  · exact hd.hw _
  · split
    · exact hd.hw _
    · exact Dev.blockStore_wf hd _ _

theorem skoveReceive_wf (hd : d.Wf) (path : Nat) (f : SkoveFrame) (now : Nat) : (skoveReceive path f now d).Wf := by
  unfold skoveReceive
  extract_lets h pay
  split
  · split
    · exact hd
    · exact hd.hw _
  · extract_lets h' d'
    have hd' : d'.Wf := hd.hw _
    split
    · exact hd'.hw _
    · split
      · exact hd'.hw _
      · split
        · exact hd'.hw _
        · exact hd'.hw _
        · split
          · exact hd'.hw _
          · extract_lets h1 h2 h3 h4
            split
            · exact hd'.hw _
            · exact Dev.deliver_wf (hd'.hw _) _ _ _

theorem skoveExpire_wf (hd : d.Wf) (k : Nat) : (skoveExpire k d).Wf := by
  unfold skoveExpire
  extract_lets h x h1
  split
  · exact hd
  · split
    · exact Dev.blockStore_wf ((hd.hw _).of_mem (Dev.blockLoad_mem _ _ _)) _ _
    · exact hd.hw _

/-! ## The redundant pair -/

theorem Dev.replay_wf (hd : d.Wf) (r : PairRecord) : (d.replay r).Wf := by
  unfold Dev.replay
  cases r with
  | regs t i ws =>
    dsimp only
    split
    · exact hd.hw _
    · split
      · exact hd.hw _
      · exact hd.hw _
  | captures l => exact hd.hw _
  | car p v t ok => exact hd.hw _
  | skove c q p t => exact Dev.deliver_wf hd _ _ _
  | can c j f => exact hd.hw _
  | prf n op seq who tgt => exact hd.hw _
  | door n op seq who => exact hd.hw _
  | calls m s c w => exact hd.hw _

theorem Dev.replays_wf (hd : d.Wf) (l : List PairRecord) : (l.foldl Dev.replay d).Wf :=
  Dev.wf_foldl (fun r he => Dev.replay_wf he r) l hd

theorem memWf_foldl_writeBytes {α : Type} (at' : α → Nat) (b : α → List Byte) (l : List α) {m : List Host.Cell}
    (hm : memWf m = true) : memWf (l.foldl (fun m r => memWriteBytes m (at' r) (b r)) m) = true := by
  induction l generalizing m with
  | nil => exact hm
  | cons r l ih => exact ih (memWf_memWriteBytes _ hm _)

theorem Dev.loadSeed_wf (hd : d.Wf) : d.loadSeed.Wf := by
  unfold Dev.loadSeed
  split
  · exact hd
  · exact Dev.wf_mk (memWf_foldl_writeBytes _ _ _ hd) _

theorem Dev.rdnLatch_wf (hd : d.Wf) : d.rdnLatch.Wf := by
  have hs := Dev.loadSeed_wf hd
  unfold Dev.rdnLatch
  extract_lets
  split
  · exact hd.hw _
  · split
    · exact hs.hw _
    · extract_lets
      split
      · exact Dev.replays_wf (hs.hw _) _
      · exact hs.hw _

theorem Dev.rdnCurrent_wf (hd : d.Wf) (j : Nat) : (d.rdnCurrent j).Wf := by
  unfold Dev.rdnCurrent
  extract_lets h d1
  have h1 : d1.Wf := by
    unfold d1
    split
    · exact Dev.wf_ite (Dev.replays_wf hd _) hd
    · exact hd
  exact h1.hw _

theorem Dev.rdnT0_mem (d : Dev) : d.rdnT0.mem = d.mem := by
  unfold Dev.rdnT0
  extract_lets h idx ages h1 h2 snap
  split <;> rfl

/-! ## The recorder -/

theorem headerPut_wf (hd : d.Wf) (toA : Bool) : (headerPut toA d).Wf := hd.writeBytes _ _ _

theorem headerWrite_wf (hd : d.Wf) : (headerWrite d).Wf := headerPut_wf hd _

theorem recAdvance_wf (hd : d.Wf) (r : Record) (q : List Record) : (recAdvance r q d).Wf := headerWrite_wf (hd.hw _)

theorem spareTry_wf (ring : Nat) (l : List Bool) (e : Nat) {m : List Host.Cell} (hm : memWf m = true) :
    memWf (spareTry ring l e m).1 = true := by
  induction l generalizing e m with
  | nil =>
    unfold spareTry
    split
    · exact hm
    · exact memWf_memSetNat hm _ _ _
  | cons ok l ih =>
    unfold spareTry
    split
    · exact hm
    · split
      · exact memWf_memSetNat hm _ _ _
      · exact ih _ (memWf_memSetNat hm _ _ _)

theorem recordWritten_wf (hd : d.Wf) (answered slotOk : Bool) (spares : List Bool) :
    (recordWritten answered slotOk spares d).Wf := by
  unfold recordWritten
  extract_lets h
  split
  · exact hd
  · split
    · exact hd
    · split
      · split
        · exact hd.hw _
        · exact hd.hw _
      · extract_lets ring slot
        split
        · exact recAdvance_wf (hd.writeBytes _ _ _) _ _
        · have hs := spareTry_wf ring spares h.rcd.spNext hd
          split
          · next m e sp heq =>
            rw [heq] at hs
            exact (recAdvance_wf (Dev.wf_mk (memWf_memWriteBytes _ hs _) _) _ _).hw _
          · next m e heq =>
            rw [heq] at hs
            exact Dev.wf_mk hs _

theorem headerRefreshed_wf (hd : d.Wf) : (headerRefreshed d).Wf := Dev.wf_ite hd (headerWrite_wf hd)

theorem slotEnds_wf (hd : d.Wf) : (slotEnds d).Wf := by
  unfold slotEnds
  extract_lets h
  split
  · exact hd
  · split
    · exact hd
    · exact hd.writeBytes _ _ _

theorem recFlush_wf (hd : d.Wf) (por : Bool) : (recFlush por d).Wf := by
  unfold recFlush
  extract_lets d1
  have h1 : d1.Wf :=
    Dev.wf_ite (slotEnds_wf hd) (Dev.wf_ite hd (recordWritten_wf hd _ _ _))
  exact Dev.wf_ite h1 (h1.hw _)

theorem recRecover_mem (p : Bool) (k : Nat) (d : Dev) : (recRecover p k d).mem = d.mem := by
  induction k generalizing d with
  | zero => rfl
  | succ k ih =>
    unfold recRecover
    extract_lets h hd a sq last h1
    split
    · exact ih _
    · rfl

theorem writeBack_wf (hd : d.Wf) (r : Record) : (writeBack d r).Wf := recordWritten_wf (hd.hw _) _ _ _

theorem Dev.recBack_wf (hd : d.Wf) : d.recBack.Wf :=
  (Dev.wf_foldl (fun r he => writeBack_wf he r) _ (hd.hw _)).hw _

theorem recLoad_wf (hd : d.Wf) (answers : Bool) (v : List Nat) : (recLoad answers v d).Wf := by
  unfold recLoad
  split
  · exact hd
  · extract_lets h0
    split
    · exact hd.hw _
    · extract_lets d1 d2
      have h1 : d1.Wf := hd.of_mem (by rw [recRecover_mem, recRecover_mem])
      exact (Dev.recBack_wf (h1.hw _)).hw _

/-! ## Resets -/

theorem Dev.reset_wf (hd : d.Wf) (por warm : Bool) (cause : Field) : (d.reset por warm cause).Wf :=
  (recFlush_wf hd por).hw _

theorem Dev.coldReset_wf (hd : d.Wf) (cause : Field) : (d.coldReset cause).Wf := Dev.reset_wf hd _ _ _

theorem powerOn_wf (hd : d.Wf) : (powerOn d).Wf := (Dev.reset_wf hd _ _ _).hw _

theorem supplyTrip_wf (hd : d.Wf) (m : Nat) : (supplyTrip m d).Wf := by
  unfold supplyTrip
  extract_lets blk d0 _ _ d1 d2
  have h1 : d1.Wf := (Dev.wf_ite (slotEnds_wf hd) hd).hw _
  have h2 : d2.Wf := Dev.wf_ite h1 (Dev.coldReset_wf h1 _)
  exact h2.hw _

theorem nresetLow_wf (hd : d.Wf) : (nresetLow d).Wf := (Dev.wf_ite hd (Dev.coldReset_wf hd _)).hw _

theorem resetStart_wf (hd : d.Wf) (role : Nat) (unitB tcmOk : Bool) : (resetStart role unitB tcmOk d).Wf := by
  unfold resetStart
  extract_lets h h1 h2 h3
  split
  · cases tcmOk
    · exact hd.hw _
    · exact hd.clear _ _ _
  · exact hd

theorem warmReset_wf (hd : d.Wf) (who : Who) (w : Word) : (warmReset who w d).Wf := by
  unfold warmReset
  extract_lets h
  split
  · exact hd.hw _
  · split
    · exact hd.hw _
    · split
      · exact hd.hw _
      · split
        · exact hd.hw _
        · exact Dev.reset_wf hd _ _ _

theorem memWf_foldl_clear (l : List (Nat × Nat)) {m : List Host.Cell} (hm : memWf m = true) :
    memWf (l.foldl (fun m r => memClear m r.1 r.2) m) = true := by
  induction l generalizing m with
  | nil => exact hm
  | cons r l ih => exact ih (memWf_memClear hm _ _)

theorem wipeDone_wf (hd : d.Wf) (failed : Nat) : (wipeDone failed d).Wf := by
  unfold wipeDone
  extract_lets
  split
  · have h1 (l : List (Nat × Nat)) (h2 : Hw) : Dev.Wf { hw := h2, mem := l.foldl (fun m r => memClear m r.1 r.2) d.mem } :=
      Dev.wf_mk (memWf_foldl_clear _ hd) _
    split
    · exact (recLoad_wf (h1 _ _) _ _).hw _
    · exact h1 _ _
  · exact hd

/-! ## Security -/

/-- An order keeps the memories where its effect does. -/
theorem Dev.onOrder_wf (hd : d.Wf) (t : Nat) {f : Order → Dev → Dev} (hf : ∀ o, (f o d).Wf) : (d.onOrder t f).Wf := by
  unfold Dev.onOrder
  split
  · exact hd
  · split
    · split
      · exact hf _
      · exact hd
    · exact hd

theorem ordProvision_wf (hd : d.Wf) : (ordProvision d).Wf :=
  Dev.onOrder_wf hd 1 fun _ => Dev.coldReset_wf ((hd.of_mem (d.verdict_mem _ _)).hw _) _

theorem Dev.lcWork_wf (hd : d.Wf) (t : Nat) : (d.lcWork t).Wf := by
  unfold Dev.lcWork
  split
  · exact hd.hw _
  · split
    · exact hd.writeBytes _ _ _
    · split
      · exact Dev.wf_mk (memWf_memWriteBytes _ (memWf_memClear hd _ _) _) _
      · exact hd

theorem Dev.lcFinish_wf (hd : d.Wf) (t : Nat) : (d.lcFinish t).Wf := Dev.coldReset_wf (hd.hw _) _

theorem ordLc_wf (hd : d.Wf) (burn : LcBurn) : (ordLc burn d).Wf := by
  refine Dev.onOrder_wf hd 2 fun o => ?_
  have hw (code : Nat) : ((d.verdict 2 code).burnIntent o.arg).Wf := hd
  cases burn with
  | intentFails => exact hd.hw _
  | cutShort => exact hw _
  | doneFails => exact (Dev.lcWork_wf (hw _) _).hw _
  | complete => exact Dev.lcFinish_wf (Dev.lcWork_wf (hw _) _) _

theorem sealPage_wf (hd : d.Wf) : (sealPage d).Wf := by
  unfold sealPage
  extract_lets h
  split
  · exact hd
  · split
    · exact hd.hw _
    · exact Dev.secStore_wf (Dev.secStore_wf (((hd.hw _).of_mem (Dev.blockLoad_mem _ _ _)).hw _) _ _) _ _

theorem openSlot_wf (hd : d.Wf) : (openSlot d).Wf := by
  have hb (a n : Nat) : (d.blockLoad a n).2.Wf := hd.of_mem (Dev.blockLoad_mem _ _ _)
  unfold openSlot
  split
  · exact hd
  · split
    · exact hd.hw _
    · dsimp only
      split
      · exact (hb _ _).hw _
      · split
        · exact (hb _ _).hw _
        · split
          · exact ((hb _ _).of_mem (Dev.blockLoad_mem _ _ _)).hw _
          · exact Dev.secStore_wf (((hb _ _).of_mem (Dev.blockLoad_mem _ _ _)).hw _) _ _

/-- An exchange keeps the memories where its work does. -/
theorem Dev.onSkx_wf (hd : d.Wf) (op : Nat) {f : List Byte → Dev → Dev × Nat} (hf : ∀ ik, (f ik d).1.Wf) :
    (d.onSkx op f).Wf := by
  unfold Dev.onSkx
  split
  · dsimp only
    split
    · exact hd.hw _
    · exact (hf _).hw _
  · exact hd

theorem skxRequest_wf (hd : d.Wf) : (skxRequest d).Wf := Dev.onSkx_wf hd 1 fun _ => Dev.secStore_wf (hd.hw _) _ _

theorem skxAnswer_wf (hd : d.Wf) : (skxAnswer d).Wf :=
  Dev.onSkx_wf hd 2 fun _ => Dev.secStore_wf (hd.of_mem (Dev.blockLoad_mem _ _ _)) _ _

theorem kwReset_wf (hd : d.Wf) : (kwReset d).Wf := Dev.wf_ite (Dev.coldReset_wf hd _) hd

/-! ## Self-tests -/

theorem Dev.memZero_wf (hd : d.Wf) (p : Nat) : (d.memZero p).Wf := by
  unfold Dev.memZero
  extract_lets h
  split
  · exact hd.clear _ _ _
  · split
    · exact hd.hw _
    · split
      · exact hd.hw _
      · split
        · exact hd.hw _
        · split
          · exact hd.hw _
          · split
            · exact hd.hw _
            · split
              · exact hd.hw _
              · exact hd

theorem Dev.patternLeaves_wf (hd : d.Wf) (p pat : Nat) : (d.patternLeaves p pat).Wf := by
  unfold Dev.patternLeaves
  split
  · exact Dev.memZero_wf hd p
  · split
    · split
      · exact hd.hw _
      · exact hd.hw _
    · exact hd

theorem bistEnd_wf (hd : d.Wf) (p : Nat) (pass ecc : Bool) (us : Nat) : (bistEnd p pass ecc us d).Wf := by
  unfold bistEnd
  split
  · exact hd
  · exact (Dev.patternLeaves_wf hd _ _).hw _

/-! ## The deadbolt -/

theorem dbPortDone_wf (hd : d.Wf) (okA okB : Bool) : (dbPortDone okA okB d).Wf := by
  unfold dbPortDone
  extract_lets h can b a bb m1 m2 h1 h2
  split
  · exact hd
  · have h1 : memWf m1 = true := by
      unfold m1
      split
      · exact memWf_memWriteBytes _ hd _
      · exact hd
    refine Dev.wf_mk ?_ _
    unfold m2
    split
    · exact memWf_memWriteBytes _ h1 _
    · exact h1

theorem Dev.releaseSteps_wf (hd : d.Wf) (nonceOk aOk bOk : Bool) : (d.releaseSteps nonceOk aOk bOk).Wf := by
  unfold Dev.releaseSteps
  extract_lets h n can d1 d2 d3 d4
  have h2 : d2.Wf := (Dev.putWord_wf (Dev.putWord_wf hd _ _ _) _ _ _).hw _
  have h4 : d4.Wf := (Dev.putWord_wf h2 _ _ _).hw _
  split
  · exact hd.of_mem d.relFail_mem
  · split
    · exact h2.of_mem d2.relFail_mem
    · split
      · exact h4.of_mem d4.relFail_mem
      · exact (recFlush_wf ((Dev.putWord_wf h4 _ _ _).hw _) _).hw _

theorem boltRelease_wf (hd : d.Wf) (who : Who) (w : Word) (nonceOk aOk bOk : Bool) :
    (boltRelease who w nonceOk aOk bOk d).Wf := by
  unfold boltRelease
  extract_lets h
  split
  · exact hd.hw _
  · split
    · exact Dev.releaseSteps_wf (hd.hw _) _ _ _
    · exact hd.hw _

/-! ## Boot -/

theorem Dev.loadSegs_wf (hd : d.Wf) (s : Nat) (l : List ImageSeg) : (d.loadSegs s l).2.Wf := by
  induction l generalizing d with
  | nil => exact hd
  | cons g l ih =>
    unfold Dev.loadSegs
    extract_lets r
    split
    · exact hd
    · exact ih (hd.writeBytes _ _ _)

theorem Dev.trySlot_wf (hd : d.Wf) (s : Nat) : (d.trySlot s).2.Wf := by
  unfold Dev.trySlot
  extract_lets m c
  split
  · exact hd
  · exact Dev.loadSegs_wf hd _ _

theorem Dev.takeImage_mem (d : Dev) (s : Nat) (fallback : Bool) : (d.takeImage s fallback).2.mem = d.mem := by
  unfold Dev.takeImage
  extract_lets m role h
  split <;> rfl

theorem Dev.images_wf (hd : d.Wf) : d.images.2.Wf := by
  unfold Dev.images
  split
  · exact hd.hw _
  · extract_lets s r d1 r1
    split
    · exact (Dev.trySlot_wf hd _).of_mem (Dev.takeImage_mem _ _ _)
    · split
      · exact (Dev.trySlot_wf (hd.hw _) _).of_mem (Dev.takeImage_mem _ _ _)
      · exact hd.hw _

theorem Dev.bootPower_mem (d : Dev) : d.bootPower.mem = d.mem := by
  unfold Dev.bootPower
  split
  · rfl
  · split <;> rfl

theorem Dev.bootCount_wf (hd : d.Wf) : d.bootCount.Wf := by
  unfold Dev.bootCount
  split
  · exact headerPut_wf (headerPut_wf (hd.hw _) _) _
  · exact hd

theorem Dev.bootBolt_wf (hd : d.Wf) (mramOk : Bool) : (d.bootBolt mramOk).1.Wf := by
  unfold Dev.bootBolt
  extract_lets h m a b n h1 mirror cause
  split
  · exact hd.hw _
  · split
    · exact Dev.putWord_wf (Dev.putWord_wf (hd.hw _) _ _ _) _ _ _
    · split
      · split
        · exact Dev.putWord_wf (Dev.putWord_wf (hd.hw _) _ _ _) _ _ _
        · exact hd.hw _
      · exact hd.hw _

theorem Dev.bootSteps_wf (hd : d.Wf) (f : BootFacts) : (d.bootSteps f).Wf := by
  unfold Dev.bootSteps
  extract_lets h lc role held r good d1 progs d2 b
  have hr : r.2.Wf := by
    unfold r
    split
    · exact hd
    · exact Dev.images_wf hd
  have h1 : d1.Wf := Dev.wf_ite (hr.of_mem (Dev.bootPrograms_mem _ _)) hr
  have h2 : d2.Wf :=
    Dev.bootCount_wf (recLoad_wf (Dev.wf_ite (h1.of_mem (Dev.bootPower_mem _)) h1) _ _)
  exact (Dev.bootBolt_wf h2 _).hw _

theorem bootComplete_wf (hd : d.Wf) (f : BootFacts) : (bootComplete f d).Wf := by
  unfold bootComplete
  extract_lets h d1
  have h1 : d1.Wf := hd.hw _
  split
  · exact hd
  · split
    · extract_lets d2
      have h2 : d2.Wf := Dev.lcWork_wf h1 _
      split
      · exact Dev.lcFinish_wf h2 _
      · exact Dev.bootSteps_wf (h2.hw _) f
    · exact Dev.bootSteps_wf h1 f

/-! ## The flash -/

/-- A command of the flash keeps the memories where its work does. -/
theorem Dev.flashWork_wf (hd : d.Wf) (op : Nat) {f : Dev → Dev} (hf : ∀ {e : Dev}, e.Wf → (f e).Wf) :
    (d.flashWork op f).Wf := by
  obtain ⟨h, he⟩ | ⟨h, he⟩ := d.flashWork_cases op f
  · rw [he]; exact hd.via h
  · rw [he]; exact hf (hd.via h)

theorem flashRead_wf (hd : d.Wf) : (flashRead d).Wf := Dev.flashWork_wf hd 1 fun he => Dev.store_wf he _ _

theorem flashProgram_wf (hd : d.Wf) : (flashProgram d).Wf :=
  Dev.flashWork_wf hd 2 fun {e} he => (he.writeBytes e.hw _ _).of_mem (Dev.flashStart_mem _)

theorem Dev.flashErase_wf (hd : d.Wf) (n : Nat) : (d.flashErase n).Wf :=
  (hd.clear d.hw _ _).of_mem (Dev.flashStart_mem _)

theorem Dev.flashSpoil_wf (hd : d.Wf) (op : Nat) : (d.flashSpoil op).Wf := by
  unfold Dev.flashSpoil
  split
  · exact hd.writeBytes _ _ _
  · exact hd

theorem flashDone_wf (hd : d.Wf) (how : FlashEnd) : (flashDone how d).Wf := by
  unfold flashDone
  extract_lets h refused op flashed c d1 h1 h2
  split
  · exact hd
  · have h1 : d1.Wf := Dev.wf_ite (Dev.flashSpoil_wf hd _) hd
    exact (h1.hw _).of_mem (Dev.windowServe_mem _)

/-! ## Accesses that write -/

/-- A write that acts keeps the memories, if the register is one. -/
def ActionKeepsWf (o : Option (Dev → Dev)) : Prop := ∀ f, o = some f → ∀ {d : Dev}, d.Wf → (f d).Wf

theorem actionKeepsWf_none : ActionKeepsWf none := nofun

theorem actionKeepsWf_some {f : Dev → Dev} (hf : ∀ {d : Dev}, d.Wf → (f d).Wf) : ActionKeepsWf (some f) := by
  rintro _ ⟨⟩ d hd
  exact hf hd

theorem actionKeepsWf_via (f : Hw → Hw) : ActionKeepsWf (some fun d : Dev => d.via f) :=
  actionKeepsWf_some fun hd => hd.via f

theorem actionKeepsWf_ite {p : Prop} [Decidable p] {a b : Option (Dev → Dev)} (ha : ActionKeepsWf a)
    (hb : ActionKeepsWf b) : ActionKeepsWf (if p then a else b) := by
  split
  · exact ha
  · exact hb

theorem writeSystem_keepsWf (who : Who) (p : Nat) (r : RegRow) (i j : Nat) (w : Word) :
    ActionKeepsWf (writeSystem who p r i j w) := by
  unfold writeSystem
  extract_lets hw
  have hv (f : Hw → Hw) : ActionKeepsWf (hw f) := actionKeepsWf_via f
  have hreset : ActionKeepsWf (some (warmReset who w)) := actionKeepsWf_some fun hd => warmReset_wf hd _ _
  have horder : ActionKeepsWf (some (orderWrite who w)) := actionKeepsWf_some fun hd => hd.of_mem (orderWrite_mem _ _ _)
  have hbolt : ActionKeepsWf (some (boltRelease who w true true true)) :=
    actionKeepsWf_some fun hd => boltRelease_wf hd _ _ _ _ _
  repeat' refine actionKeepsWf_ite ?_ ?_
  all_goals simp only [hv, hreset, horder, hbolt, actionKeepsWf_none]

theorem writeMotion_keepsWf (who : Who) (p : Nat) (r : RegRow) (i j : Nat) (w : Word) :
    ActionKeepsWf (writeMotion who p r i j w) := by
  unfold writeMotion
  extract_lets hw
  have hv (f : Hw → Hw) : ActionKeepsWf (hw f) := actionKeepsWf_via f
  have hrebuild : ActionKeepsWf (some (rebuildWrite who w)) :=
    actionKeepsWf_some fun hd => hd.of_mem (rebuildWrite_mem _ _ _)
  repeat' refine actionKeepsWf_ite ?_ ?_
  all_goals simp only [hv, hrebuild, actionKeepsWf_none]

theorem writeNet_keepsWf (who : Who) (p : Nat) (r : RegRow) (i j : Nat) (w : Word) :
    ActionKeepsWf (writeNet who p r i j w) := by
  unfold writeNet
  extract_lets hw
  have hv (f : Hw → Hw) : ActionKeepsWf (hw f) := actionKeepsWf_via f
  repeat' refine actionKeepsWf_ite ?_ ?_
  all_goals simp only [hv, actionKeepsWf_none]

theorem Dev.writeActive_wf (hd : d.Wf) (who : Who) (p o : Nat) (r : RegRow) (w : Word) :
    (d.writeActive who p o r w).Wf := by
  unfold Dev.writeActive
  extract_lets r' a
  split
  · next f hf =>
    have hk : ActionKeepsWf (writeAction who p r' (r'.copy o) (r'.word o) w) :=
      actionKeepsWf_ite (writeSystem_keepsWf _ _ _ _ _ _)
        (actionKeepsWf_ite (writeMotion_keepsWf _ _ _ _ _ _) (writeNet_keepsWf _ _ _ _ _ _))
    exact hk f hf hd
  · exact hd.via _

theorem Dev.writePage_wf (hd : d.Wf) (who : Who) (a : Nat) (w : Word) : (d.writePage who a w).Wf := by
  unfold Dev.writePage
  extract_lets h p o undef
  split
  · exact hd.via _
  · split
    · exact hd.via _
    · split
      · exact hd.via _
      · split
        · exact hd.via _
        · split
          · split
            · exact hd.via _
            · exact Dev.wf_ite (hd.via _) (Dev.writeActive_wf hd _ _ _ _ _)
          · split
            · exact hd.via _
            · split
              · exact hd.via _
              · exact Dev.wf_ite (hd.via _) (hd.via _)

theorem Dev.busWrite_wf (hd : d.Wf) (who : Who) (a n v : Nat) : (d.busWrite who a n v).Wf := by
  have hs (b : List Byte) : ((d.via Hw.ack).store a b).Wf := Dev.store_wf (hd.via _) a b
  unfold Dev.busWrite
  extract_lets h bs
  split
  · exact hd.via _
  · split
    · exact hd.via _
    · split
      · exact hd.via _
      · split
        · exact Dev.wf_ite (hs _) (hd.via _)
        · exact hs _
        · exact hs _
        · exact hs _
        · exact Dev.programStore_wf hd _ _ _
        · exact Dev.wf_ite (Dev.writePage_wf hd _ _ _) (hd.via _)
        · exact hd.via _
        · exact Dev.wf_ite (hd.via _) (hs _)
        · exact hd.via _
        · exact hd.via _
        · exact hd.via _

theorem Dev.write_wf (hd : d.Wf) (who : Who) (a n v : Nat) : (d.write who a n v).Wf := by
  unfold Dev.write
  split
  · exact Dev.busWrite_wf hd _ _ _ _
  · exact Dev.wf_ite hd (Dev.wf_ite (Dev.busWrite_wf hd _ _ _ _) (hd.via _))

theorem Dev.wipeServe_wf (hd : d.Wf) : d.wipeServe.Wf := by
  unfold Dev.wipeServe
  refine Dev.wf_ite hd (Dev.wf_foldl (fun {e} x he => ?_) _ (hd.via _))
  split
  · exact Dev.busWrite_wf he _ _ _ _
  · exact he.of_mem (Dev.busRead_mem _ _ _ _)

theorem Dev.hsStore_wf (ws : List Word) (a : Nat) (hd : d.Wf) : (Dev.hsStore ws a d).Wf := by
  induction ws generalizing a d with
  | nil => exact hd
  | cons w ws ih =>
    have h1 := Dev.write_wf hd host a 4 w.toNat
    exact ih _ (Dev.wf_ite (h1.via _) (h1.via _))

theorem Dev.onHost_wf (hd : d.Wf) {f : Dev → Dev} (hf : ∀ {e : Dev}, e.Wf → (f e).Wf) : (d.onHost f).Wf := by
  unfold Dev.onHost
  dsimp only
  split
  · exact hf (hd.via _)
  · exact hd.via _

theorem hostWrite_wf (hd : d.Wf) (a : Nat) (data : List Word) (cut : Bool) : (hostWrite a data cut d).Wf := by
  refine Dev.onHost_wf hd fun he => ?_
  extract_lets e e1 done
  have h1 : e.Wf := he.via _
  exact Dev.wf_ite (h1.via _) ((Dev.hsStore_wf _ _ h1).via _)

theorem Dev.whenAlive_wf (hd : d.Wf) {f : Dev → Dev} (hf : (f d).Wf) : (Dev.whenAlive f d).Wf := by
  unfold Dev.whenAlive
  split
  · exact hf
  · exact hd

theorem Dev.byWriter_wf (hd : d.Wf) (who : Who) (a : Nat) {f : Dev → Dev} (hf : (f d).Wf) :
    (Dev.byWriter who a f d).Wf := by
  unfold Dev.byWriter
  split
  · exact hd
  · split
    · exact hf
    · split
      · exact hd
      · split
        · exact hf
        · exact hd.via _

/-! ## The cores -/

theorem Dev.tceStoreAt_wf (hd : d.Wf) (c a n v : Nat) : (d.tceStoreAt c a n v).Wf := by
  unfold Dev.tceStoreAt
  split
  · exact Dev.wf_mk (memWf_memSetNat hd _ _ _) _
  · exact Dev.wf_mk (memWf_memSetNat hd _ _ _) _
  · next f _ =>
    have hw := Dev.writePage_wf hd (tceAgent c) f (BitVec.ofNat 32 v)
    exact Dev.wf_ite (hw.hw _) (hw.hw _)
  · exact hd.via _

theorem Dev.tceAccess_wf (hd : d.Wf) (c : Nat) (x : Core) (ecc : EccSeen) (n : Nat) (m : TceMem) :
    (d.tceAccess c x ecc n m).Wf := by
  unfold Dev.tceAccess
  exact (Dev.wf_ite (Dev.tceStoreAt_wf hd _ _ _ _) ((hd.of_mem (Dev.tceLoadAt_mem _ _ _ _ _)).via _)).via _

theorem Dev.tceIssue_wf (hd : d.Wf) (c : Nat) (ecc : CoreEcc) {act : TceOp → Dev → Option TceEffect}
    (hact : ∀ {op e f}, Dev.Wf e → act op e = some f → f.1.Wf) : (d.tceIssue c ecc act).Wf := by
  obtain h | ⟨op, f, hf, h⟩ := d.tceIssue_cases c ecc act
  · exact hd.of_mem h
  · exact (hact (hd.of_mem (d.tceFetch_mem c _)) hf).of_mem h

section Issue
variable {op : TceOp} {f : TceEffect} {c : Nat} {ecc : CoreEcc}

theorem doMem_wf {store : Bool} (hd : d.Wf) (h : doMem store c ecc op d = some f) : f.1.Wf := by
  unfold doMem at h
  split at h
  · split at h <;> cases h
    exact Dev.tceAccess_wf hd _ _ _ _ _
  · cases h

theorem doStAcc_wf (hd : d.Wf) (h : doStAcc c op d = some f) : f.1.Wf := by
  unfold doStAcc at h
  split at h <;> cases h
  exact (Dev.tceStoreAt_wf hd _ _ _ _).of_mem (Dev.tceFly_mem _ _ _)

theorem doPair_wf (hd : d.Wf) (h : doPair c ecc op d = some f) : f.1.Wf := by
  unfold doPair at h
  split at h <;> cases h
  exact Dev.tceAccess_wf (Dev.tceAccess_wf hd _ _ _ _ _) _ _ _ _ _

theorem doFtap_wf (hd : d.Wf) (h : doFtap c ecc op d = some f) : f.1.Wf := by
  unfold doFtap at h
  split at h
  · extract_lets x v coef tap _ e at h
    have ht : tap.2.Wf := (hd.of_mem (Dev.tapLoad_mem _ _ _ _)).of_mem (Dev.tapLoad_mem _ _ _ _)
    have he : e.Wf := by
      unfold e
      split
      · exact Dev.wf_mk (memWf_memSetNat ht _ _ _) _
      · exact ht
    cases h
    exact (he.via _).via _
  · cases h

end Issue

/-! ## The cycles -/

theorem Dev.currentT0_wf (hd : d.Wf) : d.currentT0.Wf := by
  unfold Dev.currentT0
  exact (Dev.rdnCurrent_wf (hd.via Hw.currentCycle) _).via _

theorem Dev.toPosition_wf (k : Nat) (hd : d.Wf) : (Dev.toPosition k d).Wf := by
  induction k generalizing d with
  | zero => exact hd
  | succ k ih => exact Dev.wf_ite hd (ih (Dev.currentT0_wf hd))

theorem Dev.mapLookup_mem (eccLo eccHi : Bool) (d : Dev) : (d.mapLookup eccLo eccHi).mem = d.mem := by
  rw [Dev.mapLookup]

theorem Dev.mapT0_wf (hd : d.Wf) (eccLo eccHi : Bool) : (d.mapT0 eccLo eccHi).Wf := by
  unfold Dev.mapT0
  extract_lets
  split
  · exact hd.hw _
  · split
    · split
      · exact ((hd.hw _).of_mem (Dev.mapLookup_mem _ _ _)).hw _
      · exact hd.hw _
    · exact hd.hw _

theorem Dev.positionT0_wf (hd : d.Wf) (eccLo eccHi proofOrder carEmpty overspeed : Bool) :
    (d.positionT0 eccLo eccHi proofOrder carEmpty overspeed).Wf := by
  have h1 := Dev.rdnLatch_wf ((Dev.toPosition_wf 16 hd).via Hw.positionLatch)
  have h2 := Dev.mapT0_wf (h1.via Hw.posT0) eccLo eccHi
  exact (Dev.gateT0_wf (h2.via _)).of_mem (Dev.rdnT0_mem _)

/-! ## Every command -/

/-- The command ends in a device whose memories are canonical. -/
def EndsWf (s : State) (o : Host.Outcome State Fault Refusal) : Prop := ∃ d, o = .next { s with dev := d } ∧ d.Wf

section Ends
variable {s : State} {f : Dev → Dev}

theorem endsWf_doDev (hf : (f s.dev).Wf) : EndsWf s (doDev f s) := ⟨_, rfl, hf⟩

theorem endsWf_doDevF (hf : (f s.dev.begin).Wf) : EndsWf s (doDevF f s) := ⟨_, rfl, hf.of_mem (Dev.settle_mem _)⟩

theorem endsWf_whenAlive (hs : s.Inv) (hf : ∀ {d : Dev}, d.Wf → (f d).Wf) : EndsWf s (doDev (Dev.whenAlive f) s) :=
  endsWf_doDev (Dev.whenAlive_wf hs (hf hs))

theorem endsWf_whenAliveF (hs : s.dev.begin.Wf) (hf : ∀ {d : Dev}, d.Wf → (f d).Wf) :
    EndsWf s (doDevF (Dev.whenAlive f) s) := endsWf_doDevF (Dev.whenAlive_wf hs (hf hs))

theorem endsWf_issue (hs : s.dev.begin.Wf) (c : Nat) (ecc : CoreEcc) {act : TceOp → Dev → Option TceEffect}
    (hact : ∀ {op e f}, Dev.Wf e → act op e = some f → f.1.Wf) : EndsWf s (doDevF (·.tceIssue c ecc act) s) :=
  endsWf_doDevF (Dev.tceIssue_wf hs c ecc hact)

end Ends

/-- A command that stores keeps the memories canonical. -/
theorem exec_endsWf_of_stores (c : Instr) (s : State) (hs : s.Inv) (hst : c.stores = true) : EndsWf s (exec c s) := by
  have hb : s.dev.begin.Wf := Dev.Wf.hw hs _
  cases c
  case powerOnReset => exact endsWf_doDevF (powerOn_wf hb)
  case supplyMonitorTrip => exact endsWf_doDevF (supplyTrip_wf hb _)
  case nresetAssert => exact endsWf_doDevF (nresetLow_wf hb)
  case resetRelease => exact endsWf_doDev (resetStart_wf hs _ _ _)
  case warmResetRequest => exact endsWf_doDevF (Dev.byWriter_wf hb _ _ (warmReset_wf hb _ _))
  case keywayReset => exact endsWf_doDevF (kwReset_wf hb)
  case wipeComplete failed =>
    exact endsWf_doDevF (f := fun d => (wipeDone failed.toNat d).wipeServe) (Dev.wipeServe_wf (wipeDone_wf hb _))
  case bootComplete => exact endsWf_doDevF (bootComplete_wf hb _)
  case bistDone => exact endsWf_whenAliveF hb fun hd => bistEnd_wf hd _ _ _ _
  case pairHiWrite => refine endsWf_doDevF ?_; exact Dev.wf_ite (Dev.write_wf hb _ _ _ _) hb
  case registerWrite => refine endsWf_doDevF ?_; exact Dev.wf_ite (Dev.write_wf hb _ _ _ _) hb
  case tceProgramWrite => refine endsWf_doDevF ?_; exact Dev.wf_ite (Dev.write_wf hb _ _ _ _) hb
  case keywayWrite => refine endsWf_doDevF ?_; exact Dev.wf_ite (Dev.write_wf hb _ _ _ _) hb
  case currentCycleT0 => exact endsWf_whenAliveF hb Dev.currentT0_wf
  case positionCycleT0 => exact endsWf_whenAliveF hb fun hd => Dev.positionT0_wf hd _ _ _ _ _
  case mapPageLoaded => exact endsWf_whenAlive hs mapLoaded_wf
  case mapLearnEntry => exact endsWf_whenAlive hs learnEntry_wf
  case mapRebuildPageDone => exact endsWf_whenAlive hs rebuildDone_wf
  case mapWritebackDone => exact endsWf_whenAlive hs writebackDone_wf
  case st => exact endsWf_issue hb _ _ doMem_wf
  case stAcc => exact endsWf_issue hb _ _ doStAcc_wf
  case ldStPair => exact endsWf_issue hb _ _ doPair_wf
  case ftap => exact endsWf_issue hb _ _ doFtap_wf
  case deadboltPortDone => exact endsWf_doDev (dbPortDone_wf hs _ _)
  case deadboltRelease => exact endsWf_doDevF (Dev.byWriter_wf hb _ _ (boltRelease_wf hb _ _ _ _ _))
  case ethFrameReceive => exact endsWf_whenAlive hs fun hd => ethReceive_wf hd _ _
  case ethFrameTransmit => exact endsWf_whenAlive hs fun hd => ethTransmit_wf hd _ _
  case skovesafeFrameReceive => exact endsWf_whenAlive hs fun hd => skoveReceive_wf hd _ _ _
  case skovesafeWatchdogExpiry => exact endsWf_whenAlive hs fun hd => skoveExpire_wf hd _
  case recordWriteDone => exact endsWf_doDevF (recordWritten_wf hb _ _ _)
  case headerRefresh => exact endsWf_doDev (headerRefreshed_wf hs)
  case orderProvision => exact endsWf_whenAliveF hb ordProvision_wf
  case orderLc => exact endsWf_whenAliveF hb fun hd => ordLc_wf hd _
  case mapSeal => exact endsWf_whenAlive hs sealPage_wf
  case mapOpen => exact endsWf_whenAlive hs openSlot_wf
  case keyExchangeRequest => exact endsWf_whenAlive hs skxRequest_wf
  case keyExchangeAnswer => exact endsWf_whenAlive hs skxAnswer_wf
  case xspRead => exact endsWf_whenAlive hs flashRead_wf
  case xspProgram => exact endsWf_whenAlive hs flashProgram_wf
  case xspErase4k => exact endsWf_whenAlive hs fun hd => Dev.flashWork_wf hd _ fun he => Dev.flashErase_wf he _
  case xspErase64k => exact endsWf_whenAlive hs fun hd => Dev.flashWork_wf hd _ fun he => Dev.flashErase_wf he _
  case xspCommandDone => exact endsWf_whenAlive hs fun hd => flashDone_wf hd _
  case hspWrite => exact endsWf_doDevF (hostWrite_wf hb _ _ _)
  all_goals exact nomatch hst

/-- Settles O6: a command that stores nothing leaves the list of bytes, one that stores keeps its form. -/
theorem stepKeepsInv : Obligations.StepKeepsInv := by
  intro s t hs ht
  have hwf : ∀ c (s : State), s.Inv → EndsWf s (exec c s) := fun c s hs => by
    cases hst : c.stores with
    | true => exact exec_endsWf_of_stores c s hs hst
    | false =>
      obtain ⟨d, hd, hm⟩ := exec_keepsMem c s hst
      exact ⟨d, hd, Dev.Wf.of_mem hs hm⟩
  cases hp : s.pending with
  | nil =>
    rw [idleStep s hp] at ht
    cases ht
    exact hs
  | cons c q =>
    obtain ⟨d, hd, hw⟩ := hwf c { s with pending := q } hs
    have hst : step s = exec c { s with pending := q } := by rw [step, hp]
    rw [hst, hd] at ht
    cases ht
    exact hw

end Sys2Proof.Machine
end

section
/-! The values of the ALU and of rounding (R228, R248): O27. -/

namespace Sys2Proof.Machine

/-! ## Saturation to a signed word -/

theorem sat32_eq (i : Int) : sat32 i = max (-2 ^ 31) (min (2 ^ 31 - 1) i) := by
  unfold sat32
  split
  · omega
  · split <;> omega

theorem toInt_ofInt_sat32 (i : Int) : (BitVec.ofInt 32 (sat32 i)).toInt = max (-2 ^ 31) (min (2 ^ 31 - 1) i) := by
  rw [sat32_eq, BitVec.toInt_ofInt, Int.bmod_def]
  omega

/-- A sum is outside a signed word where the word of that sum shows another value. -/
theorem over32_iff {x : Word} {i : Int} (hx : x = BitVec.ofInt 32 i) (hi : -2 ^ 32 ≤ i ∧ i < 2 ^ 32) :
    over32 i = true ↔ x.toInt ≠ i := by
  rw [hx, BitVec.toInt_ofInt, Int.bmod_def, over32, Bool.or_eq_true, decide_eq_true_iff, decide_eq_true_iff]
  omega

theorem over32_add_iff (a b : Word) : over32 (a.toInt + b.toInt) = true ↔ (a + b).toInt ≠ a.toInt + b.toInt := by
  have ha := BitVec.toInt_lt (x := a)
  have hb := BitVec.toInt_lt (x := b)
  have ha' := BitVec.le_toInt a
  have hb' := BitVec.le_toInt b
  refine over32_iff ?_ (by omega)
  rw [BitVec.ofInt_add, BitVec.ofInt_toInt, BitVec.ofInt_toInt]

theorem over32_sub_iff (a b : Word) : over32 (a.toInt - b.toInt) = true ↔ (a - b).toInt ≠ a.toInt - b.toInt := by
  have ha := BitVec.toInt_lt (x := a)
  have hb := BitVec.toInt_lt (x := b)
  have ha' := BitVec.le_toInt a
  have hb' := BitVec.le_toInt b
  refine over32_iff ?_ (by omega)
  rw [Int.sub_eq_add_neg, BitVec.ofInt_add, BitVec.ofInt_neg, BitVec.ofInt_toInt, BitVec.ofInt_toInt, BitVec.sub_eq_add_neg]

/-! ## The shifts -/

theorem getLsbD_iff (a : Word) (i : Nat) : a.getLsbD i = true ↔ a.toNat / 2 ^ i % 2 = 1 := by
  rw [BitVec.getLsbD, Nat.testBit_eq_decide_div_mod_eq, decide_eq_true_iff]

theorem aluShl_r (a : Word) (s : Nat) : (aluShl a s).r.toNat = a.toNat * 2 ^ s % 2 ^ 32 := by
  simp [aluShl, Nat.shiftLeft_eq]

/-- The carry of a left shift is the last bit shifted out. -/
theorem aluShl_c (a : Word) {s : Nat} (hs : s < 32) : (aluShl a s).c = true ↔ a.toNat * 2 ^ s / 2 ^ 32 % 2 = 1 := by
  have hp : 2 ^ 32 = 2 ^ (32 - s) * 2 ^ s := by rw [← Nat.pow_add]; congr 1; omega
  rw [aluShl, Bool.and_eq_true, decide_eq_true_iff, getLsbD_iff, hp, Nat.mul_div_mul_right _ _ (by positivity)]
  refine and_iff_right_of_imp fun h h0 => ?_
  rw [h0, Nat.sub_zero, Nat.div_eq_of_lt a.isLt] at h
  cases h

theorem aluShr_r (a : Word) (s : Nat) : (aluShr a s).r.toNat = a.toNat / 2 ^ s := by
  simp [aluShr, Nat.shiftRight_eq_div_pow]

/-- The carry of a right shift is the last bit shifted out. -/
theorem aluShr_c (a : Word) (s : Nat) : (aluShr a s).c = true ↔ a.toNat * 2 / 2 ^ s % 2 = 1 ∧ s ≠ 0 := by
  rw [aluShr, Bool.and_eq_true, decide_eq_true_iff, getLsbD_iff, and_comm]
  refine and_congr_left fun h => ?_
  obtain ⟨k, rfl⟩ := Nat.exists_eq_succ_of_ne_zero h
  rw [Nat.succ_sub_one, Nat.pow_succ, Nat.mul_div_mul_right _ _ (by decide)]

/-! ## The absolute value -/

theorem aluAbs_sat (a : Word) : (aluAbs a).sat = true ↔ a.toInt = -2 ^ 31 := by
  rw [aluAbs, decide_eq_true_iff, ← BitVec.toInt_inj]
  rfl

theorem aluAbs_r (a : Word) : (aluAbs a).r.toNat = min (2 ^ 31 - 1) a.toInt.natAbs := by
  have hl := a.isLt
  unfold aluAbs
  dsimp only
  split
  · next h =>
    rw [decide_eq_true_iff] at h
    rw [h]
    decide
  · next h =>
    rw [decide_eq_true_iff, ← BitVec.toNat_inj] at h
    have h' : a.toNat ≠ 2147483648 := h
    have hi := a.toInt_eq_toNat_cond
    split
    · rw [BitVec.toNat_neg]
      omega
    · omega

/-- Settles O27. -/
theorem aluValues : Obligations.AluValues := by
  refine ⟨fun a b => ⟨rfl, decide_eq_true_iff, over32_add_iff a b⟩, fun a b => ⟨rfl, decide_eq_true_iff, over32_sub_iff a b⟩,
    fun a b => ⟨toInt_ofInt_sat32 _, over32_add_iff a b⟩, fun a b => ⟨toInt_ofInt_sat32 _, over32_sub_iff a b⟩,
    fun _ _ => rfl, fun a b => ⟨aluShl_r a _, aluShl_c a (Nat.mod_lt _ (by decide))⟩,
    fun a b => ⟨aluShr_r a _, aluShr_c a _⟩, fun a b => ?_, fun a b => ⟨aluAbs_r a, aluAbs_sat a⟩, fun a b => ?_,
    fun acc ssh _ => toInt_ofInt_sat32 _⟩
  · show (a.sshiftRight (b.toNat % 32)).toInt = _
    rw [BitVec.toInt_sshiftRight, Int.shiftRight_eq_div_pow]
    rfl
  · show (if a.toInt ≤ b.toInt then a else b).toInt = _ ∧ (if b.toInt ≤ a.toInt then a else b).toInt = _
    constructor
    · split <;> omega
    · split <;> omega

end Sys2Proof.Machine
end

section
/-! Which registers an operation can change: the relation that proofs of frames compose (`Hw.Only`), and what it says of the
operations of the model. -/

namespace Sys2Proof.Machine

/-- Every register outside `l` is the same in both. -/
def Hw.Only (l : List Nat) (h h' : Hw) : Prop := ∀ a, a ∉ l → h'.reg a = h.reg a

namespace Hw.Only
variable {l m : List Nat} {h h' h'' : Hw}

@[simp] theorem refl (l : List Nat) (h : Hw) : Hw.Only l h h := fun _ _ => rfl

theorem trans (h1 : Hw.Only l h h') (h2 : Hw.Only l h' h'') : Hw.Only l h h'' :=
  fun a ha => (h2 a ha).trans (h1 a ha)

theorem mono (h1 : Hw.Only l h h') (hl : ∀ a ∈ l, a ∈ m) : Hw.Only m h h' := fun a ha => h1 a fun hm => ha (hl a hm)

/-- A register outside the list reads the same. -/
theorem reg (h1 : Hw.Only l h h') {a : Nat} (ha : a ∉ l) : h'.reg a = h.reg a := h1 a ha

theorem nat (h1 : Hw.Only l h h') {a : Nat} (ha : a ∉ l) : h'.nat a = h.nat a := congrArg BitVec.toNat (h1 a ha)

theorem bitAt (h1 : Hw.Only l h h') {a : Nat} (ha : a ∉ l) (i : Nat) : h'.bitAt a i = h.bitAt a i :=
  congrArg (fun w : Word => w.getLsbD i) (h1 a ha)

theorem rd (h1 : Hw.Only l h h') {f : Field} (hf : f.addr ∉ l) : h'.rd f = h.rd f :=
  congrArg (getBits · f.lo f.width) (h1 f.addr hf)

theorem on (h1 : Hw.Only l h h') {f : Field} (hf : f.addr ∉ l) : h'.on f = h.on f := by
  unfold Hw.on; rw [h1.rd hf]

/-- What an operation can change does not depend on when it is looked at. -/
theorem comp_iff (h2 : Hw.Only l h' h'') : Hw.Only l h h'' ↔ Hw.Only l h h' :=
  ⟨fun h1 a ha => (h2 a ha).symm.trans (h1 a ha), fun h1 => h1.trans h2⟩

end Hw.Only

section Ops
variable {l : List Nat} {h h' : Hw}

@[simp] theorem Hw.only_upd {x_env} {x_fresh} {x_reply} {x_otp} {x_cpr} {x_hdr} {x_sis} {x_rcd} {x_pst}
    {x_pos} {x_dor} {x_map} {x_prf} {x_peer} {x_vis} {x_can} {x_rdn} {x_tce} {x_eth} {x_sse} {x_stq} {x_sec} {x_xsp}
    {x_hsp} {x_tst} : Hw.Only l h ⟨x_env, x_fresh, x_reply, x_otp, h'.regs, x_cpr, x_hdr, x_sis, x_rcd, x_pst,
    x_pos, x_dor, x_map, x_prf, x_peer, x_vis, x_can, x_rdn, x_tce, x_eth, x_sse, x_stq, x_sec, x_xsp, x_hsp, x_tst⟩ ↔
    Hw.Only l h h' := Iff.rfl

@[simp] theorem Hw.only_ack : Hw.Only l h h'.ack ↔ Hw.Only l h h' := Iff.rfl

@[simp] theorem Hw.only_answer (ws : List Word) : Hw.Only l h (h'.answer ws) ↔ Hw.Only l h h' := Iff.rfl

@[simp] theorem Hw.only_setReg {a : Nat} (v : Word) (ha : a ∈ l) : Hw.Only l h (h'.setReg a v) ↔ Hw.Only l h h' :=
  Hw.Only.comp_iff fun _ hb => Hw.reg_setReg_ne _ _ fun e => hb (e ▸ ha)

@[simp] theorem Hw.only_setNat {a : Nat} (n : Nat) (ha : a ∈ l) : Hw.Only l h (h'.setNat a n) ↔ Hw.Only l h h' :=
  Hw.only_setReg _ ha

@[simp] theorem Hw.only_setInt {a : Nat} (i : Int) (ha : a ∈ l) : Hw.Only l h (h'.setInt a i) ↔ Hw.Only l h h' :=
  Hw.only_setReg _ ha

@[simp] theorem Hw.only_wr {f : Field} (v : Nat) (hf : f.addr ∈ l) : Hw.Only l h (h'.wr f v) ↔ Hw.Only l h h' :=
  Hw.only_setReg _ hf

@[simp] theorem Hw.only_bump {f : Field} (n : Nat) (hf : f.addr ∈ l) : Hw.Only l h (h'.bump f n) ↔ Hw.Only l h h' :=
  Hw.only_wr _ hf

@[simp] theorem Hw.only_setBitAt {a : Nat} (i : Nat) (b : Bool) (ha : a ∈ l) :
    Hw.Only l h (h'.setBitAt a i b) ↔ Hw.Only l h h' := Hw.only_setReg _ ha

@[simp] theorem Hw.only_irq {p : Nat} (b : Nat) (hp : BLK_IRQ p ∈ l) : Hw.Only l h (h'.irq p b) ↔ Hw.Only l h h' :=
  Hw.only_setReg _ hp

@[simp] theorem Hw.only_blockFault {p : Nat} (b : Nat) (hf : BLK_FAULT p ∈ l) (hi : BLK_IRQ p ∈ l) :
    Hw.Only l h (h'.blockFault p b) ↔ Hw.Only l h h' :=
  Hw.Only.comp_iff fun _ ha => Hw.reg_blockFault_ne _ _ _ (fun e => ha (e ▸ hf)) fun e => ha (e ▸ hi)

@[simp] theorem Hw.only_setPair {a : Nat} (n : Nat) (h0 : a ∈ l) (h4 : a + 4 ∈ l) :
    Hw.Only l h (h'.setPair a n) ↔ Hw.Only l h h' := by
  unfold Hw.setPair
  rw [Hw.only_setNat _ h4, Hw.only_setNat _ h0]

theorem Hw.only_ite {p : Prop} [Decidable p] {g g' : Hw} (h1 : Hw.Only l h g) (h2 : Hw.Only l h g') :
    Hw.Only l h (if p then g else g') := by
  split
  · exact h1
  · exact h2

theorem Hw.only_cond {c : Bool} {f : Hw → Hw} (h1 : Hw.Only l h h') (hf : c = true → Hw.Only l h' (f h')) :
    Hw.Only l h (h'.cond c f) := by
  unfold Hw.cond
  split
  · next hc => exact h1.trans (hf hc)
  · exact h1

/-- A conditional operation changes what it changes when it runs. -/
@[simp] theorem Hw.only_cond_iff {c : Bool} {f : Hw → Hw} (hf : Hw.Only l h' (f h')) :
    Hw.Only l h (h'.cond c f) ↔ Hw.Only l h h' := Hw.Only.comp_iff (Hw.only_cond (Hw.Only.refl _ _) fun _ => hf)

theorem Hw.only_each {α : Type} {xs : List α} {f : α → Hw → Hw} (hf : ∀ x ∈ xs, ∀ g, Hw.Only l g (f x g)) (h : Hw) :
    Hw.Only l h (h.each xs f) := by
  induction xs generalizing h with
  | nil => exact Hw.Only.refl _ _
  | cons x xs ih =>
    exact (hf x (by simp) h).trans (ih (fun y hy => hf y (List.mem_cons_of_mem _ hy)) (f x h))

@[simp] theorem Hw.only_each_iff {α : Type} {xs : List α} {f : α → Hw → Hw}
    (hf : ∀ x ∈ xs, ∀ g, Hw.Only l g (f x g)) : Hw.Only l h (h'.each xs f) ↔ Hw.Only l h h' :=
  Hw.Only.comp_iff (Hw.only_each hf h')

end Ops

/-- What a frame over states asks of the device. -/
theorem onlyRegs_of_only {l : List Nat} {s t : State} (hr : Hw.Only l s.dev.hw t.dev.hw) (hm : t.dev.mem = s.dev.mem) :
    OnlyRegs l s t := ⟨hr, hm⟩

theorem onlyRegsAndFaults_of_only {l : List Nat} {s t : State} (hr : Hw.Only (l ++ faultRegs) s.dev.hw t.dev.hw)
    (hm : t.dev.mem = s.dev.mem) : OnlyRegsAndFaults l s t :=
  ⟨fun a h1 h2 => hr a fun h => (List.mem_append.mp h).elim h1 h2, hm⟩

/-! ## The brake and the sets -/

/-- What the Ward's drop of STO or brake changes beside the outputs (R284). -/
def brakeRegs : List Nat := [PST_BRK_STAT, PST_BT_STAT, PST_BT_IREF, BLK_IRQ PG_PST]

@[simp] theorem Hw.only_btAbort {l : List Nat} {h h' : Hw} (hl : ∀ a ∈ brakeRegs, a ∈ l) :
    Hw.Only l h h'.btAbort ↔ Hw.Only l h h' := by
  refine Hw.Only.comp_iff ((Hw.Only.mono (l := brakeRegs) ?_) hl)
  unfold Hw.btAbort
  refine Hw.only_ite ?_ (Hw.Only.refl _ _)
  simp (disch := decide)

@[simp] theorem Hw.only_brakeForce {l : List Nat} {h h' : Hw} (hl : ∀ a ∈ brakeRegs, a ∈ l) :
    Hw.Only l h h'.brakeForce ↔ Hw.Only l h h' := by
  refine Hw.Only.comp_iff ((Hw.Only.mono (l := brakeRegs) ?_) hl)
  unfold Hw.brakeForce
  refine Hw.only_ite ?_ (Hw.Only.refl _ _)
  simp (disch := decide)

/-- The status registers of the PWM sets. -/
def setRegs : List Nat := (List.range 6).map PST_PSn_STAT

@[simp] theorem Hw.only_refreshSets {l : List Nat} {h h' : Hw} (hl : ∀ a ∈ setRegs, a ∈ l) :
    Hw.Only l h h'.refreshSets ↔ Hw.Only l h h' := by
  refine Hw.Only.comp_iff (Hw.Only.mono (l := setRegs) ?_ hl)
  refine Hw.only_each (fun n hn g => ?_) h'
  have hm : PST_PSn_STAT n ∈ setRegs := List.mem_map_of_mem hn
  unfold Hw.refreshSet
  simp [PST_PSn_STAT_SWITCHING, PST_PSn_STAT_TRIPPED, PST_PSn_STAT_STO, hm]

end Sys2Proof.Machine
end

section
/-! The safe outputs at a T0 (R328, R335, R339): O37. -/

namespace Sys2Proof.Machine

/-- The requests are latched in SIS_OUT_REQ alone. -/
theorem Hw.only_latchRequests (h : Hw) : Hw.Only [SIS_OUT_REQ] h h.latchRequests := by
  simp (disch := decide) [Hw.latchRequests]

/-- What the Ward energises is what it has permitted, in ten balls. -/
theorem Hw.out_setOuts_cond (h : Hw) (p : Nat) (c : Bool) :
    ((h.setOuts p).cond c Hw.brakeForce).rd SIS_OUT_STAT_OUT = p % 2 ^ 10 := by
  have hb : Hw.Only brakeRegs (h.setOuts p) ((h.setOuts p).cond c Hw.brakeForce) := by simp
  have hs : Hw.Only setRegs ((h.wr SIS_OUT_STAT_OUT p).wr SIS_OUT_STAT_RB (h.readback p)) (h.setOuts p) := by
    simp [Hw.setOuts]
  rw [hb.rd (by decide), hs.rd (by decide), Hw.rd_wr_other _ _ _ _ (by decide), Hw.rd_wr_same _ _ _ (by decide)]

/-- The brakes are balls 2 and 3. -/
theorem brake_of_testBit {k : Nat} (hb : maskBRK.testBit k = true) : k = 2 ∨ k = 3 := by
  have hk : k < 4 := by
    by_contra hge
    have hlt : maskBRK < 2 ^ k :=
      Nat.lt_of_lt_of_le (by decide : maskBRK < 2 ^ 4) (Nat.pow_le_pow_right (by decide) (by omega))
    rw [Nat.testBit_lt_two_pow hlt] at hb
    cases hb
  revert hb
  interval_cases k <;> decide

/-- A ball that stays energised at a T0 is permitted, or a brake in its lag. -/
theorem Hw.out_outputsT0 (h : Hw) {k : Nat} (hk : bit (h.outputsT0.rd SIS_OUT_STAT_OUT) k = true)
    (hlag : h.sis.lag = false ∨ k < 2 ∨ 4 ≤ k) : bit h.latchRequests.permitMask k = true := by
  have hl : h.latchRequests.sis.lag = h.sis.lag := by simp [Hw.latchRequests]
  unfold Hw.outputsT0 at hk
  rw [Hw.out_setOuts_cond, bit, Nat.testBit_mod_two_pow, Nat.testBit_or, Bool.and_eq_true, Bool.or_eq_true] at hk
  obtain ⟨-, hp | hb⟩ := hk
  · exact hp
  · rw [hl] at hb
    split at hb
    · next hon =>
      rw [Nat.testBit_and, Bool.and_eq_true] at hb
      have hbrk : k = 2 ∨ k = 3 := brake_of_testBit hb.2
      simp [hon] at hlag
      omega
    · simp at hb

/-- Settles O37: what the permission asks is the conjunction of the masks. -/
theorem safeOutputs : Obligations.SafeOutputs := by
  intro h k hk hout hlag
  have hp := h.out_outputsT0 hout hlag
  have ho := h.only_latchRequests
  have harm : h.latchRequests.armMask = h.armMask := by
    unfold Hw.armMask
    simp only [ho.on (f := SIS_OUT_ARM_STO) (by decide), ho.on (f := SIS_OUT_ARM_BRK) (by decide), ho.on (f := SIS_OUT_ARM_DLK0) (by decide),
      ho.on (f := SIS_OUT_ARM_DLK1) (by decide), ho.rd (f := SIS_OUT_ARM_SRL) (by decide)]
  have hsis : h.latchRequests.sis = h.sis := by simp [Hw.latchRequests]
  have hcpr : h.latchRequests.cpr = h.cpr := by simp [Hw.latchRequests]
  have henv : h.latchRequests.env = h.env := by simp [Hw.latchRequests]
  have hmode : h.latchRequests.modeMask = h.modeMask := by
    unfold Hw.modeMask Hw.mode
    simp only [ho.on (f := SIS_MODE_STBY) (by decide), ho.rd (f := SIS_MODE_CUR) (by decide), ho.bitAt (a := SIS_COND) (by decide), hsis, henv]
  have hclass : h.latchRequests.classHold = h.classHold := by
    unfold Hw.classHold Hw.boltMask
    simp only [ho.on (f := SIS_FM_CUR_W0_VALID) (by decide), ho.rd (f := SIS_FM_CUR_W0_CLASS) (by decide), hsis, hcpr, henv]
  have hslot : h.latchRequests.slotHold = h.slotHold := by
    unfold Hw.slotHold
    rw [hsis]
  unfold Hw.permitMask at hp
  rw [harm, hmode, hclass, hslot] at hp
  simp only [bit, Nat.testBit_and, Nat.testBit_xor, Nat.testBit_or, Bool.and_eq_true] at hp
  obtain ⟨⟨⟨⟨ha, hr⟩, hm⟩, -⟩, hh⟩ := hp
  have hones : (0x3FF).testBit k = true := by interval_cases k <;> rfl
  rw [hones] at hh
  have hheld : h.slotHold.testBit k = false ∧ h.classHold.testBit k = false := by simpa using hh
  refine ⟨ha, hr, hm, hheld.1, hheld.2, ?_⟩
  by_contra hs
  rw [Bool.not_eq_false] at hs
  simp [Hw.modeMask, hs] at hm

end Sys2Proof.Machine
end

section
/-! Call requests of the stop queue (R360, R490, R495): O54. -/

namespace Sys2Proof.Machine

/-! ## Operating registers (R5, R48) -/

/-- A write of an operating register that is taken acts on the acknowledged access. -/
theorem Hw.opWrite_of_may {who : Who} {p a : Nat} {s : State} (hm : MayOperate who p a s) (f : Hw → Hw) :
    s.dev.hw.opWrite who p f = f s.dev.hw.ack := by
  obtain ⟨-, hpresent, hsis⟩ := hm
  simp [Hw.opWrite, hpresent, hsis]

/-- A write of an operating register that is taken ends in the state it makes. -/
theorem ends_of_opWrite {c : Instr} {who : Who} {p a : Nat} {f : Hw → Hw} {s : State} {P : State → Prop}
    (hc : exec c s = doDev (writeHw who a (·.opWrite who p f)) s) (hm : MayOperate who p a s)
    (hP : P { s with dev := { s.dev with hw := f s.dev.hw.ack } }) : Ends c s P := by
  refine ends_of_writeHw hc hm.1 ?_
  rwa [Dev.via, Hw.opWrite_of_may hm]

/-- The stop queue sits in every part. -/
theorem Hw.absent_stq (h : Hw) : h.absent PG_STQ = false := by simp (decide := true) [Hw.absent]

@[simp] theorem Hw.ack_standby (h : Hw) : h.ack.standby = h.standby := rfl
@[simp] theorem Hw.ack_isMachine (h : Hw) : h.ack.isMachine = h.isMachine := rfl

theorem getD_set_self {α : Type} {l : List α} {i : Nat} (hi : i < l.length) (x d : α) : (l.set i x).getD i d = x := by
  simp [List.getD_eq_getElem?_getD, hi]

/-- A block whose page no other agent is kept from takes an operating write of any requester that reaches it. -/
theorem mayOperate_of_open {who : Who} {p a : Nat} {s : State} (hr : Reaches who a s) (hp : s.dev.hw.absent p = false)
    (ho : s.on (BLK_LOCK_SISONLY p) = false) : MayOperate who p a s := by
  have ho' : s.dev.hw.on (BLK_LOCK_SISONLY p) = false := ho
  exact ⟨hr, hp, by simp [Hw.sisOnlyOk, ho']⟩

/-! ## The requests -/

/-- Settles O54. -/
theorem callRequests : Obligations.CallRequests := by
  refine ⟨fun who m k w s hm hs hr hl => ends_of_opWrite rfl hm ?_, fun who m k w s hm hr hw => ends_of_opWrite rfl hm ?_,
    fun who m k w s hm hs hl => ends_of_opWrite rfl hm ?_, fun who m k w s hs ho h1 h2 => ⟨fun hr => ?_, ?_⟩⟩
  · simp only [Hw.ack_isMachine, Hw.ack_standby, hs, hr, Bool.false_eq_true, if_false]
    exact ⟨getD_set_self hl _ _, rfl, fun _ _ => rfl, rfl⟩
  · have hf := Hw.blockFault_sets s.dev.hw.ack PG_STQ 9 (by decide)
    simp only [Hw.ack_isMachine, hr, if_true, Hw.cond, hw, decide_true, ne_eq, not_false_eq_true]
    refine ⟨hf.1, by simp, onlyRegs_of_only ?_ rfl⟩
    simp
  · simp only [Hw.ack_standby, hs, Bool.false_eq_true, if_false]
    exact ⟨getD_set_self hl _ _, rfl, fun _ _ => rfl, rfl⟩
  · refine ends_of_opWrite rfl (mayOperate_of_open h1 s.dev.hw.absent_stq ho) ?_
    simp only [Hw.ack_isMachine, Hw.ack_standby, hs, hr, Bool.false_eq_true, if_false, if_true]
    exact ⟨fun _ _ => rfl, rfl⟩
  · refine ends_of_opWrite rfl (mayOperate_of_open h2 s.dev.hw.absent_stq ho) ?_
    simp only [Hw.ack_standby, hs, if_true]
    exact ⟨fun _ _ => rfl, rfl⟩

end Sys2Proof.Machine
end

section
/-! The keyway (R474, R475): O57. How the events of the blocks end, and bytes and words. -/

namespace Sys2Proof.Machine

/-! ## Events -/

section Events
variable {c : Instr} {s : State} {P : State → Prop}

/-- An event that cannot raise a fault ends in the state it makes. -/
theorem ends_of_doHw {f : Hw → Hw} (hc : exec c s = doHw f s) (hP : P { s with dev := s.dev.via f }) : Ends c s P :=
  ⟨_, hc, rfl, hP⟩

theorem ends_of_alive {f : Hw → Hw} (hc : exec c s = doHw (whenAlive f) s) (ha : Alive s)
    (hP : P { s with dev := s.dev.via f }) : Ends c s P := by
  refine ends_of_doHw hc ?_
  have hw : whenAlive f s.dev.hw = f s.dev.hw := by simp [whenAlive, ha]
  rwa [Dev.via, hw]

/-- An event that leaves the state where it runs leaves it where it does not. -/
theorem ends_of_whenAlive_same {f : Hw → Hw} (hc : exec c s = doHw (whenAlive f) s) (hf : f s.dev.hw = s.dev.hw) (hP : P s) :
    Ends c s P := by
  refine ends_of_doHw hc ?_
  have hw : whenAlive f s.dev.hw = s.dev.hw := by simp [whenAlive, hf]
  rwa [Dev.via, hw]

/-- No fault arises in the operation: the fault manager does nothing. -/
theorem Dev.settle_of_none {d : Dev} (hn : d.hw.sis.arriving = []) : d.settle = d := by
  rw [Dev.settle, Dev.via, Hw.settle_none _ hn]

end Events

/-! ## Bytes -/

@[simp] theorem length_leBytes (k n : Nat) : (leBytes k n).length = k := by
  induction k generalizing n with
  | zero => rfl
  | succ k ih => simp [leBytes, ih]

theorem ofLE_leBytes (k n : Nat) : ofLE (leBytes k n) = n % 256 ^ k := by
  induction k generalizing n with
  | zero => simp [leBytes, ofLE, Nat.mod_one]
  | succ k ih =>
    have hp : 256 ^ (k + 1) = 256 * 256 ^ k := by ring
    rw [leBytes, ofLE, ih, BitVec.toNat_ofNat, hp, Nat.mod_mul]

/-- A number stored in `k` bytes reads back. -/
theorem memNat_memWriteBytes_leBytes (m : List Host.Cell) (a k n : Nat) :
    memNat (memWriteBytes m a (leBytes k n)) a k = n % 256 ^ k := by
  have h := memReadBytes_memWriteBytes (leBytes k n) m a
  rw [length_leBytes] at h
  rw [memNat, h, ofLE_leBytes]

theorem draw_length (h : Hw) (n : Nat) : (h.draw n).1.length = 4 * n := by
  simp [Hw.draw, List.length_flatten, List.map_map, Function.comp_def]
  omega

/-! ## Sessions -/

/-- What the end of a session changes. -/
def kwRegs : List Nat := [SEC_KW_STAT, BLK_IRQ PG_SEC, TST_BSCAN]

/-- The end of an open session: it is closed, its permissions are gone, the interrupt stands. -/
theorem Hw.kwEnd_of_open {h : Hw} (ho : h.on SEC_KW_STAT_OPEN = true) :
    h.kwEnd.on SEC_KW_STAT_OPEN = false ∧ h.kwEnd.rd SEC_KW_STAT_PERM = 0 ∧ h.kwEnd.bitAt (BLK_IRQ PG_SEC) 3 = true ∧
      Hw.Only kwRegs h h.kwEnd := by
  have hb (g : Hw) : Hw.Only [TST_BSCAN] g (g.cond (decide (h.otp.done ≠ 0)) (·.wr TST_BSCAN_HOLD 0)) := by simp
  unfold Hw.kwEnd
  rw [if_pos ho]
  refine ⟨?_, ?_, ?_, ?_⟩
  · rw [(hb _).on (by decide)]
    simp (disch := decide) [Hw.on, Hw.irq, Hw.rd_setBitAt_ne, Hw.rd_wr_other, Hw.rd_wr_same]
  · rw [(hb _).rd (by decide)]
    simp (disch := decide) [Hw.irq, Hw.rd_setBitAt_ne, Hw.rd_wr_same]
  · rw [(hb _).bitAt (by decide)]
    exact Hw.irq_sets _ _ _ (by decide)
  · simp [kwRegs]

theorem keywayChallenge_given {s : State} (ha : Alive s) (hw : ∀ x, s.dev.hw.sec.failAt = some x → x + 16 ≤ s.dev.hw.opTime)
    (hu : s.dev.hw.otp.devuid.length = 16) : Ends .keywayChallenge s fun t =>
      let c := t.dev.hw.sec.challenge.getD []
      c.length = 64 ∧ c.take 16 = s.dev.hw.otp.devuid ∧
        (c.drop 16).take 8 = leBytes 4 s.dev.hw.secLcs ++ leBytes 4 s.dev.hw.secOpt ∧
        c.drop 56 = leBytes 6 s.dev.hw.opTime ++ leBytes 2 0 ∧ t.dev.hw.reply.data = packWords c ∧
        OnlyRegs [TST_BSCAN] s t := by
  refine ends_of_alive rfl ha ?_
  have hmode : ¬ s.dev.hw.mode ≤ 1 := by
    have hf : s.dev.hw.fabricOn = true := ha
    simp only [Hw.fabricOn, Bool.and_eq_true] at hf
    obtain ⟨⟨⟨h0, h1⟩, -⟩, -⟩ := hf
    simp at h0 h1
    omega
  have hwait : (s.dev.hw.sec.failAt.elim false fun t => decide (s.dev.hw.opTime < t + 16)) = false := by
    cases hx : s.dev.hw.sec.failAt with
    | none => rfl
    | some x => simpa using hw x hx
  have hn := draw_length s.dev.hw 8
  have hk : (decide (s.dev.hw.mode ≤ 1)) = false := by simpa using hmode
  simp only [Dev.via, kwChallenge, hwait, hk, Bool.or_false, Bool.false_eq_true, if_false, Option.getD_some]
  generalize (s.dev.hw.draw 8).1 = n at hn
  refine ⟨by simp [hu, hn], ?_, ?_, ?_, rfl, onlyRegs_of_only ?_ rfl⟩
  · simp [hu]
  · simp [List.take_append, hu]
  · simp [List.drop_append, List.drop_of_length_le, hu, hn]
  · simp (disch := decide) [Hw.tapLoad, Hw.draw]

/-- What a response must be: of the right length, with a key that opens, signed over the challenge (R474). -/
abbrev KwOpens (b c : List Byte) (h : Hw) : Prop :=
  b.length = 204 ∧ h.otp.kwKey = some (Config.sha384 ((b.drop 12).take 96)) ∧
    Config.ecdsaOk ((b.drop 12).take 96) (Config.sha384 (c ++ b.take 12)) (b.drop 108) = true

/-- The permissions a response asks for, as the life cycle grants them. -/
def kwPerm (b : List Byte) (h : Hw) : Nat := if h.otp.lc = 3 then ofLE (b.take 4) % 32 &&& 0x11 else ofLE (b.take 4) % 32

theorem kwPerm_lt (b : List Byte) (h : Hw) : kwPerm b h < 32 := by
  unfold kwPerm
  split
  · exact Nat.lt_of_le_of_lt Nat.and_le_left (Nat.mod_lt _ (by decide))
  · exact Nat.mod_lt _ (by decide)

/-- A response that opens a session. -/
theorem kwResponse_opens {b c : List Byte} {h : Hw} (hc : h.sec.challenge = some c) (ho : KwOpens b c h) :
    (kwResponse b h).sec = { h.sec with challenge := none, notAfter := ofLE ((b.drop 4).take 8) } ∧
      (kwResponse b h).on SEC_KW_STAT_OPEN = true ∧ (kwResponse b h).rd SEC_KW_STAT_PERM = kwPerm b h ∧
      (kwResponse b h).bitAt (BLK_IRQ PG_SEC) 2 = true ∧ Hw.Only [SEC_KW_STAT, BLK_IRQ PG_SEC] h (kwResponse b h) := by
  obtain ⟨h1, h2, h3⟩ := ho
  have hk : kwResponse b h = (((({ h with sec :=
      { h.sec with challenge := none, notAfter := ofLE ((b.drop 4).take 8) } }.wr SEC_KW_STAT_OPEN 1).wr SEC_KW_STAT_PERM
        (kwPerm b h)).wr SEC_KW_STAT_DENIED 0).irq PG_SEC 2) := by
    simp [kwResponse, hc, h1, h2, h3, kwPerm]
  have hp := kwPerm_lt b h
  rw [hk]
  refine ⟨by simp, ?_, ?_, Hw.irq_sets _ _ _ (by decide), by simp⟩
  · simp (disch := decide) [Hw.on, Hw.irq, Hw.rd_setBitAt_ne, Hw.rd_wr_other, Hw.rd_wr_same]
  · simp (disch := decide) [Hw.irq, Hw.rd_setBitAt_ne, Hw.rd_wr_other, Hw.rd_wr_same]
    omega

/-- Any other response is a failure, and the time of it is kept. -/
theorem kwResponse_fails {b c : List Byte} {h : Hw} (hc : h.sec.challenge = some c) (ho : ¬ KwOpens b c h) :
    kwResponse b h = { h with sec := { h.sec with challenge := none, failAt := some h.opTime } }.blockFault PG_SEC 11 := by
  have hok : (decide (b.length = 204) && decide (h.otp.kwKey = some (Config.sha384 ((b.drop 12).take 96))) &&
      Config.ecdsaOk ((b.drop 12).take 96) (Config.sha384 (c ++ b.take 12)) (b.drop 108)) = false := by
    rw [← Bool.not_eq_true]
    simpa [KwOpens, and_assoc] using ho
  simp only [kwResponse, hc, hok, Bool.false_eq_true, if_false]

/-! ## Writes of the keyway -/

/-- A write of the keyway outside the scope of its session sets DENIED. -/
theorem keywayWrite_denied {a w : Word} {s : State} (hf : s.dev.hw.fabricOn = true) (ho : s.on SEC_KW_STAT_OPEN = true)
    (hsc : s.dev.hw.kwScope a.toNat = false) :
    exec (.keywayWrite a w) s = .next { s with dev := s.dev.begin.via fun h => h.ack.wr SEC_KW_STAT_DENIED 1 } := by
  have hf' : s.dev.begin.hw.fabricOn = true := hf
  have ho' : s.dev.begin.hw.on SEC_KW_STAT_OPEN = true := ho
  have hsc' : s.dev.begin.hw.kwScope a.toNat = false := hsc
  show doDevF _ s = _
  simp only [doDevF, hf', if_true, Dev.write, ho', hsc', Bool.not_true, Bool.false_eq_true, if_false]
  rw [Dev.settle_of_none]
  · rfl
  · simp [Dev.via, Dev.begin]

/-- No pool slot lies in the shared SRAM (R155). -/
theorem poolSlots_sram {a n : Nat} (ha : a + n ≤ 0x20400000) : poolSlots a n = [] := by
  rw [poolSlots, List.filter_eq_nil_iff]
  intro s _ hs
  rw [Bool.and_eq_true, decide_eq_true_iff, poolBase] at hs
  omega

/-- A write of the keyway in its scope, of a word of the shared SRAM, stores it. -/
theorem keywayWrite_sram {a w : Word} {s : State} (hf : s.dev.hw.fabricOn = true)
    (hb : s.on CPR_WIPE_STAT_BUSY = false) (ho : s.on SEC_KW_STAT_OPEN = true) (hsc : s.dev.hw.kwScope a.toNat = true)
    (h1 : 0x20000000 ≤ a.toNat) (h2 : a.toNat + 4 ≤ 0x20400000) (h4 : a.toNat % 4 = 0) :
    exec (.keywayWrite a w) s = .next { s with dev :=
      { hw := s.dev.begin.hw.ack, mem := memWriteBytes s.dev.mem a.toNat (leBytes 4 w.toNat) } } := by
  have hf' : s.dev.begin.hw.fabricOn = true := hf
  have ho' : s.dev.begin.hw.on SEC_KW_STAT_OPEN = true := ho
  have hsc' : s.dev.begin.hw.kwScope a.toNat = true := hsc
  have hb' : s.dev.begin.hw.on CPR_WIPE_STAT_BUSY = false := hb
  have habs : s.dev.begin.hw.absentAt a.toNat = false := by
    simp [Hw.absentAt]
    omega
  have hwin : s.dev.begin.hw.window a.toNat 4 = .sram := by
    rw [Hw.window, if_neg (by omega), if_neg (by simp [inRange]; omega), if_pos (by simp [inSram, inRange]; omega)]
  have hal : ¬ (a.toNat % 4 ≠ 0 ∨ 0x100000000 ≤ a.toNat) := by omega
  have hstall : s.dev.begin.hw.wipeStalls a.toNat 4 = false := by simp [Hw.wipeStalls, hb']
  have hslots := poolSlots_sram (n := 4) h2
  show doDevF _ s = _
  simp only [doDevF, hf', if_true, Dev.write, ho', hsc', Bool.not_true, Bool.false_eq_true, if_false, Dev.busWrite, habs, hal,
    hstall, hwin, Dev.store, length_leBytes, hslots, Hw.each, List.foldl_nil]
  rw [Dev.settle_of_none]
  · rfl
  · simp [Dev.via, Dev.begin]

/-- Settles O57. -/
theorem keyway : Obligations.Keyway := by
  refine ⟨fun s ha hw hu => keywayChallenge_given ha hw hu, fun x s hx ht => ?_, fun b c s ha hc => ?_,
    fun s ha ho => ?_, fun w s hr ho hw => ?_, fun who w s hr hw => ?_, fun a w s hf ho hsc ha => ?_,
    fun a w s hf hb ho hsc h1 h2 h4 => ?_⟩
  · refine ends_of_whenAlive_same rfl ?_ ⟨rfl, fun _ _ => rfl, rfl⟩
    simp [kwChallenge, hx, ht]
  · refine ends_of_alive rfl ha ?_
    by_cases hok : KwOpens b c s.dev.hw
    · obtain ⟨hsec, hopen, hperm, hirq, honly⟩ := kwResponse_opens hc hok
      refine ⟨congrArg SecState.challenge hsec, ?_⟩
      rw [if_pos hok]
      exact ⟨hopen, congrArg SecState.notAfter hsec, hperm, hirq, honly, rfl⟩
    · have hk := kwResponse_fails hc hok
      simp only [Dev.via, hk]
      refine ⟨by simp, ?_⟩
      rw [if_neg hok]
      exact ⟨(Hw.blockFault_sets _ _ _ (by decide)).1, by simp, onlyRegs_of_only (by simp) rfl⟩
  · obtain ⟨hopen, -, -, honly⟩ := Hw.kwEnd_of_open ho
    refine ends_of_alive rfl ha ?_
    by_cases he : s.dev.hw.sec.notAfter ≤ s.dev.hw.opTime
    · simp only [Dev.via, kwExpire, he, if_true]
      exact ⟨hopen.trans (by simpa using he), honly, rfl⟩
    · simp only [Dev.via, kwExpire, he, if_false]
      exact ⟨ho.trans (by simpa using he), fun _ _ => rfl, rfl⟩
  · obtain ⟨hopen, hperm, hirq, honly⟩ := Hw.kwEnd_of_open (h := s.dev.hw.ack) ho
    refine ends_of_writeHw rfl hr ?_
    have hw' : decide (getBits w 8 1 = 1) = true := (getBits_one_eq_one w 8).trans hw
    simp only [Dev.via, kwClose, Hw.agent0, if_true, hw', Hw.cond]
    exact ⟨hopen, hperm, hirq, honly, rfl⟩
  · refine ends_of_writeHw rfl hr ?_
    simp only [Dev.via, kwClose, Hw.agent0, hw, if_false]
    exact ⟨(Hw.blockFault_sets _ _ _ (by decide)).1, onlyRegs_of_only (by simp) rfl⟩
  · refine ⟨_, keywayWrite_denied hf ho hsc, rfl, ?_, ?_, onlyRegsAndFaults_of_only ?_ rfl⟩
    · exact Hw.on_wr_same _ SEC_KW_STAT_DENIED true (by decide) rfl
    · simp [Dev.via, Dev.begin, Hw.ack]
    · simp [Dev.via, Dev.begin]
  · refine ⟨_, keywayWrite_sram hf hb ho hsc h1 h2 h4, rfl, ?_, fun b hb => ?_, fun _ _ => rfl⟩
    · rw [memNat_memWriteBytes_leBytes]
      exact Nat.mod_eq_of_lt w.isLt
    · exact memRead_memWriteBytes_out _ _ _ _ (by simpa using hb)

end Sys2Proof.Machine
end

section
/-! Mailbox messages, doorbells and latches (R423 to R433): O51. -/

namespace Sys2Proof.Machine

/-! ## Accesses that reach their register -/

/-- A read by an agent that makes accesses ends in the state it makes. -/
theorem ends_of_readHw {c : Instr} {a : Fin 8} {f : Hw → Hw} {s : State} {P : State → Prop}
    (hc : exec c s = doDev (readHw (.agent a) f) s) (ha : s.dev.hw.canAccess (.agent a) = true)
    (hP : P { s with dev := s.dev.via f }) : Ends c s P := by
  refine ⟨{ s with dev := s.dev.via f }, ?_, rfl, hP⟩
  rw [hc, doDev, readHw, Dev.byReader, if_neg (by simp [ha]), if_neg (by simp)]
  rfl

/-- What a read of the keyway leaves: nothing but its answer, where the operation itself leaves the registers. -/
theorem ends_keyway_read {c : Instr} {f : Hw → Hw} {s : State} (hc : exec c s = doDev (readHw .keyway f) s)
    (hf : Hw.Only [] s.dev.hw (f s.dev.hw)) : Ends c s (OnlyRegs [] s) := by
  refine ⟨_, hc, rfl, ?_, readHw_mem _ _ _⟩
  show Hw.Only [] s.dev.hw (readHw .keyway f s.dev).hw
  unfold readHw Dev.byReader
  split
  · exact Hw.Only.refl _ _
  · split
    · exact fun _ _ => rfl
    · exact hf

/-- A write of MLB or LAT by an agent that is taken ends in the state it makes. -/
theorem ends_of_notKeyway {c : Instr} {a : Fin 8} {p x b : Nat} {f : Hw → Hw} {s : State} {P : State → Prop}
    (hc : exec c s = doDev (writeHw (.agent a) x (·.notKeyway (.agent a) p b f)) s) (hm : MayOperate (.agent a) p x s)
    (hP : P { s with dev := { s.dev with hw := f s.dev.hw.ack } }) : Ends c s P :=
  ends_of_opWrite (f := f) (p := p) (hc.trans (by simp [Hw.notKeyway])) hm hP

/-- And so does one that only a party of the channel may make. -/
theorem ends_of_party {c : Instr} {a : Fin 8} {x n : Nat} {f : Hw → Hw} {s : State} {P : State → Prop}
    (hc : exec c s = doDev (writeHw (.agent a) x (·.party (.agent a) n f)) s) (hm : MayOperate (.agent a) PG_MLB x s)
    (hn : n = a.val) (hP : P { s with dev := { s.dev with hw := f s.dev.hw.ack } }) : Ends c s P := by
  refine ends_of_notKeyway hc hm ?_
  rwa [if_pos (show Who.num (.agent a) = n from hn.symm)]

/-- A fault cause of MLB on an acknowledged access stands, and nothing else changes. -/
theorem mlbRefused_blockFault (s : State) (b : Nat) (hb : b < 32) (r : Reply) :
    MlbRefused b s { s with dev := { s.dev with hw := { s.dev.hw with reply := r }.blockFault PG_MLB b } } :=
  ⟨(Hw.blockFault_sets _ _ _ hb).1, onlyRegs_of_only (by simp) rfl⟩

/-- Another agent is no party. -/
theorem ends_notParty {c : Instr} {a : Fin 8} {x n : Nat} {f : Hw → Hw} {s : State}
    (hc : exec c s = doDev (writeHw (.agent a) x (·.party (.agent a) n f)) s) (hm : MayOperate (.agent a) PG_MLB x s)
    (hn : n ≠ a.val) : Ends c s (MlbRefused 9 s) := by
  refine ends_of_notKeyway hc hm ?_
  rw [if_neg (show ¬ Who.num (.agent a) = n from hn.symm)]
  exact mlbRefused_blockFault s 9 (by decide) _

/-- A write of the keyway is refused. -/
theorem ends_keyway_refused {c : Instr} {x p b : Nat} {f : Hw → Hw} {s : State} (hb : b < 32)
    (hc : exec c s = doDev (writeHw .keyway x (·.notKeyway .keyway p b f)) s) (hf : s.dev.hw.fabricOn = true)
    (ho : s.on SEC_KW_STAT_OPEN = true) (hx : s.dev.hw.kwScope x = true) :
    Ends c s fun t => t.dev.hw.bitAt (BLK_FAULT p) b = true ∧ OnlyRegs [BLK_FAULT p, BLK_IRQ p] s t := by
  refine ends_of_writeHw hc ⟨by simp [Hw.canAccess, Hw.agentOn, hf], fun _ => ⟨ho, hx⟩⟩ ?_
  simp only [Dev.via, Hw.notKeyway, if_true]
  exact ⟨(Hw.blockFault_sets _ _ _ hb).1, onlyRegs_of_only (by simp) rfl⟩

/-! ## Channels -/

theorem Hw.snd_lt (h : Hw) (n : Nat) : h.snd n < 8 := getBits_lt _ _ _
theorem Hw.rcv_lt (h : Hw) (n : Nat) : h.rcv n < 8 := getBits_lt _ _ _

/-- No doorbell register is a channel's. -/
theorem dba_ne_stat {a : Nat} (_ha : a < 8) (n : Nat) : MLB_DBa a ≠ MLBn_STAT n := by
  unfold MLB_DBa MLBn_STAT; omega

theorem dba_ne_ack {a : Nat} (_ha : a < 8) (n : Nat) : MLB_DBa a ≠ MLBn_ACK n := by
  unfold MLB_DBa MLBn_ACK; omega

theorem Hw.reg_ring (h : Hw) (a bits : Nat) : (h.ring a bits).reg (MLB_DBa a) = h.reg (MLB_DBa a) ||| BitVec.ofNat 32 bits := by
  rw [Hw.ring, Hw.reg_setNat_same, BitVec.ofNat_or]
  simp [Hw.nat]

theorem Hw.only_ring (h : Hw) (a bits : Nat) : Hw.Only [MLB_DBa a] h (h.ring a bits) := by simp [Hw.ring]

theorem Hw.chanClear_clears (h : Hw) (n : Nat) :
    (h.chanClear n).reg (MLBn_STAT n) = 0 ∧ (h.chanClear n).reg (MLBn_ACK n) = 0 ∧
      Hw.Only [MLBn_STAT n, MLBn_ACK n] h (h.chanClear n) := by
  refine ⟨?_, Hw.reg_setReg_same _ _ _, by simp [Hw.chanClear]⟩
  rw [Hw.chanClear, Hw.reg_setReg_ne _ _ (by simp), Hw.reg_setReg_same]

/-- A post from EMPTY or ACKED (R426). -/
theorem Hw.chanPost_posts (h : Hw) (n : Nat) :
    (h.chanPost n).chan n = chanPosted ∧ (h.chanPost n).rd (MLBn_STAT_EPOCH n) = h.epoch (h.snd n) ∧
      (h.chanPost n).on (MLBn_STAT_RD n) = false ∧ (h.chanPost n).reg (MLBn_ACK n) = 0 ∧
      (h.chanPost n).reg (MLB_DBa (h.rcv n)) =
        h.reg (MLB_DBa (h.rcv n)) ||| BitVec.ofNat 32 (2 ^ h.rd (MLBn_CFG_RDB n)) ∧
      Hw.Only [MLBn_STAT n, MLBn_ACK n, MLB_DBa (h.rcv n)] h (h.chanPost n) := by
  have hr := h.rcv_lt n
  have hring := fun g : Hw => g.only_ring (h.rcv n) (2 ^ h.rd (MLBn_CFG_RDB n))
  obtain ⟨hstat, hack, honly⟩ := h.chanClear_clears n
  have h1 := dba_ne_stat hr n
  have h2 := dba_ne_ack hr n
  have hs : MLBn_STAT n ∉ [MLB_DBa (h.rcv n)] := by simp [h1.symm]
  have ha : MLBn_ACK n ∉ [MLB_DBa (h.rcv n)] := by simp [h2.symm]
  have hd : MLB_DBa (h.rcv n) ∉ [MLBn_STAT n, MLBn_ACK n] := by simp [h1, h2]
  have he : h.epoch (h.snd n) < 2 ^ 8 := getBits_lt _ _ _
  refine ⟨?_, ?_, ?_, ?_, ?_, ?_⟩
  · rw [Hw.chan, Hw.chanPost, (hring _).rd hs, Hw.rd_wr_other _ _ _ _ (by simp), Hw.rd_wr_same _ _ _ (by simp)]
    rfl
  · rw [Hw.chanPost, (hring _).rd hs, Hw.rd_wr_same _ _ _ (by simp)]
    exact Nat.mod_eq_of_lt he
  · rw [Hw.chanPost, (hring _).on hs, Hw.on_wr_other _ _ _ _ (by simp), Hw.on_wr_other _ _ _ _ (by simp), Hw.on, Hw.rd, hstat]
    rfl
  · rw [Hw.chanPost, (hring _).reg ha, Hw.reg_wr_ne _ _ _ (by simp), Hw.reg_wr_ne _ _ _ (by simp), hack]
  · rw [Hw.chanPost, Hw.reg_ring, Hw.reg_wr_ne _ _ _ h1, Hw.reg_wr_ne _ _ _ h1, honly.reg hd]
  · refine Hw.Only.trans ?_ ((hring _).mono (by simp))
    simp [Hw.chanClear]

/-- The acknowledge of a posted message (R426). -/
theorem Hw.chanAck_acks (h : Hw) (n code : Nat) (hc : code < 2 ^ 8) :
    (h.chanAck n code).chan n = chanAcked ∧ (h.chanAck n code).on (MLBn_ACK_VALID n) = true ∧
      (h.chanAck n code).rd (MLBn_ACK_CODE n) = code ∧
      (h.chanAck n code).rd (MLBn_ACK_EPOCH n) = h.rd (MLBn_STAT_EPOCH n) ∧
      (h.chanAck n code).reg (MLB_DBa (h.snd n)) =
        h.reg (MLB_DBa (h.snd n)) ||| BitVec.ofNat 32 (2 ^ h.rd (MLBn_CFG_ADB n)) ∧
      Hw.Only [MLBn_STAT n, MLBn_ACK n, MLB_DBa (h.snd n)] h (h.chanAck n code) := by
  have hr := h.snd_lt n
  have hring := fun g : Hw => g.only_ring (h.snd n) (2 ^ h.rd (MLBn_CFG_ADB n))
  have h1 := dba_ne_stat hr n
  have h2 := dba_ne_ack hr n
  have hs : MLBn_STAT n ∉ [MLB_DBa (h.snd n)] := by simp [h1.symm]
  have ha : MLBn_ACK n ∉ [MLB_DBa (h.snd n)] := by simp [h2.symm]
  have he : h.rd (MLBn_STAT_EPOCH n) < 2 ^ 8 := getBits_lt _ _ _
  refine ⟨?_, ?_, ?_, ?_, ?_, ?_⟩
  · rw [Hw.chan, Hw.chanAck, (hring _).rd hs, Hw.rd_wr_same _ _ _ (by simp)]
    rfl
  · rw [Hw.chanAck, (hring _).on ha, Hw.on_wr_other _ _ _ _ (by simp), Hw.on_wr_other _ _ _ _ (by simp),
      Hw.on_wr_other _ _ _ _ (by simp)]
    exact Hw.on_wr_same _ (MLBn_ACK_VALID n) true (by simp) rfl
  · rw [Hw.chanAck, (hring _).rd ha, Hw.rd_wr_other _ _ _ _ (by simp), Hw.rd_wr_same _ _ _ (by simp)]
    exact Nat.mod_eq_of_lt hc
  · rw [Hw.chanAck, (hring _).rd ha, Hw.rd_wr_other _ _ _ _ (by simp), Hw.rd_wr_other _ _ _ _ (by simp),
      Hw.rd_wr_same _ _ _ (by simp)]
    exact Nat.mod_eq_of_lt he
  · rw [Hw.chanAck, Hw.reg_ring, Hw.reg_wr_ne _ _ _ h1, Hw.reg_wr_ne _ _ _ h2, Hw.reg_wr_ne _ _ _ h2,
      Hw.reg_wr_ne _ _ _ h2]
  · refine Hw.Only.trans ?_ ((hring _).mono (by simp))
    simp

/-- What a control write of the sender does to its channel (R425, R426). -/
def Hw.senderOrder (h : Hw) (n op : Nat) : Hw :=
  if op = 1 ∧ ((h.chan n = chanEmpty ∧ h.on (MLBn_CFG_EN n)) ∨ (h.chan n = chanAcked ∧ !h.on (MLBn_STAT_SND_STALE n))) then
    h.chanPost n
  else if (op = 2 ∧ h.chan n = chanPosted) ∨ (op = 4 ∧ h.chan n = chanAcked) then h.chanClear n
  else h.blockFault PG_MLB 11

theorem Hw.senderOrder_post (h : Hw) (n : Nat) : h.senderOrder n 1 =
    if (h.chan n = chanEmpty ∧ h.on (MLBn_CFG_EN n)) ∨ (h.chan n = chanAcked ∧ !h.on (MLBn_STAT_SND_STALE n)) then
      h.chanPost n
    else h.blockFault PG_MLB 11 := by simp [Hw.senderOrder]

theorem Hw.senderOrder_withdraw (h : Hw) (n : Nat) : h.senderOrder n 2 =
    if h.chan n = chanPosted then h.chanClear n else h.blockFault PG_MLB 11 := by simp [Hw.senderOrder]

theorem Hw.senderOrder_take (h : Hw) (n : Nat) : h.senderOrder n 4 =
    if h.chan n = chanAcked then h.chanClear n else h.blockFault PG_MLB 11 := by simp [Hw.senderOrder]

@[simp] theorem Hw.ack_chan (h : Hw) (n : Nat) : h.ack.chan n = h.chan n := rfl
@[simp] theorem Hw.ack_snd (h : Hw) (n : Nat) : h.ack.snd n = h.snd n := rfl
@[simp] theorem Hw.ack_rcv (h : Hw) (n : Nat) : h.ack.rcv n = h.rcv n := rfl

/-- A channel that is emptied keeps nothing of its message. -/
theorem chanClear_ends {s : State} (n : Nat) (t : State) (ht : t.dev.hw = s.dev.hw.ack.chanClear n) (hmem : SameMem s t) :
    t.reg (MLBn_STAT n) = 0 ∧ t.reg (MLBn_ACK n) = 0 ∧ OnlyRegs [MLBn_STAT n, MLBn_ACK n] s t := by
  obtain ⟨h1, h2, h3⟩ := s.dev.hw.ack.chanClear_clears n
  rw [← ht] at h1 h2 h3
  exact ⟨h1, h2, h3, hmem⟩

section Channels
variable {a : Fin 8} {n : Fin 16} {s : State} (hm : Posts a n.val s)
include hm

section Sender
variable (ha : s.dev.hw.snd n.val = a.val)
include ha

/-- The sender's order on its channel ends in what `senderOrder` makes of it. -/
theorem ends_sender {c : Instr} (w : Word) {P : State → Prop}
    (hc : exec c s = doDev (writeHw (.agent a) (MLBn_CTL n.val) (chanControl (.agent a) n.val w)) s)
    (hP : P { s with dev := { s.dev with hw := s.dev.hw.ack.senderOrder n.val (getBits w 0 3) } }) : Ends c s P :=
  ends_of_party hc hm ha hP

theorem mlbPost_posts (hs : s.dev.hw.chan n.val = chanEmpty ∧ s.on (MLBn_CFG_EN n.val) = true ∨
      s.dev.hw.chan n.val = chanAcked ∧ s.on (MLBn_STAT_SND_STALE n.val) = false) :
    Ends (.mlbPost (.agent a) n) s fun t =>
      t.dev.hw.chan n.val = chanPosted ∧ t.rd (MLBn_STAT_EPOCH n.val) = s.dev.hw.epoch a.val ∧
      t.on (MLBn_STAT_RD n.val) = false ∧ t.reg (MLBn_ACK n.val) = 0 ∧
      t.reg (MLB_DBa (s.dev.hw.rcv n.val)) =
        s.reg (MLB_DBa (s.dev.hw.rcv n.val)) ||| BitVec.ofNat 32 (2 ^ s.rd (MLBn_CFG_RDB n.val)) ∧
      OnlyRegs [MLBn_STAT n.val, MLBn_ACK n.val, MLB_DBa (s.dev.hw.rcv n.val)] s t := by
  obtain ⟨h1, h2, h3, h4, h5, h6⟩ := s.dev.hw.ack.chanPost_posts n.val
  refine ends_sender hm ha 1 rfl ?_
  rw [show getBits (1 : Word) 0 3 = 1 from rfl, Hw.senderOrder_post, if_pos (by simpa [State.on] using hs)]
  exact ⟨h1, h2.trans (congrArg s.dev.hw.epoch ha), h3, h4, h5, h6, rfl⟩

theorem mlbPost_refused (hs : s.dev.hw.chan n.val = chanPosted ∨
      s.dev.hw.chan n.val = chanEmpty ∧ s.on (MLBn_CFG_EN n.val) = false ∨
      s.dev.hw.chan n.val = chanAcked ∧ s.on (MLBn_STAT_SND_STALE n.val) = true) :
    Ends (.mlbPost (.agent a) n) s (MlbRefused 11 s) := by
  refine ends_sender hm ha 1 rfl ?_
  rw [show getBits (1 : Word) 0 3 = 1 from rfl, Hw.senderOrder_post, if_neg]
  · exact mlbRefused_blockFault s 11 (by decide) _
  · obtain hp | ⟨he, hen⟩ | ⟨hk, hst⟩ := hs
    · simp [hp, chanPosted, chanEmpty, chanAcked]
    · simpa [he, chanEmpty, chanAcked, State.on] using hen
    · simpa [hk, chanEmpty, chanAcked, State.on] using hst

theorem mlbWithdraw_ends : Ends (.mlbWithdraw (.agent a) n) s fun t =>
    if s.dev.hw.chan n.val = chanPosted then
      t.reg (MLBn_STAT n.val) = 0 ∧ t.reg (MLBn_ACK n.val) = 0 ∧ OnlyRegs [MLBn_STAT n.val, MLBn_ACK n.val] s t
    else MlbRefused 11 s t := by
  refine ends_sender hm ha 2 rfl ?_
  rw [show getBits (2 : Word) 0 3 = 2 from rfl, Hw.senderOrder_withdraw, Hw.ack_chan]
  by_cases hp : s.dev.hw.chan n.val = chanPosted
  · simp only [hp, if_true]
    exact chanClear_ends n.val _ rfl rfl
  · simp only [hp, if_false]
    exact mlbRefused_blockFault s 11 (by decide) _

theorem mlbTake_ends : Ends (.mlbTake (.agent a) n) s fun t =>
    if s.dev.hw.chan n.val = chanAcked then
      t.reg (MLBn_STAT n.val) = 0 ∧ t.reg (MLBn_ACK n.val) = 0 ∧ OnlyRegs [MLBn_STAT n.val, MLBn_ACK n.val] s t
    else MlbRefused 11 s t := by
  refine ends_sender hm ha 4 rfl ?_
  rw [show getBits (4 : Word) 0 3 = 4 from rfl, Hw.senderOrder_take, Hw.ack_chan]
  by_cases hp : s.dev.hw.chan n.val = chanAcked
  · simp only [hp, if_true]
    exact chanClear_ends n.val _ rfl rfl
  · simp only [hp, if_false]
    exact mlbRefused_blockFault s 11 (by decide) _

end Sender

theorem mlbAck_ends (w : Word) (ha : s.dev.hw.rcv n.val = a.val) : Ends (.mlbAck (.agent a) n w) s fun t =>
      if s.dev.hw.chan n.val = chanPosted then
        t.dev.hw.chan n.val = chanAcked ∧ t.on (MLBn_ACK_VALID n.val) = true ∧ t.rd (MLBn_ACK_CODE n.val) = getBits w 0 8 ∧
        t.rd (MLBn_ACK_EPOCH n.val) = s.rd (MLBn_STAT_EPOCH n.val) ∧ t.reg (MLB_DBa (s.dev.hw.snd n.val)) =
          s.reg (MLB_DBa (s.dev.hw.snd n.val)) ||| BitVec.ofNat 32 (2 ^ s.rd (MLBn_CFG_ADB n.val)) ∧
        OnlyRegs [MLBn_STAT n.val, MLBn_ACK n.val, MLB_DBa (s.dev.hw.snd n.val)] s t
      else MlbRefused 11 s t := by
  refine ends_of_party rfl (n := s.dev.hw.rcv n.val) (f := fun h =>
    if h.chan n.val = chanPosted then h.chanAck n.val (getBits w 0 8) else h.blockFault PG_MLB 11) hm ha ?_
  by_cases hp : s.dev.hw.chan n.val = chanPosted
  · obtain ⟨h1, h2, h3, h4, h5, h6⟩ := s.dev.hw.ack.chanAck_acks n.val (getBits w 0 8) (getBits_lt _ _ _)
    simp only [Hw.ack_chan, hp, if_true]
    exact ⟨h1, h2, h3, h4, h5, h6, rfl⟩
  · simp only [Hw.ack_chan, hp, if_false]
    exact mlbRefused_blockFault s 11 (by decide) _

end Channels

theorem mlbPayloadWrite_ends {a : Fin 8} {n : Fin 16} {s : State} (k : Fin 8) (w : Word) (ha : s.dev.hw.snd n.val = a.val)
    (hd : MayOperate (.agent a) PG_MLB (MLBn_D n.val k.val) s) :
    Ends (.mlbPayloadWrite (.agent a) n k w) s fun t => if s.dev.hw.chan n.val = chanPosted then MlbRefused 10 s t
      else t.reg (MLBn_D n.val k.val) = w ∧ OnlyRegs [MLBn_D n.val k.val] s t := by
  refine ends_of_party rfl (n := s.dev.hw.snd n.val) (f := fun h =>
    if h.chan n.val = chanPosted then h.blockFault PG_MLB 10 else h.setReg (MLBn_D n.val k.val) w) hd ha ?_
  by_cases hp : s.dev.hw.chan n.val = chanPosted
  · simp only [Hw.ack_chan, hp, if_true]
    exact mlbRefused_blockFault s 10 (by decide) _
  · simp only [Hw.ack_chan, hp, if_false]
    exact ⟨Hw.reg_setReg_same _ _ _, onlyRegs_of_only (by simp) rfl⟩

/-- A page an agent may write it may write at every address. -/
theorem MayOperate.agent {a : Fin 8} {p x : Nat} (y : Nat) {s : State} (hm : MayOperate (.agent a) p x s) :
    MayOperate (.agent a) p y s := ⟨⟨hm.1.1, nofun⟩, hm.2⟩

/-! ## Payload reads -/

section PayloadReads
variable {a : Fin 8} {n : Fin 16} (k : Fin 8) {s : State} (ha : s.dev.hw.canAccess (.agent a) = true)
include ha

theorem mlbPayloadRead_receiver (hr : s.dev.hw.rcv n.val = a.val) (hs : s.dev.hw.snd n.val ≠ a.val)
    (hc : s.dev.hw.chan n.val ≠ chanEmpty) : Ends (.mlbPayloadRead (.agent a) n k) s fun t =>
      t.dev.hw.reply.data = [s.reg (MLBn_D n.val k.val)] ∧ t.on (MLBn_STAT_RD n.val) = true ∧
      OnlyRegs [MLBn_STAT n.val] s t := by
  refine ends_of_readHw rfl ha ?_
  simp only [Dev.via, payloadRead, reduceCtorEq, if_false, Who.num, hs.symm, hr, if_true, hc, Hw.cond, ne_eq,
    not_false_eq_true, decide_true]
  exact ⟨by simp; rfl, Hw.on_wr_same _ (MLBn_STAT_RD n.val) true (by simp) rfl, onlyRegs_of_only (by simp) rfl⟩

theorem mlbPayloadRead_sender (hs : s.dev.hw.snd n.val = a.val) :
    Ends (.mlbPayloadRead (.agent a) n k) s fun t =>
      t.dev.hw.reply.data = [s.reg (MLBn_D n.val k.val)] ∧ OnlyRegs [] s t := by
  refine ends_of_readHw rfl ha ?_
  simp only [Dev.via, payloadRead, reduceCtorEq, if_false, Who.num, hs, if_true]
  exact ⟨rfl, fun _ _ => rfl, rfl⟩

theorem mlbPayloadRead_other (hs : s.dev.hw.snd n.val ≠ a.val) (hr : s.dev.hw.rcv n.val ≠ a.val) (h0 : a ≠ 0) :
    Ends (.mlbPayloadRead (.agent a) n k) s fun t => t.dev.hw.reply.data = [0] ∧ MlbRefused 9 s t := by
  have h0' : a.val ≠ 0 := fun e => h0 (Fin.ext e)
  refine ends_of_readHw rfl ha ?_
  simp only [Dev.via, payloadRead, reduceCtorEq, if_false, Who.num, hs.symm, hr.symm, h0']
  exact ⟨by simp; rfl, mlbRefused_blockFault s 9 (by decide) _⟩

end PayloadReads

/-! ## Doorbells -/

theorem doorbellRing_rings {a b : Fin 8} {w : Word} {s : State}
    (hm : MayOperate (.agent b) PG_MLB (MLB_DBa_SET a.val) s) : Ends (.doorbellRing (.agent b) a w) s fun t =>
      t.reg (MLB_DBa a.val) = s.reg (MLB_DBa a.val) ||| w ∧ OnlyRegs [MLB_DBa a.val] s t := by
  refine ends_of_notKeyway rfl hm ⟨?_, onlyRegs_of_only (Hw.only_ring _ _ _) rfl⟩
  exact (Hw.reg_ring _ _ _).trans (by simp [State.reg, Hw.ack, Hw.reg])

/-- A write of its own doorbell registers by their agent; another's is NOTPARTY. -/
theorem ends_doorbell {a b : Fin 8} {c : Instr} {x : Nat} {f : Hw → Hw} {s : State} {P : State → Prop}
    (hc : exec c s = doDev (writeHw (.agent b) x (·.party (.agent b) a.val f)) s)
    (hm : MayOperate (.agent b) PG_MLB x s) (hP : P { s with dev := { s.dev with hw := f s.dev.hw.ack } }) :
    Ends c s fun t => if a = b then P t else MlbRefused 9 s t := by
  by_cases hab : a = b
  · simp only [if_pos hab]
    exact ends_of_party hc hm (congrArg Fin.val hab) hP
  · simp only [if_neg hab]
    exact ends_notParty hc hm fun e => hab (Fin.ext e)

/-! ## Latches -/

theorem Hw.latch_eq_rd (h : Hw) (j : Nat) :
    h.latch j = if h.rd ⟨LAT_OWNi (j / 8), 4 * (j % 8), 4⟩ < 8 then none else some (h.rd ⟨LAT_OWNi (j / 8), 4 * (j % 8), 4⟩ % 8) :=
  rfl

theorem owni_ne_held {i k : Nat} (hi : i < 8) : LAT_OWNi i ≠ LAT_HELD0 + 4 * k ∨ 8 ≤ k := by
  unfold LAT_OWNi LAT_HELD0; omega

theorem Hw.latch_setLatch_same (h : Hw) (j : Nat) (o : Option Nat) (ho : ∀ a, o = some a → a < 8) (hj : j < 64) :
    (h.setLatch j o).latch j = o := by
  have hne : LAT_OWNi (j / 8) ≠ LAT_HELD0 + 4 * (j / 32) := by unfold LAT_OWNi LAT_HELD0; omega
  rw [Hw.latch_eq_rd, Hw.setLatch, Hw.rd_setBitAt_ne _ _ _ _ hne, Hw.rd_wr_same _ _ _ (by simp; omega)]
  cases o with
  | none => rfl
  | some a =>
    have := ho a rfl
    simp only [Option.elim_some]
    interval_cases a <;> rfl

theorem Hw.latch_setLatch_ne (h : Hw) {i j : Nat} (o : Option Nat) (hi : i < 64) (hj : j < 64) (hij : i ≠ j) :
    (h.setLatch j o).latch i = h.latch i := by
  have hne : LAT_OWNi (i / 8) ≠ LAT_HELD0 + 4 * (j / 32) := by unfold LAT_OWNi LAT_HELD0; omega
  have hrd : (h.setLatch j o).rd ⟨LAT_OWNi (i / 8), 4 * (i % 8), 4⟩ = h.rd ⟨LAT_OWNi (i / 8), 4 * (i % 8), 4⟩ := by
    rw [Hw.setLatch, Hw.rd_setBitAt_ne _ _ _ _ hne, Hw.rd_wr_other]
    simp only [LAT_OWNi]
    omega
  rw [Hw.latch_eq_rd, hrd, ← Hw.latch_eq_rd]

theorem Hw.held_setLatch (h : Hw) (j : Nat) (o : Option Nat) :
    (h.setLatch j o).bitAt (LAT_HELD0 + 4 * (j / 32)) (j % 32) = o.isSome :=
  Hw.bitAt_setBitAt_same _ _ _ _ (by omega)

theorem Hw.only_setLatch (h : Hw) (j : Nat) (o : Option Nat) :
    Hw.Only [LAT_OWNi (j / 8), LAT_HELD0 + 4 * (j / 32)] h (h.setLatch j o) := by simp [Hw.setLatch]

/-- A latch taken or freed on an access: it alone changes. -/
theorem latch_set (s : State) (h : Hw) (hr : h.regs = s.dev.hw.regs) (j : Fin 64) (o : Option Nat) (ho : ∀ a, o = some a → a < 8) :
    let t : State := { s with dev := { s.dev with hw := h.setLatch j.val o } }
    t.dev.hw.latch j.val = o ∧ t.dev.hw.bitAt (LAT_HELD0 + 4 * (j.val / 32)) (j.val % 32) = o.isSome ∧
      (∀ i ∈ List.range 64, i ≠ j.val → t.dev.hw.latch i = s.dev.hw.latch i) ∧
      OnlyRegs [LAT_OWNi (j.val / 8), LAT_HELD0 + 4 * (j.val / 32)] s t := by
  have hreg : ∀ r, h.reg r = s.dev.hw.reg r := fun r => by simp only [Hw.reg, hr]
  refine ⟨h.latch_setLatch_same _ _ ho j.isLt, h.held_setLatch _ _, fun i hi hne => ?_, fun r hr => ?_, rfl⟩
  · rw [Hw.latch_setLatch_ne _ _ (List.mem_range.mp hi) j.isLt hne, Hw.latch, Hw.latch, hreg]
  · exact (h.only_setLatch _ _ r hr).trans (hreg r)

theorem latchAcquire_free {a : Fin 8} {j : Fin 64} {s : State} (ha : s.dev.hw.canAccess (.agent a) = true)
    (hl : s.dev.hw.latch j.val = none) : Ends (.latchAcquire (.agent a) j) s fun t =>
      t.dev.hw.reply.data = [0] ∧ t.dev.hw.latch j.val = some a.val ∧
      t.dev.hw.bitAt (LAT_HELD0 + 4 * (j.val / 32)) (j.val % 32) = true ∧
      (∀ i ∈ List.range 64, i ≠ j.val → t.dev.hw.latch i = s.dev.hw.latch i) ∧
      OnlyRegs [LAT_OWNi (j.val / 8), LAT_HELD0 + 4 * (j.val / 32)] s t := by
  refine ends_of_readHw rfl ha ?_
  simp only [Dev.via, latchRead, hl, Option.isSome_none, Bool.false_eq_true, reduceCtorEq, or_self, if_false]
  exact ⟨by simp [Hw.setLatch]; rfl, latch_set s (s.dev.hw.answer _) rfl j (some a.val) fun _ e => by cases e; exact a.isLt⟩

theorem latchAcquire_held {a : Fin 8} {j : Fin 64} {s : State} (ha : s.dev.hw.canAccess (.agent a) = true)
    (hl : s.dev.hw.latch j.val ≠ none) : Ends (.latchAcquire (.agent a) j) s fun t =>
      t.dev.hw.reply.data = [0x8000#32 ||| BitVec.ofNat 32 ((s.dev.hw.latch j.val).getD 0)] ∧ OnlyRegs [] s t := by
  obtain ⟨o, ho⟩ := Option.ne_none_iff_exists'.mp hl
  have hlt : o < 8 := by
    have := ho.symm
    rw [Hw.latch_eq_rd] at this
    split at this
    · cases this
    · cases this; omega
  refine ends_of_readHw rfl ha ?_
  simp only [Dev.via, latchRead, ho, Option.isSome_some, true_or, if_true]
  refine ⟨?_, fun _ _ => rfl, rfl⟩
  show [BitVec.ofNat 32 (0x8000 + o)] = _
  interval_cases o <;> rfl

theorem latchRelease_ends {a : Fin 8} {j : Fin 64} {w : Word} {s : State} (hm : MayOperate (.agent a) PG_LAT (LAT_Lj j.val) s) :
    Ends (.latchRelease (.agent a) j w) s fun t =>
      if s.dev.hw.latch j.val = some a.val then t.dev.hw.latch j.val = none ∧
        t.dev.hw.bitAt (LAT_HELD0 + 4 * (j.val / 32)) (j.val % 32) = false ∧
        (∀ i ∈ List.range 64, i ≠ j.val → t.dev.hw.latch i = s.dev.hw.latch i) ∧
        OnlyRegs [LAT_OWNi (j.val / 8), LAT_HELD0 + 4 * (j.val / 32)] s t
      else t.dev.hw.bitAt (BLK_FAULT PG_LAT) 8 = true ∧ OnlyRegs [BLK_FAULT PG_LAT, BLK_IRQ PG_LAT] s t := by
  refine ends_of_notKeyway (f := fun h => if h.latch j.val = some a.val then h.setLatch j.val none
    else h.blockFault PG_LAT 8) rfl hm ?_
  have hack : s.dev.hw.ack.latch j.val = s.dev.hw.latch j.val := rfl
  by_cases hl : s.dev.hw.latch j.val = some a.val
  · simp only [hack, hl, if_true]
    exact latch_set s s.dev.hw.ack rfl j none nofun
  · simp only [hack, hl, if_false]
    exact ⟨(Hw.blockFault_sets _ _ _ (by decide)).1, onlyRegs_of_only (by simp) rfl⟩

/-! ## Freeing latches (R433) -/

/-- Freeing the latches `l` of one half frees them and leaves the others. -/
theorem Hw.latch_each_free (h : Hw) (k : Fin 2) (l : List Nat) (hl : ∀ b ∈ l, b < 32) {i : Nat} (hi : i < 64) :
    (h.each l fun b h => h.setLatch (32 * k.val + b) none).latch i =
      if i / 32 = k.val ∧ i % 32 ∈ l then none else h.latch i := by
  induction l generalizing h with
  | nil => simp [Hw.each]
  | cons b l ih =>
    have hb := hl b (by simp)
    have hk := k.isLt
    show ((h.setLatch (32 * k.val + b) none).each l _).latch i = _
    rw [ih (h.setLatch _ _) fun c hc => hl c (List.mem_cons_of_mem _ hc)]
    by_cases he : i = 32 * k.val + b
    · subst he
      rw [Hw.latch_setLatch_same _ _ _ (fun _ e => by cases e) hi, ite_self, if_pos]
      exact ⟨by omega, by rw [show (32 * k.val + b) % 32 = b by omega]; exact List.mem_cons_self⟩
    · rw [Hw.latch_setLatch_ne _ _ hi (by omega) he]
      have hiff : (i / 32 = k.val ∧ i % 32 ∈ b :: l) ↔ (i / 32 = k.val ∧ i % 32 ∈ l) := by
        refine and_congr_right fun hq => ?_
        rw [List.mem_cons, or_iff_right (by omega)]
      simp only [hiff]

theorem latchForceFree_frees {k : Fin 2} {w : Word} {s : State}
    (hr : Reaches (.agent 0) (if k.val = 0 then LAT_FREE0 else LAT_FREE1) s) : Ends (.latchForceFree (.agent 0) k w) s fun t =>
      (∀ i ∈ List.range 64, t.dev.hw.latch i = if i / 32 = k.val ∧ bit w.toNat (i % 32) then none else s.dev.hw.latch i) ∧
      (∀ r, r ∉ LAT_HELD0 :: LAT_HELD1 :: (List.range 8).map LAT_OWNi → t.reg r = s.reg r) ∧ SameMem s t := by
  refine ends_of_writeHw rfl hr ?_
  simp only [Dev.via, latchFree, Hw.agent0, if_true]
  refine ⟨fun i hi => ?_, ?_, rfl⟩
  · refine (Hw.latch_each_free s.dev.hw.ack k _ (fun b hb => List.mem_range.mp (List.mem_filter.mp hb).1)
      (List.mem_range.mp hi)).trans ?_
    have hm : i % 32 < 32 := by omega
    simp only [List.mem_filter, List.mem_range, hm, true_and]
    rfl
  · refine Hw.only_each (fun b hb g => (g.only_setLatch _ _).mono ?_) s.dev.hw.ack
    have hlt : b < 32 := List.mem_range.mp (List.mem_filter.mp hb).1
    have hk := k.isLt
    intro r hr
    simp only [List.mem_cons, List.not_mem_nil, or_false] at hr
    obtain rfl | rfl := hr
    · exact List.mem_cons_of_mem _ (List.mem_cons_of_mem _ (List.mem_map_of_mem (List.mem_range.mpr (by omega))))
    · have hq : (32 * k.val + b) / 32 = k.val := by omega
      rw [hq]
      obtain h0 | h1 : k.val = 0 ∨ k.val = 1 := by omega
      · simp [h0]
      · simp [h1, LAT_HELD0, LAT_HELD1]

/-! ## The obligation -/

/-- Settles O51. -/
theorem mailboxes : Obligations.Mailboxes := by
  refine ⟨⟨fun a n s hm ha hs => mlbPost_posts hm ha hs, fun a n s hm ha hs => mlbPost_refused hm ha hs,
    fun a n s hm ha => ⟨mlbWithdraw_ends hm ha, mlbTake_ends hm ha⟩, fun a n w s hm ha => mlbAck_ends hm w ha,
    fun a n k w s hm ha => mlbPayloadWrite_ends k w ha (hm.agent _),
    fun a n k w s hm ha => ⟨ends_notParty rfl hm ha, ends_notParty rfl hm ha, ends_notParty rfl hm ha,
      ends_notParty rfl (hm.agent (MLBn_D n.val k.val)) ha⟩,
    fun a n w s hm ha => ends_notParty rfl hm ha,
    fun a n k s ha hr hs hc => mlbPayloadRead_receiver k ha hr hs hc,
    fun a n k s ha hs => mlbPayloadRead_sender k ha hs,
    fun a n k s ha hs hr h0 => mlbPayloadRead_other k ha hs hr h0⟩,
    fun a b w s hm => doorbellRing_rings hm, fun a b w s hm => ends_doorbell rfl hm ?_,
    fun a b w s hm => ends_doorbell rfl hm ?_, fun a j s ha hl => latchAcquire_free ha hl,
    fun a j s ha hl => latchAcquire_held ha hl, fun a j w s hm => latchRelease_ends hm,
    fun k w s hr => latchForceFree_frees hr, fun n k j a w s hf ho h1 h2 h3 => ⟨?_, ?_, ?_⟩, fun n k j s => ⟨?_, ?_⟩⟩
  · exact ⟨Hw.reg_setReg_same _ _ _, onlyRegs_of_only (by simp) rfl⟩
  · refine ⟨Hw.reg_setReg_same _ _ _, ?_, onlyRegs_of_only (by simp) rfl⟩
    rw [Hw.dbPend, Hw.reg_setReg_same, Hw.reg_setReg_ne _ _ (by simp)]
    rfl
  · exact ends_keyway_refused (f := fun h => chanControl .keyway n.val 1 h) (by decide) rfl hf ho h1
  · exact ends_keyway_refused (by decide) rfl hf ho h3
  · exact ends_keyway_refused (by decide) rfl hf ho h2
  · refine ends_keyway_read rfl ?_
    simp only [payloadRead, if_true, ne_eq, not_true_eq_false, decide_false, Hw.cond, Bool.false_eq_true, if_false]
    split_ifs <;> simp
  · refine ends_keyway_read rfl ?_
    simp [latchRead]

end Sys2Proof.Machine
end

section
/-! The 802.1AS clock (R405 to R409): O48. -/

namespace Sys2Proof.Machine

/-! ## The queue of a port (R402) -/

theorem Hw.port_setPort_same (h : Hw) {c : Nat} (p : EthPort) (hc : c < h.eth.port.length) : (h.setPort c p).port c = p :=
  getD_set_self hc _ _

@[simp] theorem Hw.portLive_setPort (h : Hw) (c n : Nat) (p : EthPort) : (h.setPort n p).portLive c = h.portLive c := rfl
@[simp] theorem Hw.on_setPort (h : Hw) (n : Nat) (p : EthPort) (f : Field) : (h.setPort n p).on f = h.on f := rfl
@[simp] theorem Hw.reg_setPort (h : Hw) (n : Nat) (p : EthPort) (a : Nat) : (h.setPort n p).reg a = h.reg a := rfl
@[simp] theorem Hw.length_setPort (h : Hw) (n : Nat) (p : EthPort) : (h.setPort n p).eth.port.length = h.eth.port.length := by
  simp [Hw.setPort]

/-- A frame of the hardware joins the queue of a linked port that works. -/
theorem Hw.ethQueue_of_link {h : Hw} {c : Nat} (hp : h.portLive c = true) (hl : h.on (ETH_STAT_LINK c) = true) (q e len : Nat) :
    h.ethQueue c q e len = h.setPort c { h.port c with txq := (h.port c).txq ++ [⟨q, len, e⟩] } := by
  simp [Hw.ethQueue, hp, hl]

/-- Where an event of the Ethernet block leaves the state as it is. -/
theorem ends_onlyRegs_of_whenAlive {c : Instr} {f : Hw → Hw} {s : State} (hc : exec c s = doHw (whenAlive f) s)
    (hf : f s.dev.hw = s.dev.hw) : Ends c s (OnlyRegs [] s) :=
  ends_of_whenAlive_same hc hf ⟨fun _ _ => rfl, rfl⟩

/-! ## Saturation -/

theorem sat32_toInt (w : Word) : sat32 w.toInt = w.toInt := by
  have h1 := w.toInt_lt
  have h2 := w.le_toInt
  unfold sat32
  omega

/-- The register reads the saturated value. -/
theorem Hw.int_setInt_sat32 (h : Hw) (a : Nat) (i : Int) : (h.setInt a (sat32 i)).int a = sat32 i := by
  rw [Hw.int, Hw.reg_setInt_same]
  apply BitVec.toInt_ofInt_eq_self (by decide) <;> (unfold sat32; omega)

theorem Hw.int_setInt_ne (h : Hw) {a b : Nat} (i : Int) (hb : b ≠ a) : (h.setInt a i).int b = h.int b :=
  congrArg BitVec.toInt (h.reg_setInt_ne i hb)

theorem Hw.int_setInt_word (h : Hw) (a : Nat) (w : Word) : (h.setInt a w.toInt).int a = w.toInt := by
  rw [Hw.int, Hw.reg_setInt_same, BitVec.ofInt_toInt]

/-! ## The slave (R407) -/

/-- An offset within 1 µs trims the rate, which saturates. -/
def Hw.trimRate (h : Hw) (o : Int) : Int := sat32 (h.int (ETH_PTP_RATE 0) - o * 2 ^ h.ethF (ETH_PTP_CFG_SYNC_LOG 0))

section Receive
variable {c : Fin 2} {o : BitVec 32} {s : State} (hp : PortRuns c.val s) (hg : s.dev.hw.gmActive = false)
  (hf : s.dev.hw.ethF (ETH_PTP_CFG_PTPPORT 0) = c.val)
include hp hg hf

theorem ptpSyncReceive_step (ho : 1000 < o.toInt.natAbs) : Ends (.ptpSyncReceive c o) s fun t =>
      t.dev.hw.int (ETH_PTP_OFS 0) = o.toInt ∧
      (t.dev.hw.pair (ETH_PTP_NS_LO 0) : Int) = ((s.dev.hw.pair (ETH_PTP_NS_LO 0) : Int) - o.toInt) % 2 ^ 64 ∧
      OnlyRegs [ETH_PTP_OFS 0, ETH_PTP_NS_LO 0, ETH_PTP_NS_HI 0] s t := by
  obtain ⟨ha, hlive, -⟩ := hp
  refine ends_of_alive rfl ha ?_
  simp only [Dev.via, syncReceive, hg, hf, hlive, ne_eq, not_true_eq_false, decide_false, Bool.or_self, Bool.not_true,
    Bool.false_eq_true, if_false, ho, if_true]
  have hsame : (s.dev.hw.setInt (ETH_PTP_OFS 0) o.toInt).pair (ETH_PTP_NS_LO 0) = s.dev.hw.pair (ETH_PTP_NS_LO 0) := by
    rw [Hw.pair, Hw.nat, Hw.nat, Hw.reg_setInt_ne _ _ (by decide), Hw.reg_setInt_ne _ _ (by decide)]
    rfl
  refine ⟨?_, ?_, onlyRegs_of_only (by simp) rfl⟩
  · rw [Hw.int, Hw.setPair, Hw.reg_setNat_ne _ _ (by decide), Hw.reg_setNat_ne _ _ (by decide)]
    exact Hw.int_setInt_word _ _ _
  · rw [Hw.pair_setPair, hsame]
    omega

theorem ptpSyncReceive_trim (ho : ¬ 1000 < o.toInt.natAbs) : Ends (.ptpSyncReceive c o) s fun t =>
      t.dev.hw.int (ETH_PTP_OFS 0) = o.toInt ∧ t.dev.hw.int (ETH_PTP_RATE 0) = s.dev.hw.trimRate o.toInt ∧
      OnlyRegs [ETH_PTP_OFS 0, ETH_PTP_RATE 0] s t := by
  obtain ⟨ha, hlive, -⟩ := hp
  refine ends_of_alive rfl ha ?_
  simp only [Dev.via, syncReceive, hg, hf, hlive, ne_eq, not_true_eq_false, decide_false, Bool.or_self, Bool.not_true,
    Bool.false_eq_true, if_false, ho]
  refine ⟨?_, ?_, onlyRegs_of_only (by simp) rfl⟩
  · rw [Hw.int_setInt_ne _ _ (by decide), Hw.int_setInt_word]
  · rw [Hw.int_setInt_sat32, Hw.int_setInt_ne _ _ (by decide)]
    simp [Hw.trimRate, Hw.ethF]

end Receive

theorem Hw.trimRate_zero (h : Hw) : h.trimRate 0 = h.int (ETH_PTP_RATE 0) := by
  simp [Hw.trimRate, Hw.int, sat32_toInt]

theorem sat32_le {w : Word} {i : Int} (hi : i ≤ w.toInt) : sat32 i ≤ w.toInt := by
  have := w.le_toInt
  unfold sat32; omega

theorem le_sat32 {w : Word} {i : Int} (hi : w.toInt ≤ i) : w.toInt ≤ sat32 i := by
  have := w.toInt_lt
  unfold sat32; omega

theorem Hw.trimRate_le (h : Hw) {o : Int} (ho : 0 < o) : h.trimRate o ≤ h.int (ETH_PTP_RATE 0) :=
  sat32_le (by have := Int.mul_pos ho (Int.pow_pos (n := 2) (m := h.ethF (ETH_PTP_CFG_SYNC_LOG 0)) (by decide)); unfold Hw.int; omega)

theorem Hw.le_trimRate (h : Hw) {o : Int} (ho : o < 0) : h.int (ETH_PTP_RATE 0) ≤ h.trimRate o :=
  le_sat32 (by
    have := Int.mul_neg_of_neg_of_pos ho (Int.pow_pos (n := 2) (m := h.ethF (ETH_PTP_CFG_SYNC_LOG 0)) (by decide))
    unfold Hw.int; omega)

theorem syncReceive_of_other {c : Nat} {o : Int} {h : Hw} (hg : h.gmActive = true ∨ h.ethF (ETH_PTP_CFG_PTPPORT 0) ≠ c) :
    syncReceive c o h = h := by
  rw [syncReceive, if_pos]
  obtain hg | hf := hg
  · simp [hg]
  · simp [hf]

/-! ## Frames of the clock, the end of its lock (R406, R409) -/

theorem ptpSyncSend_queues {c : Fin 2} {s : State} (hp : PortRuns c.val s) (hl : s.on (ETH_STAT_LINK c.val) = true) :
    Ends (.ptpSyncSend c) s fun t => (t.dev.hw.port c.val).txq = (s.dev.hw.port c.val).txq ++
        (if s.dev.hw.gmActive then [⟨6, 58, 0x88F7⟩, ⟨6, 90, 0x88F7⟩] else []) ∧ OnlyRegs [] s t := by
  obtain ⟨ha, hlive, hlen⟩ := hp
  have hl' : s.dev.hw.on (ETH_STAT_LINK c.val) = true := hl
  by_cases hg : s.dev.hw.gmActive = true
  · refine ends_of_alive rfl ha ?_
    simp only [Dev.via, syncSend, hg, if_true]
    rw [Hw.ethQueue_of_link hlive hl', Hw.ethQueue_of_link (by simpa using hlive) (by simpa using hl')]
    refine ⟨?_, fun _ _ => rfl, rfl⟩
    simp [Hw.port_setPort_same, hlen]
  · refine ends_of_whenAlive_same rfl (by simp [syncSend, hg]) ?_
    simp only [hg, Bool.false_eq_true, if_false, List.append_nil, true_and]
    exact ⟨fun _ _ => rfl, rfl⟩

theorem ptpPdelay_shows {c : Fin 2} {d : Word} {s : State} (hp : PortRuns c.val s) (hl : s.on (ETH_STAT_LINK c.val) = true) :
    Ends (.ptpPdelay c d) s fun t =>
      t.reg (ETH_PTP_PDLY 0) = (if s.dev.hw.ethF (ETH_PTP_CFG_PTPPORT 0) = c.val then d else s.reg (ETH_PTP_PDLY 0)) ∧
      (t.dev.hw.port c.val).txq = (s.dev.hw.port c.val).txq ++ [⟨6, 68, 0x88F7⟩] ∧ OnlyRegs [ETH_PTP_PDLY 0] s t := by
  obtain ⟨ha, hlive, hlen⟩ := hp
  have hl' : s.dev.hw.on (ETH_STAT_LINK c.val) = true := hl
  refine ends_of_alive rfl ha ?_
  simp only [Dev.via, pdelay, hlive, Bool.not_true, Bool.false_eq_true, if_false, Hw.ethQueue_of_link hlive hl', Hw.cond,
    decide_eq_true_eq]
  have hq := congrArg EthPort.txq (Hw.port_setPort_same s.dev.hw
    { s.dev.hw.port c.val with txq := (s.dev.hw.port c.val).txq ++ [⟨6, 68, 0x88F7⟩] } hlen)
  split
  · refine ⟨Hw.reg_setReg_same _ _ _, ?_, onlyRegs_of_only ?_ rfl⟩
    · simpa [Hw.port] using hq
    · simp [Hw.setPort]
  · exact ⟨rfl, hq, fun _ _ => rfl, rfl⟩

/-- A change of LOCKED writes that field and raises its interrupt. -/
theorem Hw.setLocked_sets (h : Hw) (b : Bool) :
    (h.setLocked b).on (ETH_TBD_STAT_LOCKED 0) = b ∧
      (h.setLocked b).on (ETH_TBD_STAT_SYNCLOST 0) = h.on (ETH_TBD_STAT_SYNCLOST 0) ∧
      (h.setLocked b).bitAt (BLK_IRQ (PG_ETH 0)) 6 = h.bitAt (BLK_IRQ (PG_ETH 0)) 6 ∧
      Hw.Only [ETH_TBD_STAT 0, BLK_IRQ (PG_ETH 0)] h (h.setLocked b) := by
  have hon : (h.wr (ETH_TBD_STAT_LOCKED 0) (b2n b)).on (ETH_TBD_STAT_LOCKED 0) = b := Hw.on_wr_same _ _ _ (by decide) rfl
  have hl : (h.wr (ETH_TBD_STAT_LOCKED 0) (b2n b)).on (ETH_TBD_STAT_SYNCLOST 0) = h.on (ETH_TBD_STAT_SYNCLOST 0) :=
    Hw.on_wr_other _ _ _ _ (by decide)
  have hb : (h.wr (ETH_TBD_STAT_LOCKED 0) (b2n b)).bitAt (BLK_IRQ (PG_ETH 0)) 6 = h.bitAt (BLK_IRQ (PG_ETH 0)) 6 := by
    rw [Hw.bitAt, Hw.reg_wr_ne _ _ _ (by decide)]
    rfl
  have hi : Hw.Only [BLK_IRQ (PG_ETH 0)] (h.wr (ETH_TBD_STAT_LOCKED 0) (b2n b))
      ((h.wr (ETH_TBD_STAT_LOCKED 0) (b2n b)).irq (PG_ETH 0) 5) := by simp
  unfold Hw.setLocked Hw.cond
  split
  · exact ⟨(hi.on (by decide)).trans hon, (hi.on (by decide)).trans hl,
      (Hw.bitAt_setBitAt_ne _ _ (by decide) (.inr (by decide))).trans hb, by simp⟩
  · exact ⟨hon, hl, hb, by simp⟩

theorem ptpSyncLost_unlocks {s : State} (ha : Alive s) (hg : s.dev.hw.gmActive = false) : Ends .ptpSyncLost s fun t =>
      t.on (ETH_TBD_STAT_SYNCLOST 0) = true ∧ t.on (ETH_TBD_STAT_LOCKED 0) = false ∧
      t.dev.hw.bitAt (BLK_IRQ (PG_ETH 0)) 6 = true ∧ OnlyRegs [ETH_TBD_STAT 0, BLK_IRQ (PG_ETH 0)] s t := by
  refine ends_of_alive rfl ha ?_
  simp only [Dev.via, syncLost, hg, Bool.false_eq_true, if_false]
  obtain ⟨hk, hsl, hirq, honly⟩ := ((s.dev.hw.wr (ETH_TBD_STAT_SYNCLOST 0) 1).irq (PG_ETH 0) 6).setLocked_sets false
  refine ⟨hsl.trans ?_, hk, hirq.trans (Hw.irq_sets _ _ _ (by decide)), ?_, rfl⟩
  · rw [Hw.irq, Hw.on, Hw.rd_setBitAt_ne _ _ _ _ (by decide)]
    exact Hw.on_wr_same _ _ true (by decide) rfl
  · exact Hw.Only.trans (by simp) honly

/-- Settles O48. -/
theorem timeEngine : Obligations.TimeEngine := by
  refine ⟨fun c s hp hl => ptpSyncSend_queues hp hl, fun c o s hp hg hf ho => ptpSyncReceive_step hp hg hf ho,
    fun c o s hp hg hf ho => ?_, fun c o s hg => ends_onlyRegs_of_whenAlive rfl (syncReceive_of_other hg),
    fun c d s hp hl => ptpPdelay_shows hp hl, fun s ha hg => ptpSyncLost_unlocks ha hg,
    fun s hg => ends_onlyRegs_of_whenAlive rfl (by simp [syncLost, hg])⟩
  obtain ⟨t, ht, hpend, hofs, hrate, honly⟩ := ptpSyncReceive_trim hp hg hf (by omega : ¬ 1000 < o.toInt.natAbs)
  refine ⟨t, ht, hpend, hofs, fun h0 => ?_, fun h0 => ?_, fun h0 => ?_, honly⟩
  · rw [h0, Hw.trimRate_zero] at hrate
    exact BitVec.eq_of_toInt_eq hrate
  · exact hrate ▸ Hw.trimRate_le _ h0
  · exact hrate ▸ Hw.le_trimRate _ h0

end Sys2Proof.Machine
end

section
/-! Claims and completions of interrupts (R98, R350): O22. -/

namespace Sys2Proof.Machine

/-! ## Bits of a mask -/

theorem maskOf_succ (n : Nat) (f : Nat → Bool) : maskOf (n + 1) f = maskOf n f + b2n (f n) * 2 ^ n := by
  simp [maskOf, List.range_succ]

theorem maskOf_lt (n : Nat) (f : Nat → Bool) : maskOf n f < 2 ^ n := by
  induction n with
  | zero => simp [maskOf]
  | succ n ih =>
    have hb : b2n (f n) ≤ 1 := by cases f n <;> simp [b2n]
    rw [maskOf_succ, Nat.pow_succ]
    nlinarith [Nat.two_pow_pos n]

/-- A mask holds the bits it was made of. -/
theorem bit_maskOf {n i : Nat} (f : Nat → Bool) (hi : i < n) : bit (maskOf n f) i = f i := by
  induction n with
  | zero => omega
  | succ n ih =>
    rw [maskOf_succ, bit, Nat.add_comm, Nat.mul_comm]
    by_cases hn : i < n
    · rw [Nat.testBit_two_pow_mul_add _ (maskOf_lt n f), if_pos hn]
      exact ih hn
    · obtain rfl : i = n := by omega
      rw [Nat.testBit_two_pow_mul_add _ (maskOf_lt i f), if_neg (by omega)]
      cases f i <;> simp [b2n]

theorem bit_setBitN_true (n i j : Nat) : bit (setBitN n i true) j = (decide (i = j) || bit n j) := by
  simp [bit, setBitN, Nat.testBit_two_pow, Bool.or_comm]

theorem testBit_sub_two_pow {n i : Nat} (h : n.testBit i = true) (j : Nat) :
    (n - 2 ^ i).testBit j = (n.testBit j && decide (i ≠ j)) := by
  rw [Nat.testBit_eq_decide_div_mod_eq, decide_eq_true_iff] at h
  have hr : n % 2 ^ i < 2 ^ i := Nat.mod_lt _ (Nat.two_pow_pos i)
  have hn : n = 2 ^ i * (2 * (n / 2 ^ i / 2) + 1) + n % 2 ^ i := by
    rw [show 2 * (n / 2 ^ i / 2) + 1 = n / 2 ^ i by omega, Nat.div_add_mod]
  generalize n / 2 ^ i / 2 = q at hn
  generalize n % 2 ^ i = r at hn hr
  have hm : n - 2 ^ i = 2 ^ i * (2 * q) + r := by rw [hn, Nat.mul_add]; omega
  rw [hm, hn, Nat.testBit_two_pow_mul_add _ hr, Nat.testBit_two_pow_mul_add _ hr]
  obtain hlt | rfl | hgt := Nat.lt_trichotomy j i
  · simp [hlt, hlt.ne']
  · simp
  · obtain ⟨k, rfl⟩ := Nat.exists_eq_add_of_lt hgt
    rw [if_neg (by omega), if_neg (by omega), show i + k + 1 - i = k + 1 by omega, Nat.testBit_succ, Nat.testBit_succ]
    simp [show (2 * q + 1) / 2 = q by omega, show i ≠ i + k + 1 by omega]

theorem bit_setBitN_false (n i j : Nat) : bit (setBitN n i false) j = (bit n j && decide (i ≠ j)) := by
  unfold bit setBitN
  rw [if_neg (by simp)]
  split
  · next h => exact testBit_sub_two_pow h j
  · next h =>
    by_cases hij : i = j
    · subst hij; simpa using h
    · simp [hij]

/-! ## The source of the highest priority -/

/-- One step of the choice: the source seen takes the place of the best so far if its priority is higher. -/
def better (f : Nat → Nat) (b : Nat × Nat) (n : Nat) : Nat × Nat := if b.2 < f n then (n, f n) else b

/-- Over rising numbers the choice is the start, or the first of the sources whose value is the highest. -/
theorem foldl_better (f : Nat → Nat) (l : List Nat) (hl : l.Pairwise (· < ·)) (b : Nat × Nat) :
    b.2 ≤ (l.foldl (better f) b).2 ∧ (∀ m ∈ l, f m ≤ (l.foldl (better f) b).2) ∧
      (l.foldl (better f) b = b ∨ (l.foldl (better f) b).1 ∈ l ∧
        (l.foldl (better f) b).2 = f (l.foldl (better f) b).1 ∧ b.2 < f (l.foldl (better f) b).1 ∧
        ∀ m ∈ l, m < (l.foldl (better f) b).1 → f m < f (l.foldl (better f) b).1) := by
  induction l generalizing b with
  | nil => simp
  | cons x xs ih =>
    obtain ⟨hx, hxs⟩ := List.pairwise_cons.mp hl
    obtain ⟨h1, h2, h3⟩ := ih hxs (better f b x)
    rw [List.foldl_cons]
    generalize xs.foldl (better f) (better f b x) = r at h1 h2 h3
    by_cases hb : b.2 < f x
    · have hbx : better f b x = (x, f x) := if_pos hb
      rw [hbx] at h1 h3
      simp only at h1 h3
      refine ⟨by omega, by simpa using ⟨h1, h2⟩, .inr ?_⟩
      obtain rfl | ⟨hm, hr, hlt, hfirst⟩ := h3
      · refine ⟨by simp, rfl, hb, ?_⟩
        simp only [List.mem_cons, forall_eq_or_imp, lt_irrefl, false_implies, true_and]
        exact fun m hm hmx => absurd (hx m hm) (by omega)
      · refine ⟨List.mem_cons_of_mem _ hm, hr, by omega, ?_⟩
        simpa [hlt] using hfirst
    · have hbx : better f b x = b := if_neg hb
      rw [hbx] at h1 h3
      refine ⟨h1, by simpa using ⟨by omega, h2⟩, ?_⟩
      obtain h3 | ⟨hm, hr, hlt, hfirst⟩ := h3
      · exact .inl h3
      · refine .inr ⟨List.mem_cons_of_mem _ hm, hr, hlt, ?_⟩
        simp only [List.mem_cons, forall_eq_or_imp]
        exact ⟨fun _ => by omega, hfirst⟩

theorem Hw.plicBest_eq (s : State) (c : Nat) : s.dev.hw.plicBest c =
    (((List.range 42).filter (claimable s c)).foldl (better fun n => s.rd (PLIC_PRIO_PRIO n)) (0, 0)).1 := rfl

/-- The source a claim returns is claimable, of the highest priority, the lowest of its equals. -/
theorem plicBest_best {s : State} {c n : Nat} (hb : s.dev.hw.plicBest c = n) (hn : n ≠ 0) :
    n < 42 ∧ claimable s c n = true ∧ ∀ m : Fin 42, claimable s c m.val = true →
      s.rd (PLIC_PRIO_PRIO m.val) ≤ s.rd (PLIC_PRIO_PRIO n) ∧
        (m.val < n → s.rd (PLIC_PRIO_PRIO m.val) < s.rd (PLIC_PRIO_PRIO n)) := by
  obtain ⟨-, h2, h3⟩ := foldl_better (fun n => s.rd (PLIC_PRIO_PRIO n)) _
    ((List.pairwise_lt_range (n := 42)).filter (claimable s c)) (0, 0)
  rw [Hw.plicBest_eq] at hb
  generalize List.foldl _ _ _ = r at hb h2 h3
  subst hb
  obtain rfl | ⟨hm, hr, -, hfirst⟩ := h3
  · exact absurd rfl hn
  · obtain ⟨hlt, hc⟩ := List.mem_filter.mp hm
    refine ⟨List.mem_range.mp hlt, hc, fun m hcm => ?_⟩
    have hmem : m.val ∈ (List.range 42).filter (claimable s c) := List.mem_filter.mpr ⟨List.mem_range.mpr m.isLt, hcm⟩
    exact ⟨(h2 _ hmem).trans_eq hr, hfirst _ hmem⟩

/-! ## Claims of the cores (R98) -/

/-- The lines into the controller are read from the registers and the part. -/
theorem Hw.plicLine_answer (h : Hw) (ws : List Word) (n : Nat) : (h.answer ws).plicLine n = h.plicLine n := rfl

/-- The controller's own bits. -/
def Hw.setPlic (h : Hw) (ip busy : Nat) : Hw := { h with cpr := { h.cpr with plicIp := ip, plicBusy := busy } }

theorem Hw.plicLine_setPlic (h : Hw) (ip busy n : Nat) : (h.setPlic ip busy).plicLine n = h.plicLine n := rfl

theorem Hw.plicPending_setPlic (h : Hw) (ip busy n : Nat) :
    (h.setPlic ip busy).plicPending n = (bit ip n || (h.plicLine n && !bit busy n)) := by
  rw [Hw.plicPending, Hw.plicLine_setPlic]
  rfl

/-- A claim of source `n`: what was pending is latched, and `n` is closed (R98). -/
def Hw.plicTake (h : Hw) (n : Nat) : Hw :=
  h.setPlic (setBitN (maskOf 42 h.plicPending) n false) (setBitN h.cpr.plicBusy n true)

theorem Hw.plicLatch_eq (h : Hw) : h.plicLatch = h.setPlic (maskOf 42 h.plicPending) h.cpr.plicBusy := rfl

/-- Latching the pending bits changes none. -/
theorem Hw.plicPending_latch (h : Hw) {m : Nat} (hm : m < 42) : h.plicLatch.plicPending m = h.plicPending m := by
  rw [Hw.plicLatch_eq, Hw.plicPending_setPlic, bit_maskOf _ hm, Hw.plicPending, Bool.or_assoc, Bool.or_self]

/-- A claim of source `n` closes it, and changes no other. -/
theorem Hw.plicPending_take (h : Hw) (n : Nat) {m : Nat} (hm : m < 42) :
    (h.plicTake n).plicPending m = (h.plicPending m && decide (n ≠ m)) := by
  rw [Hw.plicTake, Hw.plicPending_setPlic, bit_setBitN_false, bit_setBitN_true, bit_maskOf _ hm, Hw.plicPending]
  by_cases hnm : n = m
  · simp [hnm]
  · simp [hnm]

theorem Hw.plicPending_answer (h : Hw) (ws : List Word) (n : Nat) : (h.answer ws).plicPending n = h.plicPending n := by
  rw [Hw.plicPending, Hw.plicLine_answer, Hw.plicPending]
  rfl

@[simp] theorem Hw.only_setPlic {l : List Nat} {h h' : Hw} (ip busy : Nat) :
    Hw.Only l h (h'.setPlic ip busy) ↔ Hw.Only l h h' := Iff.rfl

/-- The answer of a claim that finds source `n`. -/
def Hw.plicAnswer (h : Hw) (n : Nat) : Hw :=
  let h1 := h.plicLatch.answer [BitVec.ofNat 32 n]
  if n = 0 then h1
  else { h1 with cpr := { h1.cpr with plicIp := setBitN h1.cpr.plicIp n false, plicBusy := setBitN h1.cpr.plicBusy n true } }

theorem plicClaimR_eq (c : Nat) (h : Hw) : plicClaimR c h = h.plicAnswer (h.plicBest c) := rfl

theorem Hw.plicAnswer_zero (h : Hw) : h.plicAnswer 0 = h.plicLatch.answer [0#32] := by
  rw [Hw.plicAnswer, if_pos rfl]

/-- The controller's bits after an answer. -/
theorem Hw.answer_setPlic (h : Hw) (ip busy ip' busy' : Nat) (ws : List Word) :
    ({ (h.setPlic ip busy).answer ws with
        cpr := { ((h.setPlic ip busy).answer ws).cpr with plicIp := ip', plicBusy := busy' } } : Hw) =
      (h.setPlic ip' busy').answer ws := rfl

theorem Hw.plicIp_answer_setPlic (h : Hw) (ip busy : Nat) (ws : List Word) :
    ((h.setPlic ip busy).answer ws).cpr.plicIp = ip := rfl

theorem Hw.plicBusy_answer_setPlic (h : Hw) (ip busy : Nat) (ws : List Word) :
    ((h.setPlic ip busy).answer ws).cpr.plicBusy = busy := rfl

theorem Hw.plicAnswer_of_ne (h : Hw) {n : Nat} (hn : n ≠ 0) :
    h.plicAnswer n = (h.plicTake n).answer [BitVec.ofNat 32 n] := by
  rw [Hw.plicAnswer, if_neg hn, Hw.plicLatch_eq, Hw.answer_setPlic, Hw.plicIp_answer_setPlic, Hw.plicBusy_answer_setPlic,
    Hw.plicTake]

/-- The claim of a source: the answer, and what is pending after it. -/
theorem plicClaimR_takes {c n : Nat} {h : Hw} (hb : h.plicBest c = n) (hn : n ≠ 0) :
    (plicClaimR c h).reply = ⟨[BitVec.ofNat 32 n], false⟩ ∧
      (∀ m, m < 42 → (plicClaimR c h).plicPending m = (h.plicPending m && decide (n ≠ m))) ∧
      Hw.Only [] h (plicClaimR c h) := by
  rw [plicClaimR_eq, hb, Hw.plicAnswer_of_ne _ hn]
  exact ⟨rfl, fun m hm => (Hw.plicPending_answer _ _ _).trans (Hw.plicPending_take _ _ hm), by simp [Hw.plicTake]⟩

theorem plicClaimR_none {c : Nat} {h : Hw} (hb : h.plicBest c = 0) :
    (plicClaimR c h).reply = ⟨[0], false⟩ ∧ (∀ m, m < 42 → (plicClaimR c h).plicPending m = h.plicPending m) ∧
      Hw.Only [] h (plicClaimR c h) := by
  rw [plicClaimR_eq, hb, Hw.plicAnswer_zero]
  exact ⟨rfl, fun m hm => (Hw.plicPending_answer _ _ _).trans (Hw.plicPending_latch _ hm), by simp [Hw.plicLatch_eq]⟩

/-- A write of a configuration register that is taken ends in the state it makes. -/
theorem ends_of_cfgWrite {c : Instr} {who : Who} {p a : Nat} {f : Hw → Hw} {s : State} {P : State → Prop}
    (hc : exec c s = doDev (writeHw who a (·.cfgWrite who p f)) s) (hm : MayConfigure who p a s)
    (hP : P { s with dev := { s.dev with hw := f s.dev.hw.ack } }) : Ends c s P := by
  obtain ⟨⟨hr, hpresent, hsis⟩, hlock⟩ := hm
  refine ends_of_writeHw hc hr ?_
  have hf : s.dev.hw.cfgWrite who p f = f s.dev.hw.ack := by simp [Hw.cfgWrite, hpresent, hsis, hlock]
  rwa [Dev.via, hf]

theorem plicComplete_ends {who : Who} {ctx : Fin 8} {w : Word} {s : State}
    (hm : MayConfigure who PG_CPR (PLIC_CLAIM ctx.val) s) : Ends (.plicComplete who ctx w) s fun t =>
      (w.toNat < 42 → s.dev.hw.bitAt (PLIC_EN ctx.val (w.toNat / 32)) (w.toNat % 32) = true →
        bit t.dev.hw.cpr.plicBusy w.toNat = false) ∧
      (42 ≤ w.toNat ∨ s.dev.hw.bitAt (PLIC_EN ctx.val (w.toNat / 32)) (w.toNat % 32) = false →
        t.dev.hw.cpr.plicBusy = s.dev.hw.cpr.plicBusy) ∧ OnlyRegs [] s t := by
  refine ends_of_cfgWrite rfl hm ?_
  have hb : s.dev.hw.ack.bitAt (PLIC_EN ctx.val (w.toNat / 32)) (w.toNat % 32) =
      s.dev.hw.bitAt (PLIC_EN ctx.val (w.toNat / 32)) (w.toNat % 32) := rfl
  by_cases hw : w.toNat < 42 ∧ s.dev.hw.bitAt (PLIC_EN ctx.val (w.toNat / 32)) (w.toNat % 32) = true
  · rw [if_pos (by rwa [hb])]
    refine ⟨fun _ _ => ?_, fun hn => ?_, fun _ _ => rfl, rfl⟩
    · exact (bit_setBitN_false _ _ _).trans (by simp)
    · obtain hn | hn := hn
      · omega
      · rw [hw.2] at hn
        cases hn
  · rw [if_neg (by rwa [hb])]
    exact ⟨fun h1 h2 => absurd ⟨h1, h2⟩ hw, fun _ => rfl, fun _ _ => rfl, rfl⟩

/-! ## The Ward's controller (R350) -/

/-- The source that a claim of the Ward finds: the lowest pending and enabled one. -/
theorem icFind_eq {h : Hw} {n : Nat} (hn : n < 43) (hp : h.icPending n = true)
    (he : h.bitAt (SIS_IC_EN (n / 32)) (n % 32) = true)
    (hfirst : ∀ m, m < n → (h.icPending m && h.bitAt (SIS_IC_EN (m / 32)) (m % 32)) = false) :
    (List.range 43).find? (fun n => h.icPending n && h.bitAt (SIS_IC_EN (n / 32)) (n % 32)) = some n := by
  rw [List.find?_range_eq_some]
  exact ⟨by simp [hp, he], List.mem_range.mpr hn, fun m hm => by simp [hfirst m hm]⟩

/-- A command in which no fault arises ends in the state it makes. -/
theorem ends_of_doDevF {c : Instr} {f : Dev → Dev} {s : State} {P : State → Prop} (hc : exec c s = doDevF f s)
    (hn : (f s.dev.begin).hw.sis.arriving = []) (hP : P { s with dev := f s.dev.begin }) : Ends c s P := by
  refine ⟨{ s with dev := f s.dev.begin }, ?_, rfl, hP⟩
  rw [hc, doDevF, Dev.settle_of_none hn]
  rfl

theorem readHw_of_access {a : Fin 8} {d : Dev} (f : Hw → Hw) (ha : d.hw.canAccess (.agent a) = true) :
    readHw (.agent a) f d = d.via f := by
  rw [readHw, Dev.byReader, if_neg (by simp [ha]), if_neg (by simp)]

theorem Dev.begin_icPending (d : Dev) (n : Nat) : d.begin.hw.icPending n = d.hw.icPending n := by
  have hline : d.begin.hw.icLine n = d.hw.icLine n := rfl
  rw [Hw.icPending, hline, Hw.icPending]
  rfl

/-- A claim that finds source `n` closes it. -/
theorem icClaim_of_find {who : Who} {h : Hw} {n : Nat} (h0 : n ≠ 0)
    (hf : (List.range 43).find? (fun n => h.icPending n && h.bitAt (SIS_IC_EN (n / 32)) (n % 32)) = some n) :
    icClaim who none h = { h.answer [BitVec.ofNat 32 n] with sis := { h.sis with icClaimed := n :: h.sis.icClaimed } } := by
  rw [icClaim, hf, Option.getD_some, if_neg h0]
  rfl

theorem sisIcClaim_claims {a : Fin 8} {n : Nat} {s : State} (ha : s.dev.hw.canAccess (.agent a) = true) (h0 : n ≠ 0)
    (hn : n < 43) (hp : s.dev.hw.icPending n = true) (he : s.dev.hw.bitAt (SIS_IC_EN (n / 32)) (n % 32) = true)
    (hfirst : ∀ m, m < n → (s.dev.hw.icPending m && s.dev.hw.bitAt (SIS_IC_EN (m / 32)) (m % 32)) = false) :
    Ends (.sisIcClaim (.agent a) none) s fun t =>
      t.dev.hw.reply.data = [BitVec.ofNat 32 n] ∧ t.dev.hw.icPending n = false ∧ OnlyRegsAndFaults [] s t := by
  have hf := icFind_eq (h := s.dev.begin.hw) hn (by rwa [Dev.begin_icPending]) he fun m hm => by
    rw [Dev.begin_icPending]; exact hfirst m hm
  have hd := readHw_of_access (d := s.dev.begin) (icClaim (.agent a) none) ha
  rw [Dev.via, icClaim_of_find h0 hf] at hd
  refine ends_of_doDevF (f := readHw (.agent a) (icClaim (.agent a) none)) rfl ?_ ?_
  · rw [hd]
    rfl
  · rw [hd]
    exact ⟨rfl, by simp [Hw.icPending], onlyRegsAndFaults_of_only (fun _ _ => rfl) rfl⟩

theorem sisIcClaim_completes {w : Word} {s : State} (hr : Reaches (.agent 0) SIS_IC_CLAIM s) :
    Ends (.sisIcClaim (.agent 0) (some w)) s fun t =>
      w.toNat ∉ t.dev.hw.sis.icClaimed ∧ OnlyRegsAndFaults [] s t := by
  have hd : writeHw (.agent 0) SIS_IC_CLAIM (icClaim (.agent 0) (some w)) s.dev.begin =
      s.dev.begin.via (icClaim (.agent 0) (some w)) := by
    have hr' : s.dev.begin.hw.canAccess (.agent 0) = true := hr.1
    rw [writeHw, Dev.byWriter, if_neg (by simp [hr'])]
  refine ends_of_doDevF (f := writeHw (.agent 0) SIS_IC_CLAIM (icClaim (.agent 0) (some w))) rfl ?_ ?_
  · rw [hd]
    rfl
  · rw [hd]
    simp only [Dev.via, icClaim, Hw.agent0R, if_true]
    exact ⟨by simp, onlyRegsAndFaults_of_only (fun _ _ => rfl) rfl⟩

/-- Settles O22. -/
theorem interruptClaims : Obligations.InterruptClaims := by
  refine ⟨fun a ctx n s ha hb hn => ?_, fun a ctx s ha hb => ?_, fun who ctx w s hm => plicComplete_ends hm,
    fun a n s ha h0 hn hp he hfirst => sisIcClaim_claims ha h0 hn hp he hfirst, fun w s hr => sisIcClaim_completes hr⟩
  · obtain ⟨hlt, hc, hbest⟩ := plicBest_best hb hn
    obtain ⟨hreply, hplic, honly⟩ := plicClaimR_takes hb hn
    refine ends_of_readHw (f := plicClaimR ctx.val) rfl ha ⟨congrArg Reply.data hreply, congrArg Reply.err hreply, hlt, hc,
      (hplic n hlt).trans (by simp), hbest, fun m hm => (hplic m.val m.isLt).trans (by simp [hm.symm]),
      onlyRegs_of_only honly (Dev.via_mem _ _)⟩
  · obtain ⟨hreply, hplic, honly⟩ := plicClaimR_none hb
    exact ends_of_readHw (f := plicClaimR ctx.val) rfl ha ⟨congrArg Reply.data hreply, fun m => hplic m.val m.isLt,
      onlyRegs_of_only honly (Dev.via_mem _ _)⟩

end Sys2Proof.Machine
end

section
/-! A core issues one instruction (R229 to R256): O26 and O29. -/

namespace Sys2Proof.Machine

/-! ## What lands at an issue touches no delay slot (R229, R245) -/

@[simp] theorem landOne_delay (x : Core) (f : Flight) : (landOne x f).delay = x.delay := by
  unfold landOne
  cases f.what with
  | put v => simp only [apply_ite Core.delay, ite_self]
  | none => rfl
  | flags v => rfl
  | view sel v => rfl
  | acc op p => rfl

theorem foldl_landOne_delay (l : List Flight) (x : Core) : (l.foldl landOne x).delay = x.delay := by
  induction l generalizing x with
  | nil => rfl
  | cons f l ih => rw [List.foldl_cons, ih, landOne_delay]

@[simp] theorem landCycle_delay (x : Core) (fs : List Flight) : (landCycle x fs).delay = x.delay :=
  foldl_landOne_delay _ x

@[simp] theorem Core.landNext_delay (x : Core) : x.landNext.delay = x.delay := landCycle_delay _ _

@[simp] theorem Core.drain_delay (x : Core) : x.drain.delay = x.delay := by simp [Core.drain]

@[simp] theorem Core.atIssue_delay (x : Core) : x.atIssue.delay = x.delay := by
  have hdrain := x.drain_delay
  have hland := x.landNext_delay
  unfold Core.atIssue
  generalize x.drain = y at hdrain
  generalize x.landNext = z at hland
  obtain hr | hr := Bool.eq_false_or_eq_true x.resumed
  · cases hs : x.saved with
    | none => simpa [hr] using hland
    | some p => simpa [hr] using hdrain
  · simpa [hr] using hland

/-! ## Cores in the hardware -/

theorem Hw.core_setCore_same (h : Hw) {c : Nat} (x : Core) (hc : c < h.tce.length) : (h.setCore c x).core c = x :=
  getD_set_self hc _ _

@[simp] theorem Hw.length_setCore (h : Hw) (c : Nat) (x : Core) : (h.setCore c x).tce.length = h.tce.length := by
  simp [Hw.setCore]

@[simp] theorem Hw.only_setCore {l : List Nat} {h h' : Hw} (c : Nat) (x : Core) :
    Hw.Only l h (h'.setCore c x) ↔ Hw.Only l h h' := Iff.rfl

@[simp] theorem Hw.setCore_setCore (h : Hw) (c : Nat) (x y : Core) : (h.setCore c x).setCore c y = h.setCore c y := by
  simp [Hw.setCore]

@[simp] theorem Hw.setNat_core (h : Hw) (a n c : Nat) : (h.setNat a n).core c = h.core c := by
  simp [Hw.core]

theorem Hw.fly_setCore (h : Hw) {c : Nat} (x : Core) (l : List Flight) (hc : c < h.tce.length) :
    (h.setCore c x).fly c l = h.setCore c { x with flight := x.flight ++ l } := by
  rw [Hw.fly, Hw.core_setCore_same _ _ hc, Hw.setCore_setCore]
  rfl

/-- The background alone yields. -/
theorem Hw.yieldBack_of_task {h : Hw} {c : Nat} (hs : h.coreSt c = coreTask) : h.yieldBack c = h := by
  rw [Hw.yieldBack, hs]
  rfl

/-! ## The issue -/

/-- The device as the effect of an instruction of core `c` finds it, with the core as it stands after `x`. -/
def State.issuing (s : State) (c : Nat) (x : Core) : Dev := { s.dev.begin with hw := s.dev.begin.hw.setCore c x }

/-- The instruction is a filter tap, whose sample the next one may take (R256). -/
def TceOp.isTap : TceOp → Bool
  | .ftap _ _ _ _ _ => true
  | _ => false

/-- The core after an instruction that goes on in order: `x` is the core with its new results in flight. -/
def Core.goOn (x : Core) : Core := { x with pc := (x.pc + 1) % 16384, cycles := x.cycles + 1 }

theorem Core.follow_next {x x0 : Core} (hd : x0.delay = 0) (hg : x0.gov.dep = 0) (hp : x0.pc = x.pc) :
    x.follow x0 .next = x.goOn := by
  simp [Core.follow, hd, hg, hp, Core.goOn]

/-- The sample of a filter tap stays at hand for one instruction (R256). -/
def Core.keepTap (x : Core) (tap : Bool) : Core := { x with bypass := if tap then x.bypass else none }

/-- What an issue does after the instruction's effect: the core that stood at `x0` moves on. -/
def Hw.afterIssue (c : Nat) (x0 : Core) (tap : Bool) (h : Hw) : Hw :=
  let y := ((h.core c).keepTap tap).follow x0 .next
  ((h.setCore c y).setNat (TCE_PC c) y.pc).yieldBack c

section Issue
variable {c : Nat} {ecc : CoreEcc} {op : TceOp} {s : State} (hi : Issues c ecc op s)
include hi

/-- The core found is the one at issue. -/
theorem Issues.core_issuing (x : Core) : (s.issuing c x).hw.core c = x := by
  obtain ⟨-, -, -, -, hlen, -, -⟩ := hi
  exact Hw.core_setCore_same _ _ hlen

theorem Issues.delay_at : (s.at c).delay = 0 := by
  obtain ⟨-, -, -, -, -, hdelay, -⟩ := hi
  rw [State.at, Core.atIssue_delay, hdelay]

/-- An instruction that is carried out and goes on in order. -/
theorem Issues.tceIssue_eq {act : TceOp → Dev → Option TceEffect} {f : Dev}
    (hact : act op (s.issuing c (s.at c)) = some (f, .next)) :
    s.dev.begin.tceIssue c ecc act = f.via (Hw.afterIssue c (s.at c) op.isTap) := by
  have hx0 := hi.core_issuing (s.at c)
  obtain ⟨hruns, hclean, hnow, -, -, -, -⟩ := hi
  have hruns' : s.dev.begin.hw.coreRuns c = true := hruns
  have hnow' : s.dev.begin.tceNow c ecc = some op := hnow
  have hfetch : s.dev.begin.tceFetch c ecc.fetch = s.issuing c (s.at c) := by rw [hclean]; rfl
  rw [Dev.tceIssue, if_neg (by simp [hruns']), hnow']
  simp only [hfetch, hact, hx0]
  rfl

/-- A core that goes on in order. -/
theorem Issues.afterIssue_eq (x : Core) (hpc : x.pc = (s.at c).pc) :
    (s.issuing c x).hw.afterIssue c (s.at c) op.isTap =
      (s.dev.begin.hw.setCore c (x.keepTap op.isTap).goOn).setNat (TCE_PC c)
        (((s.at c).pc + 1) % 16384) := by
  have hx := hi.core_issuing x
  have hd := hi.delay_at
  obtain ⟨-, -, -, hst, -, -, hdep⟩ := hi
  rw [Hw.afterIssue, hx]
  rw [Core.follow_next (x := x.keepTap op.isTap) hd hdep hpc.symm, Hw.yieldBack_of_task]
  · rw [State.issuing, Hw.setCore_setCore, ← hpc]
    rfl
  · rw [Hw.coreSt, Hw.rd_setNat_ne _ _ _ (by simp)]
    exact hst

/-- An instruction that goes on in order ends in a state whose core has its results `x` and has moved on. -/
theorem Issues.ends {i : Instr} {act : TceOp → Dev → Option TceEffect} {x : Core} {m : List Host.Cell} {P : State → Prop}
    (hexec : exec i s = doDevF (·.tceIssue c ecc act) s)
    (hact : act op (s.issuing c (s.at c)) = some (⟨(s.issuing c x).hw, m⟩, .next)) (hpc : x.pc = (s.at c).pc)
    (hP : ∀ t : State, t.dev.mem = m →
      t.dev.hw.core c = (x.keepTap op.isTap).goOn →
      (t.reg (TCE_PC c)).toNat = ((s.at c).pc + 1) % 16384 % 2 ^ 32 → Hw.Only [TCE_PC c] s.dev.hw t.dev.hw → P t) :
    Ends i s P := by
  have hlen : c < s.dev.begin.hw.tce.length := hi.2.2.2.2.1
  have hd : s.dev.begin.tceIssue c ecc act = ⟨_, m⟩ :=
    (hi.tceIssue_eq hact).trans (congrArg (fun h => (⟨h, m⟩ : Dev)) (hi.afterIssue_eq x hpc))
  refine ends_of_doDevF hexec ?_ (hP _ ?_ ?_ ?_ ?_)
  · rw [hd]
    simp [Hw.setCore, Dev.begin, Dev.via]
  · rw [hd]
  · rw [hd, Hw.setNat_core, Hw.core_setCore_same _ _ hlen]
  · show ((s.dev.begin.tceIssue c ecc act).hw.reg _).toNat = _
    rw [hd, Hw.reg_setNat_same]
    simp
  · rw [hd]
    simp [Dev.begin, Dev.via]

/-- Results that join those in flight. -/
theorem Issues.tceFly_eq (x : Core) (l : List Flight) :
    (s.issuing c x).tceFly c l = (⟨(s.issuing c (x.fly l)).hw, s.dev.mem⟩, .next) := by
  obtain ⟨-, -, -, -, hlen, -, -⟩ := hi
  have hfly : (s.issuing c x).hw.fly c l = (s.issuing c (x.fly l)).hw := Hw.fly_setCore _ _ _ hlen
  rw [Dev.tceFly, Dev.via, hfly]
  rfl

/-- An instruction that computes: its results join those in flight, and nothing else changes. -/
theorem Issues.issued {i : Instr} {act : TceOp → Dev → Option TceEffect} {l : List Flight}
    (hexec : exec i s = doDevF (·.tceIssue c ecc act) s) (htap : op.isTap = false)
    (hact : act op (s.issuing c (s.at c)) = some ((s.issuing c (s.at c)).tceFly c l)) : Ends i s (Issued c l id s) := by
  refine hi.ends hexec (x := (s.at c).fly l) (m := s.dev.mem) (hact.trans (by rw [hi.tceFly_eq])) rfl
    fun t hmem hcore hreg honly => ⟨?_, ?_, onlyRegsAndFaults_of_only (honly.mono (by simp)) hmem⟩
  · rw [CoreIssued, hcore, htap]
    rfl
  · rw [hreg, hcore]
    rfl

end Issue

/-! ## Instructions that compute (R248 to R252) -/

section Compute
variable {c : Fin 2} {ecc : CoreEcc} {s : State}

theorem Issues.alu {i : Instr} {o dd da : Nat} {b : AluArg} (hi : Issues c.val ecc (.alu o dd da b) s)
    (hexec : exec i s = doDevF (·.tceIssue c.val ecc (doAlu o c.val)) s) :
    Ends i s (Issued c.val (aluFlights (s.at c.val) o dd da b) id s) := by
  refine hi.issued hexec rfl ?_
  simp only [doAlu, if_true, hi.core_issuing]
  by_cases ho : o = 0x0B
  · simp only [aluFlights, ho, if_true, List.nil_append] <;> rfl
  · simp only [aluFlights, ho, if_false] <;> rfl

theorem Issues.mac {i : Instr} {form o k x y u w : Nat} {conj : Bool} (hi : Issues c.val ecc (.mac form o conj k x y u w) s)
    (hexec : exec i s = doDevF (·.tceIssue c.val ecc (doMac form c.val)) s) :
    Ends i s (Issued c.val ((s.at c.val).macFlights form o conj k x y u w) id s) := by
  refine hi.issued hexec rfl ?_
  simp only [doMac, if_true, hi.core_issuing]

end Compute

/-! ## The codes of a move (R225) -/

/-- An accumulator's views have no codes above 0x4F. -/
def TceOp.movOk : TceOp → Bool
  | .mov dst _ => decide (dst < 0x50)
  | _ => true

@[simp] theorem all_when (ok : Bool) (op : TceOp) (p : TceOp → Bool) : (Machine.when ok op).all p = (!ok || p op) := by
  cases ok <;> rfl

theorem decodeControl_movOk (w : Nat) : (decodeControl w).all TceOp.movOk = true := by
  simp [decodeControl, apply_ite (Option.all TceOp.movOk), TceOp.movOk]

theorem decodeMem_movOk (w : Nat) : (decodeMem w).all TceOp.movOk = true := by
  simp [decodeMem, apply_ite (Option.all TceOp.movOk), TceOp.movOk]

theorem decodeMov_movOk (w : Nat) : (decodeMov w).all TceOp.movOk = true := by
  rw [decodeMov, all_when, Bool.or_eq_true, Bool.not_eq_true']
  refine or_iff_not_imp_left.mpr fun h => ?_
  simp only [Bool.not_eq_false, Bool.and_eq_true, movCode, Bool.or_eq_true, decide_eq_true_eq] at h
  simp only [TceOp.movOk, decide_eq_true_eq]
  omega

theorem decodeTce_movOk (w : Nat) : (decodeTce w).all TceOp.movOk = true := by
  have hcontrol := decodeControl_movOk w
  have hmov := decodeMov_movOk w
  have hmem := decodeMem_movOk w
  simp only [decodeTce, apply_ite (Option.all TceOp.movOk), hcontrol, hmov, hmem]
  simp [decodeAlu, decodeMovi, decodeMac, decodeRnd, decodePair, decodeFtap, apply_ite (Option.all TceOp.movOk), TceOp.movOk]

/-- The instruction that a core issues is one that its word spells. -/
theorem Issues.decode {c : Nat} {ecc : CoreEcc} {op : TceOp} {s : State} (hi : Issues c ecc op s) :
    decodeTce (s.dev.tceWord c) = some op := by
  obtain ⟨-, -, hnow, -⟩ := hi
  unfold Dev.tceNow at hnow
  split at hnow
  · cases hnow
  · split at hnow
    · next op' hd =>
      split at hnow
      · cases hnow
      · rw [hd, hnow]
    · cases hnow

theorem Issues.mov_lt {c : Nat} {ecc : CoreEcc} {dst src : Nat} {s : State} (hi : Issues c ecc (.mov dst src) s) :
    dst < 0x50 := by
  have h := decodeTce_movOk (s.dev.tceWord c)
  rw [hi.decode] at h
  simpa [TceOp.movOk] using h

/-- The view of an accumulator is written by the low bits of its code. -/
theorem movFlights_eq {dst : Nat} (hd : dst < 0x50) (v : Nat) : movFlights dst v =
    if 0x40 ≤ dst then [⟨1, 0x40 + dst % 4, .view (dst / 4 % 4) v, 0⟩]
    else ⟨1, dst, .put v, 0⟩ ::
      (if dst = 0x31 ∨ dst = 0x32 ∨ (0x34 ≤ dst ∧ dst ≤ 0x38) then [⟨3, dst + 0x80, .put v, 0⟩] else []) := by
  unfold movFlights
  by_cases h : 0x40 ≤ dst
  · rw [if_pos h, if_pos h, show (dst - 0x40) % 4 = dst % 4 by omega, show (dst - 0x40) / 4 = dst / 4 % 4 by omega]
  · rw [if_neg h, if_neg h]
    split <;> rfl

/-- Settles O26. -/
theorem coreComputes : Obligations.CoreComputes := by
  refine ⟨fun _ _ _ _ _ _ hi => hi.alu rfl, fun _ _ _ _ _ _ hi => hi.alu rfl, fun _ _ _ _ _ _ hi => hi.alu rfl,
    fun _ _ _ _ _ _ hi => hi.alu rfl, fun _ _ _ _ _ _ hi => hi.alu rfl, fun _ _ _ _ _ _ hi => hi.alu rfl,
    fun _ _ _ _ _ _ hi => hi.alu rfl, fun _ _ _ _ _ _ hi => hi.alu rfl, fun _ _ _ _ _ _ hi => hi.alu rfl,
    fun _ _ _ _ _ _ hi => hi.alu rfl, fun _ _ _ _ _ _ hi => hi.alu rfl, fun _ _ _ _ _ _ hi => hi.alu rfl,
    fun _ _ _ _ _ _ hi => hi.alu rfl, fun _ _ _ _ _ _ hi => hi.alu rfl, fun _ _ _ _ _ _ hi => hi.alu rfl,
    fun _ _ _ _ _ _ hi => hi.alu rfl, fun _ _ _ _ _ _ hi => hi.alu rfl,
    fun c ecc s high dd imm hi => hi.issued rfl rfl ?_, fun c ecc s file i imm hi => hi.issued rfl rfl rfl,
    fun c ecc s dst src hi => hi.issued rfl rfl ?_, fun _ _ _ _ _ _ _ _ _ _ hi => hi.mac rfl,
    fun _ _ _ _ _ _ _ _ _ _ hi => hi.mac rfl, fun _ _ _ _ _ _ _ _ _ _ hi => hi.mac rfl,
    fun _ _ _ _ _ _ _ _ _ _ hi => hi.mac rfl, fun c ecc s pair k dd ssh hi => hi.issued rfl rfl ?_⟩
  · have hv : toU32 (signed 16 imm) = (BitVec.ofInt 32 (signed 16 imm)).toNat := by simp [toU32, BitVec.toNat_ofInt]
    rw [doMoviData, hi.core_issuing, hv]
  · rw [doMov, hi.core_issuing, movFlights_eq hi.mov_lt]
  · rw [doRnd, hi.core_issuing]

end Sys2Proof.Machine
end

section
/-! Loads, stores and the filter tap of a core in its own X and Y memory (R229, R236, R253 to R256): O29. -/

namespace Sys2Proof.Machine

/-! ## Accesses of a core's own memory (R199, R237) -/

/-- An aligned word of the core's own memory. -/
abbrev OwnWord (x : Core) (n : Nat) : Prop := (x.ptr n).toNat < 0x20000 ∧ (x.ptr n).toNat % 4 = 0

/-- Where it stands. -/
def ownAt (c : Nat) (x : Core) (n : Nat) : Nat := progBase c + 0x10000 + (x.ptr n).toNat

theorem tcePlace_own (c : Nat) {a : Nat} (ha : a < 0x20000) (h4 : a % 4 = 0) :
    tcePlace c a 4 = .data (progBase c + 0x10000 + a) := by
  rw [tcePlace, if_neg (by simp [h4]), if_pos ha]

/-- The device that finds core `c` at `x`, with memory `m`. -/
def State.issuingMem (s : State) (c : Nat) (x : Core) (m : List Host.Cell) : Dev := ⟨(s.issuing c x).hw, m⟩

theorem State.issuingMem_mem (s : State) (c : Nat) (x : Core) : s.issuingMem c x s.dev.mem = s.issuing c x := rfl

theorem Core.fly_fly (x : Core) (l k : List Flight) : (x.fly l).fly k = x.fly (l ++ k) := by
  simp [Core.fly]

section Access
variable {c : Nat} {s : State} (hlen : c < s.dev.hw.tce.length)
include hlen

theorem fly_issuingMem (x : Core) (l : List Flight) (m : List Host.Cell) :
    (s.issuingMem c x m).via (·.fly c l) = s.issuingMem c (x.fly l) m := by
  have hfly : (s.issuing c x).hw.fly c l = (s.issuing c (x.fly l)).hw := Hw.fly_setCore _ _ _ hlen
  rw [Dev.via, State.issuingMem, hfly]
  rfl

theorem core_issuingMem (x : Core) (m : List Host.Cell) : (s.issuingMem c x m).hw.core c = x :=
  Hw.core_setCore_same _ _ hlen

/-- A load of a word of the core's own memory. -/
theorem tceAccess_load {x x0 : Core} {m : TceMem} (hst : m.st = false) (ha : OwnWord x0 m.a) (mem : List Host.Cell) :
    (s.issuingMem c x mem).tceAccess c x0 .clean 4 m =
      s.issuingMem c (x.fly (⟨2, m.d, .put (memNat mem (ownAt c x0 m.a) 4), 0⟩ :: x0.postModify m 4)) mem := by
  have hload : (s.issuingMem c x mem).tceLoadAt c .clean (x0.ptr m.a).toNat 4 =
      (⟨memNat mem (ownAt c x0 m.a) 4, 2⟩, s.issuingMem c x mem) := by
    rw [Dev.tceLoadAt, tcePlace_own c ha.1 ha.2]
    rfl
  rw [Dev.tceAccess]
  simp only [hst, Bool.false_eq_true, if_false, hload]
  rw [fly_issuingMem hlen, fly_issuingMem hlen, Core.fly_fly]
  rfl

/-- A store of a word to the core's own memory. -/
theorem tceAccess_store {x x0 : Core} {m : TceMem} (hst : m.st = true) (ha : OwnWord x0 m.a) (ecc : EccSeen)
    (mem : List Host.Cell) : (s.issuingMem c x mem).tceAccess c x0 ecc 4 m =
      s.issuingMem c (x.fly (x0.postModify m 4)) (memSetNat mem (ownAt c x0 m.a) 4 (x0.dReg m.d).toNat) := by
  have hstore : (s.issuingMem c x mem).tceStoreAt c (x0.ptr m.a).toNat 4 (x0.dReg m.d).toNat =
      s.issuingMem c x (memSetNat mem (ownAt c x0 m.a) 4 (x0.dReg m.d).toNat) := by
    rw [Dev.tceStoreAt, tcePlace_own c ha.1 ha.2]
    rfl
  rw [Dev.tceAccess]
  simp only [hst, if_true, if_neg (show ¬ (4 = 8) by decide), Nat.add_zero, hstore]
  rw [fly_issuingMem hlen]

end Access

/-- What a word store leaves: the word, and every other byte. -/
theorem memSetNat_word (m : List Host.Cell) (a : Nat) (w : Word) :
    memNat (memSetNat m a 4 w.toNat) a 4 = w.toNat ∧
      ∀ b, (b < a ∨ a + 4 ≤ b) → memRead (memSetNat m a 4 w.toNat) b = memRead m b := by
  refine ⟨?_, fun b hb => ?_⟩
  · rw [memSetNat, memNat_memWriteBytes_leBytes]
    exact Nat.mod_eq_of_lt w.isLt
  · rw [memSetNat, memRead_memWriteBytes_out _ _ _ _ (by simpa using hb)]

section Memory
variable {c : Fin 2} {ecc : CoreEcc} {s : State}

theorem Issues.length {c : Nat} {op : TceOp} (hi : Issues c ecc op s) : c < s.dev.hw.tce.length := by
  obtain ⟨-, -, -, -, hlen, -, -⟩ := hi
  exact hlen

/-- The registers that an access of the core's own memory leaves. -/
theorem regs_of_only {c : Nat} {t : State} (h : Hw.Only [TCE_PC c] s.dev.hw t.dev.hw) :
    ∀ r, r ≠ TCE_PC c → r ∉ faultRegs → t.reg r = s.reg r := fun r hr _ => h r (by simpa using hr)

theorem ld_issues {m : TceMem} (hecc : ecc.m0 = .clean) (hi : Issues c.val ecc (.mem false m) s) (hst : m.st = false)
    (ha : OwnWord (s.at c.val) m.a) : Ends (.ld c ecc) s fun t =>
      Issued c.val (⟨2, m.d, .put (memNat s.dev.mem (ownAt c.val (s.at c.val) m.a) 4), 0⟩ ::
        (s.at c.val).postModify m 4) id s t := by
  refine hi.ends rfl (x := (s.at c.val).fly (⟨2, m.d, .put (memNat s.dev.mem (ownAt c.val (s.at c.val) m.a) 4), 0⟩ ::
    (s.at c.val).postModify m 4)) (m := s.dev.mem) ?_ rfl fun t hmem hcore hreg honly =>
      ⟨hcore, by rw [hreg, hcore]; rfl, onlyRegsAndFaults_of_only (honly.mono (by simp)) hmem⟩
  simp only [doMem, hst, if_true, sizeOf64, Bool.false_eq_true, if_false, hecc, ← State.issuingMem_mem,
    core_issuingMem hi.length]
  rw [tceAccess_load hi.length hst ha]
  rfl

theorem st_issues {m : TceMem} (hi : Issues c.val ecc (.mem false m) s) (hst : m.st = true) (ha : OwnWord (s.at c.val) m.a) :
    Ends (.st c ecc) s fun t =>
      let a := ownAt c.val (s.at c.val) m.a
      CoreIssued c.val ((s.at c.val).postModify m 4) id s t ∧ memNat t.dev.mem a 4 = ((s.at c.val).dReg m.d).toNat ∧
      (∀ b, (b < a ∨ a + 4 ≤ b) → memRead t.dev.mem b = memRead s.dev.mem b) ∧
      (∀ r, r ≠ TCE_PC c.val → r ∉ faultRegs → t.reg r = s.reg r) := by
  obtain ⟨hword, hframe⟩ := memSetNat_word s.dev.mem (ownAt c.val (s.at c.val) m.a) ((s.at c.val).dReg m.d)
  refine hi.ends rfl (x := (s.at c.val).fly ((s.at c.val).postModify m 4))
    (m := memSetNat s.dev.mem (ownAt c.val (s.at c.val) m.a) 4 ((s.at c.val).dReg m.d).toNat) ?_ rfl
    fun t hmem hcore hreg honly => ⟨hcore, hmem ▸ hword, hmem ▸ hframe, regs_of_only honly⟩
  simp only [doMem, hst, if_true, sizeOf64, Bool.false_eq_true, if_false, ← State.issuingMem_mem,
    core_issuingMem hi.length]
  rw [tceAccess_store hi.length hst ha]
  rfl

theorem stAcc_issues {k ssh : Nat} {m : TceMem} (hi : Issues c.val ecc (.stAcc k ssh m) s) (ha : OwnWord (s.at c.val) m.a) :
    Ends (.stAcc c ecc) s fun t =>
      let a := ownAt c.val (s.at c.val) m.a
      memNat t.dev.mem a 4 = (rndWord ((s.at c.val).accReg k) ssh).toNat ∧
      (∀ b, (b < a ∨ a + 4 ≤ b) → memRead t.dev.mem b = memRead s.dev.mem b) ∧
      (t.dev.hw.core c.val).pc = ((s.at c.val).pc + 1) % 16384 ∧ (t.dev.hw.core c.val).d = (s.at c.val).d ∧
      (∀ r, r ≠ TCE_PC c.val → r ∉ faultRegs → t.reg r = s.reg r) := by
  obtain ⟨hword, hframe⟩ := memSetNat_word s.dev.mem (ownAt c.val (s.at c.val) m.a) (rndWord ((s.at c.val).accReg k) ssh)
  refine hi.ends rfl (x := (s.at c.val).fly ((if rndSat ((s.at c.val).accReg k) ssh then [⟨2, 0, .none, 0x100⟩] else []) ++
      (s.at c.val).postModify m 4))
    (m := memSetNat s.dev.mem (ownAt c.val (s.at c.val) m.a) 4 (rndWord ((s.at c.val).accReg k) ssh).toNat) ?_ rfl
    fun t hmem hcore hreg honly => ⟨hmem ▸ hword, hmem ▸ hframe, by rw [hcore]; rfl, by rw [hcore]; rfl, regs_of_only honly⟩
  simp only [doStAcc, ← State.issuingMem_mem, core_issuingMem hi.length, Dev.tceStoreAt, tcePlace_own c.val ha.1 ha.2,
    Dev.tceFly]
  exact congrArg (fun d : Dev => some (d, TceFlow.next)) (fly_issuingMem hi.length _ _ _)

theorem ldStPair_issues {m n : TceMem} (h0 : ecc.m0 = .clean) (h1 : ecc.m1 = .clean) (hi : Issues c.val ecc (.pair false m n) s)
    (hm : m.st = false) (hn : n.st = false) (ham : OwnWord (s.at c.val) m.a) (han : OwnWord (s.at c.val) n.a) :
    Ends (.ldStPair c ecc) s fun t =>
      Issued c.val (⟨2, m.d, .put (memNat s.dev.mem (ownAt c.val (s.at c.val) m.a) 4), 0⟩ :: (s.at c.val).postModify m 4 ++
        ⟨2, n.d, .put (memNat s.dev.mem (ownAt c.val (s.at c.val) n.a) 4), 0⟩ :: (s.at c.val).postModify n 4) id s t := by
  refine hi.ends rfl (x := (s.at c.val).fly
    (⟨2, m.d, .put (memNat s.dev.mem (ownAt c.val (s.at c.val) m.a) 4), 0⟩ :: (s.at c.val).postModify m 4 ++
      ⟨2, n.d, .put (memNat s.dev.mem (ownAt c.val (s.at c.val) n.a) 4), 0⟩ :: (s.at c.val).postModify n 4))
    (m := s.dev.mem) ?_ rfl fun t hmem hcore hreg honly =>
      ⟨hcore, by rw [hreg, hcore]; rfl, onlyRegsAndFaults_of_only (honly.mono (by simp)) hmem⟩
  simp only [doPair, sizeOf64, Bool.false_eq_true, if_false, h0, h1, ← State.issuingMem_mem, core_issuingMem hi.length]
  rw [tceAccess_load hi.length hm ham, tceAccess_load hi.length hn han, Core.fly_fly]
  rfl

/-- The sample that a filter tap leaves at hand (R256). -/
def Core.withTap (x : Core) (dx old : Nat) : Core := { x with bypass := some (dx, BitVec.ofNat 32 old) }

theorem withTap_issuingMem {c : Nat} (hlen : c < s.dev.hw.tce.length) (x : Core) (dx old : Nat) (m : List Host.Cell) :
    ((s.issuingMem c x m).via fun h => h.setCore c ((h.core c).withTap dx old)) = s.issuingMem c (x.withTap dx old) m := by
  rw [Dev.via, core_issuingMem hlen]
  exact congrArg (fun h : Hw => (⟨h, m⟩ : Dev)) (Hw.setCore_setCore _ _ _ _)

/-- The results of a filter tap whose coefficient and old sample are these (R256). -/
def tapFlights (x : Core) (o k dx coef old : Nat) (m n : TceMem) : List Flight :=
  [⟨3, 0x40 + k, .acc o ((BitVec.ofNat 32 coef).toInt * (x.dReg dx).toInt), 0⟩, ⟨2, dx, .put old, 0⟩] ++
    x.postModify m 4 ++ x.postModify n 4

theorem tapPlace_own (c : Nat) {x : Core} {n : Nat} (ha : OwnWord x n) :
    tapPlace c (x.ptr n).toNat = .data (ownAt c x n) := by
  rw [tapPlace, tcePlace_own c ha.1 ha.2]
  rfl

theorem tapLoad_own {x : Core} {n : Nat} (y : Core) (ha : OwnWord x n)
    (m : List Host.Cell) : (s.issuingMem c.val y m).tapLoad c.val .clean (x.ptr n).toNat =
      (⟨memNat m (ownAt c.val x n) 4, 2⟩, s.issuingMem c.val y m) := by
  rw [Dev.tapLoad, tapPlace_own c.val ha]
  rfl

theorem ftap_issues {o k dx : Nat} {m n : TceMem} (h0 : ecc.m0 = .clean) (h1 : ecc.m1 = .clean)
    (hi : Issues c.val ecc (.ftap o k dx m n) s) (hb : (s.at c.val).bypass = none) (ham : OwnWord (s.at c.val) m.a)
    (han : OwnWord (s.at c.val) n.a) : Ends (.ftap c ecc) s fun t =>
      let a := ownAt c.val (s.at c.val) n.a
      let coef := memNat s.dev.mem (ownAt c.val (s.at c.val) m.a) 4
      CoreIssued c.val (tapFlights (s.at c.val) o k dx coef (memNat s.dev.mem a 4) m n)
        (fun x => { x with bypass := some (dx, BitVec.ofNat 32 (memNat s.dev.mem a 4)) }) s t ∧
      memNat t.dev.mem a 4 = ((s.at c.val).dReg dx).toNat ∧
      (∀ b, (b < a ∨ a + 4 ≤ b) → memRead t.dev.mem b = memRead s.dev.mem b) ∧
      (∀ r, r ≠ TCE_PC c.val → r ∉ faultRegs → t.reg r = s.reg r) := by
  obtain ⟨hword, hframe⟩ := memSetNat_word s.dev.mem (ownAt c.val (s.at c.val) n.a) ((s.at c.val).dReg dx)
  refine hi.ends rfl (x := ((s.at c.val).fly (tapFlights (s.at c.val) o k dx
      (memNat s.dev.mem (ownAt c.val (s.at c.val) m.a) 4) (memNat s.dev.mem (ownAt c.val (s.at c.val) n.a) 4) m n)).withTap
        dx (memNat s.dev.mem (ownAt c.val (s.at c.val) n.a) 4))
    (m := memSetNat s.dev.mem (ownAt c.val (s.at c.val) n.a) 4 ((s.at c.val).dReg dx).toNat) ?_ rfl
    fun t hmem hcore hreg honly => ⟨hcore, hmem ▸ hword, hmem ▸ hframe, regs_of_only honly⟩
  simp only [doFtap, ← State.issuingMem_mem, core_issuingMem hi.length, hb, h0, h1, tapLoad_own _ ham, tapLoad_own _ han,
    tapPlace_own c.val han]
  refine congrArg (fun d : Dev => some (d, TceFlow.next)) ?_
  exact (congrArg (fun d : Dev => d.via _) (fly_issuingMem hi.length _ _ _)).trans (withTap_issuingMem hi.length _ _ _ _)

end Memory

/-- Settles O29. -/
theorem coreMemory : Obligations.CoreMemory :=
  ⟨fun _ _ _ hecc _ hi hst h1 h2 => ld_issues hecc hi hst ⟨h1, h2⟩, fun _ _ _ _ hi hst h1 h2 => st_issues hi hst ⟨h1, h2⟩,
    fun _ _ _ _ _ _ hi h1 h2 => stAcc_issues hi ⟨h1, h2⟩,
    fun _ _ _ h0 h1 _ _ hi hm hn a1 a2 b1 b2 => ldStPair_issues h0 h1 hi hm hn ⟨a1, a2⟩ ⟨b1, b2⟩,
    fun _ _ _ h0 h1 _ _ _ _ _ hi hb a1 a2 b1 b2 => ftap_issues h0 h1 hi hb ⟨a1, a2⟩ ⟨b1, b2⟩⟩

end Sys2Proof.Machine
end

section
/-! Flash commands (R478 to R484): O58. -/

namespace Sys2Proof.Machine

/-- An event of a block that works on the device ends in the state it makes. -/
theorem ends_of_doDev_alive {c : Instr} {f : Dev → Dev} {s : State} {P : State → Prop}
    (hc : exec c s = doDev (Dev.whenAlive f) s) (ha : Alive s) (hP : P { s with dev := f s.dev }) : Ends c s P := by
  refine ⟨{ s with dev := f s.dev }, ?_, rfl, hP⟩
  have hf : Dev.whenAlive f s.dev = f s.dev := if_pos ha
  rw [hc, doDev, hf]
  rfl

/-! ## The engine (R481, R482) -/

/-- The engine with its result code kept. -/
def Hw.flashKept (h : Hw) (c : Nat) : Hw := { h with xsp := { h.xsp with work := some c } }

@[simp] theorem Hw.flashKept_reg (h : Hw) (c a : Nat) : (h.flashKept c).reg a = h.reg a := rfl
@[simp] theorem Hw.flashKept_on (h : Hw) (c : Nat) (f : Field) : (h.flashKept c).on f = h.on f := rfl
@[simp] theorem Hw.only_flashKept {l : List Nat} {h h' : Hw} (c : Nat) :
    Hw.Only l h (h'.flashKept c) ↔ Hw.Only l h h' := Iff.rfl

section Engine
variable {op : Nat} {s : State} (hr : FlashRuns op s)
include hr

/-- A command the flash takes. -/
theorem flashWork_taken (f : Dev → Dev) (hc : s.dev.hw.flashCheck s.dev.hw.xsp.job = 0) :
    s.dev.flashWork op f = f { s.dev with hw := s.dev.hw.flashKept 0 } := by
  obtain ⟨-, hbusy, hop, hwork, hrun⟩ := hr
  have hbusy' : s.dev.hw.on XSP_CMD_BUSY = true := hbusy
  rw [Dev.flashWork, if_pos (by simp [hbusy', hop, hwork, hrun])]
  simp only [hc, if_true]
  rfl

/-- A command refused for another reason than protection or its buffer. -/
theorem flashWork_refused (f : Dev → Dev) {c : Nat} (hc : s.dev.hw.flashCheck s.dev.hw.xsp.job = c) (h0 : c ≠ 0) (h1 : c ≠ 1)
    (h5 : c ≠ 5) : s.dev.flashWork op f = { s.dev with hw := s.dev.hw.flashKept c } := by
  obtain ⟨-, hbusy, hop, hwork, hrun⟩ := hr
  have hbusy' : s.dev.hw.on XSP_CMD_BUSY = true := hbusy
  rw [Dev.flashWork, if_pos (by simp [hbusy', hop, hwork, hrun])]
  simp only [hc, h0, h1, h5, if_false, decide_false, Bool.false_and, Hw.cond, Bool.false_eq_true]
  rfl

/-- A command under write protection (R482). -/
theorem flashWork_protected (f : Dev → Dev) (hc : s.dev.hw.flashCheck s.dev.hw.xsp.job = 1) :
    s.dev.flashWork op f = { s.dev with hw := (s.dev.hw.flashKept 1).blockFault PG_XSP 10 } := by
  obtain ⟨-, hbusy, hop, hwork, hrun⟩ := hr
  have hbusy' : s.dev.hw.on XSP_CMD_BUSY = true := hbusy
  rw [Dev.flashWork, if_pos (by simp [hbusy', hop, hwork, hrun])]
  simp [hc, Hw.cond, Hw.flashKept]

end Engine

/-! ## What a command earns before it touches the flash (R481, R482) -/

theorem mapGuard_sram (h : Hw) {a n : Nat} (ha : a + n ≤ 0x20400000) : h.mapGuard a n = false := by
  have hlo : ¬ h.mapRegion.1 < a + n := by
    unfold Hw.mapRegion
    split
    · exact Nat.not_lt.mpr (by omega)
    · exact Nat.not_lt.mpr (by omega)
  simp [Hw.mapGuard, poolSlots_sram ha, hlo]

/-- A transfer between the flash and a buffer of the shared SRAM, aligned and inside the flash. -/
theorem flashCheck_transfer {s : State} (hop : s.dev.hw.xsp.job.op = 1 ∨
      s.dev.hw.xsp.job.op = 2 ∧ s.dev.hw.flashGuard s.faddr s.flen = false) (hf : TransferFits s) :
    s.dev.hw.flashCheck s.dev.hw.xsp.job = 0 := by
  obtain ⟨ha, hb, hl, h4, h64, hsize, hlo, hhi⟩ := hf
  have hsram : inSram s.fbuf s.flen = true := by simp [inSram, inRange, hlo, hhi]
  have hmap := mapGuard_sram s.dev.hw hhi
  have hsize' : ¬ s.dev.hw.flashSize < s.faddr + s.flen := Nat.not_lt.mpr hsize
  simp only [State.faddr, State.fbuf, State.flen] at ha hb hl h4 h64 hsram hmap hop hsize'
  have h4' : ¬ s.dev.hw.xsp.job.len < 4 := by omega
  have h64' : ¬ 65536 < s.dev.hw.xsp.job.len := by omega
  obtain hop | ⟨hop, hguard⟩ := hop
  · simp [Hw.flashCheck, hop, ha, hb, hl, hsize', hsram, hmap, h4', h64']
  · simp [Hw.flashCheck, hop, ha, hb, hl, hsize', hsram, hguard, h4', h64']

/-- An erase of a block of `n` bytes: its code is the first that its alignment, range and protection give. -/
theorem flashCheck_erase {s : State} {op n : Nat} (hop : s.dev.hw.xsp.job.op = op) (hn : op = 3 ∧ n = 4096 ∨ op = 4 ∧ n = 65536)
    (ha : s.faddr % n = 0) : s.dev.hw.flashCheck s.dev.hw.xsp.job =
      if s.dev.hw.flashSize < s.faddr + n then 6 else if s.dev.hw.flashGuard s.faddr n then 1 else 0 := by
  have he : s.dev.hw.xsp.job.faddr = s.faddr := rfl
  by_cases hs : s.dev.hw.flashSize < s.faddr + n
  · obtain ⟨rfl, rfl⟩ | ⟨rfl, rfl⟩ := hn
    · simp [Hw.flashCheck, hop, he, ha, hs]
    · simp [Hw.flashCheck, hop, he, ha, hs]
  · obtain ⟨rfl, rfl⟩ | ⟨rfl, rfl⟩ := hn
    · cases hg : s.dev.hw.flashGuard s.faddr 4096 <;> simp [Hw.flashCheck, hop, he, ha, hs, hg]
    · cases hg : s.dev.hw.flashGuard s.faddr 65536 <;> simp [Hw.flashCheck, hop, he, ha, hs, hg]

theorem flashCheck_misaligned {s : State} (hop : s.dev.hw.xsp.job.op = 2)
    (hb : s.faddr % 4 ≠ 0 ∨ s.fbuf % 4 ≠ 0 ∨ s.flen % 4 ≠ 0 ∨ s.flen = 0 ∨ 65536 < s.flen) :
    s.dev.hw.flashCheck s.dev.hw.xsp.job = 2 := by
  simp only [State.faddr, State.fbuf, State.flen] at hb
  have hbad : s.dev.hw.xsp.job.faddr % 4 ≠ 0 ∨ s.dev.hw.xsp.job.buf % 4 ≠ 0 ∨ s.dev.hw.xsp.job.len % 4 ≠ 0 ∨
      s.dev.hw.xsp.job.len < 4 ∨ 65536 < s.dev.hw.xsp.job.len := by omega
  rw [Hw.flashCheck]
  simp only [hop]
  rw [if_neg (by decide), if_pos]
  simpa [or_assoc] using hbad

/-- The block lies in the range of a protection register. -/
theorem flashGuard_wp0 {s : State} (hm : s.rd SIS_MODE_CUR ≠ 0xD) (hlo : getBits (s.reg XSP_WP0) 0 16 * 65536 ≤ s.faddr)
    (hhi : s.faddr < (getBits (s.reg XSP_WP0) 16 16 + 1) * 65536) : s.dev.hw.flashGuard s.faddr 65536 = true := by
  have hm' : s.dev.hw.mode ≠ 0xD := hm
  have hbase : getBits (s.reg XSP_WP0) 0 16 ≤ getBits (s.reg XSP_WP0) 16 16 := by omega
  have hlt : getBits (s.reg XSP_WP0) 0 16 * 65536 < s.faddr + 65536 := by omega
  simp only [State.reg] at hbase hlt hhi
  simp [Hw.flashGuard, hm', hbase, hlt, hhi]

/-! ## Transfers and erases -/

@[simp] theorem length_memReadBytes (m : List Host.Cell) (a n : Nat) : (memReadBytes m a n).length = n := by
  induction n generalizing a with
  | zero => rfl
  | succ n ih => simp [memReadBytes, ih]

/-- Bytes copied from one place to another stand there, and every other byte keeps its value. -/
theorem memCopy (m : List Host.Cell) (src dst n : Nat) :
    memReadBytes (memWriteBytes m dst (memReadBytes m src n)) dst n = memReadBytes m src n ∧
      ∀ b, (b < dst ∨ dst + n ≤ b) → memRead (memWriteBytes m dst (memReadBytes m src n)) b = memRead m b := by
  refine ⟨?_, fun b hb => memRead_memWriteBytes_out _ _ _ _ (by simpa using hb)⟩
  have h := memReadBytes_memWriteBytes (memReadBytes m src n) m dst
  rwa [length_memReadBytes] at h

theorem xspRead_reads {s : State} (hr : FlashRuns 1 s) (hf : TransferFits s) : Ends .xspRead s fun t =>
      Worked 0 t ∧ memReadBytes t.dev.mem s.fbuf s.flen = memReadBytes s.dev.mem (flashBase + s.faddr) s.flen ∧
      (∀ b, (b < s.fbuf ∨ s.fbuf + s.flen ≤ b) → memRead t.dev.mem b = memRead s.dev.mem b) ∧ ∀ r, t.reg r = s.reg r := by
  obtain ⟨hcopy, hframe⟩ := memCopy s.dev.mem (flashBase + s.faddr) s.fbuf s.flen
  have hd : flashRead s.dev = ⟨s.dev.hw.flashKept 0,
      memWriteBytes s.dev.mem s.fbuf (memReadBytes s.dev.mem (flashBase + s.faddr) s.flen)⟩ := by
    have hslots : poolSlots s.fbuf s.flen = [] := poolSlots_sram hf.2.2.2.2.2.2.2
    rw [flashRead, flashWork_taken hr _ (flashCheck_transfer (.inl hr.2.2.1) hf)]
    simp only [State.fbuf, State.flen] at hslots
    simp only [Dev.store, Hw.flashKept, length_memReadBytes, hslots, Hw.each, List.foldl_nil]
    rfl
  refine ends_of_doDev_alive rfl hr.1 ?_
  rw [hd]
  exact ⟨⟨rfl, hr.2.1⟩, hcopy, hframe, fun _ => rfl⟩

theorem Hw.flashStart_busy (h : Hw) : (h.wr XSP_STAT_FLBUSY 1).on XSP_STAT_FLBUSY = true :=
  Hw.on_wr_same h XSP_STAT_FLBUSY true (by decide) rfl

/-- What the flash's start leaves of the engine's state. -/
theorem worked_flashStart {s : State} (hb : s.on XSP_CMD_BUSY = true) (t : State)
    (ht : t.dev.hw = (s.dev.hw.flashKept 0).wr XSP_STAT_FLBUSY 1) :
    Worked 0 t ∧ t.on XSP_STAT_FLBUSY = true ∧ ∀ r, r ≠ XSP_STAT → t.reg r = s.reg r := by
  have hon : t.on XSP_CMD_BUSY = s.on XSP_CMD_BUSY := by
    rw [State.on, ht, Hw.on_wr_other _ _ _ _ (by decide)]
    rfl
  refine ⟨⟨by rw [ht]; simp [Hw.flashKept], hon.trans hb⟩, ?_, fun r hr => ?_⟩
  · rw [State.on, ht]
    exact Hw.flashStart_busy _
  · rw [State.reg, ht, Hw.reg_wr_ne _ _ _ hr]
    rfl

theorem xspProgram_programs {s : State} (hr : FlashRuns 2 s) (hf : TransferFits s)
    (hg : s.dev.hw.flashGuard s.faddr s.flen = false) : Ends .xspProgram s fun t =>
      Worked 0 t ∧ memReadBytes t.dev.mem (flashBase + s.faddr) s.flen = memReadBytes s.dev.mem s.fbuf s.flen ∧
      (∀ b, (b < flashBase + s.faddr ∨ flashBase + s.faddr + s.flen ≤ b) → memRead t.dev.mem b = memRead s.dev.mem b) ∧
      t.on XSP_STAT_FLBUSY = true ∧ ∀ r, r ≠ XSP_STAT → t.reg r = s.reg r := by
  obtain ⟨hcopy, hframe⟩ := memCopy s.dev.mem s.fbuf (flashBase + s.faddr) s.flen
  have hd : flashProgram s.dev = ⟨(s.dev.hw.flashKept 0).wr XSP_STAT_FLBUSY 1,
      memWriteBytes s.dev.mem (flashBase + s.faddr) (memReadBytes s.dev.mem s.fbuf s.flen)⟩ := by
    rw [flashProgram, flashWork_taken hr _ (flashCheck_transfer (.inr ⟨hr.2.2.1, hg⟩) hf)]
    rfl
  refine ends_of_doDev_alive rfl hr.1 ?_
  rw [hd]
  obtain ⟨hw, hbusy, hregs⟩ := worked_flashStart hr.2.1 (t := ⟨⟨_, memWriteBytes s.dev.mem (flashBase + s.faddr)
    (memReadBytes s.dev.mem s.fbuf s.flen)⟩, s.pending⟩) rfl
  exact ⟨hw, hcopy, hframe, hbusy, hregs⟩

/-- An erase that the engine takes leaves its block erased. -/
theorem flashErase_erases {s : State} {op n : Nat} {c : Instr} (hc : exec c s = doDev (Dev.whenAlive (·.flashWork op (·.flashErase n))) s)
    (hr : FlashRuns op s) (hn : op = 3 ∧ n = 4096 ∨ op = 4 ∧ n = 65536) (ha : s.faddr % n = 0)
    (hs : s.faddr + n ≤ s.fsize) (hg : s.dev.hw.flashGuard s.faddr n = false) : Ends c s fun t =>
      Worked 0 t ∧ (∀ i, i < n → memRead t.dev.mem (flashBase + s.faddr + i) = memDefault (flashBase + s.faddr + i)) ∧
      (∀ b, (b < flashBase + s.faddr ∨ flashBase + s.faddr + n ≤ b) → memRead t.dev.mem b = memRead s.dev.mem b) ∧
      t.on XSP_STAT_FLBUSY = true ∧ ∀ r, r ≠ XSP_STAT → t.reg r = s.reg r := by
  have hcheck := flashCheck_erase hr.2.2.1 hn ha
  rw [if_neg (show ¬ s.dev.hw.flashSize < _ from Nat.not_lt.mpr hs), hg, if_neg (by decide)] at hcheck
  have hd : s.dev.flashWork op (·.flashErase n) = ⟨(s.dev.hw.flashKept 0).wr XSP_STAT_FLBUSY 1,
      memClear s.dev.mem (flashBase + s.faddr) (flashBase + s.faddr + n)⟩ := by
    rw [flashWork_taken hr _ hcheck]
    rfl
  refine ends_of_doDev_alive hc hr.1 ?_
  rw [hd]
  obtain ⟨hw, hbusy, hregs⟩ := worked_flashStart hr.2.1 (t := ⟨⟨_, memClear s.dev.mem (flashBase + s.faddr)
    (flashBase + s.faddr + n)⟩, s.pending⟩) rfl
  refine ⟨hw, fun i hi => ?_, fun b hb => ?_, hbusy, hregs⟩
  · rw [memRead_memClear, if_pos (by omega)]
  · rw [memRead_memClear, if_neg (by omega)]

/-! ## Refusals (R481, R482) -/

theorem xspErase64k_protected {s : State} (hr : FlashRuns 4 s) (ha : s.faddr % 65536 = 0) (hs : s.faddr + 65536 ≤ s.fsize)
    (hg : s.dev.hw.flashGuard s.faddr 65536 = true) : Ends .xspErase64k s fun t =>
      Worked 1 t ∧ t.dev.hw.bitAt (BLK_FAULT PG_XSP) 10 = true ∧ OnlyRegs [BLK_FAULT PG_XSP, BLK_IRQ PG_XSP] s t := by
  have hcheck := flashCheck_erase hr.2.2.1 (.inr ⟨rfl, rfl⟩) ha
  rw [if_neg (show ¬ s.dev.hw.flashSize < _ from Nat.not_lt.mpr hs), hg, if_pos rfl] at hcheck
  have hd : flashErase64k s.dev = ⟨(s.dev.hw.flashKept 1).blockFault PG_XSP 10, s.dev.mem⟩ := by
    rw [flashErase64k, flashWork_protected hr _ hcheck]
  have honly : Hw.Only [BLK_FAULT PG_XSP, BLK_IRQ PG_XSP] s.dev.hw ((s.dev.hw.flashKept 1).blockFault PG_XSP 10) := by simp
  refine ends_of_doDev_alive rfl hr.1 ?_
  rw [hd]
  refine ⟨⟨?_, (honly.on (by decide)).trans hr.2.1⟩, (Hw.blockFault_sets _ _ _ (by decide)).1, onlyRegs_of_only honly rfl⟩
  simp [Hw.flashKept]

/-- A command refused without a fault shows its code and changes nothing else. -/
theorem worked_refused {op code : Nat} {c : Instr} {f : Dev → Dev} {s : State}
    (hc : exec c s = doDev (Dev.whenAlive (·.flashWork op f)) s) (hr : FlashRuns op s)
    (hcheck : s.dev.hw.flashCheck s.dev.hw.xsp.job = code) (h0 : code ≠ 0) (h1 : code ≠ 1) (h5 : code ≠ 5) :
    Ends c s fun t => Worked code t ∧ OnlyRegs [] s t := by
  have hd := flashWork_refused hr f hcheck h0 h1 h5
  refine ends_of_doDev_alive hc hr.1 ?_
  rw [hd]
  exact ⟨⟨rfl, hr.2.1⟩, fun _ _ => rfl, rfl⟩

theorem xspRdsr_reads {sr : BitVec 8} {s : State} (hr : FlashRuns 5 s) : Ends (.xspRdsr sr) s fun t =>
      Worked 0 t ∧ t.dev.hw.xsp.sr = sr.toNat ∧ OnlyRegs [] s t := by
  have hcheck : s.dev.hw.flashCheck s.dev.hw.xsp.job = 0 := by
    rw [Hw.flashCheck]
    simp [hr.2.2.1]
  have hd : flashStatus sr.toNat s.dev = _ := flashWork_taken hr _ hcheck
  refine ends_of_doDev_alive rfl hr.1 ?_
  rw [hd]
  exact ⟨⟨rfl, hr.2.1⟩, rfl, fun _ _ => rfl, rfl⟩

/-! ## The end of a command, and of a window read (R482, R483) -/

/-- The result code of a command whose work earned `c` and whose flash ended so. -/
def flashCode (c op : Nat) (how : FlashEnd) : Nat :=
  if c ≠ 0 then c else match how with
    | .ready => 0
    | .timeout => 3
    | .error => if 2 ≤ op ∧ op ≤ 4 then 4 else 0

theorem flashCode_lt {c op : Nat} {how : FlashEnd} (hc : c < 8) : flashCode c op how < 8 := by
  unfold flashCode
  split
  · exact hc
  · split
    · omega
    · omega
    · split <;> omega

/-- The end of a command whose work earned `c`, on a device that no failed program has spoilt. -/
def Hw.commandEnd (h : Hw) (code : Nat) : Hw :=
  ((((h.wr XSP_CMD_BUSY 0).wr XSP_STAT_FLBUSY 0).setNat XSP_CMD_RES (0x80000000 + 256 * h.xsp.sr + code)).irq PG_XSP 0).cond
    (decide (code ≠ 0)) (·.irq PG_XSP 1)

/-- What the end of a command shows. -/
theorem Hw.commandEnd_shows (h : Hw) {code : Nat} (hsr : h.xsp.sr < 256) (hc : code < 8) :
    ((h.commandEnd code).wr XSP_STAT_WIN 0).nat XSP_CMD_RES = 0x80000000 + 256 * h.xsp.sr + code ∧
      ((h.commandEnd code).wr XSP_STAT_WIN 0).on XSP_CMD_BUSY = false ∧
      ((h.commandEnd code).wr XSP_STAT_WIN 0).on XSP_STAT_FLBUSY = false ∧
      ((h.commandEnd code).wr XSP_STAT_WIN 0).bitAt (BLK_IRQ PG_XSP) 0 = true ∧
      (code ≠ 0 → ((h.commandEnd code).wr XSP_STAT_WIN 0).bitAt (BLK_IRQ PG_XSP) 1 = true) ∧
      Hw.Only [XSP_CMD, XSP_CMD_RES, XSP_STAT, BLK_IRQ PG_XSP] h ((h.commandEnd code).wr XSP_STAT_WIN 0) := by
  have hirq : ∀ g : Hw, Hw.Only [BLK_IRQ PG_XSP] g ((g.irq PG_XSP 0).cond (decide (code ≠ 0)) (·.irq PG_XSP 1)) := by simp
  have hlast := fun g : Hw => (hirq g).trans (Hw.Only.refl _ _)
  refine ⟨?_, ?_, ?_, ?_, fun h0 => ?_, ?_⟩
  · rw [Hw.nat, Hw.reg_wr_ne _ _ _ (by decide), Hw.commandEnd, (hirq _).reg (by decide), Hw.reg_setNat_same, BitVec.toNat_ofNat]
    omega
  · rw [Hw.on_wr_other _ _ _ _ (by decide), Hw.commandEnd, (hirq _).on (by decide), Hw.on, Hw.rd_setNat_ne _ _ _ (by decide),
      Hw.rd_wr_other _ _ _ _ (by decide)]
    exact Hw.on_wr_same h XSP_CMD_BUSY false (by decide) rfl
  · rw [Hw.on_wr_other _ _ _ _ (by decide), Hw.commandEnd, (hirq _).on (by decide), Hw.on, Hw.rd_setNat_ne _ _ _ (by decide)]
    exact Hw.on_wr_same _ XSP_STAT_FLBUSY false (by decide) rfl
  · rw [Hw.bitAt, Hw.reg_wr_ne _ _ _ (by decide), Hw.commandEnd, Hw.cond]
    split
    · exact (Hw.bitAt_setBitAt_ne _ _ (by decide) (.inr (by decide))).trans (Hw.irq_sets _ _ _ (by decide))
    · exact Hw.irq_sets _ _ _ (by decide)
  · rw [Hw.bitAt, Hw.reg_wr_ne _ _ _ (by decide), Hw.commandEnd, Hw.cond, if_pos (by simpa using h0)]
    exact Hw.irq_sets _ _ _ (by decide)
  · simp [Hw.commandEnd]

/-- A failed program or erase leaves the registers. -/
theorem flashSpoil_reg (d : Dev) (op a : Nat) : (d.flashSpoil op).hw.reg a = d.hw.reg a := by
  unfold Dev.flashSpoil
  split
  · rfl
  · rfl

theorem flashSpoil_xsp (d : Dev) (op : Nat) : (d.flashSpoil op).hw.xsp = d.hw.xsp := by
  unfold Dev.flashSpoil
  split
  · rfl
  · rfl

/-- The device that a command of code `code` leaves to its end. -/
def Dev.flashAfter (d : Dev) (c code : Nat) : Dev := if c = 0 ∧ code ≠ 0 then d.flashSpoil d.hw.xsp.job.op else d

theorem windowServe_of_none {d : Dev} (hw : d.hw.xsp.win = []) :
    d.windowServe = ⟨{ d.hw.wr XSP_STAT_WIN 0 with xsp := { d.hw.xsp with win := [] } }, d.mem⟩ := by
  rw [Dev.windowServe, hw, List.foldl_nil]

/-- The end of a command on the device its work left. -/
theorem flashDone_eq {how : FlashEnd} {c code : Nat} {d : Dev} (hb : d.hw.on XSP_CMD_BUSY = true)
    (hw : d.hw.xsp.work = some c) (hwin : d.hw.xsp.win = []) (hcode : flashCode c d.hw.xsp.job.op how = code) :
    Hw.Only [] (((d.flashAfter c code).hw.commandEnd code).wr XSP_STAT_WIN 0) (flashDone how d).hw ∧
      (flashDone how d).mem = (d.flashAfter c code).mem := by
  have hxsp : (d.flashAfter c code).hw.xsp = d.hw.xsp := by
    unfold Dev.flashAfter
    split
    · exact flashSpoil_xsp _ _
    · rfl
  have hop : (d.hw.xsp.job.op = 2 ∨ d.hw.xsp.job.op = 3 ∨ d.hw.xsp.job.op = 4) ↔
      2 ≤ d.hw.xsp.job.op ∧ d.hw.xsp.job.op ≤ 4 := by omega
  rw [flashDone, if_neg (by simp [hb, hw])]
  extract_lets refused op flashed c' d1 h1 h2
  have href : refused = c := by simp [refused, hw]
  have hc' : c' = code := by
    rw [← hcode]
    cases how <;> simp [c', href, flashCode, flashed, op, hop]
  have hd1 : d1 = d.flashAfter c code := by
    simp only [d1, href, hc', Dev.flashAfter, hw, Option.isSome_some, and_true, op]
  have hh2 : h2 = (d.flashAfter c code).hw.commandEnd code := by
    simp only [h2, h1, hd1, hc', Hw.commandEnd, hxsp]
  have hxsp2 : h2.xsp.win = d.hw.xsp.win := by
    rw [hh2, ← hxsp]
    unfold Hw.commandEnd Hw.cond
    split <;> simp [Hw.irq]
  rw [← hh2, ← hd1]
  have hserve := windowServe_of_none (d := ⟨{ h2 with xsp := { h2.xsp with work := none } }, d1.mem⟩) (hxsp2.trans hwin)
  refine ⟨fun a _ => ?_, (congrArg Dev.mem hserve).trans rfl⟩
  refine (congrArg (fun e : Dev => e.hw.reg a) hserve).trans ?_
  simp only [Hw.reg_upd, Hw.wr, Hw.reg_setReg]

theorem xspCommandDone_shows {how : FlashEnd} {c : Nat} {s : State} (ha : Alive s) (hb : s.on XSP_CMD_BUSY = true)
    (hw : s.dev.hw.xsp.work = some c) (hwin : s.dev.hw.xsp.win = []) (hc : c < 8) (hsr : s.dev.hw.xsp.sr < 256) :
    Ends (.xspCommandDone how) s fun t =>
      (t.reg XSP_CMD_RES).toNat = 0x80000000 + 256 * s.dev.hw.xsp.sr + flashCode c s.dev.hw.xsp.job.op how ∧
      t.on XSP_CMD_BUSY = false ∧ t.on XSP_STAT_FLBUSY = false ∧ t.dev.hw.bitAt (BLK_IRQ PG_XSP) 0 = true ∧
      (flashCode c s.dev.hw.xsp.job.op how ≠ 0 → t.dev.hw.bitAt (BLK_IRQ PG_XSP) 1 = true) ∧
      (flashCode c s.dev.hw.xsp.job.op how = 0 ∨ c ≠ 0 → SameMem s t) ∧
      ∀ r, r ∉ [XSP_CMD, XSP_CMD_RES, XSP_STAT, BLK_IRQ PG_XSP] → t.reg r = s.reg r := by
  obtain ⟨hregs, hmem⟩ := flashDone_eq (how := how) hb hw hwin rfl
  refine ends_of_doDev_alive rfl ha ?_
  have hcode := flashCode_lt (op := s.dev.hw.xsp.job.op) (how := how) hc
  generalize flashCode c s.dev.hw.xsp.job.op how = code at hcode hregs hmem
  have hxsp : (s.dev.flashAfter c code).hw.xsp = s.dev.hw.xsp := by
    unfold Dev.flashAfter
    split
    · exact flashSpoil_xsp _ _
    · rfl
  have hreg : ∀ r, (s.dev.flashAfter c code).hw.reg r = s.dev.hw.reg r := fun r => by
    unfold Dev.flashAfter
    split
    · exact flashSpoil_reg _ _ _
    · rfl
  obtain ⟨h1, h2, h3, h4, h5, h6⟩ := (s.dev.flashAfter c code).hw.commandEnd_shows (hxsp ▸ hsr) hcode
  rw [hxsp] at h1
  refine ⟨(hregs.nat (by simp)).trans h1, (hregs.on (by simp)).trans h2, (hregs.on (by simp)).trans h3,
    (hregs.bitAt (by simp) 0).trans h4, fun h0 => (hregs.bitAt (by simp) 1).trans (h5 h0), fun h0 => hmem.trans ?_,
    fun r hr => ((hregs r (by simp)).trans (h6 r hr)).trans (hreg r)⟩
  rw [Dev.flashAfter, if_neg]
  rintro ⟨hc0, hcode0⟩
  exact h0.elim hcode0 fun h => h hc0

theorem xspWindowTimeout_ends {w : WindowRead} {l : List WindowRead} {s : State} (ha : Alive s) (hw : s.dev.hw.xsp.win = w :: l) :
    Ends .xspWindowTimeout s fun t =>
      t.dev.hw.reply.err = true ∧ t.dev.hw.xsp.win = l ∧ t.on XSP_STAT_WIN = decide (l ≠ []) ∧
      t.dev.hw.bitAt (BLK_FAULT PG_XSP) 9 = true ∧ OnlyRegs [XSP_STAT, BLK_FAULT PG_XSP, BLK_IRQ PG_XSP] s t := by
  refine ends_of_alive rfl ha ?_
  simp only [Dev.via, windowTimeout, hw]
  generalize hb : decide (l ≠ []) = b
  have honly : Hw.Only [BLK_FAULT PG_XSP, BLK_IRQ PG_XSP] (s.dev.hw.wr XSP_STAT_WIN (b2n b))
      ((((s.dev.hw.wr XSP_STAT_WIN (b2n b)).busError).blockFault PG_XSP 9).irq PG_XSP 2) := by
    simp [Hw.busError]
  refine ⟨by simp [Hw.busError, Hw.irq, Hw.blockFault], trivial, (honly.on (by decide)).trans (Hw.on_wr_same _ _ _ (by decide) rfl), ?_,
    onlyRegs_of_only (Hw.Only.trans (by simp) (honly.mono (by simp))) rfl⟩
  have hirq : ∀ g : Hw, Hw.Only [BLK_IRQ PG_XSP] g (g.irq PG_XSP 2) := by simp
  exact ((hirq _).bitAt (by decide) 9).trans (Hw.blockFault_sets _ _ _ (by decide)).1

/-- Settles O58. -/
theorem flashCommands : Obligations.FlashCommands := by
  refine ⟨fun s hr hf => xspRead_reads hr hf, fun s hr hf hg => xspProgram_programs hr hf hg,
    fun s hr ha hs hg => flashErase_erases rfl hr (.inl ⟨rfl, rfl⟩) ha hs hg,
    fun s hr ha hs hg => flashErase_erases rfl hr (.inr ⟨rfl, rfl⟩) ha hs hg,
    fun s hr ha hs hm hlo hhi => xspErase64k_protected hr ha hs (flashGuard_wp0 hm hlo hhi),
    fun s hr hb => worked_refused rfl hr (flashCheck_misaligned hr.2.2.1 hb) (by decide) (by decide) (by decide),
    fun s hr ha hs => worked_refused rfl hr ?_ (by decide) (by decide) (by decide), fun sr s hr => xspRdsr_reads hr,
    fun how c s ha hb hw hwin hc hsr => ?_, fun w l s ha hw => xspWindowTimeout_ends ha hw,
    fun who w s hm => ends_of_opWrite rfl hm ?_⟩
  · have hcheck := flashCheck_erase hr.2.2.1 (.inl ⟨rfl, rfl⟩) ha
    rwa [if_pos (show s.dev.hw.flashSize < s.faddr + 4096 from hs)] at hcheck
  · exact xspCommandDone_shows ha hb hw hwin hc hsr
  · refine ⟨(Hw.rd_wr_same _ _ _ (by decide)).trans (Nat.mod_eq_of_lt (getBits_lt _ _ _)), onlyRegs_of_only (by simp) rfl⟩

end Sys2Proof.Machine
end

section
/-! The host interface (R485 to R488): O59 fails on an absent page (R57). -/

namespace Sys2Proof.Machine

/-- A TLM-1044, without VIS, whose host interface is enabled and served (R4, R80, R486). -/
def State.absentVision : State :=
  let h := (State.reset.dev.hw.wr CPR_AGT_RST_AGT 0).wr (BLK_CTL_EN PG_HSP) 1
  { State.reset with dev := { State.reset.dev with hw := { h with env := { h.env with part := 44 } } } }

/-- What the last access was answered, after a command that ends in a next state. -/
def answerAfter (o : Host.Outcome State Fault Refusal) : List Word :=
  match o with
  | .next t => t.dev.hw.reply.data
  | _ => []

/-- The answer stands in the state the command ends in. -/
theorem Ends.answerAfter {c : Instr} {s : State} {l : List Word} {P : State → Prop}
    (h : Ends c s fun t => t.dev.hw.reply.data = l ∧ P t) : answerAfter (exec c s) = l := by
  obtain ⟨t, ht, -, hl, -⟩ := h
  rw [ht]
  exact hl

/-- Refutes O59: the clause on misaligned addresses has no hypothesis that the page stands. The host reads word 0 at
0x40160001, a misaligned address of VIS, on a part without VIS: the absent page answers 0 before alignment is looked at, with
status 0 and not BUSERR. -/
theorem not_hostInterface : ¬ Obligations.HostInterface := by
  rintro ⟨-, -, -, hmisaligned, -⟩
  have hbus := hmisaligned 0x40160001 true true State.absentVision (by decide +kernel) (by decide) rfl
  have hzero : answerAfter (exec (.hspRead 0x40160001 1 true true false) State.absentVision) = [0, 0] := by decide +kernel
  exact absurd (hbus.answerAfter.symm.trans hzero) (by decide)

end Sys2Proof.Machine
end

section
/-! Reads and writes of the address map (R29, R34 to R37): O23 fails on an absent page (R57). -/

namespace Sys2Proof.Machine

/-- The last access of a command that ends in a next state was answered with a bus error. -/
def errorAfter (o : Host.Outcome State Fault Refusal) : Bool :=
  match o with
  | .next t => t.dev.hw.reply.err
  | _ => false

theorem Ends.errorAfter {c : Instr} {s : State} {P : State → Prop} (h : Ends c s fun t => t.dev.hw.reply.err = true ∧ P t) :
    errorAfter (exec c s) = true := by
  obtain ⟨t, ht, -, he, -⟩ := h
  rw [ht]
  exact he

/-- Refutes O23: the clause on misaligned writes has no hypothesis that the page stands. Agent 7 writes a word at 0x40160001,
a misaligned address of VIS, on a part without VIS: the write goes nowhere and is acknowledged, with no bus error. -/
theorem not_accesses : ¬ Obligations.Accesses := by
  rintro ⟨-, -, -, -, -, -, -, -, hmisaligned, -⟩
  have hbus := hmisaligned (.agent 7) 0x40160001 2 0 State.absentVision (by decide +kernel) (by decide)
  have hnone : errorAfter (exec (.registerWrite (.agent 7) 0x40160001 2 0) State.absentVision) = false := by decide +kernel
  exact absurd (hbus.errorAfter.symm.trans hnone) (by decide)

end Sys2Proof.Machine
end

section
/-! The common header (R42 to R56): O12 fails on the soft reset of a CAN controller with a pending object. -/

namespace Sys2Proof.Machine

/-- CAN 0 is quiet, with message object 0 pending for transmission. -/
def State.pendingObject : State :=
  let h := (State.reset.dev.hw.wr (BLK_STAT_QUIET (PG_CAN 0)) 1).wr (CAN_OBJn_W3_TXRQ 0 0) 1
  { State.reset with dev := { State.reset.dev with hw := h } }

/-- A register after a command that ends in a next state. -/
def regAfter (a : Nat) (o : Host.Outcome State Fault Refusal) : Word :=
  match o with
  | .next t => t.reg a
  | _ => 0

theorem Ends.regAfter {c : Instr} {s : State} {P : State → Prop} (h : Ends c s P) {a : Nat} {w : Word}
    (hP : ∀ t, P t → t.reg a = w) : regAfter a (exec c s) = w := by
  obtain ⟨t, ht, -, hp⟩ := h
  rw [ht]
  exact hP t hp

/-- Refutes O12: the soft-reset clause keeps every word of a CAN message memory. Agent 0 resets CAN 0, quiet, while its object 0
is pending: with the reset no object is pending any more, so bit TXRQ of the object's word W3 falls. -/
theorem not_blockControl : ¬ Obligations.BlockControl := by
  rintro ⟨-, ⟨-, -, -, -, hreset, -⟩, -⟩
  have hends := hreset (.agent 0) ⟨PG_CAN 0, by decide⟩ State.pendingObject (by decide) (by decide) (by decide)
    (by decide +kernel) (by decide +kernel) (by decide +kernel) (by decide) (fun h => absurd h (by decide))
    (fun c _ _ => by decide +kernel)
  have hfalls : regAfter (CAN_OBJn_W3 0 0) (exec (.blkSoftReset (.agent 0) ⟨PG_CAN 0, by decide⟩) State.pendingObject) ≠
      State.pendingObject.reg (CAN_OBJn_W3 0 0) := by decide +kernel
  exact hfalls (hends.regAfter fun t ht => ht.2.1 _ (by decide))

end Sys2Proof.Machine
end

section
/-! PARKED (R64 to R70): O11 fails for the parked watch after a loss of the reference clock. -/

namespace Sys2Proof.Machine

/-- A parked device whose reference clock is lost (R60), with the watch enabled and one count of movement above a LIMIT of
0. -/
def State.parkedDead : State :=
  let h := ((((State.reset.dev.hw.wr SIS_MODE_CUR 3).wr CPR_PW_CFG_EN 1).wr CPR_PW_CFG_LIMIT 0).wr CPR_WAKE_EN_SRC 0x20).wr
    CPR_PW_STAT_MOVED 1
  { State.reset with dev := { State.reset.dev with hw := { h with cpr := { h.cpr with clocksDead := true } } } }

/-- The wake is under way after a command that ends in a next state. -/
def wakingAfter (o : Host.Outcome State Fault Refusal) : Bool :=
  match o with
  | .next t => t.dev.hw.cpr.waking
  | _ => false

theorem Ends.wakingAfter {c : Instr} {s : State} {P : State → Prop} (h : Ends c s P)
    (hP : ∀ t, P t → t.dev.hw.cpr.waking = true) : wakingAfter (exec c s) = true := by
  obtain ⟨t, ht, -, hp⟩ := h
  rw [ht]
  exact hP t hp

/-- Refutes O11: the clause on the parked watch has no hypothesis that the clocks live. A parked device with the reference
lost sees movement above LIMIT; with its clocks dead it starts no wake (R60). -/
theorem not_parking : ¬ Obligations.Parking := by
  rintro ⟨-, ⟨-, -, hwatch, -⟩, -⟩
  have hends := hwatch false State.parkedDead (by decide +kernel) (by decide +kernel) (by decide +kernel) (by decide)
  have hnone : wakingAfter (exec (.parkedWatchMove false) State.parkedDead) = false := by decide +kernel
  exact absurd ((hends.wakingAfter fun t ht => (ht.1 (by decide +kernel)).2).symm.trans hnone) (by decide)

end Sys2Proof.Machine
end

section
/-! Self-tests (R50, R500 to R506): O21 fails for a run whose pattern number is no byte. -/

namespace Sys2Proof.Machine

/-- A self-test of POS is in progress, listed with a pattern number of 2^24, which no byte of TST_RES holds. -/
def State.wideRun : State :=
  let h := State.reset.dev.hw.wr (BLK_TEST_BUSY PG_POS) 1
  { State.reset with dev := { State.reset.dev with hw := { h with hdr := { h.hdr with runs := [(PG_POS, 2 ^ 24)] } } } }

/-- The result word has 32 bits. -/
theorem toNat_word_ne_wideRun (w : Word) : w.toNat ≠ 0xA0000005 + 65536 * PG_POS + 256 * 2 ^ 24 := by
  have hw := w.isLt
  unfold PG_POS
  omega

/-- Refutes O21: the clause on a late run has no hypothesis that the pattern listed is a byte. A run of POS with pattern 2^24
ends late; the value that the clause gives to TST_RES does not fit a register. -/
theorem not_selfTest : ¬ Obligations.SelfTest := by
  rintro ⟨⟨-, -, -, -, hlate⟩, -⟩
  have hpat : State.wideRun.dev.hw.runPat PG_POS = 2 ^ 24 := by decide +kernel
  obtain ⟨t, -, -, -, -, hres, -⟩ := hlate ⟨PG_POS, by decide⟩ State.wideRun (by decide +kernel) (by decide +kernel)
    (by decide +kernel) (by decide)
  rw [hpat] at hres
  exact toNat_word_ne_wideRun _ hres

end Sys2Proof.Machine
end

section
/-! Task ticks (R204, R209): O25 fails where the partner core still runs the task's previous activation. -/

namespace Sys2Proof.Machine

/-- Task 0 of TCE 0 is due on its own waiting core, while TCE 1 still runs its previous activation, as after the return from a
solo switch (R212). -/
def State.partnerRuns : State :=
  let h := ((State.reset.dev.hw.wr SIS_MODE_CUR 4).wr (BLK_STAT_RUN (PG_TCE 0)) 1).wr (TCE_STAT_STATE 0) coreWait
  let h1 := h.setCore 0 { h.core 0 with dispatch := true, due := [⟨0, 0⟩] }
  let h2 := h1.setCore 1 { h1.core 1 with run := some ⟨0, 0⟩ }
  { State.reset with dev := { State.reset.dev with hw := h2 } }

/-- The state of a core after a command that ends in a next state. -/
def coreStAfter (c : Nat) (o : Host.Outcome State Fault Refusal) : Nat :=
  match o with
  | .next t => t.dev.hw.coreSt c
  | _ => 0

theorem Ends.coreStAfter {k : Instr} {s : State} {P : State → Prop} (h : Ends k s P) {c n : Nat}
    (hP : ∀ t, P t → t.dev.hw.coreSt c = n) : coreStAfter c (exec k s) = n := by
  obtain ⟨t, ht, -, hp⟩ := h
  rw [ht]
  exact hP t hp

/-- Refutes O25: the clause on a waiting core says nothing of its partner. TCE 0 waits with a tick of its task 0 due; TCE 1
still runs the task's previous activation, so the tick is an overrun and the waiting core goes on waiting. -/
theorem not_programsAndTicks : ¬ Obligations.ProgramsAndTicks := by
  rintro ⟨-, -, hstart, -⟩
  have hends := hstart 0 0 0 State.partnerRuns (by decide +kernel) (by decide +kernel) (by decide +kernel) (by decide +kernel)
    (by decide +kernel) (by decide +kernel) (by decide +kernel) (by decide +kernel)
  have hwaits : coreStAfter 0 (exec (.taskTick 0 0) State.partnerRuns) = coreWait := by decide +kernel
  exact absurd ((hends.coreStAfter fun t ht => ht.1).symm.trans hwaits) (by decide)

end Sys2Proof.Machine
end

section
/-! Trips and the mains (R277 to R280): O31 fails for a chopper that works no more. -/

namespace Sys2Proof.Machine

/-- A ready power stage whose chopper leg 0 of set 0 is on within its least time, with the bus not low, the chopper disabled
and the mains not lost. -/
def State.chopperDisabled : State :=
  let h := State.reset.dev.hw.wr SIS_MODE_CUR 4
  { State.reset with dev := { State.reset.dev with hw :=
    { h with pst := { h.pst with chopOn := 1, minon := 1, busLow := false } } } }

/-- The chopper legs that are on after a command that ends in a next state. -/
def chopOnAfter (o : Host.Outcome State Fault Refusal) : Nat :=
  match o with
  | .next t => t.dev.hw.pst.chopOn
  | _ => 0

theorem Ends.bit_chopOnAfter {k : Instr} {s : State} {P : State → Prop} (h : Ends k s P) {i : Nat} {b : Bool}
    (hP : ∀ t, P t → bit t.dev.hw.pst.chopOn i = b) : bit (chopOnAfter (exec k s)) i = b := by
  obtain ⟨t, ht, -, hp⟩ := h
  rw [ht]
  exact hP t hp

/-- Refutes O31: the clause on the least time lets the leg stay on wherever the bus is not low. With the chopper disabled
meanwhile, the leg turns off at the end of its least time though the bus is not low. -/
theorem not_tripsAndMains : ¬ Obligations.TripsAndMains := by
  rintro ⟨-, -, -, -, -, -, hminon⟩
  have hends := hminon 0 0 State.chopperDisabled (by decide +kernel)
  have hstays := hends.bit_chopOnAfter (i := 0) fun t ht => ht.2.1
  have hoff : bit (chopOnAfter (exec (.chopperMinonElapsed 0 0) State.chopperDisabled)) 0 = false := by decide +kernel
  exact absurd (hstays.symm.trans hoff) (by decide +kernel)

end Sys2Proof.Machine
end

section
/-! The brake sequencer (R284, R286): O32 fails where the sequencer's return to APPLIED ends a brake test. -/

namespace Sys2Proof.Machine

/-- A brake test is in its last step while the sequencer stands in RELEASE. -/
def State.testReleases : State :=
  let h := (((State.reset.dev.hw.wr SIS_MODE_CUR 4).wr PST_BRK_STAT_STATE 6).wr PST_BT_STAT_BUSY 1).wr PST_BT_STAT_STEP 3
  { State.reset with dev := { State.reset.dev with hw := h } }

/-- Refutes O32: the clause on TRAMP lets no register of the brake test change. A test in its last step passes as the
sequencer reaches APPLIED (R286), which PST_BT_STAT shows. -/
theorem not_brake : ¬ Obligations.Brake := by
  rintro ⟨⟨-, -, -, -, -, -, -, hramp, -⟩, -⟩
  have hends := hramp State.testReleases (by decide +kernel) (by decide +kernel)
  have hpasses : regAfter PST_BT_STAT (exec .brkTrampElapsed State.testReleases) ≠ State.testReleases.reg PST_BT_STAT := by
    decide +kernel
  exact hpasses (hends.regAfter fun t ht => by
    obtain ⟨-, -, -, honly, -⟩ := ht
    exact honly _ (by decide))

end Sys2Proof.Machine
end

section
/-! CAN reception (R381 to R385): O44 fails for the read of an object that belongs to SSE. -/

namespace Sys2Proof.Machine

/-- Object 0 of CAN 0 is a transmit object of SSE (R396). -/
def State.ownedObject : State :=
  let h := (State.reset.dev.hw.wr (CAN_OBJn_W0_TYPE 0 0) canTx).wr (CAN_OBJn_W1_OWNER 0 0) 1
  { State.reset with dev := { State.reset.dev with hw := h } }

/-- Refutes O44: the clause on a read of W0 that locks nothing has no hypothesis that the object is free. Agent 0 reads W0 of
an object that SSE owns: the answer is 0 and not the word. -/
theorem not_canReception : ¬ Obligations.CanReception := by
  rintro ⟨-, -, -, -, -, hread, -⟩
  have hends := hread 0 0 0 State.ownedObject (by decide +kernel) (by decide +kernel) (Or.inl (by decide +kernel))
  have hzero : answerAfter (exec (.canObjectLock (.agent 0) 0 0) State.ownedObject) = [0] := by decide +kernel
  exact absurd (hends.answerAfter.symm.trans hzero) (by decide +kernel)

end Sys2Proof.Machine
end

section
/-! CAN transmission (R386 to R391): O45 fails for an object that was not in arbitration. -/

namespace Sys2Proof.Machine

/-- CAN 0 is on its bus; object 0, one-shot and pending, is suspended after its collisions (R388) and so takes no part in
arbitration. -/
def State.suspendedObject : State :=
  let h := ((State.reset.dev.hw.wr SIS_MODE_CUR 4).wr (BLK_STAT_RUN (PG_CAN 0)) 1).wr (CAN_CTL_INIT 0) 0
  let h1 := (((h.wr (CAN_OBJn_W0_TYPE 0 0) canTx).wr (CAN_OBJn_W1_OS 0 0) 1).wr (CAN_OBJn_W3_TXRQ 0 0) 1).wr
    (CAN_OBJn_W3_SUSP 0 0) 1
  { State.reset with dev := { State.reset.dev with hw := h1 } }

/-- A register whose TXRQ bit is clear is not the word of an object that is pending. -/
theorem reg_ne_of_on_eq_false {s t : State} {f : Field} (hs : s.on f = true) (ht : t.on f = false) :
    t.reg f.addr ≠ s.reg f.addr := by
  intro h
  have : t.on f = s.on f := congrArg (fun w : Word => decide (getBits w f.lo f.width = 1)) h
  rw [hs, ht] at this
  exact Bool.noConfusion this

/-- Refutes O45: the clause on a lost arbitration has no hypothesis that the object was in arbitration. A pending one-shot
object that is suspended is not on the bus: the event leaves it pending, and it does not fail. -/
theorem not_canTransmission : ¬ Obligations.CanTransmission := by
  rintro ⟨-, -, -, -, -, hlost, -⟩
  obtain ⟨t, hexec, -, hfails⟩ := hlost 0 0 State.suspendedObject (by decide +kernel) (by decide +kernel) (by decide +kernel)
    (by decide +kernel) (by decide +kernel)
  rw [if_pos (by decide +kernel)] at hfails
  obtain ⟨⟨htxrq, -⟩, -⟩ := hfails
  have hsame : regAfter (CAN_OBJn_W3 0 0) (exec (.canArbitrationLost 0 0) State.suspendedObject) =
      State.suspendedObject.reg (CAN_OBJn_W3 0 0) := by decide +kernel
  rw [hexec] at hsame
  exact reg_ne_of_on_eq_false (f := CAN_OBJn_W3_TXRQ 0 0) (by decide +kernel) htxrq hsame

end Sys2Proof.Machine
end

section
/-! CAN network time (R388, R392): O46 fails for a master whose reference object is suspended. -/

namespace Sys2Proof.Machine

/-- CAN 0 is the time master of its bus; its object 0 is suspended after its collisions. -/
def State.suspendedMaster : State :=
  let h := ((State.reset.dev.hw.wr SIS_MODE_CUR 4).wr (BLK_STAT_RUN (PG_CAN 0)) 1).wr (CAN_CTL_INIT 0) 0
  let h1 := h.wr (CAN_OBJn_W3_SUSP 0 0) 1
  { State.reset with dev := { State.reset.dev with hw := h1.setCn 0 { h1.cn 0 with time := 0x80000000, refStop := false } } }

/-- Refutes O46: the clause on a reference request has no hypothesis that object 0 is not suspended. Of a master whose object
0 is suspended the request makes nothing pending (R388). -/
theorem not_canControl : ¬ Obligations.CanControl := by
  rintro ⟨-, -, -, -, -, -, -, hrequest, -⟩
  obtain ⟨t, hexec, -, htxrq, -⟩ := hrequest 0 State.suspendedMaster (by decide +kernel) (by decide +kernel)
    (by decide +kernel) (by decide +kernel) (by decide +kernel)
  have hsame : regAfter (CAN_OBJn_W3 0 0) (exec (.canReferenceRequest 0) State.suspendedMaster) =
      State.suspendedMaster.reg (CAN_OBJn_W3 0 0) := by decide +kernel
  rw [hexec] at hsame
  exact reg_ne_of_on_eq_false (f := CAN_OBJn_W3_TXRQ 0 0) htxrq (by decide +kernel) hsame.symm

end Sys2Proof.Machine
end

section
/-! Ethernet ports (R403): O47 fails for a receive ring that stands in no memory. -/

namespace Sys2Proof.Machine

/-- A broadcast frame of 64 bytes, FCS included, of an EtherType that no engine takes. -/
def broadcastFrame : EthFrame :=
  { dst := 0xFFFFFFFFFFFF, src := 1, etype := 0x0800, payload := List.replicate 46 0, fcsOk := true, stamp := 0 }

/-- ETH 0 runs with its link up; its receive ring stands in the tightly coupled memory of the application cores, with a
first descriptor that reads as owned by the port. -/
def State.ringInTcm : State :=
  let h := (((State.reset.dev.hw.wr SIS_MODE_CUR 4).wr (BLK_STAT_RUN (PG_ETH 0)) 1).wr (ETH_STAT_LINK 0) 1).setReg
    (ETH_RXRING 0) 0x10000000
  let h1 := (h.wr (ETH_RXRING_BUFSZ 0) 24).wr (ETH_RXIDX_TAIL 0) 1
  let m := memSetNat (memSetNat [] 0x10000000 4 0x20000000) 0x10000006 2 1
  { State.reset with dev := { State.reset.dev with hw := h1, mem := m } }

/-- Refutes O47: the clause on a received frame has no hypothesis that the ring stands in memory the port reaches. With the ring
in the cores' own memory the port finds no descriptor, counts the frame as an error and leaves HEAD. -/
theorem not_ethernetPorts : ¬ Obligations.EthernetPorts := by
  rintro ⟨-, -, -, -, -, -, -, hreceive, -⟩
  have hframe : RingFrame 0 broadcastFrame State.ringInTcm := by
    refine ⟨?_, ?_, ?_, ?_, ?_, ?_, ?_, ?_, ?_, ?_⟩ <;> decide +kernel
  obtain ⟨t, hexec, -, -, -, -, -, -, hhead, -⟩ := hreceive 0 broadcastFrame 0 0x10000000 60 State.ringInTcm hframe
    (by decide +kernel) (by decide +kernel) (by decide) (by decide +kernel) (by decide +kernel) (by decide +kernel)
    (by decide +kernel)
  have hsame : regAfter (ETH_RXIDX 0) (exec (.ethFrameReceive 0 broadcastFrame) State.ringInTcm) =
      State.ringInTcm.reg (ETH_RXIDX 0) := by decide +kernel
  rw [hexec] at hsame
  have hread : t.rd (ETH_RXIDX_HEAD 0) = State.ringInTcm.rd (ETH_RXIDX_HEAD 0) :=
    congrArg (fun w : Word => getBits w (ETH_RXIDX_HEAD 0).lo (ETH_RXIDX_HEAD 0).width) hsame
  exact absurd (hhead.symm.trans hread) (by decide +kernel)

end Sys2Proof.Machine
end

section
/-! SkoveSafe (R416): O49 fails for a connection whose buffer stands in no memory that a block reaches. -/

namespace Sys2Proof.Machine

/-- Consumer 0 has accepted a frame and works with a substitute: a word of 1 in the shared SRAM. Its buffer stands in the
tightly coupled memory of the application cores, which no block reaches. -/
def State.bufferInTcm : State :=
  let h := (((State.reset.dev.hw.wr SIS_MODE_CUR 4).wr (SSE_Ck_CFG_EN 0) 1).wr (SSE_Ck_CFG_SUBST 0) 1).wr (SSE_Ck_CFG_LEN 0) 1
  let h1 := (h.setReg (SSE_Ck_BUFA 0) 0x10000000).setReg (SSE_Ck_SUB 0) 0x20000000
  let h2 := h1.setConn 0 { h1.conn 0 with last := some 0, held := false }
  { State.reset with dev := { State.reset.dev with hw := h2, mem := memSetNat [] 0x20000000 4 1 } }

/-- Bytes of memory after a command that ends in a next state. -/
def bytesAfter (a n : Nat) (o : Host.Outcome State Fault Refusal) : List Byte :=
  match o with
  | .next t => memReadBytes t.dev.mem a n
  | _ => []

/-- Refutes O49: the clause on a substitute has no hypothesis that the buffer stands in memory a block reaches. With the buffer
in the cores' own memory the watchdog writes nothing there. -/
theorem not_skoveSafe : ¬ Obligations.SkoveSafe := by
  rintro ⟨-, -, -, -, -, -, -, -, -, hsubst, -⟩
  obtain ⟨t, hexec, -, -, -, hbytes, -⟩ := hsubst 0 State.bufferInTcm (by decide +kernel) (by decide +kernel)
    (by decide +kernel) (by decide +kernel) (by decide +kernel) (by decide +kernel) (by decide +kernel) (by decide +kernel)
  have hzero : bytesAfter 0x10000000 4 (exec (.skovesafeWatchdogExpiry 0) State.bufferInTcm) = [0, 0, 0, 0] := by
    decide +kernel
  rw [hexec] at hzero
  have hone : [0, 0, 0, 0] = memReadBytes State.bufferInTcm.dev.mem 0x20000000 4 := hzero.symm.trans hbytes
  exact absurd hone (by decide +kernel)

end Sys2Proof.Machine
end

section
/-! Position orders, discrete inputs, captures and emulation outputs (R127, R135 to R137, R141, R143): O16. -/

namespace Sys2Proof.Machine

/-! ## Discrete inputs (R135, R136) -/

theorem bit_setBitN_same (n i : Nat) (b : Bool) : bit (setBitN n i b) i = b := by
  cases b
  · simp [bit_setBitN_false]
  · simp [bit_setBitN_true]

/-- POS takes the level: its clock runs, no mode holds it, and the filter passes the level. -/
def Hw.dinTaken (h : Hw) (i : Nat) (level : Bool) (seen : Nat) : Bool :=
  h.fabricOn && !h.motionHeld && h.dinPasses i level seen

/-- What an edge leaves of the inputs, before any capture. -/
def Hw.dinShown (h : Hw) (i : Nat) (level : Bool) (seen : Nat) : Hw :=
  { h with
    cpr := { h.cpr with din := setBitN h.cpr.din i level }
    pos := { h.pos with
      dinRun := if h.fabricOn && !h.motionHeld then h.pos.dinRun.set i seen else h.pos.dinRun
      din := if decide (bit h.pos.din i ≠ level) && (h.fabricOn && !h.motionHeld) && h.dinPasses i level seen then
        setBitN h.pos.din i level else h.pos.din } }

/-- The capture of an input: the value of its counter with the stamp and the level. -/
def Hw.captureOf (h : Hw) (i stamp : Nat) : Capture :=
  ⟨i, h.dinLevel i, h.dinStamp i stamp,
    if h.rd POS_DIN_CAPSRC_SRC < 6 then toU32 (h.q (h.rd POS_DIN_CAPSRC_SRC)).ext else 0⟩

/-- MAP's own copy of a capture. -/
def Hw.captureMap (h : Hw) (e : Capture) : Hw :=
  if 16 ≤ h.pos.capMap.length then h.bump MAP_LRN_STAT_OVF 1
  else { h with pos := { h.pos with capMap := h.pos.capMap ++ [e] } }

/-- A capture joins the queue, or is lost. -/
def Hw.captureQueue (h : Hw) (e : Capture) : Hw :=
  if 32 ≤ h.pos.dcap.length then h.wr POS_DCAP_STAT_DOVF 1
  else
    ({ h with pos := { h.pos with dcap := h.pos.dcap ++ [e] } }.wr POS_DCAP_STAT_LEVEL (h.pos.dcap ++ [e]).length).irq
      PG_POS 29

theorem dinTake_eq (i : Nat) (level : Bool) (stamp seen : Nat) (h : Hw) :
    dinTake i level stamp seen h =
      let g := h.dinShown i level seen
      if (decide (bit h.pos.din i ≠ level) && (h.fabricOn && !h.motionHeld) && h.dinPasses i level seen) &&
          h.bitAt POS_DIN_EDGEEN i then
        (g.captureMap (g.captureOf i stamp)).captureQueue (g.captureOf i stamp)
      else g := rfl

@[simp] theorem Hw.dcap_captureMap (h : Hw) (e : Capture) : (h.captureMap e).pos.dcap = h.pos.dcap := by
  unfold Hw.captureMap
  split <;> simp

@[simp] theorem Hw.din_captureMap (h : Hw) (e : Capture) : (h.captureMap e).pos.din = h.pos.din := by
  unfold Hw.captureMap
  split <;> simp

@[simp] theorem Hw.cpr_captureMap (h : Hw) (e : Capture) : (h.captureMap e).cpr = h.cpr := by
  unfold Hw.captureMap
  split <;> simp

@[simp] theorem Hw.din_captureQueue (h : Hw) (e : Capture) : (h.captureQueue e).pos.din = h.pos.din := by
  unfold Hw.captureQueue
  split <;> simp

@[simp] theorem Hw.cpr_captureQueue (h : Hw) (e : Capture) : (h.captureQueue e).cpr = h.cpr := by
  unfold Hw.captureQueue
  split <;> simp

/-- A queue with room takes the capture. -/
theorem Hw.captureQueue_joins {h : Hw} (e : Capture) (hl : h.pos.dcap.length < 32) :
    (h.captureQueue e).pos.dcap = h.pos.dcap ++ [e] ∧
      (h.captureQueue e).rd POS_DCAP_STAT_LEVEL = h.pos.dcap.length + 1 := by
  unfold Hw.captureQueue
  rw [if_neg (by omega)]
  refine ⟨by simp, ?_⟩
  rw [Hw.irq, Hw.rd_setBitAt_ne _ _ _ _ (by decide), Hw.rd_wr_same _ _ _ (by decide), List.length_append]
  exact Nat.mod_eq_of_lt (Nat.lt_of_lt_of_le (Nat.succ_lt_succ hl) (by decide))

/-- A full one loses it. -/
theorem Hw.captureQueue_loses {h : Hw} (e : Capture) (hl : 32 ≤ h.pos.dcap.length) :
    (h.captureQueue e).pos.dcap = h.pos.dcap ∧ (h.captureQueue e).on POS_DCAP_STAT_DOVF = true := by
  unfold Hw.captureQueue
  rw [if_pos hl]
  exact ⟨by simp, Hw.on_wr_same _ POS_DCAP_STAT_DOVF true (by decide) rfl⟩

/-- The registers of a capture. -/
theorem Hw.only_capture (h : Hw) (e : Capture) :
    Hw.Only [POS_DCAP_STAT, BLK_IRQ PG_POS, MAP_LRN_STAT] h ((h.captureMap e).captureQueue e) := by
  have hmap : Hw.Only [POS_DCAP_STAT, BLK_IRQ PG_POS, MAP_LRN_STAT] h (h.captureMap e) := by
    unfold Hw.captureMap
    refine Hw.only_ite ?_ ?_ <;> simp
  refine hmap.trans ?_
  unfold Hw.captureQueue
  refine Hw.only_ite ?_ ?_ <;> simp

/-- The input shows at the ball in any case, in POS where it is taken. -/
theorem Hw.dinShown_din (h : Hw) (i : Nat) (level : Bool) (seen : Nat) :
    bit (h.dinShown i level seen).cpr.din i = level ∧
      (h.dinTaken i level seen = true → bit (h.dinShown i level seen).pos.din i = level) ∧
      (h.dinTaken i level seen = false → (h.dinShown i level seen).pos.din = h.pos.din) := by
  refine ⟨bit_setBitN_same _ _ _, fun ht => ?_, fun ht => ?_⟩
  · simp only [Hw.dinTaken, Bool.and_eq_true] at ht
    by_cases hb : bit h.pos.din i = level
    · simp [Hw.dinShown, hb]
    · simp [Hw.dinShown, hb, ht, bit_setBitN_same]
  · simp only [Hw.dinTaken] at ht
    simp [Hw.dinShown, Bool.and_assoc, ht]

/-- An edge leaves the inputs as `Hw.dinShown` says, captured or not. -/
theorem dinTake_din (i : Nat) (level : Bool) (stamp seen : Nat) (h : Hw) :
    (dinTake i level stamp seen h).cpr = (h.dinShown i level seen).cpr ∧
      (dinTake i level stamp seen h).pos.din = (h.dinShown i level seen).pos.din := by
  rw [dinTake_eq]
  dsimp only
  split <;> simp

/-- A taken edge that is enabled is captured. -/
theorem dinTake_captures {i : Nat} {level : Bool} {seen : Nat} {h : Hw} (stamp : Nat) (ht : h.dinTaken i level seen = true)
    (hb : bit h.pos.din i ≠ level) (he : h.bitAt POS_DIN_EDGEEN i = true) :
    dinTake i level stamp seen h =
      ((h.dinShown i level seen).captureMap ((h.dinShown i level seen).captureOf i stamp)).captureQueue
        ((h.dinShown i level seen).captureOf i stamp) := by
  simp only [Hw.dinTaken, Bool.and_eq_true] at ht
  rw [dinTake_eq]
  simp [hb, he, ht]

theorem only_dinTake (i : Nat) (level : Bool) (stamp seen : Nat) (h : Hw) :
    Hw.Only [POS_DCAP_STAT, BLK_IRQ PG_POS, MAP_LRN_STAT] h (dinTake i level stamp seen h) := by
  have hshown : Hw.Only [POS_DCAP_STAT, BLK_IRQ PG_POS, MAP_LRN_STAT] h (h.dinShown i level seen) := by
    simp [Hw.dinShown]
  rw [dinTake_eq]
  exact Hw.only_ite (hshown.trans (Hw.only_capture _ _)) hshown

/-! ## The capture queue and the emulation outputs (R136, R137) -/

/-- A read of the queue's head pops it for its reader. -/
theorem capPop_pops {who : Who} {h : Hw} {e : Capture} {l : List Capture} (hd : h.pos.dcap = e :: l) :
    (capPop who h).reply.data = [BitVec.ofNat 32 (0x80000000 + 256 * b2n e.level + e.din)] ∧
      (capPop who h).reply.err = false ∧ (capPop who h).pos.dcap = l ∧
      (capPop who h).capWord who.num 1 = BitVec.ofNat 32 e.stamp ∧
      (capPop who h).capWord who.num 2 = BitVec.ofNat 32 e.count ∧ Hw.Only [POS_DCAP_STAT] h (capPop who h) := by
  simp [capPop, hd, Hw.answer, Hw.capWord]

theorem capPop_empty {who : Who} {h : Hw} (hd : h.pos.dcap = []) : capPop who h = h.answer [0] := by
  unfold capPop
  rw [hd]

/-- A step of a live output with a backlog takes one count off it. -/
theorem emuStepOut_steps {k : Nat} {h : Hw} (hl : h.emuLive k = true) (hm : h.motionHeld = false)
    (hk : k < h.pos.emu.length) (hb : (h.em k).backlog ≠ 0) :
    ((emuStepOut k h).em k).backlog.natAbs + 1 = (h.em k).backlog.natAbs ∧
      Hw.Only [POS_EMUk_STAT k] h (emuStepOut k h) := by
  have hset (e : Emu) (f : Field) (v : Nat) : ((h.setEm k e).wr f v).em k = e := by
    simp [Hw.em, Hw.setEm, hk]
  unfold emuStepOut
  rw [if_neg (by simp [hl, hm, hb])]
  refine ⟨?_, by simp [Hw.setEm]⟩
  rw [hset]
  dsimp only
  split
  · next h0 => simp only [decide_eq_true_eq] at h0; omega
  · next h0 => simp only [decide_eq_true_eq] at h0; omega

/-! ## Orders -/

theorem getBits_one_eq_getLsbD (w : Word) (i : Nat) : decide (getBits w i 1 = 1) = w.getLsbD i := by
  unfold getBits
  rw [BitVec.getLsbD, Nat.testBit_eq_decide_div_mod_eq, Nat.shiftRight_eq_div_pow, pow_one]

/-- A condition that only sets a flag. -/
theorem Hw.cond_alignReq (h : Hw) (c : Bool) :
    (h.cond c fun h => { h with pos := { h.pos with alignReq := true } }).pos.alignReq = (h.pos.alignReq || c) := by
  cases c <;> simp [Hw.cond]

theorem Hw.cond_returnReq (h : Hw) (c : Bool) :
    (h.cond c fun h => { h with pos := { h.pos with returnReq := true } }).pos.returnReq = (h.pos.returnReq || c) := by
  cases c <;> simp [Hw.cond]

/-- Settles O16. -/
theorem positionRegisters : Obligations.PositionRegisters := by
  refine ⟨⟨fun who ch w s hm hl => ends_of_opWrite rfl hm ?_, fun who w s hm => ends_of_opWrite rfl hm ?_,
    fun who w s hm => ends_of_opWrite rfl hm ?_⟩, fun i level stamp seen s => ends_of_doHw rfl ?_,
    fun a e l s ha hd => ends_of_readHw rfl ha ?_, fun a s ha hd => ends_of_readHw rfl ha ?_,
    fun k s ha hl hm hk hb => ends_of_alive rfl ha ?_⟩
  · refine ⟨?_, fun _ _ => rfl, rfl⟩
    exact congrArg QChan.preset (getD_set_self hl _ _)
  · rw [getBits_one_eq_getLsbD]
    exact ⟨Hw.cond_alignReq _ _, onlyRegs_of_only (Hw.only_cond (by simp) fun _ _ _ => rfl) rfl⟩
  · rw [getBits_one_eq_getLsbD]
    exact ⟨Hw.cond_returnReq _ _, onlyRegs_of_only (Hw.only_cond (by simp) fun _ _ _ => rfl) rfl⟩
  · obtain ⟨hball, htaken, hnot⟩ := s.dev.hw.dinShown_din i.val level seen
    obtain ⟨hcpr, hdin⟩ := dinTake_din i.val level stamp.toNat seen s.dev.hw
    have hof (h1 : s.dev.hw.fabricOn = true) (h2 : s.dev.hw.motionHeld = false)
        (h3 : s.dev.hw.dinPasses i.val level seen = true) : s.dev.hw.dinTaken i.val level seen = true := by
      simp [Hw.dinTaken, h1, h2, h3]
    refine ⟨?_, fun h1 h2 h3 => ?_, fun h => ?_, fun h1 h2 h3 hb he hl => ?_, fun h1 h2 h3 hb he hl => ?_,
      onlyRegs_of_only (only_dinTake _ _ _ _ _) rfl⟩
    · rwa [Dev.via, hcpr]
    · rw [Dev.via, hdin]
      exact htaken (hof h1 h2 h3)
    · rw [Dev.via, hdin]
      refine hnot ?_
      obtain h | h | h := h <;> simp [Hw.dinTaken, h]
    · have ht := hof h1 h2 h3
      have hroom : ((s.dev.hw.dinShown i.val level seen).captureMap
          ((s.dev.hw.dinShown i.val level seen).captureOf i.val stamp.toNat)).pos.dcap.length < 32 := by
        rw [Hw.dcap_captureMap]
        exact hl
      obtain ⟨hq, hlev⟩ := Hw.captureQueue_joins ((s.dev.hw.dinShown i.val level seen).captureOf i.val stamp.toNat) hroom
      rw [Hw.dcap_captureMap] at hq hlev
      rw [Dev.via, dinTake_captures stamp.toNat ht hb he]
      refine ⟨?_, ?_, ?_⟩
      · rw [hq, List.length_append]
        rfl
      · intro e hmem
        rw [hq, List.getLast?_append] at hmem
        simp only [List.getLast?_singleton, Option.some_or, Option.mem_def, Option.some.injEq] at hmem
        rw [← hmem]
        refine ⟨rfl, rfl, ?_⟩
        show (bit (s.dev.hw.dinShown i.val level seen).pos.din i.val != _) = _
        rw [htaken ht]
        rfl
      · exact hlev
    · have ht := hof h1 h2 h3
      have hfull : 32 ≤ ((s.dev.hw.dinShown i.val level seen).captureMap
          ((s.dev.hw.dinShown i.val level seen).captureOf i.val stamp.toNat)).pos.dcap.length := by
        rw [Hw.dcap_captureMap]
        exact hl
      obtain ⟨hq, hov⟩ := Hw.captureQueue_loses ((s.dev.hw.dinShown i.val level seen).captureOf i.val stamp.toNat) hfull
      rw [Hw.dcap_captureMap] at hq
      rw [Dev.via, dinTake_captures stamp.toNat ht hb he]
      exact ⟨hq, hov⟩
  · obtain ⟨h1, h2, h3, h4, h5, h6⟩ := capPop_pops (who := .agent a) hd
    exact ⟨h1, h2, h3, h4, h5, onlyRegs_of_only h6 rfl⟩
  · rw [Dev.via, capPop_empty hd]
    exact ⟨rfl, onlyRegs_of_only (by simp) rfl⟩
  · obtain ⟨h1, h2⟩ := emuStepOut_steps hl hm hk hb
    exact ⟨h1, onlyRegs_of_only h2 rfl⟩

end Sys2Proof.Machine
end

section
/-! Serial encoder frames, negotiation, frozen sources (R132, R133, R142): O17. -/

namespace Sys2Proof.Machine

/-! ## Frames (R133) -/

/-- The position a frame carries. -/
def Hw.framePos (h : Hw) (n : Nat) (rx : SerialRx) : Nat :=
  let len := h.rd (POS_Sn_CTL_LEN n)
  let raw0 := rx.data.toNat % 2 ^ len
  if h.on (POS_Sn_CTL_GRAY n) && !h.on (POS_Sn_CTL_PROTO n) then grayDecode len raw0 else raw0

/-- A frame joins the channel's record, and the Ward's own of channel 0. -/
def Hw.frameLogged (h : Hw) (n raw : Nat) (good : Bool) : Hw :=
  let h0 := h.setS n { h.s n with frames := (raw, good) :: (h.s n).frames.take 15 }
  if n = 0 then { h0 with sis := { h0.sis with wS0 := (raw, good) :: h0.sis.wS0.take 15, wS0new := true } } else h0

/-- A good frame shows. -/
def Hw.frameShown (h : Hw) (n raw : Nat) (warn : Bool) : Hw :=
  (((h.setPair (POS_Sn_POS_LO n) raw).wr (POS_Sn_STAT_VALID n) 1).wr (POS_Sn_STAT_FAILCNT n) 0).wr
    (POS_Sn_STAT_WARN n) (b2n warn)

/-- The third failure in a row loses the channel. -/
def Hw.channelLost (h : Hw) (n : Nat) : Hw :=
  let h := h.wr (POS_Sn_STAT_LOST n) 1
  if h.isCar then { h with pos := { h.pos with lostNext := setBitN h.pos.lostNext n true } }
  else { h with pos := { h.pos with lostDue := setBitN h.pos.lostDue n true } }

/-- A frame with a CRC error alone. -/
def Hw.frameCrcFailed (h : Hw) (n : Nat) : Hw :=
  let k := satN 3 (h.rd (POS_Sn_STAT_FAILCNT n) + 1)
  let h := ((h.wr (POS_Sn_STAT_VALID n) 0).wr (POS_Sn_STAT_FAILCNT n) k).irq PG_POS (24 + n)
  let h := (h.wr (POS_Sn_STAT_CRCERR n) 1).bump ⟨POS_Sn_ERRCNT n, 0, 16⟩ 1
  if k = 3 then h.channelLost n else h

/-- The speed of the last frames, where they give one. -/
def Hw.speedShown (h : Hw) (n : Nat) (v : Option Int) : Hw :=
  v.elim (h.wr (POS_Sn_STAT_SPDSTALE n) 1) fun v => (h.setInt (POS_Sn_SPD n) v).wr (POS_Sn_STAT_SPDSTALE n) 0

theorem Hw.regs_frameLogged (h : Hw) (n raw : Nat) (good : Bool) : (h.frameLogged n raw good).regs = h.regs := by
  by_cases hn : n = 0 <;> simp [Hw.frameLogged, Hw.setS, hn]

theorem Hw.rd_frameLogged (h : Hw) (n raw : Nat) (good : Bool) (f : Field) :
    (h.frameLogged n raw good).rd f = h.rd f := by
  unfold Hw.rd Hw.reg
  rw [Hw.regs_frameLogged]

theorem Hw.only_frameLogged (h : Hw) (n raw : Nat) (good : Bool) : Hw.Only [] h (h.frameLogged n raw good) := by
  intro a _
  unfold Hw.reg
  rw [Hw.regs_frameLogged]

/-- A frame that failed (R133). -/
def Hw.frameFailed (h : Hw) (n : Nat) (x : FrameFault) : Hw :=
  let k := satN 3 (h.rd (POS_Sn_STAT_FAILCNT n) + 1)
  let h := ((h.wr (POS_Sn_STAT_VALID n) 0).wr (POS_Sn_STAT_FAILCNT n) k).irq PG_POS (24 + n)
  let h := h.cond x.crc fun h => (h.wr (POS_Sn_STAT_CRCERR n) 1).bump ⟨POS_Sn_ERRCNT n, 0, 16⟩ 1
  let h := h.cond x.tout fun h => (h.wr (POS_Sn_STAT_TOUTERR n) 1).bump ⟨POS_Sn_ERRCNT n, 16, 16⟩ 1
  let h := h.cond x.nerr (·.wr (POS_Sn_STAT_NERR n) 1)
  if k = 3 then h.channelLost n else h

theorem Hw.serialTake_eq (h : Hw) (n : Nat) (rx : SerialRx) (x : FrameFault) :
    h.serialTake n rx x =
      let raw := h.framePos n rx
      let good := !(x.crc || x.tout || x.nerr)
      let h1 := h.frameLogged n raw good
      let h2 := if good then h1.frameShown n raw (h.on (POS_Sn_CTL_PROTO n) && !rx.nW) else h1.frameFailed n x
      h2.speedShown n (serialSpeed ((raw, good) :: (h.s n).frames.take 15) (h.rd (POS_Sn_FRM_SWIN n))
        (h.rd (POS_Sn_CTL_LEN n)) (h.pst.curPer * h.pst.posDiv)) := by
  unfold Hw.serialTake Hw.speedShown Hw.frameShown Hw.frameFailed Hw.channelLost Hw.frameLogged Hw.framePos
  dsimp only
  generalize serialSpeed _ _ _ _ = v
  cases v with
  | none => rw [Option.elim_none]
  | some v => rw [Option.elim_some]

/-! What each part shows. -/

theorem Hw.only_speedShown (h : Hw) (n : Nat) (v : Option Int) :
    Hw.Only [POS_Sn_STAT n, POS_Sn_SPD n] h (h.speedShown n v) := by
  cases v <;> simp [Hw.speedShown]

/-- The speed leaves every other field of the status. -/
theorem Hw.rd_speedShown (h : Hw) (n : Nat) (v : Option Int) (lo w : Nat) (hf : lo + w ≤ 19) :
    (h.speedShown n v).rd ⟨POS_Sn_STAT n, lo, w⟩ = h.rd ⟨POS_Sn_STAT n, lo, w⟩ := by
  cases v with
  | none => exact Hw.rd_wr_other _ _ _ _ (.inr (.inl hf))
  | some v =>
    exact (Hw.rd_wr_other _ _ _ _ (.inr (.inl hf))).trans (Hw.rd_setReg_ne _ _ _ (by simp))

/-- And so of a flag. -/
theorem Hw.on_speedShown (h : Hw) (n : Nat) (v : Option Int) (lo : Nat) (hf : lo + 1 ≤ 19) :
    (h.speedShown n v).on ⟨POS_Sn_STAT n, lo, 1⟩ = h.on ⟨POS_Sn_STAT n, lo, 1⟩ := by
  rw [Hw.on, Hw.rd_speedShown _ _ _ _ _ hf, Hw.on]

/-- The high word of a position is neither its status nor its speed. -/
theorem poshi_ne_stat (n : Nat) : POS_Sn_POS_LO n + 4 ≠ POS_Sn_STAT n := by
  unfold POS_Sn_POS_LO POS_Sn_STAT
  omega

theorem poshi_ne_spd (n : Nat) : POS_Sn_POS_LO n + 4 ≠ POS_Sn_SPD n := by
  unfold POS_Sn_POS_LO POS_Sn_SPD
  omega

theorem Hw.frameShown_shows (h : Hw) (n raw : Nat) (warn : Bool) :
    (h.frameShown n raw warn).pair (POS_Sn_POS_LO n) = raw % 2 ^ 64 ∧
      (h.frameShown n raw warn).on (POS_Sn_STAT_VALID n) = true ∧
      (h.frameShown n raw warn).rd (POS_Sn_STAT_FAILCNT n) = 0 ∧
      (h.frameShown n raw warn).on (POS_Sn_STAT_WARN n) = warn ∧
      Hw.Only [POS_Sn_POS_LO n, POS_Sn_POS_LO n + 4, POS_Sn_STAT n] h (h.frameShown n raw warn) := by
  unfold Hw.frameShown
  refine ⟨?_, ?_, ?_, Hw.on_wr_same _ (POS_Sn_STAT_WARN n) warn (by simp) rfl, by simp⟩
  · have hp := h.pair_setPair (POS_Sn_POS_LO n) raw
    show _ = raw % 18446744073709551616
    unfold Hw.pair Hw.nat at hp ⊢
    have hhi := poshi_ne_stat n
    simpa (disch := first | exact hhi | simp) only [Hw.reg_wr_ne] using hp
  · rw [Hw.on_wr_other _ _ _ _ (by simp), Hw.on_wr_other _ _ _ _ (by simp)]
    exact Hw.on_wr_same _ (POS_Sn_STAT_VALID n) true (by simp) rfl
  · rw [Hw.rd_wr_other _ _ _ _ (by simp), Hw.rd_wr_same _ _ _ (by simp)]
    rfl

/-- The loss of a channel changes its flag alone. -/
theorem Hw.channelLost_shows (h : Hw) (n : Nat) :
    (h.channelLost n).on (POS_Sn_STAT_LOST n) = true ∧ Hw.Only [POS_Sn_STAT n] h (h.channelLost n) ∧
      (∀ f : Field, f.addr ≠ POS_Sn_STAT n ∨ f.lo + f.width ≤ 1 ∨ 2 ≤ f.lo → (h.channelLost n).rd f = h.rd f) := by
  have hregs : (h.channelLost n).regs = (h.wr (POS_Sn_STAT_LOST n) 1).regs := by
    unfold Hw.channelLost
    by_cases hc : (h.wr (POS_Sn_STAT_LOST n) 1).isCar = true <;> simp [hc]
  have hrd (f : Field) : (h.channelLost n).rd f = (h.wr (POS_Sn_STAT_LOST n) 1).rd f := by
    unfold Hw.rd Hw.reg
    rw [hregs]
  refine ⟨?_, fun a ha => ?_, fun f hf => (hrd f).trans (Hw.rd_wr_other _ _ _ _ hf)⟩
  · rw [Hw.on, hrd, ← Hw.on]
    exact Hw.on_wr_same _ (POS_Sn_STAT_LOST n) true (by simp) rfl
  · rw [Hw.reg, hregs, ← Hw.reg]
    exact Hw.reg_wr_ne _ _ _ (by simpa using ha)

/-- What a CRC error shows, before any loss. -/
def Hw.crcShown (h : Hw) (n : Nat) : Hw :=
  ((((h.wr (POS_Sn_STAT_VALID n) 0).wr (POS_Sn_STAT_FAILCNT n) (satN 3 (h.rd (POS_Sn_STAT_FAILCNT n) + 1))).irq PG_POS
    (24 + n)).wr (POS_Sn_STAT_CRCERR n) 1).bump ⟨POS_Sn_ERRCNT n, 0, 16⟩ 1

theorem Hw.frameFailed_crc (h : Hw) (n : Nat) : h.frameFailed n ⟨true, false, false⟩ =
    if satN 3 (h.rd (POS_Sn_STAT_FAILCNT n) + 1) = 3 then (h.crcShown n).channelLost n else h.crcShown n := by
  simp [Hw.frameFailed, Hw.cond, Hw.crcShown]

theorem posirq_lt : BLK_IRQ PG_POS < 0x40100300 := by decide

theorem sstat_ne_irq (n : Nat) : POS_Sn_STAT n ≠ BLK_IRQ PG_POS := by
  have h := posirq_lt
  unfold POS_Sn_STAT
  omega

theorem serrcnt_ne_irq (n : Nat) : POS_Sn_ERRCNT n ≠ BLK_IRQ PG_POS := by
  have h := posirq_lt
  unfold POS_Sn_ERRCNT
  omega

theorem Hw.crcShown_shows (h : Hw) (n : Nat) :
    (h.crcShown n).on (POS_Sn_STAT_VALID n) = false ∧ (h.crcShown n).on (POS_Sn_STAT_CRCERR n) = true ∧
      (h.crcShown n).rd (POS_Sn_STAT_FAILCNT n) = satN 3 (h.rd (POS_Sn_STAT_FAILCNT n) + 1) ∧
      (h.crcShown n).rd ⟨POS_Sn_ERRCNT n, 0, 16⟩ = satN 16 (h.rd ⟨POS_Sn_ERRCNT n, 0, 16⟩ + 1) ∧
      Hw.Only [POS_Sn_STAT n, POS_Sn_ERRCNT n, POS_Sn_SPD n, BLK_IRQ PG_POS] h (h.crcShown n) := by
  have hstat : POS_Sn_STAT n ≠ BLK_IRQ PG_POS := sstat_ne_irq n
  have herr : POS_Sn_ERRCNT n ≠ BLK_IRQ PG_POS := serrcnt_ne_irq n
  have hsat : satN 3 (h.rd (POS_Sn_STAT_FAILCNT n) + 1) < 2 ^ 3 := by unfold satN; omega
  have hsat' : satN 16 (h.rd ⟨POS_Sn_ERRCNT n, 0, 16⟩ + 1) < 2 ^ 16 := by unfold satN; omega
  refine ⟨?_, ?_, ?_, ?_, by simp [Hw.crcShown]⟩
  · unfold Hw.crcShown Hw.bump Hw.irq
    rw [Hw.on_wr_other _ _ _ _ (by simp), Hw.on_wr_other _ _ _ _ (by simp), Hw.on, Hw.rd_setBitAt_ne _ _ _ _ hstat, ← Hw.on,
      Hw.on_wr_other _ _ _ _ (by simp)]
    exact Hw.on_wr_same _ (POS_Sn_STAT_VALID n) false (by simp) rfl
  · unfold Hw.crcShown Hw.bump
    rw [Hw.on_wr_other _ _ _ _ (by simp)]
    exact Hw.on_wr_same _ (POS_Sn_STAT_CRCERR n) true (by simp) rfl
  · unfold Hw.crcShown Hw.bump Hw.irq
    rw [Hw.rd_wr_other _ _ _ _ (by simp), Hw.rd_wr_other _ _ _ _ (by simp), Hw.rd_setBitAt_ne _ _ _ _ hstat,
      Hw.rd_wr_same _ _ _ (by simp)]
    exact Nat.mod_eq_of_lt hsat
  · unfold Hw.crcShown Hw.bump Hw.irq
    rw [Hw.rd_wr_same _ _ _ (by simp), Hw.rd_wr_other _ _ _ _ (by simp), Hw.rd_setBitAt_ne _ _ _ _ herr,
      Hw.rd_wr_other _ _ _ _ (by simp), Hw.rd_wr_other _ _ _ _ (by simp)]
    exact Nat.mod_eq_of_lt hsat'

/-- A CRC error shows and counts, and the third failure in a row loses the channel. -/
theorem Hw.frameFailed_crc_shows (h : Hw) (n : Nat) :
    (h.frameFailed n ⟨true, false, false⟩).on (POS_Sn_STAT_VALID n) = false ∧
      (h.frameFailed n ⟨true, false, false⟩).on (POS_Sn_STAT_CRCERR n) = true ∧
      (h.frameFailed n ⟨true, false, false⟩).rd (POS_Sn_STAT_FAILCNT n) = min 7 (h.rd (POS_Sn_STAT_FAILCNT n) + 1) ∧
      (h.frameFailed n ⟨true, false, false⟩).rd ⟨POS_Sn_ERRCNT n, 0, 16⟩ =
        min 65535 (h.rd ⟨POS_Sn_ERRCNT n, 0, 16⟩ + 1) ∧
      (h.rd (POS_Sn_STAT_FAILCNT n) = 2 → (h.frameFailed n ⟨true, false, false⟩).on (POS_Sn_STAT_LOST n) = true) ∧
      Hw.Only [POS_Sn_STAT n, POS_Sn_ERRCNT n, POS_Sn_SPD n, BLK_IRQ PG_POS] h (h.frameFailed n ⟨true, false, false⟩) := by
  obtain ⟨hv, hc, hf, he, ho⟩ := h.crcShown_shows n
  have hs3 : satN 3 (h.rd (POS_Sn_STAT_FAILCNT n) + 1) = min 7 (h.rd (POS_Sn_STAT_FAILCNT n) + 1) := Nat.min_comm _ _
  have hs16 : satN 16 (h.rd ⟨POS_Sn_ERRCNT n, 0, 16⟩ + 1) = min 65535 (h.rd ⟨POS_Sn_ERRCNT n, 0, 16⟩ + 1) :=
    Nat.min_comm _ _
  rw [hs3] at hf
  rw [hs16] at he
  rw [Hw.frameFailed_crc, hs3]
  by_cases hk : min 7 (h.rd (POS_Sn_STAT_FAILCNT n) + 1) = 3
  · obtain ⟨hlost, honly, hrd⟩ := (h.crcShown n).channelLost_shows n
    rw [if_pos hk]
    refine ⟨?_, ?_, ?_, ?_, fun _ => hlost, ho.trans (honly.mono (by simp))⟩
    · rw [Hw.on, hrd _ (by simp), ← Hw.on, hv]
    · rw [Hw.on, hrd _ (by simp), ← Hw.on, hc]
    · rw [hrd _ (by simp), hf]
    · rw [hrd _ (.inl (by simp)), he]
  · rw [if_neg hk]
    exact ⟨hv, hc, hf, he, fun h2 => absurd (by rw [h2]; rfl) hk, ho⟩

/-! ## Frames as events -/

theorem Hw.framePos_plain {h : Hw} {n : Nat} {rx : SerialRx} (hg : h.on (POS_Sn_CTL_GRAY n) = false) :
    h.framePos n rx = rx.data.toNat % 2 ^ h.rd (POS_Sn_CTL_LEN n) := by
  simp [Hw.framePos, hg]

/-- A frame outside a negotiation, whose parity is judged, is taken. -/
theorem serialEnd_takes {h : Hw} {n : Nat} (rx : SerialRx) (hl : h.sLive n = true) (hm : h.motionHeld = false)
    (hn : h.negotiates n = false ∨ h.on (POS_Sn_STAT_NEGDONE n) = true)
    (hp : h.on (POS_Sn_CTL_PROTO n) = true ∨ h.rd (POS_Sn_CTL_PAR n) ≠ 3) :
    serialEnd n rx h = h.serialTake n rx (h.frameFault n rx 0) := by
  unfold serialEnd
  rw [if_neg (by simp [hl, hm]), if_neg (by rcases hn with hn | hn <;> simp [hn]),
    if_neg (by rcases hp with hp | hp <;> simp [hp])]

/-- A frame of a negotiation is not latched. -/
theorem whenAlive_negotiating {h : Hw} {n : Nat} (rx : SerialRx) (hn : h.negotiates n = true)
    (hd : h.on (POS_Sn_STAT_NEGDONE n) = false) :
    ((whenAlive (serialEnd n rx) h).s n).frames = (h.s n).frames ∧ Hw.Only [] h (whenAlive (serialEnd n rx) h) := by
  have hset (b : List Bool) : (h.setS n { h.s n with tried := b }).s n = { h.s n with tried := b } ∨
      (h.setS n { h.s n with tried := b }).s n = h.s n := by
    by_cases hl : n < h.pos.s.length
    · exact .inl (getD_set_self hl _ _)
    · exact .inr (by simp [Hw.s, Hw.setS, hl])
  unfold whenAlive serialEnd
  split
  · split
    · exact ⟨rfl, by simp⟩
    · rw [if_pos (by simp [hn, hd])]
      refine ⟨?_, by simp [Hw.setS]⟩
      rcases hset _ with h1 | h1 <;> rw [h1]
  · exact ⟨rfl, by simp⟩

section Frames
variable {n : Nat} {rx : SerialRx} {h : Hw}

/-- A good frame is the channel's position. -/
theorem serialTake_good_shows (hg : h.on (POS_Sn_CTL_GRAY n) = false) :
    (h.serialTake n rx ⟨false, false, false⟩).pair (POS_Sn_POS_LO n) = rx.data.toNat % 2 ^ h.rd (POS_Sn_CTL_LEN n) ∧
      (h.serialTake n rx ⟨false, false, false⟩).on (POS_Sn_STAT_VALID n) = true ∧
      (h.serialTake n rx ⟨false, false, false⟩).rd (POS_Sn_STAT_FAILCNT n) = 0 ∧
      (h.serialTake n rx ⟨false, false, false⟩).on (POS_Sn_STAT_WARN n) = (h.on (POS_Sn_CTL_PROTO n) && !rx.nW) ∧
      Hw.Only [POS_Sn_POS_LO n, POS_Sn_POS_LO n + 4, POS_Sn_STAT n, POS_Sn_SPD n] h
        (h.serialTake n rx ⟨false, false, false⟩) := by
  rw [Hw.serialTake_eq, Hw.framePos_plain hg]
  simp only [Bool.or_self, Bool.not_false, if_true]
  generalize serialSpeed _ _ _ _ = v
  generalize hw : (h.on (POS_Sn_CTL_PROTO n) && !rx.nW) = w
  have hlen : rx.data.toNat % 2 ^ h.rd (POS_Sn_CTL_LEN n) < 2 ^ 64 :=
    Nat.lt_of_le_of_lt (Nat.mod_le _ _) (Nat.lt_of_lt_of_le rx.data.isLt (by decide))
  generalize rx.data.toNat % 2 ^ h.rd (POS_Sn_CTL_LEN n) = raw at hlen ⊢
  obtain ⟨hp, hv, hf, hwarn, ho⟩ := (h.frameLogged n raw true).frameShown_shows n raw w
  have hs := ((h.frameLogged n raw true).frameShown n raw w).only_speedShown n v
  refine ⟨?_, ?_, ?_, ?_, ?_⟩
  · have hpair : ((((h.frameLogged n raw true).frameShown n raw w).speedShown n v).pair (POS_Sn_POS_LO n)) =
        ((h.frameLogged n raw true).frameShown n raw w).pair (POS_Sn_POS_LO n) := by
      rw [Hw.pair, hs.nat (by simp), hs.nat (by simp [poshi_ne_stat, poshi_ne_spd]), ← Hw.pair]
    rw [hpair, hp, Nat.mod_eq_of_lt hlen]
  · rw [Hw.on_speedShown _ _ _ _ (by decide), hv]
  · rw [Hw.rd_speedShown _ _ _ _ _ (by decide), hf]
  · rw [Hw.on_speedShown _ _ _ _ (by decide), hwarn]
  · exact ((h.only_frameLogged n raw true).mono (by simp)).trans ((ho.mono (by simp)).trans (hs.mono (by simp)))

/-- A CRC error counts. -/
theorem serialTake_crc_shows :
    (h.serialTake n rx ⟨true, false, false⟩).on (POS_Sn_STAT_VALID n) = false ∧
      (h.serialTake n rx ⟨true, false, false⟩).on (POS_Sn_STAT_CRCERR n) = true ∧
      (h.serialTake n rx ⟨true, false, false⟩).rd (POS_Sn_STAT_FAILCNT n) = min 7 (h.rd (POS_Sn_STAT_FAILCNT n) + 1) ∧
      (h.serialTake n rx ⟨true, false, false⟩).rd ⟨POS_Sn_ERRCNT n, 0, 16⟩ =
        min 65535 (h.rd ⟨POS_Sn_ERRCNT n, 0, 16⟩ + 1) ∧
      (h.rd (POS_Sn_STAT_FAILCNT n) = 2 → (h.serialTake n rx ⟨true, false, false⟩).on (POS_Sn_STAT_LOST n) = true) ∧
      Hw.Only [POS_Sn_STAT n, POS_Sn_ERRCNT n, POS_Sn_SPD n, BLK_IRQ PG_POS] h
        (h.serialTake n rx ⟨true, false, false⟩) := by
  rw [Hw.serialTake_eq]
  simp only [Bool.or_false, Bool.not_true, Bool.false_eq_true, if_false]
  generalize serialSpeed _ _ _ _ = v
  generalize h.framePos n rx = raw
  obtain ⟨hv, hc, hf, he, hl, ho⟩ := (h.frameLogged n raw false).frameFailed_crc_shows n
  rw [Hw.rd_frameLogged] at hf he hl
  have hs := ((h.frameLogged n raw false).frameFailed n ⟨true, false, false⟩).only_speedShown n v
  refine ⟨?_, ?_, ?_, ?_, fun h2 => ?_, ?_⟩
  · rw [Hw.on_speedShown _ _ _ _ (by decide), hv]
  · rw [Hw.on_speedShown _ _ _ _ (by decide), hc]
  · rw [Hw.rd_speedShown _ _ _ _ _ (by decide), hf]
  · rw [hs.rd (by simp), he]
  · rw [Hw.on_speedShown _ _ _ _ (by decide), hl h2]
  · exact ((h.only_frameLogged n raw false).mono (by simp)).trans (ho.trans (hs.mono (by simp)))

end Frames

/-! ## Negotiation (R132) -/

/-- With no frame sent before, the rates are judged by the line alone: the first that fits and passes. -/
theorem tryRates_nil (fits : Nat → Bool) (passes : Nat) (rs : List Nat) :
    tryRates fits passes rs [] = rs.find? fun r => fits r && bit passes r := by
  induction rs with
  | nil => rfl
  | cons r rs ih =>
    rw [tryRates]
    by_cases hf : fits r = true
    · by_cases hb : bit passes r = true <;> simp [hf, hb, tryRate, ih]
    · simp [hf, ih]

/-- A rate of a negotiation fits the frame. -/
def Hw.rateAdmits (h : Hw) (n ldly r : Nat) : Bool :=
  decide (h.rd (POS_Sn_CTL_CLKSEL n) ≤ r) &&
    decide (ldly * 5 + 2 * (4 + h.rd (POS_Sn_CTL_LEN n) + h.rd (POS_Sn_CRC_WIDTH n)) * bitTime r ≤
      20 * h.rd (POS_Sn_FRM_FRMMAX n))

/-- What a negotiation finds. -/
def Hw.rateFound (h : Hw) (n passes ldly : Nat) : Option Nat :=
  if 800 < ldly then none else (List.range 8).find? fun r => h.rateAdmits n ldly r && bit passes r

/-- And what it shows. -/
def Hw.rateShown (h : Hw) (n ldly : Nat) : Option Nat → Hw
  | some r => ((h.setNat (POS_Sn_LDLY n) ldly).wr (POS_Sn_STAT_NEGDONE n) 1).wr (POS_Sn_STAT_RATE n) r
  | none => (h.setNat (POS_Sn_LDLY n) ldly).wr (POS_Sn_STAT_NEGFAIL n) 1

/-- How a negotiation ends in a channel that waits for it and has sent no more than the frames that measure the line. -/
theorem negotiated_eq {n ldly : Nat} {h : Hw} (passes : Nat) (hl : h.sLive n = true) (hm : h.motionHeld = false)
    (hn : h.negotiates n = true) (ht : (h.s n).tried.length ≤ 8) (hd : h.on (POS_Sn_STAT_NEGDONE n) = false)
    (hf : h.on (POS_Sn_STAT_NEGFAIL n) = false) :
    negotiated n passes ldly h = h.rateShown n ldly (h.rateFound n passes ldly) := by
  have htry : (if 800 < ldly then none else tryRates (h.rateAdmits n ldly) passes (List.range 8) ((h.s n).tried.drop 8)) =
      h.rateFound n passes ldly := by
    rw [List.drop_eq_nil_of_le ht, tryRates_nil]
    rfl
  unfold negotiated
  rw [if_neg (by simp [hl, hm, hn, hd, hf])]
  dsimp only
  unfold Hw.rateAdmits at htry
  rw [htry]
  cases h.rateFound n passes ldly <;> rfl

theorem Hw.rateShown_shows (h : Hw) (n ldly : Nat) (v : Option Nat) :
    ((h.rateShown n ldly v).reg (POS_Sn_LDLY n)).toNat = ldly % 2 ^ 32 ∧
      Hw.Only [POS_Sn_LDLY n, POS_Sn_STAT n] h (h.rateShown n ldly v) := by
  have hset : ((h.setNat (POS_Sn_LDLY n) ldly).reg (POS_Sn_LDLY n)).toNat = ldly % 2 ^ 32 := h.nat_setNat_same _ _
  cases v with
  | none => exact ⟨by rw [Hw.rateShown, Hw.reg_wr_ne _ _ _ (by simp), hset], by simp [Hw.rateShown]⟩
  | some r =>
    exact ⟨by rw [Hw.rateShown, Hw.reg_wr_ne _ _ _ (by simp), Hw.reg_wr_ne _ _ _ (by simp), hset], by simp [Hw.rateShown]⟩

theorem Hw.rateShown_none (h : Hw) (n ldly : Nat) : (h.rateShown n ldly none).on (POS_Sn_STAT_NEGFAIL n) = true :=
  Hw.on_wr_same _ (POS_Sn_STAT_NEGFAIL n) true (by simp) rfl

theorem Hw.rateShown_some (h : Hw) (n ldly : Nat) {r : Nat} (hr : r < 8) :
    (h.rateShown n ldly (some r)).on (POS_Sn_STAT_NEGDONE n) = true ∧
      (h.rateShown n ldly (some r)).rd (POS_Sn_STAT_RATE n) = r := by
  refine ⟨?_, ?_⟩
  · rw [Hw.rateShown, Hw.on_wr_other _ _ _ _ (by simp)]
    exact Hw.on_wr_same _ (POS_Sn_STAT_NEGDONE n) true (by simp) rfl
  · rw [Hw.rateShown, Hw.rd_wr_same _ _ _ (by simp)]
    exact Nat.mod_eq_of_lt hr

/-- The rates that pass at a line are those of the statement. -/
theorem rateFits_iff (s : State) (n : Nat) (passes : BitVec 8) (ldly r : Nat) :
    (s.dev.hw.rateAdmits n ldly r && bit passes.toNat r) = true ↔ rateFits s n passes ldly r := by
  simp only [Hw.rateAdmits, Bool.and_eq_true, decide_eq_true_eq, rateFits]
  exact ⟨fun ⟨⟨h1, h2⟩, h3⟩ => ⟨h1, h3, h2⟩, fun ⟨h1, h3, h2⟩ => ⟨⟨h1, h2⟩, h3⟩⟩

theorem rateFound_none {s : State} {n ldly : Nat} {passes : BitVec 8}
    (h : 800 < ldly ∨ ∀ r : Fin 8, ¬rateFits s n passes ldly r.val) :
    s.dev.hw.rateFound n passes.toNat ldly = none := by
  unfold Hw.rateFound
  rcases h with h | h
  · rw [if_pos h]
  · split
    · rfl
    · rw [List.find?_eq_none]
      intro r hr hp
      exact h ⟨r, List.mem_range.mp hr⟩ ((rateFits_iff _ _ _ _ _).mp hp)

theorem rateFound_first {s : State} {n ldly : Nat} {passes : BitVec 8} {r : Fin 8} (hl : ldly ≤ 800)
    (hr : rateFits s n passes ldly r.val) (hq : ∀ q : Fin 8, q < r → ¬rateFits s n passes ldly q.val) :
    s.dev.hw.rateFound n passes.toNat ldly = some r.val := by
  unfold Hw.rateFound
  rw [if_neg (by omega), List.find?_range_eq_some]
  refine ⟨(rateFits_iff _ _ _ _ _).mpr hr, List.mem_range.mpr r.isLt, fun q hlt => ?_⟩
  rw [Bool.not_eq_true', ← Bool.not_eq_true, rateFits_iff]
  exact hq ⟨q, hlt.trans r.isLt⟩ hlt

/-! ## LOST and frozen sources (R133, R142) -/

/-- The W1C clears of the error flags. -/
def Hw.errorsCleared (h : Hw) (n : Nat) (w : Word) : Hw :=
  ((h.cond (getBits w 16 1 = 1) (·.wr (POS_Sn_STAT_CRCERR n) 0)).cond (getBits w 17 1 = 1)
    (·.wr (POS_Sn_STAT_TOUTERR n) 0)).cond (getBits w 18 1 = 1) (·.wr (POS_Sn_STAT_NERR n) 0)

theorem Hw.on_cond {c : Bool} {f : Hw → Hw} {h : Hw} {g : Field} (hf : (f h).on g = h.on g) :
    (h.cond c f).on g = h.on g := by
  cases c
  · rfl
  · exact hf

theorem Hw.errorsCleared_lost (h : Hw) (n : Nat) (w : Word) :
    (h.errorsCleared n w).on (POS_Sn_STAT_LOST n) = h.on (POS_Sn_STAT_LOST n) := by
  unfold Hw.errorsCleared
  rw [Hw.on_cond (Hw.on_wr_other _ _ _ _ (by simp)), Hw.on_cond (Hw.on_wr_other _ _ _ _ (by simp)),
    Hw.on_cond (Hw.on_wr_other _ _ _ _ (by simp))]

theorem Hw.only_errorsCleared (h : Hw) (n : Nat) (w : Word) : Hw.Only [POS_Sn_STAT n] h (h.errorsCleared n w) := by
  unfold Hw.errorsCleared
  simp

/-- A W1C write of the status: LOST clears only once the last 16 frames were good. -/
def Hw.flagsCleared (h : Hw) (n : Nat) (w : Word) : Hw :=
  (h.errorsCleared n w).cond
    (getBits w 1 1 = 1 && (decide (16 ≤ (h.s n).frames.length) && (h.s n).frames.all (·.2))) (·.wr (POS_Sn_STAT_LOST n) 0)

theorem serialClear_eq (who : Who) (n : Nat) (w : Word) (h : Hw) :
    serialClear who n w h = h.opWrite who PG_POS (·.flagsCleared n w) := rfl

theorem Hw.flagsCleared_shows {h : Hw} {n : Nat} {w : Word} (hw : w.getLsbD 1 = true) :
    (16 ≤ (h.s n).frames.length → (h.s n).frames.all (·.2) = true →
      (h.flagsCleared n w).on (POS_Sn_STAT_LOST n) = false) ∧
    ((h.s n).frames.all (·.2) = false →
      (h.flagsCleared n w).on (POS_Sn_STAT_LOST n) = h.on (POS_Sn_STAT_LOST n)) ∧
    Hw.Only [POS_Sn_STAT n] h (h.flagsCleared n w) := by
  have hb : decide (getBits w 1 1 = 1) = true := by rw [getBits_one_eq_getLsbD, hw]
  refine ⟨fun h16 hall => ?_, fun hall => ?_, Hw.only_cond (h.only_errorsCleared n w) fun _ => by simp⟩
  · rw [Hw.flagsCleared, hb, hall, decide_eq_true h16, Hw.cond, if_pos (by decide)]
    exact Hw.on_wr_same _ (POS_Sn_STAT_LOST n) false (by simp) rfl
  · rw [Hw.flagsCleared, hall, Bool.and_false, Bool.and_false, Hw.cond, if_neg (by decide)]
    exact Hw.errorsCleared_lost _ _ _

theorem freezeSource_shows {c : Nat} {h : Hw} (hd : h.frozenDue c = true) :
    bit (freezeSource c h).pos.frozen c = true ∧
      (c < 6 → (freezeSource c h).on (POS_Qn_STAT_FROZEN c) = true) ∧
      (8 ≤ c ∧ c < 12 → (freezeSource c h).on (POS_Sn_STAT_FROZEN (c - 8)) = true) ∧
      Hw.Only [POS_Qn_STAT c, POS_Sn_STAT (c - 8)] h (freezeSource c h) := by
  unfold freezeSource
  rw [if_neg (by simp [hd])]
  dsimp only
  by_cases h6 : c < 6
  · rw [if_pos h6]
    exact ⟨by simp [bit_setBitN_same], fun _ => Hw.on_wr_same _ (POS_Qn_STAT_FROZEN c) true (by simp) rfl,
      fun h8 => by omega, by simp⟩
  · rw [if_neg h6]
    by_cases h8 : 8 ≤ c ∧ c < 12
    · rw [if_pos h8]
      exact ⟨by simp [bit_setBitN_same], fun h => absurd h h6,
        fun _ => Hw.on_wr_same _ (POS_Sn_STAT_FROZEN (c - 8)) true (by simp) rfl, by simp⟩
    · rw [if_neg h8]
      exact ⟨by simp [bit_setBitN_same], fun h => absurd h h6, fun h => absurd h h8, by simp⟩

/-- Settles O17. -/
theorem serialChannels : Obligations.SerialChannels := by
  refine ⟨fun ch rx s ha hl hm hn hp hx hg => ends_of_alive rfl ha ?_,
    fun ch rx s ha hl hm hn hp hx => ends_of_alive rfl ha ?_,
    fun ch rx s hn hd => ends_of_doHw rfl ?_,
    fun ch passes ldly s ha hl hn hm ht hd hf => ends_of_alive rfl ha ?_,
    fun who ch w s hm hw => ends_of_opWrite (f := (·.flagsCleared ch.val w)) rfl hm ?_,
    fun src s ha hd => ends_of_alive rfl ha ?_⟩
  · obtain ⟨h1, h2, h3, h4, h5⟩ := serialTake_good_shows (n := ch.val) (rx := rx) (h := s.dev.hw) hg
    rw [Dev.via, serialEnd_takes rx hl hm hn hp, hx]
    exact ⟨h1, h2, h3, h4, onlyRegs_of_only h5 rfl⟩
  · obtain ⟨h1, h2, h3, h4, h5, h6⟩ := serialTake_crc_shows (n := ch.val) (rx := rx) (h := s.dev.hw)
    rw [Dev.via, serialEnd_takes rx hl hm hn hp, hx]
    exact ⟨h1, h2, h3, h4, h5, onlyRegs_of_only h6 rfl⟩
  · obtain ⟨hfr, honly⟩ := whenAlive_negotiating rx hn hd
    exact ⟨hfr, onlyRegs_of_only honly rfl⟩
  · rw [Dev.via, negotiated_eq passes.toNat hl hm hn ht hd hf]
    obtain ⟨hld, honly⟩ := s.dev.hw.rateShown_shows ch.val ldly (s.dev.hw.rateFound ch.val passes.toNat ldly)
    refine ⟨hld, fun h => ?_, fun r h8 hr hq => ?_, onlyRegs_of_only honly rfl⟩
    · rw [rateFound_none h]
      exact Hw.rateShown_none _ _ _
    · rw [rateFound_first h8 hr hq]
      exact Hw.rateShown_some _ _ _ r.isLt
  · obtain ⟨h1, h2, h3⟩ := Hw.flagsCleared_shows (h := s.dev.hw.ack) (n := ch.val) hw
    exact ⟨h1, h2, onlyRegs_of_only h3 rfl⟩
  · obtain ⟨h1, h2, h3, h4⟩ := freezeSource_shows hd
    refine ⟨h1, fun n hn he => he ▸ h2 (he ▸ hn), fun n hn he => ?_, onlyRegs_of_only h4 rfl⟩
    have h8 := h3 (by omega)
    rwa [show src.val - 8 = n by omega] at h8

end Sys2Proof.Machine
end

section
/-! The fault manager: which registers and which blocks the arrival of a fault can touch, and how a fault that finds the
manager idle becomes current (R339, R341, R342). -/

namespace Sys2Proof.Machine

/-! ## Records, outputs and the deadbolt -/

/-- What a record of the Ward changes in REC. -/
def recRegs : List Nat := [BLK_IRQ PG_REC, BLK_FAULT PG_REC, BLK_STAT PG_REC, REC_STAT, REC_SEQ, REC_LOST]

@[simp] theorem Hw.only_recWard {l : List Nat} {h h' : Hw} (typ : Nat) (prot : Bool) (data : List Nat)
    (hl : ∀ a ∈ recRegs, a ∈ l) : Hw.Only l h (h'.recWard typ prot data) ↔ Hw.Only l h h' := by
  refine Hw.Only.comp_iff (Hw.Only.mono (l := recRegs) ?_ hl)
  unfold Hw.recWard Hw.recArrive
  refine Hw.only_ite ?_ (Hw.only_ite ?_ (Hw.only_ite ?_ ?_))
  · unfold Hw.recRunOut
    refine Hw.only_ite (Hw.Only.refl _ _) ?_
    simp (disch := decide) [Hw.recDegrade]
  · simp [Hw.toAon, recRegs]
  · simp (disch := decide)
  · simp [Hw.recPush, recRegs]

/-- What a change of the safe outputs changes. -/
def outRegs : List Nat := SIS_OUT_STAT :: setRegs

@[simp] theorem Hw.only_setOuts {l : List Nat} {h h' : Hw} (o : Nat) (hl : ∀ a ∈ outRegs, a ∈ l) :
    Hw.Only l h (h'.setOuts o) ↔ Hw.Only l h h' := by
  refine Hw.Only.comp_iff (Hw.Only.mono (l := outRegs) ?_ hl)
  simp (disch := decide) [Hw.setOuts]

/-- What a drop of outputs for a cause changes. -/
def dropRegs : List Nat := outRegs ++ brakeRegs

@[simp] theorem Hw.only_dropCause {l : List Nat} {h h' : Hw} (m : Nat) (hl : ∀ a ∈ dropRegs, a ∈ l) :
    Hw.Only l h (h'.dropCause m) ↔ Hw.Only l h h' := by
  refine Hw.Only.comp_iff (Hw.Only.mono (l := dropRegs) ?_ hl)
  simp +contextual [Hw.dropCause, Hw.outsOff, dropRegs]

/-- What the latch of the deadbolt changes. -/
def boltRegs : List Nat := [SIS_DB_STAT, REC_DBW] ++ recRegs

@[simp] theorem Hw.only_latchBolt {l : List Nat} {h h' : Hw} (c : Nat) (hl : ∀ a ∈ boltRegs, a ∈ l) :
    Hw.Only l h (h'.latchBolt c) ↔ Hw.Only l h h' := by
  refine Hw.Only.comp_iff (Hw.Only.mono (l := boltRegs) ?_ hl)
  unfold Hw.latchBolt
  refine Hw.only_ite (Hw.Only.refl _ _) ?_
  simp (disch := decide)

/-- What the actions of a class change. -/
def classRegs : List Nat := [BLK_IRQ PG_SIS, PRF_WCAP] ++ dropRegs ++ boltRegs

@[simp] theorem Hw.only_trigStop {l : List Nat} {h h' : Hw} (c : StopCause) :
    Hw.Only l h (h'.trigStop c) ↔ Hw.Only l h h' := Iff.rfl

@[simp] theorem Hw.only_classActions {l : List Nat} {h h' : Hw} (e : FaultEntry) (hl : ∀ a ∈ classRegs, a ∈ l) :
    Hw.Only l h (h'.classActions e) ↔ Hw.Only l h h' := by
  refine Hw.Only.comp_iff (Hw.Only.mono (l := classRegs) ?_ hl)
  simp +contextual [Hw.classActions, classRegs]

@[simp] theorem Hw.only_makeCurrent {l : List Nat} {h h' : Hw} (e : FaultEntry) (hl : ∀ a ∈ faultRegs, a ∈ l) :
    Hw.Only l h (h'.makeCurrent e) ↔ Hw.Only l h h' :=
  Hw.Only.comp_iff fun _ ha => Hw.makeCurrent_reg _ _ fun hm => ha (hl _ hm)

@[simp] theorem Hw.only_settle {l : List Nat} {h h' : Hw} (hl : ∀ a ∈ faultRegs, a ∈ l) :
    Hw.Only l h h'.settle ↔ Hw.Only l h h' :=
  Hw.Only.comp_iff fun _ ha => Hw.settle_reg _ fun hm => ha (hl _ hm)

@[simp] theorem Hw.only_raise {l : List Nat} {h h' : Hw} {p : Nat} (b : Nat) (hf : BLK_FAULT p ∈ l) (hi : BLK_IRQ p ∈ l) :
    Hw.Only l h (h'.raise p b) ↔ Hw.Only l h h' := by
  refine Hw.Only.comp_iff ?_
  unfold Hw.raise
  refine Hw.only_ite (Hw.Only.refl _ _) ?_
  have hb : Hw.Only l h' (h'.blockFault p b) := by simp [hf, hi]
  dsimp only
  split
  · exact hb
  · exact hb

/-! ## Causes that stand stay -/

/-- No cause bit that stands is taken off. -/
def Hw.KeepsCauses (h h' : Hw) : Prop :=
  ∀ p b, p < 64 → b < 32 → h.bitAt (BLK_FAULT p) b = true → h'.bitAt (BLK_FAULT p) b = true

theorem Hw.KeepsCauses.refl (h : Hw) : Hw.KeepsCauses h h := fun _ _ _ _ hb => hb

theorem Hw.KeepsCauses.trans {h h' h'' : Hw} (h1 : Hw.KeepsCauses h h') (h2 : Hw.KeepsCauses h' h'') :
    Hw.KeepsCauses h h'' := fun p b hp hb he => h2 p b hp hb (h1 p b hp hb he)

/-- An operation that writes no cause register. -/
theorem Hw.KeepsCauses.of_only {l : List Nat} {h h' : Hw} (ho : Hw.Only l h h') (hl : ∀ p < 64, BLK_FAULT p ∉ l) :
    Hw.KeepsCauses h h' := fun p b hp _ he => by rw [ho.bitAt (hl p hp)]; exact he

theorem Hw.KeepsCauses.ite {c : Prop} [Decidable c] {h g g' : Hw} (h1 : Hw.KeepsCauses h g) (h2 : Hw.KeepsCauses h g') :
    Hw.KeepsCauses h (if c then g else g') := by
  split
  · exact h1
  · exact h2

theorem Hw.KeepsCauses.cond {c : Bool} {f : Hw → Hw} {h h' : Hw} (h1 : Hw.KeepsCauses h h')
    (hf : Hw.KeepsCauses h' (f h')) : Hw.KeepsCauses h (h'.cond c f) := by
  unfold Hw.cond
  split
  · exact h1.trans hf
  · exact h1

theorem Hw.bitAt_setBitAt_true (h : Hw) {a c j : Nat} (i : Nat) (hj : j < 32) (hc : h.bitAt c j = true) :
    (h.setBitAt a i true).bitAt c j = true := by
  by_cases he : c = a ∧ j = i
  · obtain ⟨rfl, rfl⟩ := he
    exact h.bitAt_setBitAt_same _ _ _ hj
  · rw [Hw.bitAt_setBitAt_ne _ _ hj (by omega), hc]

theorem blkFault_ne_blkIrq (p q : Nat) : BLK_FAULT p ≠ BLK_IRQ q := by
  simp only [BLK_FAULT, BLK_IRQ, pageBase]
  omega

theorem Hw.keepsCauses_blockFault (h : Hw) (p b : Nat) : Hw.KeepsCauses h (h.blockFault p b) := by
  intro q c _ hc he
  unfold Hw.blockFault
  rw [Hw.bitAt, Hw.reg_wr_ne _ _ _ (blkFault_ne_blkIrq _ _)]
  exact h.bitAt_setBitAt_true b hc he

theorem Hw.keepsCauses_recWard (h : Hw) (typ : Nat) (prot : Bool) (data : List Nat) :
    Hw.KeepsCauses h (h.recWard typ prot data) := by
  unfold Hw.recWard Hw.recArrive
  refine .ite ?_ (.ite ?_ (.ite ?_ ?_))
  · refine .of_only (l := [REC_STAT, BLK_IRQ PG_REC]) ?_ (by decide)
    unfold Hw.recRunOut
    exact Hw.only_ite (Hw.Only.refl _ _) (by simp [Hw.recDegrade])
  · exact .of_only (l := [REC_SEQ, REC_STAT, REC_LOST]) (by simp [Hw.toAon]) (by decide)
  · exact (Hw.KeepsCauses.of_only (l := [REC_LOST]) (by simp) (by decide)).trans (Hw.keepsCauses_blockFault _ _ _)
  · exact .of_only (l := [REC_SEQ, REC_STAT, BLK_IRQ PG_REC, BLK_STAT PG_REC]) (by simp [Hw.recPush]) (by decide)

theorem Hw.keepsCauses_latchBolt (h : Hw) (c : Nat) : Hw.KeepsCauses h (h.latchBolt c) := by
  unfold Hw.latchBolt
  refine .ite (.refl _) ?_
  exact (Hw.KeepsCauses.of_only (l := [SIS_DB_STAT, REC_DBW]) (by simp) (by decide)).trans
    (Hw.keepsCauses_recWard _ _ _ _)

theorem Hw.keepsCauses_dropCause (h : Hw) (m : Nat) : Hw.KeepsCauses h (h.dropCause m) :=
  .of_only (l := dropRegs) (by simp) (by decide)

theorem Hw.keepsCauses_classActions (h : Hw) (e : FaultEntry) : Hw.KeepsCauses h (h.classActions e) := by
  unfold Hw.classActions
  refine .cond (.cond (.cond (.cond (.cond (.refl _) ?_) ?_) ?_) (Hw.keepsCauses_dropCause _ _)) ?_
  · exact .of_only (l := [BLK_IRQ PG_SIS]) (by simp) (by decide)
  · exact .of_only (l := [PRF_WCAP]) (by simp) (by decide)
  · exact .of_only (l := []) (by simp) (by decide)
  · exact (Hw.keepsCauses_dropCause _ _).trans (Hw.keepsCauses_latchBolt _ _)

/-- The registers that show the current fault. -/
def curRegs : List Nat := [SIS_FM_CUR_W0, SIS_FM_CUR_W1, SIS_FM_STAT]

/-- The fault that is current, before the actions of its class. -/
def Hw.currentShown (h : Hw) (e : FaultEntry) : Hw :=
  (((((((h.wr SIS_FM_CUR_W0_VALID 1).wr SIS_FM_CUR_W0_CLASS e.cls).wr SIS_FM_CUR_W0_SRC e.src).wr
    SIS_FM_CUR_W0_CAUSE e.cause).setNat SIS_FM_CUR_W1 e.t0).wr SIS_FM_STAT_BUSY 1).wr SIS_FM_STAT_CURCLASS e.cls).wr
    SIS_FM_STAT_LEVEL h.sis.queue.length

theorem Hw.makeCurrent_eq (h : Hw) (e : FaultEntry) : h.makeCurrent e = (h.currentShown e).classActions e := rfl

theorem Hw.only_currentShown (h : Hw) (e : FaultEntry) : Hw.Only curRegs h (h.currentShown e) := by
  simp (disch := decide) [Hw.currentShown]

theorem Hw.keepsCauses_makeCurrent (h : Hw) (e : FaultEntry) : Hw.KeepsCauses h (h.makeCurrent e) :=
  (Hw.KeepsCauses.of_only (h.only_currentShown e) (by decide)).trans (Hw.keepsCauses_classActions _ e)

theorem Hw.keepsCauses_queueOverflow (h : Hw) : Hw.KeepsCauses h h.queueOverflow := by
  unfold Hw.queueOverflow
  exact ((Hw.keepsCauses_blockFault _ PG_SIS 10).trans (.of_only (l := [SIS_FM_STAT]) (by simp) (by decide))).trans
    (Hw.keepsCauses_recWard _ _ _ _)

theorem Hw.keepsCauses_enterFault (h : Hw) (e : FaultEntry) : Hw.KeepsCauses h (Hw.enterFault e h) := by
  have hrec := h.keepsCauses_recWard 0x0011 (decide (3 ≤ e.cls)) [entryWord e, e.t0]
  unfold Hw.enterFault
  dsimp only
  split
  · exact hrec.trans (Hw.keepsCauses_makeCurrent _ e)
  · refine .ite ?_ (.ite (hrec.trans (Hw.keepsCauses_queueOverflow _)) ?_)
    · exact (Hw.KeepsCauses.cond (hrec.trans (.of_only (l := []) (by simp) (by decide)))
        (Hw.keepsCauses_queueOverflow _)).trans (Hw.keepsCauses_makeCurrent _ e)
    · exact hrec.trans (.of_only (l := [SIS_FM_STAT]) (by simp) (by decide))

theorem Hw.keepsCauses_each {α : Type} {l : List α} {f : α → Hw → Hw} (hf : ∀ x g, Hw.KeepsCauses g (f x g)) (h : Hw) :
    Hw.KeepsCauses h (h.each l f) := by
  induction l generalizing h with
  | nil => exact .refl _
  | cons x l ih => exact (hf x h).trans (ih (f x h))

/-- The arrival of faults takes no cause off. -/
theorem Hw.keepsCauses_settle (h : Hw) : Hw.KeepsCauses h h.settle := by
  unfold Hw.settle
  split
  · exact .refl _
  · exact (Hw.KeepsCauses.of_only (l := []) (by simp) (by decide)).trans
      (Hw.keepsCauses_each (fun e g => g.keepsCauses_enterFault e) _)

/-! ## What the arrival of faults leaves of the blocks -/

/-- The blocks that the fault manager does not reach into. -/
def Hw.Beside (h h' : Hw) : Prop :=
  h'.pos = h.pos ∧ h'.dor = h.dor ∧ h'.rdn = h.rdn ∧ h'.env = h.env ∧ h'.cpr = h.cpr

namespace Hw.Beside
variable {h h' h'' : Hw}

theorem refl (h : Hw) : Hw.Beside h h := ⟨rfl, rfl, rfl, rfl, rfl⟩

theorem trans (h1 : Hw.Beside h h') (h2 : Hw.Beside h' h'') : Hw.Beside h h'' := by
  obtain ⟨a1, a2, a3, a4, a5⟩ := h1
  obtain ⟨b1, b2, b3, b4, b5⟩ := h2
  exact ⟨b1.trans a1, b2.trans a2, b3.trans a3, b4.trans a4, b5.trans a5⟩

theorem ite {c : Prop} [Decidable c] {g g' : Hw} (h1 : Hw.Beside h g) (h2 : Hw.Beside h g') :
    Hw.Beside h (if c then g else g') := by
  split
  · exact h1
  · exact h2

theorem cond {c : Bool} {f : Hw → Hw} (h1 : Hw.Beside h h') (hf : Hw.Beside h' (f h')) : Hw.Beside h (h'.cond c f) := by
  unfold Hw.cond
  split
  · exact h1.trans hf
  · exact h1

theorem each {α : Type} {l : List α} {f : α → Hw → Hw} (hf : ∀ x g, Hw.Beside g (f x g)) (h : Hw) :
    Hw.Beside h (h.each l f) := by
  induction l generalizing h with
  | nil => exact refl _
  | cons x l ih => exact (hf x h).trans (ih (f x h))

end Hw.Beside

theorem Hw.beside_sis (h : Hw) (x : SisState) : Hw.Beside h { h with sis := x } := ⟨rfl, rfl, rfl, rfl, rfl⟩

/-- A record leaves the Ward itself too. -/
theorem Hw.recWard_beside (h : Hw) (typ : Nat) (prot : Bool) (data : List Nat) :
    Hw.Beside h (h.recWard typ prot data) ∧ (h.recWard typ prot data).sis = h.sis := by
  have hite {c : Prop} [Decidable c] {g g' : Hw} (h1 : Hw.Beside h g ∧ g.sis = h.sis)
      (h2 : Hw.Beside h g' ∧ g'.sis = h.sis) : Hw.Beside h (if c then g else g') ∧ (if c then g else g').sis = h.sis := by
    split
    · exact h1
    · exact h2
  have hcond {c : Bool} {f : Hw → Hw} {g : Hw} (h1 : Hw.Beside h g ∧ g.sis = h.sis)
      (h2 : Hw.Beside g (f g) ∧ (f g).sis = g.sis) : Hw.Beside h (g.cond c f) ∧ (g.cond c f).sis = h.sis := by
    unfold Hw.cond
    split
    · exact ⟨h1.1.trans h2.1, h2.2.trans h1.2⟩
    · exact h1
  unfold Hw.recWard Hw.recArrive
  refine hite ?_ (hite ?_ (hite ?_ ?_))
  · unfold Hw.recRunOut
    refine hite ⟨.refl _, rfl⟩ ?_
    simp [Hw.Beside, Hw.recDegrade]
  · by_cases hb : 64 ≤ h.rcd.aon.length <;> simp [Hw.Beside, Hw.toAon, Hw.cond, hb]
  · simp [Hw.Beside]
  · by_cases hq : 15 ≤ h.rcd.queue.length <;> cases hp : h.cpr.parking <;>
      simp [Hw.Beside, Hw.recPush, Hw.cond, hq, hp]

theorem Hw.beside_refreshSets (h : Hw) : Hw.Beside h h.refreshSets := by
  unfold Hw.refreshSets
  exact .each (fun n g => by simp [Hw.Beside, Hw.refreshSet]) h

theorem Hw.beside_brakeForce (h : Hw) : Hw.Beside h h.brakeForce := by
  unfold Hw.brakeForce
  refine .ite ?_ (.refl _)
  by_cases hb : h.on PST_BT_STAT_BUSY = true <;> simp [Hw.Beside, Hw.btAbort, hb]

theorem Hw.beside_setOuts (h : Hw) (o : Nat) : Hw.Beside h (h.setOuts o) :=
  Hw.Beside.trans (by simp [Hw.Beside]) (Hw.beside_refreshSets _)

theorem Hw.beside_dropCause (h : Hw) (m : Nat) : Hw.Beside h (h.dropCause m) := by
  unfold Hw.dropCause Hw.outsOff
  exact .cond (Hw.Beside.trans (Hw.beside_sis _ _) (Hw.beside_setOuts _ _)) (Hw.beside_brakeForce _)

theorem Hw.beside_latchBolt (h : Hw) (c : Nat) : Hw.Beside h (h.latchBolt c) := by
  unfold Hw.latchBolt
  refine .ite (.refl _) ?_
  exact Hw.Beside.trans (by simp [Hw.Beside]) (Hw.recWard_beside _ _ _ _).1

theorem Hw.beside_classActions (h : Hw) (e : FaultEntry) : Hw.Beside h (h.classActions e) := by
  unfold Hw.classActions
  refine .cond (.cond (.cond (.cond (.cond (.refl _) ?_) ?_) ?_) (Hw.beside_dropCause _ _)) ?_
  · simp [Hw.Beside]
  · simp [Hw.Beside]
  · exact Hw.beside_sis _ _
  · exact ((Hw.beside_dropCause _ _).trans (Hw.beside_latchBolt _ _)).trans (Hw.beside_sis _ _)

theorem Hw.beside_makeCurrent (h : Hw) (e : FaultEntry) : Hw.Beside h (h.makeCurrent e) :=
  Hw.Beside.trans (by simp [Hw.Beside, Hw.currentShown]) ((h.currentShown e).beside_classActions e)

theorem Hw.beside_queueOverflow (h : Hw) : Hw.Beside h h.queueOverflow := by
  unfold Hw.queueOverflow
  refine Hw.Beside.trans ?_ (Hw.recWard_beside _ _ _ _).1
  simp [Hw.Beside, Hw.trigStop]

theorem Hw.beside_enterFault (h : Hw) (e : FaultEntry) : Hw.Beside h (Hw.enterFault e h) := by
  have hrec := (h.recWard_beside 0x0011 (decide (3 ≤ e.cls)) [entryWord e, e.t0]).1
  unfold Hw.enterFault
  dsimp only
  split
  · exact hrec.trans (Hw.beside_makeCurrent _ e)
  · refine .ite ?_ (.ite (hrec.trans (Hw.beside_queueOverflow _)) ?_)
    · exact (Hw.Beside.cond (hrec.trans (Hw.beside_sis _ _)) (Hw.beside_queueOverflow _)).trans
        (Hw.beside_makeCurrent _ e)
    · exact hrec.trans (by simp [Hw.Beside])

theorem Hw.beside_settle (h : Hw) : Hw.Beside h h.settle := by
  unfold Hw.settle
  split
  · exact .refl _
  · exact Hw.Beside.trans (Hw.beside_sis _ _) (.each (fun e g => g.beside_enterFault e) _)

/-! ## A fault becomes current -/

/-- The registers of the current fault are those that its actions leave. -/
theorem Hw.makeCurrent_shows (h : Hw) {e : FaultEntry} (hc : e.cls < 8) (hs : e.src < 64) (hb : e.cause < 32) :
    (h.makeCurrent e).on SIS_FM_CUR_W0_VALID = true ∧ (h.makeCurrent e).rd SIS_FM_CUR_W0_CLASS = e.cls ∧
      (h.makeCurrent e).rd SIS_FM_CUR_W0_SRC = e.src ∧ (h.makeCurrent e).rd SIS_FM_CUR_W0_CAUSE = e.cause ∧
      (h.makeCurrent e).on SIS_FM_STAT_BUSY = true ∧ (h.makeCurrent e).rd SIS_FM_STAT_CURCLASS = e.cls := by
  have ho : Hw.Only classRegs (h.currentShown e) (h.makeCurrent e) := by
    rw [Hw.makeCurrent_eq]
    simp
  refine ⟨?_, ?_, ?_, ?_, ?_, ?_⟩
  · rw [ho.on (by decide)]
    simp (disch := decide) only [Hw.currentShown, Hw.on, Hw.rd_wr_other, Hw.rd_setNat_ne, Hw.rd_wr_same]
    rfl
  · rw [ho.rd (by decide)]
    simp (disch := decide) only [Hw.currentShown, Hw.rd_wr_other, Hw.rd_setNat_ne, Hw.rd_wr_same]
    exact Nat.mod_eq_of_lt hc
  · rw [ho.rd (by decide)]
    simp (disch := decide) only [Hw.currentShown, Hw.rd_wr_other, Hw.rd_setNat_ne, Hw.rd_wr_same]
    exact Nat.mod_eq_of_lt hs
  · rw [ho.rd (by decide)]
    simp (disch := decide) only [Hw.currentShown, Hw.rd_wr_other, Hw.rd_setNat_ne, Hw.rd_wr_same]
    exact Nat.mod_eq_of_lt hb
  · rw [ho.on (by decide)]
    simp (disch := decide) only [Hw.currentShown, Hw.on, Hw.rd_wr_other, Hw.rd_wr_same]
    rfl
  · rw [ho.rd (by decide)]
    simp (disch := decide) only [Hw.currentShown, Hw.rd_wr_other, Hw.rd_wr_same]
    exact Nat.mod_eq_of_lt hc

theorem Hw.enterFault_of_none {h : Hw} {e : FaultEntry}
    (hn : (h.recWard 0x0011 (decide (3 ≤ e.cls)) [entryWord e, e.t0]).current = none) :
    Hw.enterFault e h = (h.recWard 0x0011 (decide (3 ≤ e.cls)) [entryWord e, e.t0]).makeCurrent e := by
  unfold Hw.enterFault
  dsimp only
  rw [hn]

theorem entryOrder_singleton (e : FaultEntry) : entryOrder [e] = [e] := by
  by_cases h3 : e.src = 0x3F <;> simp [entryOrder, insertEntry, h3]

/-- One fault alone enters. -/
theorem Hw.settle_of_arriving {h : Hw} {e : FaultEntry} (ha : h.sis.arriving = [e]) :
    h.settle = Hw.enterFault e { h with sis := { h.sis with arriving := [] } } := by
  unfold Hw.settle
  rw [ha]
  dsimp only
  rw [entryOrder_singleton]
  rfl

/-- With none current the one fault that arises becomes current, once it is recorded. -/
theorem Hw.settle_one {h : Hw} {e : FaultEntry} (ha : h.sis.arriving = [e]) (hn : h.on SIS_FM_CUR_W0_VALID = false) :
    ∃ g : Hw, h.settle = g.makeCurrent e ∧ Hw.Only recRegs h g ∧ Hw.KeepsCauses h g ∧
      g.sis = { h.sis with arriving := [] } ∧ g.env = h.env := by
  have hnone : ({ h with sis := { h.sis with arriving := [] } }.recWard 0x0011 (decide (3 ≤ e.cls)) [entryWord e, e.t0]).current =
      none := by
    have ho : Hw.Only recRegs h ({ h with sis := { h.sis with arriving := [] } }.recWard 0x0011 (decide (3 ≤ e.cls))
      [entryWord e, e.t0]) := by simp
    unfold Hw.current
    rw [ho.on (by decide), hn]
    rfl
  obtain ⟨hbes, hsis⟩ := { h with sis := { h.sis with arriving := [] } }.recWard_beside 0x0011 (decide (3 ≤ e.cls))
    [entryWord e, e.t0]
  obtain ⟨-, -, -, henv, -⟩ := hbes
  refine ⟨_, ?_, ?_, ?_, hsis, henv⟩
  · rw [Hw.settle_of_arriving ha]
    exact Hw.enterFault_of_none hnone
  · simp
  · exact (Hw.KeepsCauses.of_only (l := []) (by simp) (by decide)).trans (Hw.keepsCauses_recWard _ _ _ _)

end Sys2Proof.Machine
end

section
/-! The fault manager (R339, R341, R342): O39. -/

namespace Sys2Proof.Machine

/-! ## Outputs and the deadbolt -/

/-- Without a brake lag a drop takes off every ball it names. -/
theorem Hw.out_dropCause {h : Hw} (m : Nat) (hn : h.sis.lagNew = false) (hb : h.rd SIS_OUT_CFG_BRK_LAG = 0) :
    (h.dropCause m).rd SIS_OUT_STAT_OUT = (h.rd SIS_OUT_STAT_OUT &&& (0x3FF ^^^ m)) % 2 ^ 10 := by
  unfold Hw.dropCause Hw.outsOff
  rw [Hw.out_setOuts_cond]
  simp [hn, hb]

theorem and_and_compl_eq_zero {o m k : Nat} (hk : k &&& (0x3FF ^^^ m) = 0) :
    (o &&& (0x3FF ^^^ m)) % 2 ^ 10 &&& k = 0 := by
  refine Nat.eq_of_testBit_eq fun i => ?_
  have h := congrArg (Nat.testBit · i) hk
  simp only [Nat.testBit_and, Nat.zero_testBit, Nat.testBit_mod_two_pow] at h ⊢
  cases hx : k.testBit i
  · simp
  · rw [hx, Bool.true_and] at h
    simp [h]

theorem Hw.latchBolt_set (h : Hw) (c : Nat) : (h.latchBolt c).on SIS_DB_STAT_SET = true := by
  unfold Hw.latchBolt
  split
  · next hs => exact hs
  · rename_i hs
    dsimp only
    have ho (g : Hw) (typ : Nat) (data : List Nat) : Hw.Only recRegs g (g.recWard typ true data) := by simp
    rw [(ho _ _ _).on (by decide), Hw.on_upd]
    simp (disch := decide) only [Hw.on, Hw.rd_wr_other, Hw.rd_wr_same]
    rfl

/-- A deadbolt that was not latched shows its cause. -/
theorem Hw.latchBolt_cause {h : Hw} {c : Nat} (hs : h.on SIS_DB_STAT_SET = false) (hc : c < 256) :
    (h.latchBolt c).rd SIS_DB_STAT_CAUSE = c := by
  unfold Hw.latchBolt
  rw [if_neg (by simp [hs])]
  dsimp only
  have ho (g : Hw) (typ : Nat) (data : List Nat) : Hw.Only recRegs g (g.recWard typ true data) := by simp
  rw [(ho _ _ _).rd (by decide)]
  simp (disch := decide) only [Hw.rd_upd, Hw.rd_wr_other, Hw.rd_wr_same]
  exact Nat.mod_eq_of_lt hc

/-- A class 5 fault latches the deadbolt. -/
theorem Hw.makeCurrent_latches (h : Hw) {e : FaultEntry} (hc : e.cls = 5) : (h.makeCurrent e).on SIS_DB_STAT_SET = true := by
  rw [Hw.makeCurrent_eq]
  unfold Hw.classActions
  simp only [hc]
  exact Hw.latchBolt_set _ _

/-- Class 4 and class 5 drop STO and the brakes. -/
theorem Hw.makeCurrent_drops (h : Hw) {e : FaultEntry} (hc : e.cls = 4 ∨ e.cls = 5) (hn : h.sis.lagNew = false)
    (hb : h.rd SIS_OUT_CFG_BRK_LAG = 0) : (h.makeCurrent e).rd SIS_OUT_STAT_OUT &&& 0xF = 0 := by
  have hcur : Hw.Only curRegs h (h.currentShown e) := h.only_currentShown e
  have hsis : (h.currentShown e).sis = h.sis := by simp [Hw.currentShown]
  rw [Hw.makeCurrent_eq]
  rcases hc with hc | hc
  · have hact : (h.currentShown e).classActions e =
        (((h.currentShown e).irq PG_SIS 1).trigStop (stopCauseOf e)).dropCause (maskSTO ||| maskBRK) := by
      simp [Hw.classActions, Hw.cond, hc]
    rw [hact, Hw.out_dropCause]
    · exact and_and_compl_eq_zero (by decide)
    · simpa [Hw.trigStop, hsis] using hn
    · have ho : Hw.Only (BLK_IRQ PG_SIS :: curRegs) h (((h.currentShown e).irq PG_SIS 1).trigStop (stopCauseOf e)) := by
        simp only [Hw.only_trigStop]
        exact (hcur.mono (by simp +contextual)).trans (by simp)
      rw [ho.rd (by decide), hb]
  · have hact : (h.currentShown e).classActions e =
        let g := (((h.currentShown e).irq PG_SIS 1).dropCause ((h.currentShown e).irq PG_SIS 1).boltMask).latchBolt (boltCode e)
        { g with sis := { g.sis with boltTrig := true } } := by
      simp [Hw.classActions, Hw.cond, hc]
    have hbolt (g : Hw) (c : Nat) : Hw.Only boltRegs g (g.latchBolt c) := by simp
    rw [hact]
    dsimp only
    rw [Hw.rd_upd, (hbolt _ _).rd (by decide), Hw.out_dropCause]
    · refine and_and_compl_eq_zero ?_
      unfold Hw.boltMask
      split <;> decide
    · simpa [hsis] using hn
    · have ho : Hw.Only (BLK_IRQ PG_SIS :: curRegs) h ((h.currentShown e).irq PG_SIS 1) :=
        (hcur.mono (by simp +contextual)).trans (by simp)
      rw [ho.rd (by decide), hb]

/-! ## A fault that arises with none current -/

/-- A class of R341, if any. -/
def ClassOk (o : Option Nat) : Prop := ∀ c ∈ o, c < 6

theorem ClassOk.ite {p : Prop} [Decidable p] {o o' : Option Nat} (h1 : ClassOk o) (h2 : ClassOk o') :
    ClassOk (if p then o else o') := by
  split
  · exact h1
  · exact h2

theorem ite_lt_six {p : Prop} [Decidable p] {m n : Nat} (hm : m < 6) (hn : n < 6) : (if p then m else n) < 6 := by
  split
  · exact hm
  · exact hn

/-- Every class is one of R341. -/
theorem Hw.classOk_faultClass (h : Hw) (p b : Nat) : ClassOk (h.faultClass p b) := by
  unfold Hw.faultClass
  repeat' apply ClassOk.ite
  all_goals simp [ClassOk, ite_lt_six]

theorem Hw.faultClass_lt {h : Hw} {p b c : Nat} (hc : h.faultClass p b = some c) : c < 6 :=
  h.classOk_faultClass p b c hc

/-- No header register of causes or interrupts is at this offset of a page. -/
abbrev HeaderFree (a : Nat) : Prop := a % 0x10000 ≠ 0x10 ∧ a % 0x10000 ≠ 0x28

theorem HeaderFree.ne {a : Nat} (ha : HeaderFree a) (p : Nat) : a ≠ BLK_FAULT p ∧ a ≠ BLK_IRQ p := by
  obtain ⟨h1, h2⟩ := ha
  constructor <;> (rintro rfl; simp only [BLK_FAULT, BLK_IRQ, pageBase] at h1 h2; omega)

/-- The class of a cause does not depend on causes. -/
theorem Hw.faultClass_blockFault (h : Hw) (p b q c : Nat) : (h.blockFault p b).faultClass q c = h.faultClass q c := by
  have hrd (f : Field) (hf : HeaderFree f.addr) : (h.blockFault p b).rd f = h.rd f := by
    unfold Hw.rd
    rw [Hw.reg_blockFault_ne _ _ _ (hf.ne p).1 (hf.ne p).2]
  unfold Hw.faultClass Hw.on
  rw [hrd _ (by decide), hrd _ (by decide)]

/-- What a raise does with a cause that did not stand. -/
theorem Hw.raise_of_class {h : Hw} {p b c : Nat} (hb : h.bitAt (BLK_FAULT p) b = false) (hc : h.faultClass p b = some c) :
    h.raise p b = (h.blockFault p b).pushEntry c p b := by
  unfold Hw.raise
  rw [if_neg (by simp [hb])]
  dsimp only
  rw [Hw.faultClass_blockFault, hc]

/-- A fault that arises alone, with none current, becomes current: the state that its actions start from. -/
theorem Hw.raise_settles {h : Hw} {p b c : Nat} (ha : h.sis.arriving = []) (hn : h.on SIS_FM_CUR_W0_VALID = false)
    (hb : h.bitAt (BLK_FAULT p) b = false) (hc : h.faultClass p b = some c) :
    ∃ (g : Hw) (t0 : Nat), (h.raise p b).settle = g.makeCurrent ⟨c, p, b, t0⟩ ∧
      Hw.Only ([BLK_FAULT p, BLK_IRQ p] ++ recRegs) h g ∧ Hw.KeepsCauses (h.blockFault p b) g ∧
      g.sis.lagNew = h.sis.lagNew := by
  have hfree : HeaderFree SIS_FM_CUR_W0_VALID.addr := by decide
  have hone : ((h.blockFault p b).pushEntry c p b).sis.arriving = [⟨c, p, b, (h.blockFault p b).nat PST_TB_IDX⟩] := by
    simp [Hw.pushEntry, ha]
  have hval : ((h.blockFault p b).pushEntry c p b).on SIS_FM_CUR_W0_VALID = false := by
    have ho : Hw.Only [BLK_FAULT p, BLK_IRQ p] h ((h.blockFault p b).pushEntry c p b) := by simp [Hw.pushEntry]
    have hne := hfree.ne p
    rw [ho.on (by simpa using hne), hn]
  obtain ⟨g, hg, honly, hkeeps, hsis, -⟩ := Hw.settle_one hone hval
  refine ⟨g, (h.blockFault p b).nat PST_TB_IDX, ?_, ?_, ?_, ?_⟩
  · rw [Hw.raise_of_class hb hc, hg]
  · refine Hw.Only.trans ?_ (honly.mono fun a ha => List.mem_append_right _ ha)
    simp [Hw.pushEntry]
  · exact hkeeps
  · rw [hsis]
    simp [Hw.pushEntry]

/-- The cause stands after a raise. -/
theorem Hw.raise_sets (h : Hw) (p b : Nat) (hb : b < 32) : (h.raise p b).bitAt (BLK_FAULT p) b = true := by
  have hset := (h.blockFault_sets p b hb).1
  unfold Hw.raise
  split
  · next hs => exact hs
  · dsimp only
    split
    · exact hset
    · exact hset

/-- So it shows. -/
theorem Hw.raise_settles_shows {h : Hw} {p b c : Nat} (ha : h.sis.arriving = []) (hn : h.on SIS_FM_CUR_W0_VALID = false)
    (hb : h.bitAt (BLK_FAULT p) b = false) (hc : h.faultClass p b = some c) (hp : p < 64) (hb5 : b < 32) :
    (h.raise p b).settle.bitAt (BLK_FAULT p) b = true ∧
      (h.raise p b).settle.on SIS_FM_CUR_W0_VALID = true ∧ (h.raise p b).settle.rd SIS_FM_CUR_W0_CLASS = c ∧
      (h.raise p b).settle.rd SIS_FM_CUR_W0_SRC = p ∧ (h.raise p b).settle.rd SIS_FM_CUR_W0_CAUSE = b ∧
      (h.raise p b).settle.on SIS_FM_STAT_BUSY = true ∧ (h.raise p b).settle.rd SIS_FM_STAT_CURCLASS = c := by
  obtain ⟨g, t0, hg, -, hkeeps, -⟩ := Hw.raise_settles ha hn hb hc
  have hc6 := Hw.faultClass_lt hc
  have hbit : g.bitAt (BLK_FAULT p) b = true := hkeeps p b hp hb5 (Hw.blockFault_sets _ _ _ hb5).1
  rw [hg]
  exact ⟨g.keepsCauses_makeCurrent _ p b hp hb5 hbit, g.makeCurrent_shows (e := ⟨c, p, b, t0⟩) (hc6.trans (by decide)) hp hb5⟩

/-- The registers of a fault that arises. -/
theorem Hw.only_raise_settle (h : Hw) (p b : Nat) :
    Hw.Only ([BLK_FAULT p, BLK_IRQ p] ++ faultRegs) h (h.raise p b).settle := by
  rw [Hw.only_settle (by simp +contextual)]
  simp

/-! ## The clauses -/

/-- An event that can raise faults ends in the state it makes, once they have entered. -/
theorem ends_of_doHwF {c : Instr} {f : Hw → Hw} {s : State} {P : State → Prop} (hc : exec c s = doHwF f s)
    (hP : P { s with dev := { s.dev with hw := (f s.dev.begin.hw).settle } }) : Ends c s P := ⟨_, hc, rfl, hP⟩

/-- What an event of the blocks that can raise faults ends in. -/
theorem ends_of_aliveF {c : Instr} {f : Hw → Hw} {s : State} {P : State → Prop} (hc : exec c s = doHwF (whenAlive f) s)
    (ha : Alive s) (hP : P { s with dev := { s.dev with hw := (f s.dev.begin.hw).settle } }) : Ends c s P := by
  have hal : s.dev.begin.hw.alive = true := ha
  have hw : whenAlive f s.dev.begin.hw = f s.dev.begin.hw := by simp [whenAlive, hal]
  refine ends_of_doHwF hc ?_
  rwa [hw]

theorem faultArrival_new {p : Fin 41} {b : Fin 24} {cls : Nat} {s : State} (ha : Alive s) (hp : isPage p.val = true)
    (hab : s.dev.hw.absent p.val = false) (h8 : 8 ≤ b.val) (ht : b.val ≤ topFault p.val)
    (hb : s.dev.hw.bitAt (BLK_FAULT p.val) b.val = false) (hc : s.dev.hw.faultClass p.val b.val = some cls)
    (hn : NoFault s) : Ends (.faultArrival p b) s fun t =>
      t.dev.hw.bitAt (BLK_FAULT p.val) b.val = true ∧ FaultIs cls p.val b.val t ∧ t.on SIS_FM_STAT_BUSY = true ∧
      t.rd SIS_FM_STAT_CURCLASS = cls ∧ (cls = 5 → t.on SIS_DB_STAT_SET = true) ∧
      (4 ≤ cls → (s.rd SIS_OUT_CFG_BRK_LAG = 0 → t.rd SIS_OUT_STAT_OUT &&& 0xF = 0)) ∧
      OnlyRegsAndFaults [BLK_FAULT p.val, BLK_IRQ p.val] s t := by
  refine ends_of_aliveF rfl ha ?_
  have harr : faultArrives p.val b.val s.dev.begin.hw = s.dev.begin.hw.raise p.val b.val := by
    unfold faultArrives
    rw [if_pos]
    simp only [Bool.and_eq_true, decide_eq_true_eq, Bool.not_eq_true']
    exact ⟨⟨⟨hp, hab⟩, h8⟩, ht⟩
  have h0 : s.dev.begin.hw.sis.arriving = [] := rfl
  have hl0 : s.dev.begin.hw.sis.lagNew = false := rfl
  have hlag : s.dev.begin.hw.rd SIS_OUT_CFG_BRK_LAG = s.rd SIS_OUT_CFG_BRK_LAG := rfl
  have hn0 : s.dev.begin.hw.on SIS_FM_CUR_W0_VALID = false := hn
  have hb0 : s.dev.begin.hw.bitAt (BLK_FAULT p.val) b.val = false := hb
  have hc0 : s.dev.begin.hw.faultClass p.val b.val = some cls := hc
  have honly : Hw.Only ([BLK_FAULT p.val, BLK_IRQ p.val] ++ faultRegs) s.dev.hw (s.dev.begin.hw.raise p.val b.val).settle :=
    Hw.only_raise_settle s.dev.begin.hw p.val b.val
  rw [harr]
  generalize s.dev.begin.hw = h at *
  obtain ⟨h1, h2, h3, h4, h5, h6, h7⟩ := Hw.raise_settles_shows h0 hn0 hb0 hc0 (by omega) (by omega)
  obtain ⟨g, t0, hg, hog, -, hlg⟩ := Hw.raise_settles h0 hn0 hb0 hc0
  refine ⟨h1, ⟨h2, h3, h4, h5⟩, h6, h7, fun h5 => ?_, fun h4 hbl => ?_, onlyRegsAndFaults_of_only honly rfl⟩
  · show (h.raise p.val b.val).settle.on _ = true
    rw [hg]
    exact g.makeCurrent_latches h5
  · show (h.raise p.val b.val).settle.rd _ &&& _ = 0
    have hc6 := Hw.faultClass_lt hc0
    have hfree : HeaderFree SIS_OUT_CFG_BRK_LAG.addr := by decide
    have hne := hfree.ne p.val
    have hrec : SIS_OUT_CFG_BRK_LAG.addr ∉ recRegs := by decide
    rw [hg]
    refine g.makeCurrent_drops (by show cls = 4 ∨ cls = 5; omega) (by rw [hlg, hl0]) ?_
    rw [hog.rd (by simp [hne, hrec]), hlag, hbl]

/-- A write that can raise faults ends, for a requester that reaches its register, in the state it makes. -/
theorem ends_of_writeHwF {c : Instr} {who : Who} {a : Nat} {f : Hw → Hw} {s : State} {P : State → Prop}
    (hc : exec c s = doDevF (writeHw who a f) s) (hr : Reaches who a s)
    (hP : P { s with dev := { s.dev with hw := (f s.dev.begin.hw).settle } }) : Ends c s P := by
  refine ⟨_, hc, rfl, ?_⟩
  have hw : writeHw who a f s.dev.begin = s.dev.begin.via f :=
    byWriter_of_reaches (s := { s with dev := s.dev.begin }) hr _
  rw [hw]
  exact hP

theorem faultArrival_standing {p : Fin 41} {b : Fin 24} {s : State} (ha : Alive s)
    (hb : s.dev.hw.bitAt (BLK_FAULT p.val) b.val = true) : Ends (.faultArrival p b) s (OnlyRegs [] s) := by
  refine ends_of_aliveF rfl ha ?_
  have hraise : s.dev.begin.hw.raise p.val b.val = s.dev.begin.hw := by
    have hb0 : s.dev.begin.hw.bitAt (BLK_FAULT p.val) b.val = true := hb
    unfold Hw.raise
    rw [if_pos hb0]
  have harr : faultArrives p.val b.val s.dev.begin.hw = s.dev.begin.hw := by
    unfold faultArrives
    rw [hraise, ite_self]
  rw [harr, Hw.settle_none _ rfl]
  exact onlyRegs_of_only (fun _ _ => rfl) rfl

/-- What DONE clears. -/
def Hw.faultCleared (h : Hw) : Hw :=
  (((h.setReg SIS_FM_CUR_W0 0).setReg SIS_FM_CUR_W1 0).wr SIS_FM_STAT_BUSY 0).wr SIS_FM_STAT_CURCLASS 0

theorem Hw.sis_faultCleared (h : Hw) : h.faultCleared.sis = h.sis := by simp [Hw.faultCleared]

theorem Hw.only_faultCleared (h : Hw) : Hw.Only [SIS_FM_STAT, SIS_FM_CUR_W0, SIS_FM_CUR_W1] h h.faultCleared := by
  simp [Hw.faultCleared]

theorem Hw.faultCleared_shows (h : Hw) : h.faultCleared.on SIS_FM_CUR_W0_VALID = false ∧
    h.faultCleared.on SIS_FM_STAT_BUSY = false ∧ h.faultCleared.rd SIS_FM_STAT_CURCLASS = 0 := by
  refine ⟨?_, ?_, ?_⟩
  · have hz : (h.setReg SIS_FM_CUR_W0 0).rd SIS_FM_CUR_W0_VALID = 0 :=
      (Hw.rd_setReg_same h 0 SIS_FM_CUR_W0_VALID).trans (by decide)
    simp (disch := decide) only [Hw.faultCleared, Hw.on, Hw.rd_wr_other, Hw.rd_setReg_ne, hz]
    rfl
  · simp (disch := decide) only [Hw.faultCleared, Hw.on, Hw.rd_wr_other, Hw.rd_wr_same]
    rfl
  · simp (disch := decide) only [Hw.faultCleared, Hw.rd_wr_same]
    rfl

/-- DONE of agent 0 with nothing queued. -/
theorem faultFinish_idle {w : Word} {h : Hw} (hw : w.getLsbD 0 = true) (hq : h.sis.queue = []) :
    faultFinish (.agent 0) w h = h.ack.faultCleared := by
  have hb : getBits w 0 1 ≠ 0 := by
    have := getBits_one_eq_getLsbD w 0
    rw [hw, decide_eq_true_eq] at this
    omega
  unfold faultFinish Hw.agent0R
  rw [if_pos rfl]
  dsimp only
  rw [if_neg hb]
  have hq' : h.ack.faultCleared.sis.queue = [] := by rw [Hw.sis_faultCleared]; exact hq
  unfold Hw.faultCleared at hq'
  rw [hq']
  rfl

/-- DONE of agent 0 with a fault queued: the head follows. -/
theorem faultFinish_next {w : Word} {h : Hw} {e : FaultEntry} {q : List FaultEntry} (hw : w.getLsbD 0 = true)
    (hq : h.sis.queue = e :: q) : faultFinish (.agent 0) w h =
      Hw.makeCurrent { h.ack.faultCleared with sis := { h.ack.faultCleared.sis with queue := q } } e := by
  have hb : getBits w 0 1 ≠ 0 := by
    have := getBits_one_eq_getLsbD w 0
    rw [hw, decide_eq_true_eq] at this
    omega
  unfold faultFinish Hw.agent0R
  rw [if_pos rfl]
  dsimp only
  rw [if_neg hb]
  have hq' : h.ack.faultCleared.sis.queue = e :: q := by rw [Hw.sis_faultCleared]; exact hq
  unfold Hw.faultCleared at hq'
  rw [hq']
  rfl

/-- Neither the queued faults nor those that arise are touched. -/
def Hw.KeepsFaults (h h' : Hw) : Prop := h'.sis.queue = h.sis.queue ∧ h'.sis.arriving = h.sis.arriving

namespace Hw.KeepsFaults
variable {h h' h'' : Hw}

theorem refl (h : Hw) : Hw.KeepsFaults h h := ⟨rfl, rfl⟩

theorem trans (h1 : Hw.KeepsFaults h h') (h2 : Hw.KeepsFaults h' h'') : Hw.KeepsFaults h h'' :=
  ⟨h2.1.trans h1.1, h2.2.trans h1.2⟩

theorem of_sis (hs : h'.sis = h.sis) : Hw.KeepsFaults h h' := by rw [Hw.KeepsFaults, hs]; exact ⟨rfl, rfl⟩

theorem cond {c : Bool} {f : Hw → Hw} (h1 : Hw.KeepsFaults h h') (hf : Hw.KeepsFaults h' (f h')) :
    Hw.KeepsFaults h (h'.cond c f) := by
  unfold Hw.cond
  split
  · exact h1.trans hf
  · exact h1

end Hw.KeepsFaults

theorem Hw.sis_refreshSets (h : Hw) : h.refreshSets.sis = h.sis := by
  have key (l : List Nat) (g : Hw) : (g.each l Hw.refreshSet).sis = g.sis := by
    induction l generalizing g with
    | nil => rfl
    | cons n l ih => exact (ih (Hw.refreshSet n g)).trans (by simp [Hw.refreshSet])
  exact key _ h

theorem Hw.sis_brakeForce (h : Hw) : h.brakeForce.sis = h.sis := by
  unfold Hw.brakeForce
  split
  · by_cases hb : h.on PST_BT_STAT_BUSY = true <;> simp [Hw.btAbort, hb]
  · rfl

theorem Hw.keepsFaults_dropCause (h : Hw) (m : Nat) : Hw.KeepsFaults h (h.dropCause m) := by
  unfold Hw.dropCause Hw.outsOff Hw.setOuts
  refine .cond ?_ (.of_sis (Hw.sis_brakeForce _))
  exact ⟨by rw [Hw.sis_refreshSets]; simp, by rw [Hw.sis_refreshSets]; simp⟩

theorem Hw.keepsFaults_latchBolt (h : Hw) (c : Nat) : Hw.KeepsFaults h (h.latchBolt c) := by
  unfold Hw.latchBolt
  split
  · exact .refl _
  · refine Hw.KeepsFaults.trans ?_ (.of_sis (Hw.recWard_beside _ _ _ _).2)
    simp [Hw.KeepsFaults]

/-- The actions of a class queue no fault and raise none. -/
theorem Hw.keepsFaults_classActions (h : Hw) (e : FaultEntry) : Hw.KeepsFaults h (h.classActions e) := by
  unfold Hw.classActions
  refine .cond (.cond (.cond (.cond (.cond (.refl _) ?_) ?_) ⟨rfl, rfl⟩) (Hw.keepsFaults_dropCause _ _)) ?_
  · exact .of_sis (by simp)
  · exact .of_sis (by simp)
  · exact ((Hw.keepsFaults_dropCause _ _).trans (Hw.keepsFaults_latchBolt _ _)).trans ⟨rfl, rfl⟩

theorem Hw.keepsFaults_makeCurrent (h : Hw) (e : FaultEntry) : Hw.KeepsFaults h (h.makeCurrent e) :=
  Hw.KeepsFaults.trans (.of_sis (by simp [Hw.currentShown])) ((h.currentShown e).keepsFaults_classActions e)

theorem faultDone_idle {w : Word} {s : State} (hr : Reaches (.agent 0) SIS_FM_DONE s) (hw : w.getLsbD 0 = true)
    (hq : s.dev.hw.sis.queue = []) : Ends (.faultDone (.agent 0) w) s fun t =>
      NoFault t ∧ t.on SIS_FM_STAT_BUSY = false ∧ t.rd SIS_FM_STAT_CURCLASS = 0 ∧
      OnlyRegs [SIS_FM_STAT, SIS_FM_CUR_W0, SIS_FM_CUR_W1] s t := by
  refine ends_of_writeHwF rfl hr ?_
  rw [faultFinish_idle (h := s.dev.begin.hw) hw hq, Hw.settle_none _ (by rw [Hw.sis_faultCleared]; rfl)]
  obtain ⟨h1, h2, h3⟩ := s.dev.begin.hw.ack.faultCleared_shows
  exact ⟨h1, h2, h3, onlyRegs_of_only s.dev.begin.hw.ack.only_faultCleared rfl⟩

theorem faultDone_next {w : Word} {s : State} {e : FaultEntry} {q : List FaultEntry}
    (hr : Reaches (.agent 0) SIS_FM_DONE s) (hw : w.getLsbD 0 = true) (hq : s.dev.hw.sis.queue = e :: q)
    (hc : e.cls < 6) (hs : e.src < 64) (hb : e.cause < 32) : Ends (.faultDone (.agent 0) w) s fun t =>
      FaultIs e.cls e.src e.cause t ∧ t.dev.hw.sis.queue = q ∧ t.on SIS_FM_STAT_BUSY = true ∧
      OnlyRegsAndFaults [] s t := by
  refine ends_of_writeHwF rfl hr ?_
  rw [faultFinish_next (h := s.dev.begin.hw) hw hq]
  obtain ⟨hqueue, harr⟩ := Hw.keepsFaults_makeCurrent
    { s.dev.begin.hw.ack.faultCleared with sis := { s.dev.begin.hw.ack.faultCleared.sis with queue := q } } e
  obtain ⟨h1, h2, h3, h4, h5, -⟩ := Hw.makeCurrent_shows
    { s.dev.begin.hw.ack.faultCleared with sis := { s.dev.begin.hw.ack.faultCleared.sis with queue := q } }
    (hc.trans (by decide)) hs hb
  rw [Hw.settle_none _ (by rw [harr]; show s.dev.begin.hw.ack.faultCleared.sis.arriving = []; rw [Hw.sis_faultCleared]; rfl)]
  refine ⟨⟨h1, h2, h3, h4⟩, hqueue, h5, onlyRegsAndFaults_of_only ?_ rfl⟩
  have ho : Hw.Only faultRegs s.dev.hw s.dev.begin.hw.ack.faultCleared :=
    s.dev.begin.hw.ack.only_faultCleared.mono (by decide)
  exact ho.trans (by simp)

theorem faultDone_refused {who : Who} {w : Word} {s : State} (hr : Reaches who SIS_FM_DONE s) (hwho : who ≠ .agent 0) :
    Ends (.faultDone who w) s fun t =>
      t.dev.hw.bitAt (BLK_FAULT PG_SIS) 8 = true ∧ OnlyRegsAndFaults [] s t := by
  refine ends_of_writeHwF rfl hr ?_
  have hf : faultFinish who w s.dev.begin.hw = s.dev.begin.hw.ack.raise PG_SIS 8 := by
    unfold faultFinish Hw.agent0R
    rw [if_neg hwho]
  rw [hf]
  refine ⟨Hw.keepsCauses_settle _ PG_SIS 8 (by decide) (by decide) (Hw.raise_sets _ _ _ (by decide)),
    onlyRegsAndFaults_of_only ?_ rfl⟩
  have ho : Hw.Only ([BLK_FAULT PG_SIS, BLK_IRQ PG_SIS] ++ faultRegs) s.dev.hw (s.dev.begin.hw.ack.raise PG_SIS 8).settle :=
    Hw.only_raise_settle _ _ _
  exact ho.mono (by decide)

/-- A fault inside fault handling. -/
theorem hardFault_shows {h : Hw} {c : Nat} (hn : h.sis.lagNew = false) (hb : h.rd SIS_OUT_CFG_BRK_LAG = 0)
    (hs : h.on SIS_DB_STAT_SET = false) (hc : c < 256) :
    (hardFault c h).rd SIS_OUT_STAT_OUT = 0 ∧ (hardFault c h).on SIS_DB_STAT_SET = true ∧
      (hardFault c h).rd SIS_DB_STAT_CAUSE = c ∧ (hardFault c h).sis.dead = true ∧
      (hardFault c h).sis.arriving = h.sis.arriving ∧ Hw.Only faultRegs h (hardFault c h) := by
  have hdrop : Hw.Only dropRegs h (h.dropCause 0x3FF) := by simp
  have hbolt : Hw.Only boltRegs (h.dropCause 0x3FF) ((h.dropCause 0x3FF).latchBolt c) := by simp
  unfold hardFault
  refine ⟨?_, Hw.latchBolt_set _ _, ?_, rfl, ?_, ?_⟩
  · show ((h.dropCause 0x3FF).latchBolt c).rd SIS_OUT_STAT_OUT = 0
    rw [hbolt.rd (by decide), Hw.out_dropCause _ hn hb, Nat.xor_self, Nat.and_zero]
    rfl
  · exact Hw.latchBolt_cause (by rw [hdrop.on (by decide), hs]) hc
  · exact ((Hw.keepsFaults_dropCause h 0x3FF).trans (Hw.keepsFaults_latchBolt _ c)).2
  · exact (hdrop.mono (by decide)).trans (hbolt.mono (by decide))

theorem faultInFaultHandling_ends {k : Fin 3} {s : State} (hf : s.dev.hw.fabricOn = true) (hd : s.on SIS_DB_STAT_SET = false)
    (hb : s.rd SIS_OUT_CFG_BRK_LAG = 0) : Ends (.faultInFaultHandling k) s fun t =>
      t.rd SIS_OUT_STAT_OUT = 0 ∧ t.on SIS_DB_STAT_SET = true ∧ t.rd SIS_DB_STAT_CAUSE = 0x80 + k.val ∧
      t.dev.hw.sis.dead = true ∧ OnlyRegsAndFaults [] s t := by
  obtain ⟨h1, h2, h3, h4, h5, h6⟩ := hardFault_shows (h := s.dev.begin.hw) (c := 0x80 + k.val) rfl hb hd (by omega)
  refine ends_of_doHwF (f := fun h => if h.fabricOn then faultInFault k.val h else h) rfl ?_
  have hon : s.dev.begin.hw.fabricOn = true := hf
  simp only [hon, if_true]
  show _ ∧ _
  unfold faultInFault
  rw [Hw.settle_none _ h5]
  exact ⟨h1, h2, h3, h4, onlyRegsAndFaults_of_only h6 rfl⟩

/-- Settles O39. -/
theorem faultManager : Obligations.FaultManager :=
  ⟨fun _ _ _ _ ha hp hab h8 ht hb hc hn => faultArrival_new ha hp hab h8 ht hb hc hn,
    fun _ _ _ ha hb => faultArrival_standing ha hb, fun _ _ hr hw hq => faultDone_idle hr hw hq,
    fun _ _ hr hw _ _ hq hc hs hb => faultDone_next hr hw hq hc hs hb, fun _ _ _ hr hwho => faultDone_refused hr hwho,
    fun _ _ hf hd hb => faultInFaultHandling_ends hf hd hb⟩

end Sys2Proof.Machine
end

section
/-! Quadrature decoders (R120 to R122): O14 fails for a time that the command's stamp cannot carry. -/

namespace Sys2Proof.Machine

/-- Quadrature channel 0 is enabled. -/
def State.channelCounts : State :=
  { State.reset with dev := { State.reset.dev with
      hw := (State.reset.dev.hw.wr SIS_MODE_CUR 4).wr (POS_Qn_CTL_EN 0) 1 } }

/-- The extended count of a channel after a command that ends in a next state. -/
def extAfter (n : Nat) (o : Host.Outcome State Fault Refusal) : Int :=
  match o with
  | .next t => (t.dev.hw.q n).ext
  | _ => 0

/-- Refutes O14: the time of a sample is a natural number in the statement, and the command carries its low 64 bits. A
has shown 1 in the two samples before the newest: at the time 2^64, long after the enable, the filter takes them and the
transition counts up; at the stamp 0 of the command the older samples came before the enable, and nothing is taken. -/
theorem not_quadratureDecoders : ¬ Obligations.QuadratureDecoders := by
  rintro ⟨⟨hup, -⟩, -⟩
  obtain ⟨t, hexec, -, hext, -⟩ := hup 0 0b00110 0 (2 ^ 64) State.channelCounts (by decide +kernel) (by decide +kernel)
    (by decide +kernel) (by decide +kernel) (by decide +kernel)
  have hcount : extAfter 0 (exec (.quadCount 0 0b00110 0 ((2 ^ 64 : Nat) : BitVec 64)) State.channelCounts) ≠
      ((State.channelCounts.dev.hw.q 0).at ((State.channelCounts.dev.hw.q 0).ext + 1)).ext := by decide +kernel
  rw [hexec] at hcount
  exact hcount hext

end Sys2Proof.Machine
end

section
/-! The timers of the doors (R296): O34. -/

namespace Sys2Proof.Machine

theorem dnstat_ne_irq : ∀ n : Fin 2, DOR_Dn_STAT n.val ≠ BLK_IRQ PG_DOR := by decide

/-! ## What a door's actions change -/

/-- A door enters a state. -/
theorem Hw.doorGo_shows (h : Hw) (n : Fin 2) {k : Nat} (hk : k < 16) :
    (h.doorGo n.val k).dst n.val = k ∧ (h.doorGo n.val k).dor = h.dor ∧
      Hw.Only [DOR_Dn_STAT n.val, BLK_IRQ PG_DOR] h (h.doorGo n.val k) := by
  unfold Hw.doorGo
  split
  · next hd => exact ⟨hd, rfl, Hw.Only.refl _ _⟩
  · refine ⟨?_, by simp, by simp⟩
    rw [Hw.dst, Hw.irq, Hw.rd_setBitAt_ne _ _ _ _ (dnstat_ne_irq n), Hw.rd_wr_other _ _ _ _ (by simp),
      Hw.rd_wr_same _ _ _ (by simp)]
    exact Nat.mod_eq_of_lt hk

/-- Nudging shows in NUDGE, for a door that does not nudge yet. -/
theorem Hw.doorGo_nudge {h : Hw} {n : Fin 2} (hd : h.dst n.val ≠ 6) :
    (h.doorGo n.val 6).on (DOR_Dn_STAT_NUDGE n.val) = true := by
  unfold Hw.doorGo
  rw [if_neg hd, Hw.on, Hw.irq, Hw.rd_setBitAt_ne _ _ _ _ (dnstat_ne_irq n), ← Hw.on]
  exact Hw.on_wr_same _ (DOR_Dn_STAT_NUDGE n.val) true (by simp) rfl

/-- Neither a register nor the UNLOCK requests change. -/
def Hw.KeepsDoor (h h' : Hw) : Prop := h'.regs = h.regs ∧ h'.dor.unlock = h.dor.unlock

theorem Hw.KeepsDoor.rd {h h' : Hw} (hk : Hw.KeepsDoor h h') (f : Field) : h'.rd f = h.rd f := by
  unfold Hw.rd Hw.reg
  rw [hk.1]

theorem Hw.KeepsDoor.only {h h' : Hw} (hk : Hw.KeepsDoor h h') (l : List Nat) : Hw.Only l h h' := fun a _ => by
  unfold Hw.reg
  rw [hk.1]

/-- A MOVE of the axis, now or later. -/
theorem Hw.keepsDoor_doorMove (h : Hw) (n : Nat) (o : Bool) : Hw.KeepsDoor h (h.doorMove n o) := by
  unfold Hw.doorMove
  dsimp only
  split
  · exact ⟨rfl, rfl⟩
  · exact ⟨rfl, rfl⟩

theorem Hw.bit_setUnlock (h : Hw) (n : Nat) (b : Bool) : bit (h.setUnlock n b).dor.unlock n = b := bit_setBitN_same _ _ _

/-- A door that closes, or nudges. -/
theorem Hw.doorGoMove_shows (h : Hw) (n : Fin 2) {k : Nat} (hk : k < 16) (o : Bool) :
    ((h.doorGo n.val k).doorMove n.val o).dst n.val = k ∧
      ((h.doorGo n.val k).doorMove n.val o).dor.unlock = h.dor.unlock ∧
      Hw.Only [DOR_Dn_STAT n.val, BLK_IRQ PG_DOR] h ((h.doorGo n.val k).doorMove n.val o) := by
  obtain ⟨hd, hdor, honly⟩ := h.doorGo_shows n hk
  have hmove := (h.doorGo n.val k).keepsDoor_doorMove n.val o
  refine ⟨?_, ?_, honly.trans (hmove.only _)⟩
  · rw [Hw.dst, hmove.rd, ← Hw.dst, hd]
  · rw [hmove.2, hdor]

/-- A reversal. -/
theorem Hw.goReverse_shows (h : Hw) (n : Fin 2) : (h.goReverse n.val false).dst n.val = 5 ∧
    Hw.Only [DOR_Dn_STAT n.val, BLK_IRQ PG_DOR] h (h.goReverse n.val false) := by
  obtain ⟨hd, -, honly⟩ := h.doorGoMove_shows n (k := 5) (by decide) true
  unfold Hw.goReverse
  refine ⟨?_, ?_⟩
  · show Hw.rd (Hw.irq _ _ _) _ = 5
    rw [Hw.irq, Hw.rd_setBitAt_ne _ _ _ _ (dnstat_ne_irq n)]
    exact hd
  · refine honly.trans ?_
    show Hw.Only _ _ (Hw.irq _ _ _)
    rw [Hw.only_irq _ (by simp)]
    exact fun _ _ => rfl

/-- OPEN taken. -/
theorem Hw.goOpen_shows {h : Hw} {n : Fin 2} (h8 : h.dst n.val = 8) :
    (h.goOpen n.val).dst n.val = (if h.grant n.val then 2 else 1) ∧ bit (h.goOpen n.val).dor.unlock n.val = true ∧
      Hw.Only [DOR_Dn_STAT n.val, BLK_IRQ PG_DOR] h (h.goOpen n.val) := by
  have hunlock : bit (((h.setUnlock n.val true).setDr n.val { h.dr n.val with hold := false, retry := false })).dor.unlock
      n.val = true := h.bit_setUnlock n.val true
  have hstart : Hw.Only [DOR_Dn_STAT n.val, BLK_IRQ PG_DOR] h
      ((h.setUnlock n.val true).setDr n.val { h.dr n.val with hold := false, retry := false }) := fun _ _ => rfl
  unfold Hw.goOpen
  generalize (h.setUnlock n.val true).setDr n.val { h.dr n.val with hold := false, retry := false } = g at *
  by_cases hg : h.grant n.val = true
  · obtain ⟨h1, h2, h3⟩ := g.doorGoMove_shows n (k := 2) (by decide) true
    rw [if_pos ⟨h8, hg⟩, if_pos hg]
    exact ⟨h1, by rw [h2, hunlock], hstart.trans h3⟩
  · obtain ⟨h1, h2, h3⟩ := g.doorGo_shows n (k := 1) (by decide)
    rw [if_neg (fun hc => hg hc.2), if_neg hg]
    exact ⟨h1, by rw [h2, hunlock], hstart.trans h3⟩

/-- The dwell closes an open door. -/
theorem Hw.closeDoor_of_open {h : Hw} {n : Nat} (h3 : h.dst n = 3) : h.closeDoor n =
    if h.rd (DOR_Dn_CFG_NUDGE_N n) ≠ 0 ∧ h.rd (DOR_Dn_CFG_NUDGE_N n) ≤ h.rd (DOR_Dn_STAT_REVCNT n) then h.goNudging n
    else h.goClosing n := by
  simp [Hw.closeDoor, h3]

/-! ## Timers -/

section Timers
variable {n : Fin 2} {s : State}

theorem cur_not_door : ∀ n : Fin 2, SIS_FM_CUR_W0 ∉ [DOR_Dn_STAT n.val, BLK_IRQ PG_DOR] := by decide

theorem cause_not_door : ∀ n : Fin 2, BLK_FAULT PG_DOR ∉ [DOR_Dn_STAT n.val, BLK_IRQ PG_DOR] := by decide

theorem dnstat_not_fault : ∀ n : Fin 2, DOR_Dn_STAT n.val ∉ BLK_FAULT PG_DOR :: BLK_IRQ PG_DOR :: faultRegs := by decide

/-- The state of a door stands while a cause of DOR arises and enters. -/
theorem Hw.dst_raise_settle (h : Hw) (n : Fin 2) (b : Nat) : (h.raise PG_DOR b).settle.dst n.val = h.dst n.val :=
  (h.only_raise_settle PG_DOR b).rd (by simpa using dnstat_not_fault n)

theorem Hw.raise_dor (h : Hw) (p b : Nat) : (h.raise p b).dor = h.dor := by
  unfold Hw.raise
  split
  · rfl
  · dsimp only
    split <;> simp [Hw.pushEntry]

/-- A timer's frame with a cause of DOR. -/
theorem only_raise_dor {l : List Nat} {h g : Hw} (ho : Hw.Only [DOR_Dn_STAT n.val, BLK_IRQ PG_DOR] h g) (b : Nat)
    (hl : l = [DOR_Dn_STAT n.val, BLK_IRQ PG_DOR, BLK_FAULT PG_DOR]) :
    Hw.Only (l ++ faultRegs) h (g.raise PG_DOR b).settle := by
  subst hl
  refine (ho.mono (by simp +contextual)).trans ((g.only_raise_settle PG_DOR b).mono ?_)
  simp +contextual

theorem doorUnlockTimeout_ends (ha : Alive s) (hr : s.dev.hw.doorRuns n.val = true) (h1 : s.dev.hw.dst n.val = 1)
    (hn : NoFault s) (hb : s.dev.hw.bitAt (BLK_FAULT PG_DOR) 12 = false) : Ends (.doorUnlockTimeout n) s fun t =>
      t.dev.hw.dst n.val = 0 ∧ bit t.dev.hw.dor.unlock n.val = false ∧ t.dev.hw.bitAt (BLK_FAULT PG_DOR) 12 = true ∧
      FaultIs 1 PG_DOR 12 t ∧ OnlyRegsAndFaults [DOR_Dn_STAT n.val, BLK_IRQ PG_DOR, BLK_FAULT PG_DOR] s t := by
  obtain ⟨hd, -, honly⟩ := s.dev.begin.hw.doorGo_shows n (k := 0) (by decide)
  have hexp : unlockExpired n.val s.dev.begin.hw =
      (((s.dev.begin.hw).doorGo n.val 0).setUnlock n.val false).raise PG_DOR 12 := by
    have hc : (s.dev.begin.hw.doorRuns n.val && decide (s.dev.begin.hw.dst n.val = 1)) = true := by
      rw [Bool.and_eq_true, decide_eq_true_eq]
      exact ⟨hr, h1⟩
    unfold unlockExpired
    rw [if_pos hc]
  have hsis : ((s.dev.begin.hw).doorGo n.val 0).sis.arriving = [] := by
    unfold Hw.doorGo
    split
    · rfl
    · simp only [Hw.irq_sis, Hw.wr_sis]
      rfl
  refine ends_of_aliveF rfl ha ?_
  rw [hexp]
  have honly' : Hw.Only [DOR_Dn_STAT n.val, BLK_IRQ PG_DOR] s.dev.hw
      (((s.dev.begin.hw).doorGo n.val 0).setUnlock n.val false) := honly
  have hval : (((s.dev.begin.hw).doorGo n.val 0).setUnlock n.val false).on SIS_FM_CUR_W0_VALID = false := by
    rw [honly'.on (cur_not_door n)]
    exact hn
  have hcause : (((s.dev.begin.hw).doorGo n.val 0).setUnlock n.val false).bitAt (BLK_FAULT PG_DOR) 12 = false := by
    rw [honly'.bitAt (cause_not_door n)]
    exact hb
  obtain ⟨f1, f2, f3, f4, f5, -⟩ := Hw.raise_settles_shows (h := ((s.dev.begin.hw).doorGo n.val 0).setUnlock n.val false)
    (c := 1) hsis hval hcause rfl (by decide) (by decide)
  refine ⟨?_, ?_, f1, ⟨f2, f3, f4, f5⟩, onlyRegsAndFaults_of_only (only_raise_dor honly' 12 rfl) rfl⟩
  · exact (Hw.dst_raise_settle _ n 12).trans hd
  · show bit (Hw.settle _).dor.unlock _ = false
    obtain ⟨-, hdor, -⟩ := Hw.beside_settle ((((s.dev.begin.hw).doorGo n.val 0).setUnlock n.val false).raise PG_DOR 12)
    rw [hdor, Hw.raise_dor]
    exact Hw.bit_setUnlock _ _ _

theorem doorDwellElapsed_ends (ha : Alive s) (hr : s.dev.hw.doorRuns n.val = true) (h3 : s.dev.hw.dst n.val = 3)
    (hh : (s.dev.hw.dr n.val).hold = false) (ho : s.dev.hw.heldOpen n.val = false) : Ends (.doorDwellElapsed n) s fun t =>
      t.dev.hw.dst n.val = (if s.rd (DOR_Dn_CFG_NUDGE_N n.val) ≠ 0 ∧
        s.rd (DOR_Dn_CFG_NUDGE_N n.val) ≤ s.rd (DOR_Dn_STAT_REVCNT n.val) then 6 else 4) ∧
      OnlyRegs [DOR_Dn_STAT n.val, BLK_IRQ PG_DOR] s t := by
  have hexp : dwellExpired n.val s.dev.hw = s.dev.hw.closeDoor n.val := by
    simp [dwellExpired, hr, h3, hh, ho]
  refine ends_of_alive rfl ha ?_
  rw [Dev.via, hexp, Hw.closeDoor_of_open h3]
  by_cases hc : s.rd (DOR_Dn_CFG_NUDGE_N n.val) ≠ 0 ∧ s.rd (DOR_Dn_CFG_NUDGE_N n.val) ≤ s.rd (DOR_Dn_STAT_REVCNT n.val)
  · obtain ⟨h1, -, h2⟩ := s.dev.hw.doorGoMove_shows n (k := 6) (by decide) false
    have hc' : s.dev.hw.rd (DOR_Dn_CFG_NUDGE_N n.val) ≠ 0 ∧
      s.dev.hw.rd (DOR_Dn_CFG_NUDGE_N n.val) ≤ s.dev.hw.rd (DOR_Dn_STAT_REVCNT n.val) := hc
    rw [if_pos hc, if_pos hc']
    exact ⟨h1, onlyRegs_of_only h2 rfl⟩
  · obtain ⟨h1, -, h2⟩ := s.dev.hw.doorGoMove_shows n (k := 4) (by decide) false
    have hc' : ¬(s.dev.hw.rd (DOR_Dn_CFG_NUDGE_N n.val) ≠ 0 ∧
      s.dev.hw.rd (DOR_Dn_CFG_NUDGE_N n.val) ≤ s.dev.hw.rd (DOR_Dn_STAT_REVCNT n.val)) := hc
    rw [if_neg hc, if_neg hc']
    exact ⟨h1, onlyRegs_of_only h2 rfl⟩

theorem doorNudgeTimeElapsed_ends (ha : Alive s) (hr : s.dev.hw.doorRuns n.val = true) (h3 : s.dev.hw.dst n.val = 3)
    (ho : s.dev.hw.heldOpen n.val = true) (ht : s.rd (DOR_Dn_TIM1_NUDGE_T n.val) ≠ 0) :
    Ends (.doorNudgeTimeElapsed n) s fun t =>
      t.dev.hw.dst n.val = 6 ∧ t.on (DOR_Dn_STAT_NUDGE n.val) = true ∧
      OnlyRegs [DOR_Dn_STAT n.val, BLK_IRQ PG_DOR] s t := by
  have ht' : s.dev.hw.rd (DOR_Dn_TIM1_NUDGE_T n.val) ≠ 0 := ht
  have hexp : nudgeExpired n.val s.dev.hw = s.dev.hw.goNudging n.val := by
    simp [nudgeExpired, hr, h3, ho, ht']
  obtain ⟨h1, -, h2⟩ := s.dev.hw.doorGoMove_shows n (k := 6) (by decide) false
  have hmove := (s.dev.hw.doorGo n.val 6).keepsDoor_doorMove n.val false
  refine ends_of_alive rfl ha ?_
  rw [Dev.via, hexp]
  refine ⟨h1, ?_, onlyRegs_of_only h2 rfl⟩
  show Hw.on (Hw.doorMove _ _ _) _ = true
  rw [Hw.on, hmove.rd, ← Hw.on]
  exact Hw.doorGo_nudge (by omega)

theorem doorLockTimeout_ends (ha : Alive s) (hr : s.dev.hw.doorRuns n.val = true) (h7 : s.dev.hw.dst n.val = 7) :
    Ends (.doorLockTimeout n) s fun t =>
      t.dev.hw.dst n.val = (if (s.dev.hw.dr n.val).lockTries < s.rd (DOR_Dn_CFG_LOCK_RETRY n.val) then 5 else 11) ∧
      t.dev.hw.bitAt (BLK_FAULT PG_DOR) 12 = true ∧
      OnlyRegsAndFaults [DOR_Dn_STAT n.val, BLK_IRQ PG_DOR, BLK_FAULT PG_DOR] s t := by
  have hexp : lockExpired n.val s.dev.begin.hw =
      if (s.dev.hw.dr n.val).lockTries < s.rd (DOR_Dn_CFG_LOCK_RETRY n.val) then
        ((s.dev.begin.hw.setDr n.val { s.dev.hw.dr n.val with lockTries := (s.dev.hw.dr n.val).lockTries + 1 }).goReverse
          n.val false).raise PG_DOR 12
      else (s.dev.begin.hw.doorGo n.val 11).raise PG_DOR 12 := by
    have hc : (s.dev.begin.hw.doorRuns n.val && decide (s.dev.begin.hw.dst n.val = 7)) = true := by
      rw [Bool.and_eq_true, decide_eq_true_eq]
      exact ⟨hr, h7⟩
    unfold lockExpired
    rw [if_pos hc]
    rfl
  have hcause (g : Hw) : (g.raise PG_DOR 12).settle.bitAt (BLK_FAULT PG_DOR) 12 = true :=
    Hw.keepsCauses_settle _ PG_DOR 12 (by decide) (by decide) (Hw.raise_sets _ _ _ (by decide))
  refine ends_of_aliveF rfl ha ?_
  rw [hexp]
  split
  · next hlt =>
    obtain ⟨h1, h2⟩ := (s.dev.begin.hw.setDr n.val
      { s.dev.hw.dr n.val with lockTries := (s.dev.hw.dr n.val).lockTries + 1 }).goReverse_shows n
    have h2' : Hw.Only [DOR_Dn_STAT n.val, BLK_IRQ PG_DOR] s.dev.hw _ := h2
    exact ⟨(Hw.dst_raise_settle _ n 12).trans h1, hcause _, onlyRegsAndFaults_of_only (only_raise_dor h2' 12 rfl) rfl⟩
  · obtain ⟨h1, -, h2⟩ := s.dev.begin.hw.doorGo_shows n (k := 11) (by decide)
    have h2' : Hw.Only [DOR_Dn_STAT n.val, BLK_IRQ PG_DOR] s.dev.hw _ := h2
    exact ⟨(Hw.dst_raise_settle _ n 12).trans h1, hcause _, onlyRegsAndFaults_of_only (only_raise_dor h2' 12 rfl) rfl⟩

theorem doorRetryElapsed_opens (ha : Alive s) (hr : s.dev.hw.doorRuns n.val = true) (h8 : s.dev.hw.dst n.val = 8)
    (ht : (s.dev.hw.dr n.val).retry = true) (hc : s.dev.hw.doorCode n.val ⟨1, 0, 0⟩ = 0) :
    Ends (.doorRetryElapsed n) s fun t =>
      t.dev.hw.dst n.val = (if s.dev.hw.grant n.val then 2 else 1) ∧ bit t.dev.hw.dor.unlock n.val = true ∧
      OnlyRegs [DOR_Dn_STAT n.val, BLK_IRQ PG_DOR] s t := by
  have hexp : retryExpired n.val s.dev.hw = s.dev.hw.goOpen n.val := by
    unfold retryExpired
    rw [if_pos (by simp [hr, h8, ht]), if_pos hc]
  obtain ⟨h1, h2, h3⟩ := Hw.goOpen_shows h8
  refine ends_of_alive rfl ha ?_
  rw [Dev.via, hexp]
  exact ⟨h1, h2, onlyRegs_of_only h3 rfl⟩

theorem doorRetryElapsed_refused (ha : Alive s) (hc : s.dev.hw.doorCode n.val ⟨1, 0, 0⟩ ≠ 0) :
    Ends (.doorRetryElapsed n) s (OnlyRegs [] s) := by
  have hexp : Hw.Only [] s.dev.hw (retryExpired n.val s.dev.hw) := by
    unfold retryExpired
    rw [if_neg hc]
    exact Hw.only_ite (fun _ _ => rfl) (Hw.Only.refl _ _)
  exact ends_of_alive rfl ha (onlyRegs_of_only hexp rfl)

/-- A timer of a door that does not run does nothing. -/
theorem timers_of_stopped (hr : s.dev.hw.doorRuns n.val = false) :
    Ends (.doorUnlockTimeout n) s (OnlyRegsAndFaults [] s) ∧ Ends (.doorDwellElapsed n) s (OnlyRegs [] s) ∧
    Ends (.doorNudgeTimeElapsed n) s (OnlyRegs [] s) ∧ Ends (.doorLockTimeout n) s (OnlyRegsAndFaults [] s) ∧
    Ends (.doorRetryElapsed n) s (OnlyRegs [] s) := by
  have hr0 : s.dev.begin.hw.doorRuns n.val = false := hr
  have hsame : OnlyRegs [] s s := ⟨fun _ _ => rfl, rfl⟩
  refine ⟨?_, ends_of_whenAlive_same rfl (by simp [dwellExpired, hr]) hsame,
    ends_of_whenAlive_same rfl (by simp [nudgeExpired, hr]) hsame, ?_,
    ends_of_whenAlive_same rfl (by simp [retryExpired, hr]) hsame⟩
  · have hf : whenAlive (unlockExpired n.val) s.dev.begin.hw = s.dev.begin.hw := by
      simp [whenAlive, unlockExpired, hr0]
    refine ends_of_doHwF rfl ?_
    rw [hf, Hw.settle_none _ rfl]
    exact onlyRegsAndFaults_of_only (fun _ _ => rfl) rfl
  · have hf : whenAlive (lockExpired n.val) s.dev.begin.hw = s.dev.begin.hw := by
      simp [whenAlive, lockExpired, hr0]
    refine ends_of_doHwF rfl ?_
    rw [hf, Hw.settle_none _ rfl]
    exact onlyRegsAndFaults_of_only (fun _ _ => rfl) rfl

end Timers

/-- The request to relevel (R306). -/
theorem relevelRequest_ends {s : State} (ha : Alive s) (hc : s.dev.hw.isCar = true) (hr : s.dev.hw.running PG_DOR = true)
    (hopen : (s.dev.hw.doorOn 0 && s.dev.hw.dst 0 ≠ 0 || s.dev.hw.doorOn 1 && s.dev.hw.dst 1 ≠ 0) = true)
    (hs : s.dev.hw.carStill = true) (hin : s.on DOR_DZ_STAT_IN = true) (hq : s.on DOR_RLV_STAT_REQ = false)
    (hd : s.rd DOR_RLV_CFG_RLV_TOL * 4096 < (s.dev.hw.int DOR_DZ_DIST).natAbs) : Ends .relevelRequest s fun t =>
      t.on DOR_RLV_STAT_REQ = true ∧ t.rd DOR_RLV_STAT_LANDING = s.rd DOR_DZ_STAT_LANDING ∧
      t.dev.hw.bitAt (BLK_IRQ PG_DOR) 9 = true ∧ OnlyRegs [DOR_RLV_STAT, BLK_IRQ PG_DOR] s t := by
  have hask : relevelAsk s.dev.hw = ((s.dev.hw.wr DOR_RLV_STAT_REQ 1).wr DOR_RLV_STAT_LANDING
      (s.rd DOR_DZ_STAT_LANDING)).irq PG_DOR 9 := by
    have hin' : s.dev.hw.on DOR_DZ_STAT_IN = true := hin
    have hq' : s.dev.hw.on DOR_RLV_STAT_REQ = false := hq
    have hany : ([0, 1].any fun n => s.dev.hw.doorOn n && s.dev.hw.dst n ≠ 0) = true := by
      simpa using hopen
    unfold relevelAsk
    dsimp only
    have hd' : s.dev.hw.rd DOR_RLV_CFG_RLV_TOL * 4096 < (s.dev.hw.int DOR_DZ_DIST).natAbs := hd
    rw [if_pos (by rw [hc, hr, hany, hs, hin', hq']; simpa using hd')]
    rfl
  have hlt : s.rd DOR_DZ_STAT_LANDING < 2 ^ 8 := getBits_lt _ _ _
  refine ends_of_alive rfl ha ?_
  rw [Dev.via, hask]
  refine ⟨?_, ?_, Hw.irq_sets _ _ _ (by decide), onlyRegs_of_only (by simp) rfl⟩
  · show Hw.on (Hw.irq _ _ _) _ = true
    rw [Hw.on, Hw.irq, Hw.rd_setBitAt_ne _ _ _ _ (by decide), ← Hw.on, Hw.on_wr_other _ _ _ _ (by decide)]
    exact Hw.on_wr_same _ DOR_RLV_STAT_REQ true (by decide) rfl
  · show Hw.rd (Hw.irq _ _ _) _ = _
    rw [Hw.irq, Hw.rd_setBitAt_ne _ _ _ _ (by decide), Hw.rd_wr_same _ _ _ (by decide)]
    exact Nat.mod_eq_of_lt hlt

/-- Settles O34. -/
theorem doorTimers : Obligations.DoorTimers :=
  ⟨fun _ _ ha hr h1 hn hb => doorUnlockTimeout_ends ha hr h1 hn hb,
    fun _ _ ha hr h3 hh ho => doorDwellElapsed_ends ha hr h3 hh ho,
    fun _ _ ha hr h3 ho ht => doorNudgeTimeElapsed_ends ha hr h3 ho ht,
    fun _ _ ha hr h7 _ => doorLockTimeout_ends ha hr h7,
    fun _ _ ha hr h8 ht hc => doorRetryElapsed_opens ha hr h8 ht hc,
    fun _ _ ha _ hc => doorRetryElapsed_refused ha hc, fun _ _ hr => timers_of_stopped hr,
    fun _ ha hc hr hopen hs hin hq hd => relevelRequest_ends ha hc hr hopen hs hin hq hd⟩

end Sys2Proof.Machine
end

section
/-! Sigma-delta windows (R274): O30 fails for a full window of the least decimation. -/

namespace Sys2Proof.Machine

/-- Sigma-delta input 0 is enabled, its group valid at DEC = 2. -/
def State.leastWindow : State :=
  let h := ((State.reset.dev.hw.wr SIS_MODE_CUR 4).wr PST_SD_EN_EN 1).setReg PST_SD_DEC 2
  { State.reset with dev := { State.reset.dev with hw := h } }

/-- Refutes O30: in the statement the saturation stands inside the scaling. A window whose 64 bits are all 1 has
(64 - 32) * 2^26 = 2^31, which no word holds as a signed number. -/
theorem not_sigmaDelta : ¬ Obligations.SigmaDelta := by
  rintro ⟨hwindow, -⟩
  obtain ⟨t, -, -, hres, -⟩ := hwindow [64] State.leastWindow (by decide +kernel) (by decide +kernel) (by decide +kernel)
    (by decide +kernel)
  have hvalue := hres 0 (by decide) (by decide +kernel) (by decide +kernel) 2 (by decide) (by decide +kernel) (by decide)
  have hfull : ((t.reg (PST_SDn_RES 0)).toInt : Int) = 2 ^ 31 := hvalue.trans (by decide)
  have hlt : (t.reg (PST_SDn_RES 0)).toInt < 2 ^ 31 := BitVec.toInt_lt
  exact absurd hfull hlt.ne

end Sys2Proof.Machine
end

section
/-! Hinge requests and swaps (R46, R51 to R53, R97): O13. -/

namespace Sys2Proof.Machine

/-! ## The list of registers when entries are moved to other addresses -/

/-- The entries for `x` stand before the first higher address, where `insertReg` puts the next one. -/
def EntriesFirst (x : Nat) : List (Nat × Word) → Prop
  | [] => True
  | (b, _) :: l => if x < b then lookupReg l x = none else EntriesFirst x l

theorem entriesFirst_of_none {l : List (Nat × Word)} {x : Nat} (hl : lookupReg l x = none) : EntriesFirst x l := by
  induction l with
  | nil => trivial
  | cons e l ih =>
    obtain ⟨b, w⟩ := e
    have hl' : lookupReg l x = none := by
      by_cases hb : b = x
      · simp [lookupReg, hb] at hl
      · simpa [lookupReg, hb] using hl
    unfold EntriesFirst
    split
    · exact hl'
    · exact ih hl'

theorem EntriesFirst.insertReg {l : List (Nat × Word)} {x : Nat} (hl : EntriesFirst x l) (a : Nat) (v : Word) :
    EntriesFirst x (insertReg l a v) := by
  induction l with
  | nil =>
    unfold Machine.insertReg EntriesFirst
    split <;> trivial
  | cons e l ih =>
    obtain ⟨b, w⟩ := e
    unfold EntriesFirst at hl
    unfold Machine.insertReg
    by_cases hab : a < b
    · rw [if_pos hab, EntriesFirst]
      by_cases hxa : x < a
      · rw [if_pos (hxa.trans hab)] at hl
        rwa [if_pos hxa, lookupReg, if_neg (hxa.trans hab).ne']
      · rwa [if_neg hxa, EntriesFirst]
    · rw [if_neg hab, EntriesFirst]
      by_cases hxb : x < b
      · rw [if_pos hxb] at hl ⊢
        rwa [lookupReg_insertReg_ne _ _ (by omega)]
      · rw [if_neg hxb] at hl ⊢
        exact ih hl

/-- An inserted entry stands behind the entries that the address has. -/
theorem EntriesFirst.lookupReg_insertReg {l : List (Nat × Word)} {x : Nat} (hl : EntriesFirst x l) (v : Word) :
    lookupReg (Machine.insertReg l x v) x = (lookupReg l x).or (some v) := by
  induction l with
  | nil => simp [Machine.insertReg, lookupReg]
  | cons e l ih =>
    obtain ⟨b, w⟩ := e
    unfold EntriesFirst at hl
    by_cases hxb : x < b
    · rw [if_pos hxb] at hl
      simp [Machine.insertReg, lookupReg, hxb, hxb.ne', hl]
    · rw [if_neg hxb] at hl
      by_cases hb : b = x
      · simp [Machine.insertReg, lookupReg, hb]
      · simpa [Machine.insertReg, lookupReg, hxb, hb] using ih hl

/-- Moved entries are found where the move puts them. -/
theorem lookupReg_foldl_insertReg (f : Nat → Nat) {a : Nat} (moves : List (Nat × Word))
    (hf : ∀ e ∈ moves, f e.1 = f a → e.1 = a) : ∀ {rest : List (Nat × Word)}, EntriesFirst (f a) rest →
      lookupReg (moves.foldl (fun l e => insertReg l (f e.1) e.2) rest) (f a) =
        (lookupReg rest (f a)).or (lookupReg moves a) := by
  induction moves with
  | nil => simp [lookupReg]
  | cons e moves ih =>
    intro rest hrest
    rw [List.foldl_cons, ih (fun e he => hf e (List.mem_cons_of_mem _ he)) (hrest.insertReg _ _)]
    by_cases he : e.1 = a
    · subst he
      rw [hrest.lookupReg_insertReg, Option.or_assoc]
      simp [lookupReg]
    · rw [lookupReg_insertReg_ne _ _ fun h => he (hf e List.mem_cons_self h.symm), lookupReg, if_neg he]

theorem lookupReg_foldl_insertReg_ne (f : Nat → Nat) {x : Nat} (moves : List (Nat × Word)) (hf : ∀ e ∈ moves, f e.1 ≠ x) :
    ∀ rest : List (Nat × Word), lookupReg (moves.foldl (fun l e => insertReg l (f e.1) e.2) rest) x = lookupReg rest x := by
  induction moves with
  | nil => exact fun _ => rfl
  | cons e moves ih =>
    intro rest
    rw [List.foldl_cons, ih (fun e he => hf e (List.mem_cons_of_mem _ he)),
      lookupReg_insertReg_ne _ _ (hf e List.mem_cons_self).symm]

theorem lookupReg_filter (q : Nat → Bool) (l : List (Nat × Word)) (a : Nat) :
    lookupReg (l.filter fun e => q e.1) a = if q a then lookupReg l a else none := by
  induction l with
  | nil => simp [lookupReg]
  | cons e l ih =>
    obtain ⟨b, w⟩ := e
    by_cases hb : b = a
    · subst hb
      by_cases hq : q b <;> simp [lookupReg, hq, ih]
    · by_cases hq : q b <;> simp [lookupReg, hq, hb, ih]

/-! ## Swapped registers and their shadows -/

/-- A swapped register stands in a row of its page, below its shadow. -/
theorem swapAddr_self {a : Nat} (ha : swapAddr a = some a) : 0x40000000 ≤ a ∧ a < 0x41000000 ∧ 0x40 ≤ offOf a ∧
    offOf a < 0x8000 ∧ ∃ r, rowAt (pageOf a) (offOf a) = some r ∧ r.kind = .shadowed := by
  unfold swapAddr at ha
  by_cases hlo : offOf a < 0x8000
  · simp only [if_pos hlo] at ha
    by_cases hout : a < 0x40000000 ∨ 0x41000000 ≤ a ∨ offOf a < 0x40
    · rw [if_pos hout] at ha
      cases ha
    · rw [if_neg hout] at ha
      refine ⟨by omega, by omega, by omega, hlo, ?_⟩
      cases hr : rowAt (pageOf a) (offOf a) with
      | none => simp [hr] at ha
      | some r => exact ⟨r, rfl, by simpa [hr] using (show _ ∧ _ by simpa [hr] using ha).1⟩
  · simp only [if_neg hlo] at ha
    have hne : a - offOf a + (offOf a - 0x8000) ≠ a := by
      unfold offOf at hlo ⊢
      omega
    exfalso
    split at ha
    · cases ha
    · cases hr : rowAt (pageOf a) (offOf a - 0x8000) with
      | none => simp [hr] at ha
      | some r => exact hne (show _ ∧ _ by simpa [hr] using ha).2

theorem pageOf_shadow {a : Nat} (hb : 0x40000000 ≤ a) (hlo : offOf a < 0x8000) : pageOf (a + 0x8000) = pageOf a := by
  unfold offOf at hlo
  unfold pageOf
  omega

theorem offOf_shadow {a : Nat} (hlo : offOf a < 0x8000) : offOf (a + 0x8000) = offOf a + 0x8000 := by
  unfold offOf at *
  omega

theorem swapAddr_shadow {a : Nat} (ha : swapAddr a = some a) : (swapAddr (a + 0x8000)).isSome = true := by
  obtain ⟨hb, ht, hh, hlo, r, hr, hk⟩ := swapAddr_self ha
  have htop : a < 0x41000000 - 0x8000 := by
    unfold offOf at hlo
    omega
  have hge : ¬offOf a + 0x8000 < 0x8000 := by omega
  have hbase : 0x40000000 - 0x8000 ≤ a := by omega
  unfold swapAddr
  simp [offOf_shadow hlo, pageOf_shadow hb hlo, hge, htop, hbase, hh, hr, hk]

/-- A shadow holds at reset what its register holds. -/
theorem regReset_shadow {a : Nat} (ha : swapAddr a = some a) : regReset (a + 0x8000) = regReset a := by
  obtain ⟨hb, ht, hh, hlo, r, hr, hk⟩ := swapAddr_self ha
  have htop : ¬0x41000000 ≤ a + 0x8000 := by
    unfold offOf at hlo
    omega
  have hge : ¬offOf a + 0x8000 < 0x8040 := by omega
  unfold regReset
  simp [offOf_shadow hlo, pageOf_shadow hb hlo, hr, hk, hlo, htop, hge, hb.not_gt, hh.not_gt, ht.not_ge, show ¬a + 0x8000 < 0x40000000 by omega,
    show ¬offOf a + 0x8000 < 0x40 by omega]

/-! ## The copy of the active registers (R52) -/

/-- An active register of the page, and a shadow of it. -/
def activeIn (p a : Nat) : Bool := decide (pageOf a = p) && (swapAddr a).isSome && decide (offOf a < 0x8000)
def shadowIn (p a : Nat) : Bool := decide (pageOf a = p) && (swapAddr a).isSome && decide (0x8000 ≤ offOf a)

theorem Hw.regs_copyShadow (h : Hw) (p : Nat) : (h.copyShadow p).regs = (h.regs.filter fun e => activeIn p e.1).foldl
    (fun l e => insertReg l (e.1 + 0x8000) e.2) (h.regs.filter fun e => !shadowIn p e.1) := rfl

/-- The copy sets the shadows of the page to the active values. -/
theorem Hw.reg_copyShadow_shadow (h : Hw) {p a : Nat} (ha : swapAddr a = some a) (hp : pageOf a = p) :
    (h.copyShadow p).reg (a + 0x8000) = h.reg a := by
  obtain ⟨hb, -, -, hlo, -⟩ := swapAddr_self ha
  have hshadow : shadowIn p (a + 0x8000) = true := by
    simp [shadowIn, pageOf_shadow hb hlo, hp, swapAddr_shadow ha, offOf_shadow hlo]
  have hrest : lookupReg (h.regs.filter fun e => !shadowIn p e.1) (a + 0x8000) = none := by
    rw [lookupReg_filter fun b => !shadowIn p b, hshadow]
    rfl
  have hmoves : lookupReg (h.regs.filter fun e => activeIn p e.1) a = lookupReg h.regs a := by
    rw [lookupReg_filter, if_pos (by simp [activeIn, hp, ha, hlo])]
  unfold Hw.reg
  rw [regs_copyShadow, lookupReg_foldl_insertReg (· + 0x8000) _ (fun e _ he => Nat.add_right_cancel he)
    (entriesFirst_of_none hrest), hrest, hmoves, Option.none_or, regReset_shadow ha]

/-- The copy leaves the active values. -/
theorem Hw.reg_copyShadow_active (h : Hw) (p : Nat) {a : Nat} (hlo : offOf a < 0x8000) : (h.copyShadow p).reg a = h.reg a := by
  have hne : ∀ e ∈ h.regs.filter fun e => activeIn p e.1, e.1 + 0x8000 ≠ a := by
    rintro e he rfl
    have hlo' : offOf e.1 < 0x8000 := by
      have he' : activeIn p e.1 = true := by simpa using (List.mem_filter.mp he).2
      simp only [activeIn, Bool.and_eq_true, decide_eq_true_eq] at he'
      exact he'.2
    rw [offOf_shadow hlo'] at hlo
    omega
  unfold Hw.reg
  rw [regs_copyShadow, lookupReg_foldl_insertReg_ne (· + 0x8000) _ hne, lookupReg_filter fun b => !shadowIn p b,
    if_pos (by simp [shadowIn, hlo])]

/-! ## The exchange of HSP's register and its shadow (R51) -/

/-- A register or shadow of the page that a swap moves, and the address it moves to. -/
def movesIn (p a : Nat) : Bool := decide (pageOf a = p) && (swapAddr a).isSome
def twin (a : Nat) : Nat := if offOf a < 0x8000 then a + 0x8000 else a - 0x8000

theorem Hw.regs_exchange (h : Hw) (p : Nat) : (h.exchange p).regs = (h.regs.filter fun e => movesIn p e.1).foldl
    (fun l e => insertReg l (twin e.1) e.2) (h.regs.filter fun e => !movesIn p e.1) := rfl

/-- HSP_CFG and its shadow are all that a swap of HSP moves. -/
theorem movesIn_hsp {a : Nat} (ha : movesIn PG_HSP a = true) : a = HSP_CFG ∨ a = HSP_CFG + 0x8000 := by
  simp only [movesIn, Bool.and_eq_true, decide_eq_true_eq] at ha
  obtain ⟨hp, hs⟩ := ha
  have hbase : a = 0x40270000 + offOf a ∧ offOf a < 0x10000 := by
    unfold pageOf at hp
    unfold offOf
    have : PG_HSP = 0x27 := rfl
    omega
  have hrow {b : Nat} {r : RegRow} (hr : rowAt PG_HSP b = some r) (hk : r.kind = .shadowed) : b = 0x40 := by
    have hmem := List.mem_of_find?_eq_some hr
    have hhas := List.find?_some hr
    simp only [pageRows, rowsHSP, List.mem_cons, List.not_mem_nil, or_false] at hmem
    obtain rfl | rfl | rfl | rfl := hmem
    · simp [RegRow.has] at hhas
      omega
    all_goals cases hk
  unfold swapAddr at hs
  simp only [hp] at hs
  generalize hb : (if offOf a < 0x8000 then offOf a else offOf a - 0x8000) = b at hs
  have hb' : b = 0x40 := by
    cases hr : rowAt PG_HSP b with
    | none => simp [hr] at hs
    | some r => exact hrow hr (by_contra fun hk => by simp [hr, hk] at hs)
  have hcfg : HSP_CFG = 0x40270040 := rfl
  split at hb <;> omega

theorem Hw.reg_exchange_hsp (h : Hw) : (h.exchange PG_HSP).reg HSP_CFG = h.reg (HSP_CFG + 0x8000) ∧
    (h.exchange PG_HSP).reg (HSP_CFG + 0x8000) = h.reg HSP_CFG := by
  have hmoved {a : Nat} (ha : movesIn PG_HSP a = true) (ht : movesIn PG_HSP (twin a) = true)
      (hinj : ∀ b, movesIn PG_HSP b = true → twin b = twin a → b = a) (hreset : regReset (twin a) = regReset a) :
      (h.exchange PG_HSP).reg (twin a) = h.reg a := by
    have hrest : lookupReg (h.regs.filter fun e => !movesIn PG_HSP e.1) (twin a) = none := by
      rw [lookupReg_filter fun b => !movesIn PG_HSP b, ht]
      rfl
    unfold Hw.reg
    rw [regs_exchange, lookupReg_foldl_insertReg twin _ (fun e he => hinj e.1 (by simpa using (List.mem_filter.mp he).2))
      (entriesFirst_of_none hrest), hrest, Option.none_or, lookupReg_filter, if_pos ha, hreset]
  refine ⟨hmoved (a := HSP_CFG + 0x8000) (by decide) (by decide) ?_ (by decide), hmoved (a := HSP_CFG) (by decide) (by decide) ?_ (by decide)⟩
  all_goals
    intro b hb
    obtain rfl | rfl := movesIn_hsp hb
    · decide
    · decide

theorem Hw.reg_exchange_hsp_ne (h : Hw) {a : Nat} (ha : a ∉ [HSP_CFG, HSP_CFG + 0x8000]) :
    (h.exchange PG_HSP).reg a = h.reg a := by
  have ha' : movesIn PG_HSP a = false := by
    cases hm : movesIn PG_HSP a
    · rfl
    · exact absurd (by simpa using movesIn_hsp hm) ha
  have hne : ∀ e ∈ h.regs.filter fun e => movesIn PG_HSP e.1, twin e.1 ≠ a := by
    rintro e he rfl
    obtain he | he := movesIn_hsp (by simpa using (List.mem_filter.mp he).2)
    all_goals exact ha (by rw [he]; decide)
  unfold Hw.reg
  rw [regs_exchange, lookupReg_foldl_insertReg_ne twin _ hne, lookupReg_filter fun b => !movesIn PG_HSP b, ha']
  rfl

/-! ## Requests -/

/-- What a write of BLK_HINGE does where the page takes it (R46, R53). -/
def hingeRequest (who : Who) (p : Nat) (w : Word) (h : Hw) : Hw :=
  if h.on (BLK_STAT_HPEND p) then
    if getBits w 8 1 = 1 then
      { h.wr (BLK_STAT_HPEND p) 0 with hdr := { (h.wr (BLK_STAT_HPEND p) 0).hdr with
        late := (h.wr (BLK_STAT_HPEND p) 0).hdr.late.filter (· ≠ p) } }
    else h.commonFault who BLK_FAULT_HREJ p
  else
    (((h.wr (BLK_HINGE_POINT p) (if p = PG_SIS then 2 else getBits w 1 2)).wr (BLK_HINGE_SYNC p) (getBits w 3 1)).wr
      (BLK_HINGE_GROUP p) (getBits w 4 2)).cond (getBits w 0 1 = 1 && getBits w 8 1 = 0) (·.wr (BLK_STAT_HPEND p) 1)

theorem hingeWrite_eq (who : Who) (p : Nat) (w : Word) (h : Hw) :
    hingeWrite who p w h = h.hdrWrite who p (hingeRequest who p w) := rfl

theorem ends_of_hingeWrite {c : Instr} {who : Who} {p : Nat} {w : Word} {s : State} {P : State → Prop}
    (hc : exec c s = doDev (writeHw who (BLK_HINGE p) (hingeWrite who p w)) s) (hp : isPage p = true)
    (hm : MayConfigure who p (BLK_HINGE p) s)
    (hP : P { s with dev := { s.dev with hw := hingeRequest who p w s.dev.hw.ack } }) : Ends c s P := by
  obtain ⟨⟨hr, hpresent, hsis⟩, hlock⟩ := hm
  refine ends_of_writeHw hc hr ?_
  have hw : hingeWrite who p w s.dev.hw = hingeRequest who p w s.dev.hw.ack := by
    simp [hingeWrite_eq, Hw.hdrWrite, hp, Hw.cfgWrite, hpresent, hsis, hlock]
  rwa [Dev.via, hw]

theorem getBits_one_of_getLsbD {w : Word} {i : Nat} {b : Bool} (hw : w.getLsbD i = b) : getBits w i 1 = b2n b := by
  have hbit := getBits_one_eq_one w i
  have hlt : getBits w i 1 < 2 := Nat.mod_lt _ (by decide)
  rw [hw] at hbit
  cases b
  · have : getBits w i 1 ≠ 1 := of_decide_eq_false hbit
    rw [show b2n false = 0 from rfl]
    omega
  · exact of_decide_eq_true hbit

theorem hingeRequest_shows {who : Who} {p : Nat} {w : Word} {h : Hw} (hn : h.on (BLK_STAT_HPEND p) = false)
    (hs : w.getLsbD 0 = true) (hc : w.getLsbD 8 = false) :
    (hingeRequest who p w h).on (BLK_STAT_HPEND p) = true ∧
      (hingeRequest who p w h).rd (BLK_HINGE_POINT p) = (if p = PG_SIS then 2 else getBits w 1 2) ∧
      (hingeRequest who p w h).on (BLK_HINGE_SYNC p) = w.getLsbD 3 ∧
      (hingeRequest who p w h).rd (BLK_HINGE_GROUP p) = getBits w 4 2 ∧
      Hw.Only [BLK_HINGE p, BLK_STAT p] h (hingeRequest who p w h) := by
  have hpoint : (if p = PG_SIS then 2 else getBits w 1 2) < 2 ^ 2 := by
    split
    · decide
    · exact Nat.mod_lt _ (by decide)
  have hgroup : getBits w 4 2 < 2 ^ 2 := Nat.mod_lt _ (by decide)
  have hsync : getBits w 3 1 < 2 ^ 1 := Nat.mod_lt _ (by decide)
  have h0 := getBits_one_of_getLsbD hs
  have h8 := getBits_one_of_getLsbD hc
  have hne : BLK_STAT p ≠ BLK_HINGE p := by simp [BLK_STAT, BLK_HINGE]
  unfold hingeRequest
  rw [if_neg (by simp [hn]), h0, h8, Hw.cond, if_pos (by decide)]
  generalize (if p = PG_SIS then 2 else getBits w 1 2) = point at hpoint ⊢
  refine ⟨?_, ?_, ?_, ?_, by simp⟩
  · simp [Hw.on, Hw.rd_wr_same]
  · simp (disch := simp [hne.symm]) only [Hw.rd_wr_other, Hw.rd_wr_same, Nat.mod_eq_of_lt hpoint]
  · unfold Hw.on
    simp (disch := simp [hne.symm]) only [Hw.rd_wr_other, Hw.rd_wr_same, Nat.mod_eq_of_lt hsync]
    exact getBits_one_eq_one w 3
  · simp (disch := simp [hne.symm]) only [Hw.rd_wr_other, Hw.rd_wr_same, Nat.mod_eq_of_lt hgroup]

theorem Hw.only_commonFault (h : Hw) (who : Who) (p : Nat) : Hw.Only [BLK_FAULT p, BLK_IRQ p] h (h.commonFault who BLK_FAULT_HREJ p) := by
  unfold Hw.commonFault
  cases who <;> (dsimp only; simp; exact Hw.only_ite (by simp) (by simp))

/-- A request while one is pending, without CANCEL, is refused with HREJ. -/
theorem hingeRequest_refused {who : Who} {p : Nat} {w : Word} {h : Hw} (hn : h.on (BLK_STAT_HPEND p) = true)
    (hc : w.getLsbD 8 = false) :
    (hingeRequest who p w h).on (BLK_FAULT_HREJ p) = true ∧ (hingeRequest who p w h).on (BLK_STAT_HPEND p) = true ∧
      Hw.Only [BLK_FAULT p, BLK_IRQ p] h (hingeRequest who p w h) := by
  have hreq : hingeRequest who p w h = h.commonFault who BLK_FAULT_HREJ p := by
    unfold hingeRequest
    rw [if_pos hn, getBits_one_of_getLsbD hc, if_neg (by decide)]
  have honly := h.only_commonFault who p
  rw [hreq]
  refine ⟨?_, ?_, honly⟩
  · unfold Hw.commonFault Hw.on
    simp (disch := simp [BLK_FAULT, BLK_IRQ]) only [Hw.rd_wr_other, Hw.rd_wr_same]
    rfl
  · rw [honly.on (by simp [BLK_STAT, BLK_FAULT, BLK_IRQ]), hn]

theorem hingeRequest_cancelled {who : Who} {p : Nat} {w : Word} {h : Hw} (hn : h.on (BLK_STAT_HPEND p) = true)
    (hc : w.getLsbD 8 = true) :
    (hingeRequest who p w h).on (BLK_STAT_HPEND p) = false ∧ p ∉ (hingeRequest who p w h).hdr.late ∧
      Hw.Only [BLK_STAT p] h (hingeRequest who p w h) := by
  unfold hingeRequest
  rw [if_pos hn, getBits_one_of_getLsbD hc, if_pos (by rfl)]
  exact ⟨by simp [Hw.on, Hw.rd_wr_same], by simp, by simp⟩

/-! ## Swaps -/

/-- The exchange counted and no longer pending, before the swap tells that it is done. -/
def Hw.swapCounted (p : Nat) (h : Hw) : Hw :=
  ((h.exchange p).setNat (BLK_HINGE_CNT p) (h.nat (BLK_HINGE_CNT p) + 1)).wr (BLK_STAT_HPEND p) 0

theorem Hw.only_swapCounted (h : Hw) (p : Nat) :
    Hw.Only [BLK_HINGE_CNT p, BLK_STAT p] (h.exchange p) (h.swapCounted p) := by
  unfold Hw.swapCounted
  simp

theorem Hw.only_swapWords (h : Hw) (p : Nat) : Hw.Only [BLK_IRQ p] (h.swapCounted p) (h.swapWords p) := by
  unfold Hw.swapWords Hw.swapCounted
  simp

theorem Hw.sis_swapWords (h : Hw) (p : Nat) : (h.swapWords p).sis = h.sis := by
  unfold Hw.swapWords
  dsimp only
  unfold Hw.cond
  split <;> simp [Hw.exchange]

/-- The words of a swap of HSP: the exchange, the count and the end of the request. -/
theorem Hw.swapWords_hsp (h : Hw) : (h.swapWords PG_HSP).reg HSP_CFG = h.reg (HSP_CFG + 0x8000) ∧
    (h.swapWords PG_HSP).reg (HSP_CFG + 0x8000) = h.reg HSP_CFG ∧
    ((h.swapWords PG_HSP).reg (BLK_HINGE_CNT PG_HSP)).toNat = ((h.reg (BLK_HINGE_CNT PG_HSP)).toNat + 1) % 2 ^ 32 ∧
    (h.swapWords PG_HSP).on (BLK_STAT_HPEND PG_HSP) = false ∧
    Hw.Only [HSP_CFG, HSP_CFG + 0x8000, BLK_HINGE_CNT PG_HSP, BLK_STAT PG_HSP, BLK_IRQ PG_HSP] h (h.swapWords PG_HSP) := by
  obtain ⟨hcfg, hshadow⟩ := h.reg_exchange_hsp
  have hex : Hw.Only [HSP_CFG, HSP_CFG + 0x8000] h (h.exchange PG_HSP) := fun _ => h.reg_exchange_hsp_ne
  have hcount := h.only_swapCounted PG_HSP
  have hwords := h.only_swapWords PG_HSP
  have hall : Hw.Only [BLK_HINGE_CNT PG_HSP, BLK_STAT PG_HSP, BLK_IRQ PG_HSP] (h.exchange PG_HSP) (h.swapWords PG_HSP) :=
    (hcount.mono (by simp +contextual)).trans (hwords.mono (by simp +contextual))
  refine ⟨(hall.reg (by decide)).trans hcfg, (hall.reg (by decide)).trans hshadow, ?_, ?_,
    (hex.mono (by simp +contextual)).trans (hall.mono (by simp +contextual))⟩
  · rw [hwords.reg (by decide), Hw.swapCounted, Hw.reg_wr_ne _ _ _ (by decide), Hw.reg_setNat_same, BitVec.toNat_ofNat]
    rfl
  · rw [hwords.on (by decide), Hw.swapCounted, Hw.on, Hw.rd_wr_same _ _ _ (by decide)]
    rfl

/-- Without SYNC the swap is done at once. -/
theorem Hw.swapWords_done {h : Hw} (hs : h.on (BLK_HINGE_SYNC PG_HSP) = false) :
    (h.swapWords PG_HSP).on (BLK_IRQ_HDONE PG_HSP) = true := by
  have hex : Hw.Only [HSP_CFG, HSP_CFG + 0x8000] h (h.exchange PG_HSP) := fun _ => h.reg_exchange_hsp_ne
  have hsync : (h.swapCounted PG_HSP).on (BLK_HINGE_SYNC PG_HSP) = false := by
    rw [(h.only_swapCounted PG_HSP).on (by decide), hex.on (by decide), hs]
  unfold Hw.swapCounted at hsync
  unfold Hw.swapWords
  dsimp only
  rw [hsync, Hw.cond, if_pos (by rfl)]
  simp [Hw.on, Hw.rd_wr_same]

theorem Hw.afterSwap_hsp {h : Hw} (hd : 4 ≤ h.rd HSP_CFG_DUMMY) :
    h.afterSwap PG_HSP = { h with hsp := { h.hsp with dummy := h.rd HSP_CFG_DUMMY } } := by
  unfold Hw.afterSwap
  simp (decide := true) only [if_false, if_true, if_neg (Nat.not_lt.mpr hd)]

/-- A swap of HSP whose new word is valid. -/
theorem Hw.doSwap_hsp {h : Hw} (hd : 4 ≤ getBits (h.reg (HSP_CFG + 0x8000)) HSP_CFG_DUMMY.lo HSP_CFG_DUMMY.width) :
    h.doSwap PG_HSP = { h.swapWords PG_HSP with hsp := { (h.swapWords PG_HSP).hsp with
      dummy := (h.swapWords PG_HSP).rd HSP_CFG_DUMMY } } := by
  obtain ⟨hcfg, -⟩ := h.swapWords_hsp
  unfold Hw.doSwap
  refine Hw.afterSwap_hsp ?_
  rwa [Hw.rd, hcfg]

theorem Hw.swapReady_hsp {h : Hw} (ha : h.alive = true) (hp : h.on (BLK_STAT_HPEND PG_HSP) = true)
    (hb : h.bolted PG_HSP = false) (he : h.on (BLK_CTL_EN PG_HSP) = true) : h.swapReady PG_HSP = true := by
  have hclock : h.clockRuns PG_HSP = true := by
    simp only [Hw.alive, Hw.fabricOn, Bool.and_eq_true, Bool.not_eq_true', decide_eq_true_eq] at ha
    obtain ⟨⟨-, hmode⟩, hdead⟩ := ha
    simp (decide := true) [Hw.clockRuns, hmode, hdead]
  simp [Hw.swapReady, hp, hclock, hb, he]

theorem Hw.swapReady_of_idle {h : Hw} {p : Nat} (hp : h.on (BLK_STAT_HPEND p) = false) : h.swapReady p = false := by
  simp [Hw.swapReady, hp]

/-- What an event of the blocks ends in where it raises no fault. -/
theorem ends_of_aliveF_quiet {c : Instr} {f : Hw → Hw} {s : State} {P : State → Prop} (hc : exec c s = doHwF (whenAlive f) s)
    (hn : (whenAlive f s.dev.begin.hw).sis.arriving = [])
    (hP : P { s with dev := { s.dev with hw := whenAlive f s.dev.begin.hw } }) : Ends c s P := by
  refine ends_of_doHwF hc ?_
  rwa [Hw.settle_none _ hn]

theorem whenAlive_of_alive {f : Hw → Hw} {s : State} (ha : Alive s) : whenAlive f s.dev.begin.hw = f s.dev.begin.hw := by
  have hal : s.dev.begin.hw.alive = true := ha
  rw [whenAlive, if_pos hal]

theorem hingeSwap_ends {s : State} (ha : Alive s) (hp : s.on (BLK_STAT_HPEND PG_HSP) = true)
    (hpoint : s.rd (BLK_HINGE_POINT PG_HSP) = 0) (hb : s.dev.hw.bolted PG_HSP = false)
    (he : s.on (BLK_CTL_EN PG_HSP) = true) (hsync : PG_HSP ∉ s.dev.hw.hdr.syncing)
    (hs : s.on (BLK_HINGE_SYNC PG_HSP) = false)
    (hd : 4 ≤ getBits (s.reg (HSP_CFG + 0x8000)) HSP_CFG_DUMMY.lo HSP_CFG_DUMMY.width) :
    Ends (.hingeSwap ⟨PG_HSP, by decide⟩) s fun t =>
      t.reg HSP_CFG = s.reg (HSP_CFG + 0x8000) ∧ t.reg (HSP_CFG + 0x8000) = s.reg HSP_CFG ∧
      (t.reg (BLK_HINGE_CNT PG_HSP)).toNat = ((s.reg (BLK_HINGE_CNT PG_HSP)).toNat + 1) % 2 ^ 32 ∧
      t.on (BLK_STAT_HPEND PG_HSP) = false ∧ t.on (BLK_IRQ_HDONE PG_HSP) = true ∧
      t.dev.hw.hsp.dummy = t.rd HSP_CFG_DUMMY ∧
      OnlyRegs [HSP_CFG, HSP_CFG + 0x8000, BLK_HINGE_CNT PG_HSP, BLK_STAT PG_HSP, BLK_IRQ PG_HSP] s t := by
  have hready : s.dev.begin.hw.swapReady PG_HSP = true := Hw.swapReady_hsp ha hp hb he
  have hland : whenAlive (hingeLand PG_HSP) s.dev.begin.hw = s.dev.begin.hw.doSwap PG_HSP := by
    have hpt : s.dev.begin.hw.rd (BLK_HINGE_POINT PG_HSP) = 0 := hpoint
    have hns : PG_HSP ∉ s.dev.begin.hw.hdr.syncing := hsync
    rw [whenAlive_of_alive ha, hingeLand, if_pos (Or.inl hpt), Hw.swapPoint, hready, if_neg (by simp), if_neg hns]
  have hdo := Hw.doSwap_hsp (h := s.dev.begin.hw) hd
  obtain ⟨hcfg, hshadow, hcnt, hpend, honly⟩ := s.dev.begin.hw.swapWords_hsp
  have hdone := Hw.swapWords_done (h := s.dev.begin.hw) hs
  have hsis := s.dev.begin.hw.sis_swapWords PG_HSP
  have hswap : whenAlive (hingeLand PG_HSP) s.dev.begin.hw = _ := hland.trans hdo
  refine ends_of_aliveF_quiet (f := hingeLand PG_HSP) rfl ?_ ?_
  · rw [hswap]
    exact congrArg SisState.arriving hsis
  · rw [hswap]
    exact ⟨hcfg, hshadow, hcnt, hpend, hdone, rfl, honly, rfl⟩

theorem hingeSwap_idle {p : Fin 41} {s : State} (hp : s.on (BLK_STAT_HPEND p.val) = false) :
    Ends (.hingeSwap p) s fun t => OnlyRegs [] s t := by
  have hready : s.dev.begin.hw.swapReady p.val = false := Hw.swapReady_of_idle hp
  have hland : whenAlive (hingeLand p.val) s.dev.begin.hw = s.dev.begin.hw := by
    unfold whenAlive hingeLand Hw.swapPoint
    simp [hready]
  refine ends_of_aliveF_quiet (f := hingeLand p.val) rfl ?_ ?_
  · rw [hland]
    rfl
  · rw [hland]
    exact ⟨fun _ _ => rfl, rfl⟩

/-- The end of a copy that no write waits for and no swap is late for. -/
theorem syncEnd_shows {p : Nat} {h : Hw} (hp : p ∈ h.hdr.syncing) (hl : p ∉ h.hdr.late) (hst : h.hdr.stalled = []) :
    (syncEnd p h).on (BLK_IRQ_HDONE p) = true ∧ p ∉ (syncEnd p h).hdr.syncing ∧ (syncEnd p h).sis = h.sis ∧
      Hw.Only [BLK_IRQ p] (h.copyShadow p) (syncEnd p h) := by
  have hafter : h.afterSync p = h.copyShadow p := by simp [Hw.afterSync, hst]
  unfold syncEnd
  rw [if_pos hp]
  dsimp only
  rw [hafter, if_neg (by simpa [Hw.copyShadow] using hl)]
  exact ⟨by simp [Hw.on, Hw.rd_wr_same], by simp, by simp [Hw.copyShadow], by simp⟩

theorem hingeSyncDone_ends {p : Fin 41} {s : State} (ha : Alive s) (hp : p.val ∈ s.dev.hw.hdr.syncing)
    (hl : p.val ∉ s.dev.hw.hdr.late) (hst : s.dev.hw.hdr.stalled = []) : Ends (.hingeSyncDone p) s fun t =>
      t.on (BLK_IRQ_HDONE p.val) = true ∧ p.val ∉ t.dev.hw.hdr.syncing ∧ ShadowsCopied p.val s t ∧ SameMem s t := by
  obtain ⟨hdone, hsyncing, hsis, honly⟩ := syncEnd_shows (h := s.dev.begin.hw) hp hl hst
  refine ends_of_aliveF_quiet (f := syncEnd p.val) rfl ?_ ?_
  · rw [whenAlive_of_alive ha]
    exact congrArg SisState.arriving hsis
  · rw [whenAlive_of_alive ha]
    refine ⟨hdone, hsyncing, fun a haddr hpage => ?_, rfl⟩
    obtain ⟨-, -, hhdr, hlo, -⟩ := swapAddr_self haddr
    have hirq : offOf (BLK_IRQ p.val) = 0x10 := by
      simp only [BLK_IRQ, pageBase, offOf]
      omega
    have hne : a ∉ [BLK_IRQ p.val] := by
      rw [List.mem_singleton]
      rintro rfl
      omega
    have hne' : a + 0x8000 ∉ [BLK_IRQ p.val] := by
      rw [List.mem_singleton]
      intro h
      have := offOf_shadow hlo
      rw [h] at this
      omega
    exact ⟨(honly.reg hne').trans (Hw.reg_copyShadow_shadow _ haddr hpage),
      (honly.reg hne).trans (Hw.reg_copyShadow_active _ _ hlo)⟩

/-! ## Fires of groups (R97) -/

/-- No page waits for the groups: nothing swaps. -/
theorem Hw.swapAll_none {h : Hw} {point : Nat} {grp : Nat → Bool}
    (hn : ∀ p ∈ allPages, ¬(h.rd (BLK_HINGE_POINT p) = point ∧ grp (h.rd (BLK_HINGE_GROUP p)) = true)) :
    h.swapAll point grp = h := by
  have hready : (allPages.filter fun p => h.rd (BLK_HINGE_POINT p) = point && grp (h.rd (BLK_HINGE_GROUP p)) && h.swapReady p) = [] := by
    rw [List.filter_eq_nil_iff]
    intro p hp hc
    simp only [Bool.and_eq_true, decide_eq_true_eq] at hc
    exact hn p hp hc.1
  unfold Hw.swapAll
  dsimp only
  rw [hready]
  rfl

/-- HSP alone waits for the groups: it swaps. -/
theorem Hw.swapAll_hsp {h : Hw} {point : Nat} {grp : Nat → Bool}
    (hn : ∀ p ∈ allPages, p ≠ PG_HSP → h.rd (BLK_HINGE_POINT p) ≠ point) (hp : h.rd (BLK_HINGE_POINT PG_HSP) = point)
    (hg : grp (h.rd (BLK_HINGE_GROUP PG_HSP)) = true) (hr : h.swapReady PG_HSP = true) (hs : PG_HSP ∉ h.hdr.syncing) :
    h.swapAll point grp = h.doSwap PG_HSP := by
  have hready : (allPages.filter fun p => h.rd (BLK_HINGE_POINT p) = point && grp (h.rd (BLK_HINGE_GROUP p)) && h.swapReady p) =
      allPages.filter (· == PG_HSP) := by
    refine List.filter_congr fun p hmem => ?_
    by_cases hpe : p = PG_HSP
    · simp [hpe, hp, hg, hr]
    · simp [hpe, hn p hmem hpe]
  have hone : allPages.filter (· == PG_HSP) = [PG_HSP] := by decide
  unfold Hw.swapAll
  dsimp only
  rw [hready, hone]
  simp [hs, Hw.each, Hw.doSwap]

/-- A fire that is taken, and raises no fault, swaps the pages that wait. -/
theorem ends_of_groupFire {who : Who} {w : Word} {s : State} {P : State → Prop} {g : Hw}
    (hm : MayOperate who PG_CPR CPR_HINGE_FIRE s)
    (hg : s.dev.begin.hw.ack.swapAll 3 (fun g => bit (getBits w 0 4) g) = g) (hn : g.sis.arriving = [])
    (hP : P { s with dev := { s.dev with hw := g } }) : Ends (.hingeGroupFire who w) s P := by
  refine ends_of_writeHwF (f := groupFire who w) rfl hm.1 ?_
  have hfire : groupFire who w s.dev.begin.hw = g :=
    (Hw.opWrite_of_may (s := { s with dev := s.dev.begin }) hm _).trans hg
  rwa [hfire, Hw.settle_none _ hn]

theorem hingeGroupFire_none {who : Who} {w : Word} {s : State} (hm : MayOperate who PG_CPR CPR_HINGE_FIRE s)
    (hn : ∀ p ∈ allPages, ¬(s.rd (BLK_HINGE_POINT p) = 3 ∧ bit (getBits w 0 4) (s.rd (BLK_HINGE_GROUP p)) = true)) :
    Ends (.hingeGroupFire who w) s fun t => OnlyRegs [] s t :=
  ends_of_groupFire hm (Hw.swapAll_none hn) rfl ⟨fun _ _ => rfl, rfl⟩

theorem hingeGroupFire_hsp {who : Who} {w : Word} {s : State} (hm : MayOperate who PG_CPR CPR_HINGE_FIRE s) (ha : Alive s)
    (hn : ∀ p ∈ allPages, p ≠ PG_HSP → s.rd (BLK_HINGE_POINT p) ≠ 3) (hpoint : s.rd (BLK_HINGE_POINT PG_HSP) = 3)
    (hg : bit (getBits w 0 4) (s.rd (BLK_HINGE_GROUP PG_HSP)) = true) (hp : s.on (BLK_STAT_HPEND PG_HSP) = true)
    (hb : s.dev.hw.bolted PG_HSP = false) (he : s.on (BLK_CTL_EN PG_HSP) = true) (hs : PG_HSP ∉ s.dev.hw.hdr.syncing)
    (hd : 4 ≤ getBits (s.reg (HSP_CFG + 0x8000)) HSP_CFG_DUMMY.lo HSP_CFG_DUMMY.width) :
    Ends (.hingeGroupFire who w) s fun t =>
      t.reg HSP_CFG = s.reg (HSP_CFG + 0x8000) ∧ t.reg (HSP_CFG + 0x8000) = s.reg HSP_CFG ∧
      t.on (BLK_STAT_HPEND PG_HSP) = false ∧ SameMem s t := by
  have hready : s.dev.begin.hw.ack.swapReady PG_HSP = true := Hw.swapReady_hsp ha hp hb he
  have hswap := (Hw.swapAll_hsp (h := s.dev.begin.hw.ack) (grp := fun g => bit (getBits w 0 4) g) hn hpoint hg hready hs).trans
    (Hw.doSwap_hsp hd)
  obtain ⟨hcfg, hshadow, -, hpend, -⟩ := s.dev.begin.hw.ack.swapWords_hsp
  exact ends_of_groupFire hm hswap (congrArg SisState.arriving (s.dev.begin.hw.ack.sis_swapWords PG_HSP))
    ⟨hcfg, hshadow, hpend, rfl⟩

/-- Settles O13, by the requests, the swaps of HSP with its one swapped register, the copy to the shadows, and the fires. -/
theorem hinge : Obligations.Hinge := by
  refine ⟨⟨?_, ?_, ?_⟩, ?_, ?_, ?_, ?_, ?_⟩
  · intro who p w s hp hm hn hs hc
    obtain ⟨hpend, hpoint, hsync, hgroup, honly⟩ := hingeRequest_shows (who := who) (h := s.dev.hw.ack) hn hs hc
    exact ends_of_hingeWrite rfl hp hm ⟨hpend, hpoint, hsync, hgroup, honly, rfl⟩
  · intro who p w s hp hm hn hc
    obtain ⟨hrej, hpend, honly⟩ := hingeRequest_refused (who := who) (h := s.dev.hw.ack) hn hc
    exact ends_of_hingeWrite rfl hp hm ⟨hrej, hpend, honly, rfl⟩
  · intro who p w s hp hm hn
    have hcancel : (w ||| 0x100).getLsbD 8 = true := by simp
    obtain ⟨hpend, hlate, honly⟩ := hingeRequest_cancelled (who := who) (h := s.dev.hw.ack) hn hcancel
    exact ends_of_hingeWrite rfl hp hm ⟨hpend, hlate, honly, rfl⟩
  · exact fun _ ha hp hpoint hb he hsync hs hd => hingeSwap_ends ha hp hpoint hb he hsync hs hd
  · exact fun _ _ hp => hingeSwap_idle hp
  · exact fun _ _ ha hp hl hst => hingeSyncDone_ends ha hp hl hst
  · exact fun _ _ _ hm hn => hingeGroupFire_none hm hn
  · exact fun _ _ _ hm ha hn hpoint hg hp hb he hs hd => hingeGroupFire_hsp hm ha hn hpoint hg hp hb he hs hd

end Sys2Proof.Machine
end

section
/-! The key of the pair (R368, R370): O43 fails for a grandmaster that is not locked yet as its lease ends. -/

namespace Sys2Proof.Machine

/-- A paired unit holds the key while its safety island is dead; its time engine is the grandmaster (GMSEL 1) and does not
show LOCKED yet. -/
def State.unlockedMaster : State :=
  let h := (State.reset.dev.hw.wr SIS_MODE_CUR 4).wr RDN_KEY_HELD 1
  { State.reset with dev := { State.reset.dev with hw := { h with
    sis := { h.sis with dead := true }
    rdn := { h.rdn with force := [(RDN_CFG_PAIRED.addr, setBits 0 RDN_CFG_PAIRED.lo RDN_CFG_PAIRED.width 1)] }
    eth := { h.eth with force := [((ETH_PTP_CFG_GMSEL 0).addr,
      setBits 0 (ETH_PTP_CFG_GMSEL 0).lo (ETH_PTP_CFG_GMSEL 0).width 1)] } } } }

/-- Refutes O43: the frame of the end of a lease has no interrupt of the Ethernet page. A grandmaster that shows itself anew
becomes LOCKED, and the change raises interrupt 5 of ETH 0. -/
theorem not_pairKey : ¬ Obligations.PairKey := by
  rintro ⟨-, -, -, hlease, -⟩
  have hends := hlease State.unlockedMaster (by decide +kernel) (by decide +kernel) (by decide +kernel) (by decide +kernel)
  have hraised : regAfter (BLK_IRQ (PG_ETH 0)) (exec .leaseExpiry State.unlockedMaster) ≠
      State.unlockedMaster.reg (BLK_IRQ (PG_ETH 0)) := by decide +kernel
  exact hraised (hends.regAfter fun t ht => by
    obtain ⟨-, -, -, -, honly, -⟩ := ht
    exact honly _ (by decide) (by decide))

end Sys2Proof.Machine
end

section
/-! The cycles (R22, R154): O36 fails for a page that the map does not have. -/

namespace Sys2Proof.Machine

/-- MAP runs with a page listed for unloading whose number no directory has: its entry would stand where PST_TB_IDX is, whose
highest bit is set. -/
def State.strayUnload : State :=
  let h := ((State.reset.dev.hw.wr SIS_MODE_CUR 4).wr (BLK_STAT_RUN PG_MAP) 1).setReg PST_TB_IDX 0x80000000
  { State.reset with dev := { State.reset.dev with hw := { h with
    pst := { h.pst with posDue := true }
    map := { h.map with unload := [(PST_TB_IDX - MAP_DIRn 0) / 4] } } } }

/-- Refutes O36: the clause on the position cycle has no hypothesis that the pages listed in the map's work are pages of the
directory. The T0 unloads the stray page, which clears the two highest bits of PST_TB_IDX. -/
theorem not_cycles : ¬ Obligations.Cycles := by
  rintro ⟨-, hposition, -⟩
  have hends := hposition false false false false false State.strayUnload (by decide +kernel) (by decide +kernel)
    (by decide +kernel)
  have hcleared : regAfter PST_TB_IDX (exec (.positionCycleT0 false false false false false) State.strayUnload) ≠
      State.strayUnload.reg PST_TB_IDX := by decide +kernel
  exact hcleared (hends.regAfter fun t ht => by
    obtain ⟨-, hidx, -⟩ := ht
    exact hidx)

end Sys2Proof.Machine
end
